-- ==== Sys2Proof/Word.lean ====
section
/-!
DEFINITION. The word types of the J880 model: registers are 32 bits wide (R2), memories are addressed in bytes.
-/
namespace Sys2Proof

/-- The contents of one BAR0 register (R2). -/
abbrev Word := BitVec 32

/-- One byte of a memory. -/
abbrev Byte := BitVec 8

end Sys2Proof
end

