-- ==== Sys2Proof/Syntax.lean ====
section
/-!
DEFINITION. The commands of the block, one constructor per row of the opcode table.
-/
namespace Sys2Proof.Machine

/-- A frame on VC0 or VC1: the message header of R228 and the payload bytes. -/
structure MsgFrame where
  typ : Nat
  flags : Nat
  slice : Nat
  srcEpoch : Nat
  dstEpoch : Nat
  sx : Nat
  sy : Nat
  sz : Nat
  dies : Nat
  dx : Nat
  dy : Nat
  dz : Nat
  stream : Nat
  length : Nat
  seq : Nat
  frames : Nat
  index : Nat
  target : Nat
  notifyQ : Nat
  poison : Nat
  path : Nat
  payload : List Nat
deriving DecidableEq, Repr, Inhabited

/-- A received beacon (R370). -/
structure Beacon where
  path : Nat
  serial : Nat
  port : Nat
  lane : Nat
  major : Nat
  minor : Nat
  fw : Nat
  plan : Nat
  inc : Nat
deriving DecidableEq, Repr, Inhabited

/-- What a ring sweep finds (R533, R535): the ring index, whether its home line was found and its monitor responded, the
heater code at the home line, the mean codes per 200 GHz, the ring-area temperature (1/16 °C), and the responsivity against
factory in 0.01 %. -/
structure RingFound where
  ring : Nat
  ok : Bool
  home : Nat
  step : Nat
  temp : Nat
  resp : Nat
deriving DecidableEq, Repr, Inhabited

end Sys2Proof.Machine

namespace Sys2Proof

inductive Instr where
  /-- BAR0_ACCESS_SIZE (R2): an access of n bytes at a, a read (1) or a write (0), that is not an aligned 32-bit one. -/
  | bar0AccessSize (path a n rd : Nat)
  /-- ACCESS_UNMAPPED (R19): a read (1) or a write (0) where no directory entry covers a. -/
  | accessUnmapped (path a rd : Nat)
  /-- REGISTER_WRITE (R7): an aligned 32-bit write. Where the register has a row of its own, its effect is that row's.
  -/
  | registerWrite (path a : Nat) (v : Word)
  /-- PAIR_LOW_READ (R3): an aligned 32-bit read; of the low half of a pair it captures the high half. -/
  | pairLowRead (path a : Nat)
  /-- PAIR_LOW_WRITE (R3). -/
  | pairLowWrite (path a : Nat) (v : Word)
  /-- PAIR_HIGH_WRITE (R3). -/
  | pairHighWrite (path a : Nat) (v : Word)
  /-- ERR_STAT_CLEAR (R27): page, the ones written. -/
  | errStatClear (p : Nat) (v : Word)
  /-- EVT_SET_WRITE (R23). -/
  | evtSetWrite (p : Nat) (v : Word)
  /-- ENABLE_WRITE (R29): the bit written to ENABLE. -/
  | enableWrite (path p v : Nat)
  /-- QUIESCE_REQ (R30): the bit written. -/
  | quiesceReq (path p v : Nat)
  /-- QUIESCED (R30). -/
  | quiesced (p : Nat)
  /-- BLOCK_RESET_REQ (R31). -/
  | blockResetReq (path p : Nat)
  /-- BLOCK_RESET_DONE (R31). -/
  | blockResetDone (p : Nat)
  /-- REFCLK_LOST (R17, R34): the root PLL enters holdover where it is locked to REFCLK. -/
  | refclkLost
  /-- REFCLK_RESTORED (R17, R34): the event follows a fall only. -/
  | refclkRestored
  /-- NOP (R100). -/
  | nop (g : Nat)
  /-- STALL (R101): the CYCLES pass without issue; the model keeps no cycle count. -/
  | stall (g : Nat)
  /-- SETI (R96). -/
  | seti (g : Nat)
  /-- LOOP (R97): a fifth nested loop faults. -/
  | loop (g : Nat)
  /-- JUMP (R100). -/
  | jump (g : Nat)
  /-- SETE (R98). -/
  | sete (g : Nat)
  /-- HALT (R112): issue ends; the tile enters HALTED at TILE_HALTED. -/
  | halt (g : Nat)
  /-- TILE_HALTED (R112). -/
  | tileHalted (g : Nat)
  /-- WAIT_TOK (R108). -/
  | waitTok (g : Nat)
  /-- WAIT_TOK_RELEASE (R108). -/
  | waitTokRelease (g : Nat)
  /-- WAIT_TIME (R110, R277). -/
  | waitTime (g : Nat)
  /-- WAIT_TIME_RELEASE (R110). -/
  | waitTimeRelease (g : Nat)
  /-- BARRIER (R111, R204): an arrival barrier of no arrivals passes once its reshard condition is met. -/
  | barrier (g : Nat)
  /-- BARRIER_RELEASE (R204): the arrivals are complete, or none are asked, and the reshard condition is met. A trigger
  barrier is released by its unit's firing (TRIGGER_FIRE). -/
  | barrierRelease (b : Nat)
  /-- PHASE_END (R111): open loops are closed; the tile enters PHASE_END when its in-flight operations are complete. -/
  | phaseEnd (g : Nat)
  /-- FENCE (R109). -/
  | fence (g : Nat)
  /-- FENCE_RELEASE (R109). -/
  | fenceRelease (g : Nat)
  /-- WLOAD (R90). -/
  | wload (g : Nat)
  /-- MMA_W (R90). -/
  | mmaW (g : Nat)
  /-- MMA_S (R89). -/
  | mmaS (g : Nat)
  /-- ACC_BIND (R86). -/
  | accBind (g : Nat)
  /-- ACC_ADD (R103). -/
  | accAdd (g : Nat)
  /-- ACC_OUT (R103). -/
  | accOut (g : Nat)
  /-- VLD (R92). -/
  | vld (g : Nat)
  /-- VST (R92). -/
  | vst (g : Nat)
  /-- VOP (R93). -/
  | vop (g : Nat)
  /-- VRED (R94). -/
  | vred (g : Nat)
  /-- COPY (R105). -/
  | copy (g : Nat)
  /-- PREFETCH (R159). -/
  | prefetch (g : Nat)
  /-- STORE (R159). -/
  | store (g : Nat)
  /-- GATHER (R249). -/
  | gather (g : Nat)
  /-- DATA_MOVER_DONE (R160): operation k of the data mover, a COPY, PREFETCH or STORE, has its writes in place. -/
  | dataMoverDone (g k : Nat)
  /-- GATHER_DONE (R249): operation k of the data mover, a GATHER, is complete; none is while its walker is quiesced. -/
  | gatherDone (g k : Nat)
  /-- SEND (R133, R134): a scheduled SEND takes the next occurrence of its slot and is late when S_k has passed. -/
  | send (g : Nat)
  /-- SEND_DEPARTED (R105, R133, R155): the words of SEND k of the mesh interface have been read and have entered the
  mesh; a scheduled one not before S_k, none while the die's mesh is quiesced or disabled. -/
  | sendDeparted (g k : Nat)
  /-- SEND_LANDED (R131, R137): flight f lands whole, after those of its own source, destination and class before it. -/
  | sendLanded (f : Nat)
  /-- POST (R105, R225). -/
  | post (g : Nat)
  /-- PUT (R105, R242). -/
  | put (g : Nat)
  /-- ILLEGAL_INSTR (R99). -/
  | illegalInstr (g : Nat)
  /-- TILE_FAULTED (R122). -/
  | tileFaulted (g : Nat)
  /-- TILE_HW_FAIL (R122): the tile's own hardware check fails. -/
  | tileHwFail (g : Nat)
  /-- HALT_REQ (R112, R244): a write of 1 to TILE.CTRL.HALT_REQ. -/
  | haltReq (g : Nat)
  /-- HALT_REQ_DONE (R112). -/
  | haltReqDone (g : Nat)
  /-- LONG_WAIT (R113): a wait of kind 1 to 4 has held issue for more than AUDIT_LIMIT cycles. -/
  | longWait (g : Nat)
  /-- AUDIT_STAT_READ (R119). -/
  | auditStatRead (path g : Nat)
  /-- GOVERNOR_ESTIMATE (R415): die d's estimate in W. -/
  | governorEstimate (d w : Nat)
  /-- SCHEDULE_START (R135, R217): no scheduled word of the earlier phase is on any link. -/
  | scheduleStart
  /-- FLIT_UNCORR_SCHEDULED (R147): flit j of scheduled flight f is uncorrectable at link set k (0 or 1) of die d. -/
  | flitUncorrScheduled (d k f j : Nat)
  /-- FLIT_RETRY (R148): a flit on bundle b of die d is uncorrectable. Bits 1..0 of b are the link set and bits 7..4 the bundle
  in it, as LINK_DOWN records them (R154); bit 8 is 1 for a flit that has been sent again before. -/
  | flitRetry (d b : Nat)
  /-- LINK_DOWN (R150): bundle i of link set k goes down at die d. -/
  | linkDown (d k i : Nat)
  /-- TILE_FAILED (R143): the tile at a physical position of die d fails in service. -/
  | tileFailed (d row col : Nat)
  /-- ROUTER_FAULT (R143, R154): the router of a tile of die d fails its check. -/
  | routerFault (d row col : Nat)
  /-- SRAM_SCRUB_TURN (R173): the scrubber visits tile word wa of tile g, or word wa - 0x7C000 of its instruction store,
  and finds the upset e of its 32 bytes and c of its four check bytes, added since the last visit. `late`: the turn waited
  beyond one interval. -/
  | sramScrubTurn (g wa e late c : Nat)
  /-- HBM_SCRUB_STEP (R174): the controller of stack m reads its next block, in which it finds the upset e. -/
  | hbmScrubStep (m e : Nat)
  /-- CHANNEL_FAIL (R182): channel c of stack m fails in service. -/
  | channelFail (m c : Nat)
  /-- HBM_WIPE_DONE (R178): during bring-up step 4 the stacks are all zero and their pages report READY. -/
  | hbmWipeDone
  /-- MAPOUT_RETRY (R185): a write of MAPOUT_CTRL.RETRY at stack m's page. -/
  | mapoutRetry (m : Nat)
  /-- MAPOUT_REQ (R185): a write of MAPOUT_CTRL.REQ at stack m's page. -/
  | mapoutReq (m : Nat)
  /-- CRIT_ECC (R176): the kind of critical state, the address or index, and whether the flash copy of the map-out
  record is unreadable too. -/
  | critEcc (kind addr bad : Nat)
  /-- LOAD (R211, R212). -/
  | load (path d : Nat)
  /-- LOAD_COMPLETE (R212, R463). The loader is firmware: it waits while the Reeve does not run (R467). -/
  | loadComplete
  /-- START (R211, R216). -/
  | start (path d : Nat)
  /-- STOP (R211). -/
  | stop (path d : Nat)
  /-- UNLOAD (R211). -/
  | unload (path d : Nat)
  /-- PHASE_CHANGE (R216, R217): the clock has reached the armed instant. -/
  | phaseChange
  /-- LATE_PHASE_START (R218): no tile is late any more. -/
  | latePhaseStart
  /-- RESHARD_DESC_DONE (R221): descriptor i of the current phase, counted from RESHARD_FIRST. A quiesced engine copies
  nothing (R223). -/
  | reshardDescDone (i : Nat)
  /-- RESHARD_TIMEOUT (R221). -/
  | reshardTimeout (i : Nat)
  /-- RX_POST (R232, R236): a POST frame arrives at port p. -/
  | rxPost (p : Nat) (f : Machine.MsgFrame)
  /-- RX_STREAM_DATA (R232, R242): a STREAM_DATA frame arrives at port p on VC0 or VC1. -/
  | rxStreamData (p vc : Nat) (f : Machine.MsgFrame)
  /-- ACK (R230). -/
  | ack (path vc epoch seq hold : Nat)
  /-- NACK (R245). -/
  | nack (path vc epoch seq code : Nat)
  /-- RESYNC_REQ (R259) on lane l of the path. -/
  | resyncReq (path vc l no : Nat)
  /-- RESYNC (R259). -/
  | resync (path vc no free : Nat)
  /-- ACK_TIMEOUT (R231): only while a lane of the set is in service. -/
  | ackTimeout (path vc : Nat)
  /-- PATH_DOWN (R227). -/
  | pathDown (path : Nat)
  /-- POST_RETRY (R237): operation id leaves its backoff. -/
  | postRetry (id : Nat)
  /-- NOTIFY_RETRY (R243). -/
  | notifyRetry (path vc : Nat)
  /-- HOLD_ACK_REPEAT (R243). -/
  | holdAckRepeat (path vc : Nat)
  /-- RX_DISCARD (R255): receive record k has had no frame for 2 ms; a held one stays. -/
  | rxDiscard (k : Nat)
  /-- STREAM_SLOT_GRANT (R241). -/
  | streamSlotGrant (d : Nat)
  /-- QUEUE_READ (R240): QCMD with OP 0 on die d's page. -/
  | queueRead (d q : Nat)
  /-- QUEUE_CREATE (R240). -/
  | queueCreate (d q : Nat)
  /-- QUEUE_DESTROY (R240). -/
  | queueDestroy (d q : Nat)
  /-- DOORBELL (R238). -/
  | doorbell (d q : Nat)
  /-- SESS_INV (R250). -/
  | sessInv (d : Nat)
  /-- PEER_FLUSH (R265). -/
  | peerFlush
  /-- ARRIVAL_READ (R268): the value read goes out. -/
  | arrivalRead (d : Nat)
  /-- FAIL_A_READ (R268). -/
  | failARead (d : Nat)
  /-- CONTROL_WORD_RECEIVE (R319). -/
  | controlWordReceive (path vc credits rxok : Nat)
  /-- CONTROL_WORD_SEND (R319): path, VC, credits returned and RX_OK, on the return path. -/
  | controlWordSend (path vc : Nat)
  /-- CODEWORD_RECEIVE (R313-R318): 240 symbols of 10 bits on lane l of port p. A burst preamble (1) before the codeword
  has given the alignment (R325). -/
  | codewordReceive (p l preamble : Nat) (w : List Nat)
  /-- INC_WRITE (R275): a write of TIME.INC_NS, with the low half written before it. -/
  | incWrite (ns frac : Nat)
  /-- STEP_GO (R276): a write of STEP_CTRL; GO already 1 stays. -/
  | stepGo (v : Word)
  /-- STEP_APPLY (R276): the next tick, at which a requested step is applied. -/
  | stepApply
  /-- TIME_NOW_READ (R274): NOW_HI and NOW_FRAC are captured for the path. -/
  | timeNowRead (path : Nat)
  /-- SRC_WRITE (R279): a write of TIME.CTRL. -/
  | srcWrite (v : Word)
  /-- PPS_PULSE (R281, R287): an edge on PPS_IN, `half` half-ticks (1.25 ns) after the last tick, merged or not. -/
  | ppsPulse (rising merged half : Nat)
  /-- PPS_LOST (R281). -/
  | ppsLost
  /-- SYNC_LOSS (R279): no Sync for SYNC_LOSS under a source of 2 to 4. -/
  | syncLoss
  /-- ZT_SYNC_SEND (R285): the SYNC due on a path added at a master port. -/
  | ztSyncSend (path : Nat)
  /-- ZT_SYNC_RX (R285): a SYNC arrives at port p on a path. -/
  | ztSyncRx (p path seq ns frac : Nat)
  /-- ZT_DREQ_SEND (R285): the DREQ that answers the accepted SYNC. -/
  | ztDreqSend
  /-- ZT_DREQ_RX (R285): a DREQ arrives at port p; the DRESP leaves on its REPLY_PATH, from a master port. -/
  | ztDreqRx (p seq reply : Nat)
  /-- ZT_DRESP_RX (R285): one sample. -/
  | ztDrespRx (path seq ns frac : Nat)
  /-- PTP_SYNC_TX (R283, R286): one-step Sync of management port n. -/
  | ptpSyncTx (n : Nat)
  /-- PTP_ANNOUNCE_TX (R286): Announce with clockClass 248. -/
  | ptpAnnounceTx (n : Nat)
  /-- PTP_SYNC_RX (R286): a Sync from `master` in a domain, with its origin instant. -/
  | ptpSyncRx (n dom master ns frac : Nat)
  /-- PTP_DELAY_REQ_RX (R286): Delay_Resp with the ingress instant. -/
  | ptpDelayReqRx (n dom slave : Nat)
  /-- PTP_DELAY_RESP_RX (R286). -/
  | ptpDelayRespRx (n dom master ns frac : Nat)
  /-- CAPTURE_EDGE (R287): an edge on EVT_IN0 (c 1) or EVT_IN1 (c 2). -/
  | captureEdge (c half rising merged : Nat)
  /-- CAP_TS_READ (R294). -/
  | capTsRead (c : Nat)
  /-- TRIGGER_FIRE (R289): an armed unit whose instant is reached. -/
  | triggerFire (u : Nat)
  /-- TRIGGER_CTRL_WRITE (R291). -/
  | triggerCtrlWrite (path u : Nat) (v : Word)
  /-- PPS_OUT_END (R290): the width has passed. -/
  | ppsOutEnd
  /-- COMB_ARM (R332): a write of 1 to COMB.CTRL.ARM of comb e from an access path. -/
  | combArm (path e : Nat)
  /-- LASER_EN_DROP (R332). -/
  | laserEnDrop
  /-- LASER_EN_STABLE (R332, R518). -/
  | laserEnStable
  /-- COMB_TEC_SETTLED (R304). -/
  | combTecSettled (e : Nat)
  /-- COMB_LOCKED (R304). -/
  | combLocked (e : Nat)
  /-- COMB_LOCK_LOST (R304): the spacing (0) or the offset (1) loop. -/
  | combLockLost (e which : Nat)
  /-- COMB_FAIL (R338). -/
  | combFail (e : Nat)
  /-- TONE_CHECK_DONE (R303): a tone integration of a receive (rx 1) or transmit (rx 0) lane finds line k; 16 is none.
  -/
  | toneCheckDone (p l rx k : Nat)
  /-- ERROR_CHECK_DONE (R322): the uncorrectable codewords, the bit error ratio in units of 10^-12 and the received
  power in 0.01 dBm, as a signed 16-bit code. -/
  | errorCheckDone (p l uncorr ber power : Nat)
  /-- LANE_LEAVE_SERVICE (R323). -/
  | laneLeaveService (p l cause : Nat)
  /-- PROBE_PULSE (R328): a dark port's pulse, from a transmit lane that the plan adds at it. -/
  | probePulse (p : Nat)
  /-- LIGHT (R328). -/
  | light (p : Nat)
  /-- OPEN_FIBRE (R329): not on a port lit at drain while the relaxation of R429 is in force, nor on one that had no
  light (log entry 65). -/
  | openFibre (p : Nat)
  /-- LOOPBACK_TIMEOUT (R330). -/
  | loopbackTimeout (p : Nat)
  /-- LAUNCH_LIMIT (R331). -/
  | launchLimit (p : Nat)
  /-- RELAUNCH (R331): a write of 1 to PORT.CFG.RELAUNCH. -/
  | relaunch (p : Nat)
  /-- CONTROLLER (R336). -/
  | controller (e : Nat)
  /-- BEACON_SEND (R370): every transmit lane that is launched sends beacons. -/
  | beaconSend (p l : Nat)
  /-- BEACON_RECEIVE (R371-R374). -/
  | beaconReceive (p l : Nat) (x : Machine.Beacon)
  /-- MISSING (R375): DISC_WAIT is over for port p. -/
  | missing (p : Nat)
  /-- STAGE_DATA_WRITE (R356). -/
  | stageDataWrite (path : Nat) (v : Word)
  /-- ACTIVE_DATA_READ (R378): the value read goes out. -/
  | activeDataRead (path : Nat)
  /-- CHECK (R361). -/
  | check (path claim : Nat)
  /-- CHECK_DONE (R361): after us microseconds. -/
  | checkDone (us : Nat)
  /-- ARM (R358). -/
  | arm (path claim : Nat)
  /-- CANCEL (R360): launches held by a drain go on. -/
  | cancel (path claim : Nat)
  /-- CLEAR (R356). -/
  | clear (path claim : Nat)
  /-- COPY_ACTIVE (R356). -/
  | copyActive (path claim : Nat)
  /-- DRAIN_START (R426). -/
  | drainStart
  /-- START_POINT_REFRESH (R406): while a switch is armed. -/
  | startPointRefresh
  /-- OPEN_FIBRE_GUARD_END (R429). -/
  | openFibreGuardEnd
  /-- RELEASE (R430, R431). -/
  | release
  /-- SWITCH_REPORT (R433). -/
  | switchReport
  /-- SWITCH_NOTE (R438): a note arrives at port p with T, the sender's new epoch and its coordinate; the module's own
  notes leave within 20 µs of its T. -/
  | switchNote (p t new x y z : Nat)
  /-- STEER_SWITCH (R365). -/
  | steerSwitch (p l : Nat)
  /-- STEER_VISIT (R366): output o's visit is due. -/
  | steerVisit (p l o : Nat)
  /-- BURST_GAP_TIMEOUT (R367). -/
  | burstGapTimeout (p l : Nat)
  /-- PRESENT (R441): a write of 1 to CLAIM.CTRL.PRESENT with the path's PRESENT register. -/
  | present (path claim : Nat)
  /-- LOOP_FRAME (R390): slot i runs a frame with the converter code m; metric is the lane's trim metric of that frame,
  dark whether its receive tap is dark. -/
  | loopFrame (i m metric dark : Nat)
  /-- DEADLINE_MISS (R391). -/
  | deadlineMiss (i : Nat)
  /-- DESC_WRITE (R397): a word at byte offset o of the descriptor table. -/
  | descWrite (path o : Nat) (v : Word)
  /-- SETTLE_DONE (R404). -/
  | settleDone (i : Nat)
  /-- ACQ_FAIL (R405). -/
  | acqFail (i : Nat)
  /-- FEEDBACK_LOST (R408). -/
  | feedbackLost (i : Nat)
  /-- HEATER_LIMIT_TIMEOUT (R411). -/
  | heaterLimitTimeout (i : Nat)
  /-- LOOP_HW_FAIL (R412). -/
  | loopHwFail (i : Nat)
  /-- TELEMETRY_UPDATE (R413, R414): powers in W and hottest sensors in °C of the four dies, ring-area temperatures of
  the ports in 1/16 °C. -/
  | telemetryUpdate (ps ts ports : List Nat)
  /-- TRACE_ARM (R419): a write of TRACE_CTRL. -/
  | traceArm (v : Word)
  /-- FLAG_FIFO_READ (R423). -/
  | flagFifoRead
  /-- MILLRACE_FATAL (R420). -/
  | millraceFatal
  /-- BAR2_WRITE (R461): offset, bytes; a byte above 255 is not enabled. In D3hot the function answers configuration
  requests only (R454). -/
  | bar2Write (o : Nat) (bytes : List Nat)
  /-- BAR2_READ (R461): offset, length. The bytes returned leave as a completion. -/
  | bar2Read (o n : Nat)
  /-- SEG_BASE_WRITE (R459): path, segment, the pair committed by the write of its high half. -/
  | segBaseWrite (path k lo hi : Nat)
  /-- HANDOFF (R460, R462): path, the word written. -/
  | handoff (path : Nat) (v : Word)
  /-- NOTIFY_FIFO_READ (R462, R465). -/
  | notifyFifoRead
  /-- MBOX_GO (R464): the path of the write. -/
  | mboxGo (path : Nat)
  /-- MBOX_DONE (R464): the Reeve has served the request. -/
  | mboxDone
  /-- MSIX_UNMASK (R454, R457): the vector whose mask bit the host clears; 64 + v names one whose mask bit it sets. -/
  | msixUnmask (v : Nat)
  /-- PCIE_HOT_RESET (R455). -/
  | pcieHotReset
  /-- LINK_CHANGE (R455, R465, R466): rate, width and Flit mode after it; rate 0 is a link that has gone down. -/
  | linkChange (rate width flit : Nat)
  /-- PCIE_D3HOT (R487): 1 enters D3hot, 0 returns to D0, where a pending vector 0 is sent. -/
  | pcieD3hot (enter : Nat)
  /-- PERST (R505, R511): held while PERST_N is low. -/
  | perst
  /-- PERST_RELEASE (R507). -/
  | perstRelease
  /-- HELLO (R471): port, requester, SEQ. -/
  | hello (n who seq : Nat)
  /-- REG_READ (R471): BAR0 address and count. -/
  | regRead (n who seq a count : Nat)
  /-- REG_WRITE (R471): BAR0 address, count and the values carried. -/
  | regWrite (n who seq a count : Nat) (vs : List Nat)
  /-- MGMT_RESET_MODULE (R471). -/
  | mgmtResetModule (n who seq : Nat)
  /-- MGMT_RESET_WARM (R471). -/
  | mgmtResetWarm (n who seq : Nat)
  /-- UPDATE_DATA (R471, R571): staging offset and bytes. -/
  | updateData (n who seq o : Nat) (bytes : List Nat)
  /-- MGMT_BAD_REQUEST (R468, R470, R472): a datagram as bytes: dropped when it holds no message, else answered like any
  request. A first element of 256 and more says what is wrong with a frame that is no such datagram. -/
  | mgmtBadRequest (n who : Nat) (bytes : List Nat)
  /-- NEIGHBOR_SOLICITATION (R468): port, target address, source MAC and source address; the answer carries the port's
  MAC. -/
  | neighborSolicitation (n target mac src : Nat)
  /-- ICMPV6_ECHO (R468): port, destination, source MAC and address, identifier, sequence number and data, which the
  answer repeats. -/
  | icmpv6Echo (n dst mac src ident seq : Nat) (data : List Nat)
  /-- MGMT_LINK_CHANGE (R474): port n's link comes up (1), which needs ENABLE, or goes down (0). -/
  | mgmtLinkChange (n up : Nat)
  /-- SOURCE_EDGE (R478, R479): source, level at this sample, pulses that came and went since the last. The level of a
  page or software source is its condition. -/
  | sourceEdge (i v n : Nat)
  /-- CLAIM (R482): target. The source number is read. -/
  | claim (k : Nat)
  /-- COMPLETE (R483): path, target, source. -/
  | complete (path k n : Nat)
  /-- SW_SET (R494): the word written. -/
  | swSet (v : Word)
  /-- SW_CLR (R494): the word written. -/
  | swClr (v : Word)
  /-- GLOBAL_DISABLE (R485): the word written to GCTRL. -/
  | globalDisable (v : Word)
  /-- SRC_CFG_WRITE (R489, R495): source, the word written. -/
  | srcCfgWrite (i : Nat) (v : Word)
  /-- FIRE_CLEAR (R495): the FIRE word, 0-511, of sources 2w and 2w + 1. -/
  | fireClear (w : Nat)
  /-- AUX_START (R498, R505, R513): the straps, whether the backup domain lost its contents, the epoch of the entropy
  source, and whether every sensor reads below its resume level. -/
  | auxStart (straps lost epoch cool : Nat)
  /-- INPUT_RANGE (R498): the input is below 720 V (kind 0) or above 880 V (kind 1). -/
  | inputRange (kind : Nat)
  /-- OVERVOLTAGE_DISCONNECT (R498). -/
  | overvoltageDisconnect
  /-- SWITCH_RECLOSE (R498): the input has been below 880 V for 100 ms. -/
  | switchReclose
  /-- BROWNOUT (R500): INPUT.VOLTS before the loss and INPUT_PWR.W, for the record. -/
  | brownout (volts w : Nat)
  /-- AUX_STOP (R498, R502, R554): pending records are written from the hold-up energy, and the module is OFF. -/
  | auxStop
  /-- CAP (R501). -/
  | cap
  /-- THERM_WARN (R503). -/
  | thermWarn
  /-- THERM_WARN_CLEAR (R503). -/
  | thermWarnClear
  /-- THERM_TRIP (R504). -/
  | thermTrip
  /-- RESUME (R504). -/
  | resume (path cool : Nat)
  /-- STAY_STANDBY_WRITE (R502): the bit written. -/
  | stayStandbyWrite (v : Nat)
  /-- RESET_CTRL_MODULE (R524): the path and the key written with MODULE 1. -/
  | resetCtrlModule (path key : Nat)
  /-- RESET_CTRL_REEVE (R524): the path and the key written with REEVE 1. -/
  | resetCtrlReeve (path key : Nat)
  /-- MODULE_RESET (R505, R507, R511): a mask of the module-reset causes that arise in this cycle. -/
  | moduleReset (causes : Nat)
  /-- COLD_RESET (R505, R506, R511): a mask of the causes that arise in this cycle, a cold one among them; LAST.SOURCE
  names the lowest cold one. -/
  | coldReset (causes : Nat)
  /-- REEVE_WARM_RESET (R508): by the watchdog (1) or by command (0). -/
  | reeveWarmReset (wdt : Nat)
  /-- REEVE_BACK (R524): after a Reeve warm reset, while the boot ROM does not wait for a package. -/
  | reeveBack
  /-- WDT_KICK (R509). -/
  | wdtKick (key : Nat)
  /-- WDT_EXPIRED (R509): a Reeve warm reset at the first expiry, a cold reset at the second. -/
  | wdtExpired
  /-- LC_WRITE (R523). -/
  | lcWrite (path key target : Nat)
  /-- LC_CHANGED (R523): once the wipes of the reset are complete. -/
  | lcChanged
  /-- FIRMWARE: step 1 ends. `hub` is 1 + the failing block code of the hub's BIST, `sensor` 1 + the index of a sensor
  that cannot be read (0: none), `lc` 1 when neither copy of the life-cycle state is readable. -/
  | firmware (hub sensor lc : Nat)
  /-- CLOCK: step 2 ends; ref is 1 when REFCLK is present and within tolerance (R16, R518). -/
  | clock (ref : Nat)
  /-- MAIN_RAILS: step 3 ends, with the mask of rails out of tolerance and the coolant inlet in °C (R520). -/
  | mainRails (fail inlet : Nat)
  /-- MEMORY: step 4 ends. Tiles that fail BIST (die, physical row and column), mask of failed dies, masks of stacks
  that fail training and BIST, and what die-link training found. -/
  | memory (tiles : List (Nat × Nat × Nat)) (dead train bist : Nat) (links : List (Nat × Nat × Nat × Nat))
  /-- OPTICS: step 5 ends. Self-test codes of the engines (0: passed), shut-off time in ns, mask of combs in FAULT. -/
  | optics (codes : List Nat) (ns combs : Nat)
  /-- CALIBRATION (R531). -/
  | calibration (rings : List Machine.RingFound) (mzis : List (Nat × Nat × Nat)) (combs : List (Nat × Nat))
  /-- DONE: step 7 ends. -/
  | done
  /-- BACKUP_CHARGED (R512). -/
  | backupCharged
  /-- CAL_FULL (R537). -/
  | calFull (path : Nat)
  /-- LANE_CAL_START (R538, R540): a lane of an outbound path. -/
  | laneCalStart (path l : Nat)
  /-- CAL_START (R540): a note with its LANE, PATH, SRC_EPOCH and SEQ. -/
  | calStart (path l epoch seq : Nat)
  /-- LANE_CAL_SWEEP_DONE (R540). -/
  | laneCalSweepDone (f : Machine.RingFound)
  /-- CAL_END (R540): the leader's lane has launched. -/
  | calEnd (path l epoch seq : Nat)
  /-- CAL_ABORT (R542). -/
  | calAbort (path l epoch seq : Nat)
  /-- LANE_CAL_TIMEOUT (R542): 50 ms after CAL_START, at either end. -/
  | laneCalTimeout (ring : Nat)
  /-- AVS_SAMPLE (R545, R546): the worst margins of dies 0 to 3, in units of 0.5 % of the cycle, clamped to their field.
  -/
  | avsSample (margins : List Int)
  /-- LEDGER_SAVE (R545): at most once an hour. -/
  | ledgerSave
  /-- ERROR_RATE_CHECK (R544). -/
  | errorRateCheck
  /-- ADV_CLEAR (R548): a write of 1 to AGEING.CTRL.ADV_CLEAR. -/
  | advClear
  /-- PAGE_PROGRAM_DONE (R554): the page program completes (ok 1) or fails. -/
  | pageProgramDone (ok : Nat)
  /-- CURSOR_WRITE (R559): a write of CURSOR_HI, with the low half written before it. -/
  | cursorWrite (path seq : Nat)
  /-- WINDOW_ADVANCE (R559): a read of word 15. -/
  | windowAdvance (path : Nat)
  /-- LOG_CLEAR (R560). -/
  | logClear (path : Nat) (v : Word)
  /-- POST_CODE (R561). -/
  | postCode (path : Nat) (v : Word)
  /-- TRACE_SNAPSHOT (R563). -/
  | traceSnapshot (path : Nat) (v : Word)
  /-- DOWNLOAD (R570): the path and the key written with the bit. -/
  | download (path key : Nat)
  /-- VERIFY (R570). -/
  | verify (path key : Nat)
  /-- VERIFY_DONE (R572), with the Millrace tables of part 2, by byte offset in the descriptor table. -/
  | verifyDone (tables : List (Nat × Word))
  /-- ACTIVATE (R573). -/
  | activate (path key : Nat)
  /-- FLASH_WRITTEN (R573): blocks rewritten, and 0 or 1 + the block that failed a fourth time. -/
  | flashWritten (rewritten fail : Nat)
  /-- HANDOVER (R574). -/
  | handover (ms : Nat)
  /-- HANDOVER_TIMEOUT (R574): by the watchdog (1) or by the old firmware's timer (0). -/
  | handoverTimeout (wdt : Nat)
  /-- TABLE_APPLY (R575): slot i takes its new descriptor. -/
  | tableApply (i : Nat)
  /-- CONFIRM (R577). -/
  | confirm (path key : Nat)
  /-- ABORT (R570). -/
  | abort (path key : Nat)
  /-- STAGE_WRITE (R586): both halves. -/
  | stageWrite (path lo hi : Nat)
  /-- OFFER_SEND (R582). -/
  | offerSend
  /-- OFFER (R582): port, serial, XFER, LENGTH, VERSION and tag. -/
  | offer (p serial xfer len version tag : Nat)
  /-- REQ (R583). -/
  | req (p xfer first count : Nat)
  /-- DATA (R583): the chunk and its bytes. -/
  | data (p xfer c : Nat) (bytes : List Nat)
  /-- END (R583). -/
  | bcEnd (p xfer code : Nat)
  /-- CHUNK_REREQUEST (R583). -/
  | chunkRerequest (c : Nat)
  /-- END_REPEAT (R583). -/
  | endRepeat
  /-- BC_TIMEOUT (R583). -/
  | bcTimeout
  /-- FRU_WRITE (R596): the data byte at an offset is not acknowledged and changes nothing. -/
  | fruWrite (o b : Nat)
  /-- MATRIX_VECTOR_COMPLETE (R95): the oldest operation of unit u (0 load pipe, 1 compute pipe, 2 vector unit)
  completes, unless an interlock of R90 still holds it. -/
  | matrixVectorComplete (g u : Nat)
  /-- IDENTITY_STALE (R380): no beacon for 35 ms on receive lane i = 9 p + l. -/
  | identityStale (i : Nat)
  /-- MAIN_RAILS_PERMITTED (R498, R518); high is 1 when the input is above 880 V. -/
  | mainRailsPermitted (high : Nat)
  /-- CAP_DISENGAGED (R501). -/
  | capDisengaged
  /-- LANE_CAL_SKIPPED (R538): a due lane has not been calibrated within one further period. -/
  | laneCalSkipped (path l : Nat)
deriving DecidableEq, Repr

end Sys2Proof
end

