-- ==== Sys2Proof/Config.lean ====
section
/-!
DEFINITION. What an implementation fixes and the spec leaves open: opaque constants without a body, so that no proof
can see a value of them. A claim that mentions one holds for every value of it.
-/
namespace Sys2Proof

/-- FREE VALUE. The n-th value the spec leaves open; n is the counter `free` of the state, advanced at each use
(log entry 1). -/
opaque Config.free : Nat → Nat

/-- FREE VALUE. The channel 0-31 of its stack that holds a 64-byte block (R182 names channels, no rule says which
blocks a channel holds; log entry 4). -/
opaque Config.hbmChannel : Nat → Nat

/-- FREE VALUE. The place in its slice of the chunk that WLOAD names by bank offset, format selector and channel count:
chunks of the slice before it (R90 names no slice; log entry 6). -/
opaque Config.wloadChunk : Nat → Nat → Nat → Nat

/-- FREE VALUE. The four P-384 public keys of the boot ROM, as affine coordinates (R566 names them, no rule gives
them; log entry 8). -/
opaque Config.romKey : Nat → Nat × Nat

/-- FREE VALUE. The offset of the capability after the binding capability (R456 leaves it to the function's list). -/
opaque Config.nextCapability : Nat

/-- FREE VALUE. The revision byte of the PCIe function’s class code register (R453). -/
opaque Config.pcieRevision : Nat

/-- The set-point of a line power loop in converter units for a LINE_TARGET.POWER (R302, R418), and the power in signed 0.01 dBm that
a line monitor's converter code stands for (R337): no rule gives either (log entry 302). -/
opaque Config.lineSetpoint : Nat → Int
opaque Config.linePower : Nat → Int

end Sys2Proof
end

