-- ==== Sys2Proof/Machine/Protect.lean ====
section
/-!
DEFINITION. The Reed-Solomon codes of R167-R170 over GF(2^8), as functions of the error pattern of a word: byte i of
the pattern is the XOR of the stored and the intended byte i, data bytes first and the four check bytes last (R169).
-/
namespace Sys2Proof.Machine

/-- Multiplication in GF(2^8) with x^8 + x^4 + x^3 + x^2 + 1, by n doublings (R169). -/
def gfMulN : Nat → Nat → Nat → Nat
  | 0, _, _ => 0
  | n + 1, a, b =>
    let a2 := if a * 2 < 256 then a * 2 else (a * 2) ^^^ 0x11D
    (if b % 2 = 1 then a else 0) ^^^ gfMulN n a2 (b / 2)

def gfMul (a b : Nat) : Nat := gfMulN 8 a b

/-- Power by n squarings of the base, lowest exponent bit first. -/
def gfPowN : Nat → Nat → Nat → Nat
  | 0, _, _ => 1
  | n + 1, a, k => gfMul (if k % 2 = 1 then a else 1) (gfPowN n (gfMul a a) (k / 2))

/-- Powers of alpha = 2; the multiplicative order is 255. -/
def gfAlpha (k : Nat) : Nat := gfPowN 8 2 (k % 255)

/-- Inverse: a^254. -/
def gfInv (a : Nat) : Nat := gfPowN 8 a 254

/-- Syndrome j of an error pattern of n bytes: byte i is the coefficient of x^(n - 1 - i). -/
def rsSyndrome (n j e : Nat) : Nat :=
  (List.range n).foldl (fun s i => gfMul s (gfAlpha j) ^^^ (e / 256 ^ i % 256)) 0

/-- What a decoder that corrects one or two symbols finds (R167): nothing wrong, a correction to apply, or an
uncorrectable word. -/
inductive RsResult where
  | clean
  | corrected (pattern : Nat)
  | uncorrectable
deriving DecidableEq, Repr

/-- The pattern with value y at the byte whose locator is alpha^k. -/
def rsAt (n k y : Nat) : Nat := y * 256 ^ (n - 1 - k)

/-- Decode an error pattern of n bytes: zero syndrome, one symbol, two symbols, or uncorrectable (R167). -/
def rsDecode (n e : Nat) : RsResult :=
  if e = 0 then .clean else
  let s0 := rsSyndrome n 0 e
  let s1 := rsSyndrome n 1 e
  let s2 := rsSyndrome n 2 e
  let s3 := rsSyndrome n 3 e
  if s0 = 0 ∧ s1 = 0 ∧ s2 = 0 ∧ s3 = 0 then .clean else
  let ks := List.range n
  match ks.filter (fun k =>
      let x := gfAlpha k
      s0 ≠ 0 && gfMul s0 x == s1 && gfMul s1 x == s2 && gfMul s2 x == s3) with
  | k :: _ => .corrected (rsAt n k s0)
  | [] =>
    let det := gfMul s0 s2 ^^^ gfMul s1 s1
    if det = 0 then .uncorrectable else
    let di := gfInv det
    let a1 := gfMul (gfMul s0 s3 ^^^ gfMul s1 s2) di
    let a2 := gfMul (gfMul s1 s3 ^^^ gfMul s2 s2) di
    match ks.filter (fun k => let x := gfAlpha k; (gfMul x x ^^^ gfMul a1 x ^^^ a2) == 0) with
    | [k1, k2] =>
      let x1 := gfAlpha k1
      let x2 := gfAlpha k2
      let y1 := gfMul (s1 ^^^ gfMul s0 x2) (gfInv (x1 ^^^ x2))
      let y2 := s0 ^^^ y1
      if y1 = 0 ∨ y2 = 0 then .uncorrectable else .corrected (rsAt n k1 y1 ^^^ rsAt n k2 y2)
    | _ => .uncorrectable

end Sys2Proof.Machine
end

