-- ==== Sys2Proof/Machine/Flags.lean ====
section
/-!
DEFINITION. The arithmetic flags of R76 as a bit set, in the order of TILE.STATUS[7:0] (R119).
-/
namespace Sys2Proof.Machine

/-- A set of sticky flags: bit i is STATUS[i]. -/
abbrev Flags := Nat

def fANCHOR_OVF : Flags := 0x01
def fANCHOR_LOSS : Flags := 0x02
def fFP_OVF : Flags := 0x04
def fSAT : Flags := 0x08
def fINVALID : Flags := 0x10
def fSPARSE_META : Flags := 0x20
def fPOISONED : Flags := 0x40
def fSTREAM_FAIL : Flags := 0x80

/-- The union of two flag sets. -/
def orF (a b : Flags) : Flags := a ||| b

/-- The union of a list of flag sets. -/
def orFs (l : List Flags) : Flags := l.foldl orF 0

end Sys2Proof.Machine
end

