-- ==== Sys2Proof/Machine/Arith.lean ====
section
/-!
DEFINITION. Exact numbers, the formats of R38, the one rounding of R56-R59, fast and exact accumulation (R60-R66),
stochastic rounding (R70, R71) and the vector unit's functions (R73-R75).
-/
namespace Sys2Proof.Machine

/-- A list in rising order of a key, equal keys in their old order. -/
def insertBy {α : Type} (f : α → Nat) (a : α) : List α → List α
  | [] => [a]
  | b :: l => if f a ≤ f b then a :: b :: l else b :: insertBy f a l
def sortBy {α : Type} (f : α → Nat) (l : List α) : List α := l.foldr (insertBy f) []

/-- An exact value: NaN, an infinity, a signed zero, or (num / den) * 2^e with a sign, num and den positive. -/
inductive Num where
  | nan
  | inf (neg : Bool)
  | zero (neg : Bool)
  | fin (neg : Bool) (num den : Nat) (e : Int)
deriving DecidableEq, Repr, Inhabited

namespace Num

def neg? : Num → Bool
  | .nan => false | .inf n => n | .zero n => n | .fin n _ _ _ => n

def isNan : Num → Bool
  | .nan => true | _ => false

def isInf : Num → Bool
  | .inf _ => true | _ => false

def isZero : Num → Bool
  | .zero _ => true | _ => false

def negate : Num → Num
  | .nan => .nan | .inf n => .inf (!n) | .zero n => .zero (!n) | .fin n a d e => .fin (!n) a d e

def abs : Num → Num
  | .nan => .nan | .inf _ => .inf false | .zero _ => .zero false | .fin _ a d e => .fin false a d e

/-- An exact signed integer times 2^e, with the sign of a zero given. -/
def ofInt (i : Int) (e : Int) (zneg : Bool) : Num :=
  if i = 0 then .zero zneg else .fin (decide (i < 0)) i.natAbs 1 e

/-- Times 2^k, exactly. -/
def scale (k : Int) : Num → Num
  | .fin n a d e => .fin n a d (e + k)
  | x => x

/-- The exact product with its flags: zero times infinity is NaN with INVALID (R61). -/
def mul (x y : Num) : Num × Flags :=
  match x, y with
  | .nan, _ => (.nan, 0)
  | _, .nan => (.nan, 0)
  | .inf a, .inf b => (.inf (a != b), 0)
  | .inf _, .zero _ => (.nan, fINVALID)
  | .zero _, .inf _ => (.nan, fINVALID)
  | .inf a, .fin b _ _ _ => (.inf (a != b), 0)
  | .fin b _ _ _, .inf a => (.inf (a != b), 0)
  | .zero a, .zero b => (.zero (a != b), 0)
  | .zero a, .fin b _ _ _ => (.zero (a != b), 0)
  | .fin b _ _ _, .zero a => (.zero (a != b), 0)
  | .fin a n d e, .fin b n' d' e' => (.fin (a != b) (n * n') (d * d') (e + e'), 0)

/-- The exact sum with its flags: infinity minus infinity is NaN with INVALID (R61); an exact cancellation is +0, and
a sum of zeros is -0 only when both are. -/
def add (x y : Num) : Num × Flags :=
  match x, y with
  | .nan, _ => (.nan, 0)
  | _, .nan => (.nan, 0)
  | .inf a, .inf b => if a = b then (.inf a, 0) else (.nan, fINVALID)
  | .inf a, _ => (.inf a, 0)
  | _, .inf b => (.inf b, 0)
  | .zero a, .zero b => (.zero (a && b), 0)
  | .zero _, y => (y, 0)
  | x, .zero _ => (x, 0)
  | .fin a n d e, .fin b n' d' e' =>
    let m := min e e'
    let p : Int := (n * d' * 2 ^ (e - m).toNat : Nat)
    let q : Int := (n' * d * 2 ^ (e' - m).toNat : Nat)
    let s := (if a then -p else p) + (if b then -q else q)
    if s = 0 then (.zero false, 0) else (.fin (decide (s < 0)) s.natAbs (d * d') m, 0)

/-- IEEE 754 quotient of two exact values, unrounded, as R56 takes v / s. -/
def div (x y : Num) : Num :=
  match x, y with
  | .nan, _ => .nan
  | _, .nan => .nan
  | .inf _, .inf _ => .nan
  | .zero _, .zero _ => .nan
  | .inf a, y => .inf (a != y.neg?)
  | .zero a, y => .zero (a != y.neg?)
  | x, .inf b => .zero (x.neg? != b)
  | x, .zero b => .inf (x.neg? != b)
  | .fin a n d e, .fin b n' d' e' => .fin (a != b) (n * d') (d * n') (e - e')

/-- Compare magnitudes of two finite values: num/den * 2^e. -/
def magLe (n d : Nat) (e : Int) (n' d' : Nat) (e' : Int) : Bool :=
  let m := min e e'
  decide (n * d' * 2 ^ (e - m).toNat ≤ n' * d * 2 ^ (e' - m).toNat)

/-- The order of IEEE 754-2019 minimum and maximum on non-NaN values: -0 is less than +0 (R73). -/
def le (x y : Num) : Bool :=
  match x, y with
  | .nan, _ => false
  | _, .nan => false
  | .inf true, _ => true
  | _, .inf false => true
  | .inf false, .inf true => false
  | .inf false, _ => false
  | _, .inf true => false
  | .zero a, .zero b => a || !b
  | .zero _, .fin b _ _ _ => !b
  | .fin a _ _ _, .zero _ => a
  | .fin a n d e, .fin b n' d' e' =>
    match a, b with
    | true, false => true
    | false, true => false
    | false, false => magLe n d e n' d' e'
    | true, true => magLe n' d' e' n d e

/-- IEEE 754-2019 minimum and maximum (R73). -/
def minN (x y : Num) : Num := if x.isNan || y.isNan then .nan else if le x y then x else y
def maxN (x y : Num) : Num := if x.isNan || y.isNan then .nan else if le x y then y else x

/-- Floor of log2 of num / den (both positive). -/
def log2Q (n d : Nat) : Int :=
  let k : Int := (n.log2 : Int) - (d.log2 : Int)
  let big := if k ≥ 0 then decide (n ≥ d * 2 ^ k.toNat) else decide (n * 2 ^ (-k).toNat ≥ d)
  if big then k else k - 1

/-- The quotient, remainder and divisor of num / den * 2^(e - g) as an integer division. -/
def gridDiv (n d : Nat) (e g : Int) : Nat × Nat × Nat :=
  let N := n * 2 ^ (e - g).toNat
  let D := d * 2 ^ (g - e).toNat
  (N / D, N % D, D)

end Num

/-- The two rounding modes: nearest, ties to even, or stochastic with the element's 32 random bits (R55, R71). -/
inductive RMode where
  | rne
  | sr (bits : Nat)
deriving DecidableEq, Repr

/-- Round quotient q with remainder r over D up or down (R56, R71). -/
def roundUp (rm : RMode) (q r D : Nat) : Nat :=
  match rm with
  | .rne => if 2 * r > D ∨ (2 * r = D ∧ q % 2 = 1) then q + 1 else q
  | .sr bits => if bits < r * 2 ^ 32 / D then q + 1 else q

/-- A binary floating-point element format: fraction bits, bias, the largest finite value q * 2^g, and its width. -/
structure Fp where
  frac : Nat
  bias : Int
  maxQ : Nat
  maxG : Int
  bits : Nat
deriving DecidableEq, Repr

/-- The formats of R40. -/
def fp32F : Fp := ⟨23, 127, 2 ^ 24 - 1, 104, 32⟩
def bf16F : Fp := ⟨7, 127, 255, 120, 16⟩
def fp16F : Fp := ⟨10, 15, 2047, 5, 16⟩
def e4m3F : Fp := ⟨3, 7, 14, 5, 8⟩
def e5m2F : Fp := ⟨2, 15, 7, 13, 8⟩
def e2m3F : Fp := ⟨3, 1, 15, -1, 6⟩
def e3m2F : Fp := ⟨2, 3, 7, 2, 6⟩
def e2m1F : Fp := ⟨1, 1, 3, 1, 4⟩

/-- Exponent of the smallest normal value and spacing of the subnormal grid. -/
def Fp.emin (f : Fp) : Int := 1 - f.bias
def Fp.gmin (f : Fp) : Int := f.emin - f.frac

/-- The rounded magnitude q * 2^g on the format's grid in an unbounded exponent range (R56, R57). -/
def Fp.round (f : Fp) (rm : RMode) (n d : Nat) (e : Int) : Nat × Int :=
  let g := max f.gmin (Num.log2Q n d + e - f.frac)
  let (q, r, D) := Num.gridDiv n d e g
  let q := roundUp rm q r D
  if q = 2 ^ (f.frac + 1) then (2 ^ f.frac, g + 1) else (q, g)

/-- Is a rounded magnitude beyond the largest finite value (R57)? -/
def Fp.exceeds (f : Fp) (q : Nat) (g : Int) : Bool :=
  decide (f.maxG < g) || (decide (g = f.maxG) && decide (f.maxQ < q))

/-- The code of magnitude q * 2^g with a sign. -/
def Fp.pack (f : Fp) (neg : Bool) (q : Nat) (g : Int) : Nat :=
  let body := if q < 2 ^ f.frac then q else (g + f.frac + f.bias).toNat * 2 ^ f.frac + (q - 2 ^ f.frac)
  (if neg then 2 ^ (f.bits - 1) else 0) + body

/-- The code of ±infinity in a format that has one: exponent field all ones. -/
def Fp.infCode (f : Fp) (neg : Bool) : Nat :=
  (if neg then 2 ^ (f.bits - 1) else 0) + (2 ^ (f.bits - 1 - f.frac) - 1) * 2 ^ f.frac

/-- The code of the largest finite value. -/
def Fp.maxCode (f : Fp) (neg : Bool) : Nat := f.pack neg f.maxQ f.maxG

/-- Value of a code with no infinity or NaN codes: sign, exponent field, fraction (R40). -/
def Fp.decodeFinite (f : Fp) (c : Nat) : Num :=
  let neg := decide (c / 2 ^ (f.bits - 1) % 2 = 1)
  let ex := c / 2 ^ f.frac % 2 ^ (f.bits - 1 - f.frac)
  let fr := c % 2 ^ f.frac
  if ex = 0 then (if fr = 0 then .zero neg else .fin neg fr 1 f.gmin)
  else .fin neg (2 ^ f.frac + fr) 1 ((ex : Int) - f.bias - f.frac)

/-- Value of an IEEE code (FP32, BF16, FP16, E5M2): all-ones exponent is infinity or NaN (R40). -/
def Fp.decodeIeee (f : Fp) (c : Nat) : Num :=
  let ex := c / 2 ^ f.frac % 2 ^ (f.bits - 1 - f.frac)
  if ex = 2 ^ (f.bits - 1 - f.frac) - 1 then
    (if c % 2 ^ f.frac = 0 then .inf (decide (c / 2 ^ (f.bits - 1) % 2 = 1)) else .nan)
  else f.decodeFinite c

/-- Value of an E4M3 code: only S.1111.111 is NaN (R40). -/
def decodeE4m3 (c : Nat) : Num := if c % 128 = 127 then .nan else e4m3F.decodeFinite c

/-- Value of a block element code, subnormals flushed (R41). -/
def Fp.decodeElem (f : Fp) (c : Nat) : Num :=
  let neg := decide (c / 2 ^ (f.bits - 1) % 2 = 1)
  if c / 2 ^ f.frac % 2 ^ (f.bits - 1 - f.frac) = 0 then .zero neg else f.decodeFinite c

/-- Convert to an IEEE format: overflow gives infinity with FP_OVF (R57, R58). -/
def toIeee (f : Fp) (nanCode : Nat) (rm : RMode) (v : Num) : Nat × Flags :=
  match v with
  | .nan => (nanCode, 0)
  | .inf n => (f.infCode n, 0)
  | .zero n => (f.pack n 0 f.gmin, 0)
  | .fin n a d e =>
    let (q, g) := f.round rm a d e
    if f.exceeds q g then (f.infCode n, fFP_OVF) else (f.pack n q g, 0)

/-- Round to FP32, ties to even, with canonical NaN (R42, R61). -/
def toFp32 (v : Num) : Nat × Flags := toIeee fp32F 0x7FC00000 .rne v

/-- The value of an FP32 code. -/
def ofFp32 (c : Nat) : Num := fp32F.decodeIeee c

/-- Convert to E4M3 or E5M2 under OVF (R57, R58). DEDUCED (log entry 283): with RND = 1 too overflow is decided on the
rounded result, so a magnitude between the largest code and the next grid point overflows only when it rounds up. -/
def toFp8 (e5 : Bool) (rm : RMode) (ovf : Bool) (v : Num) : Nat × Flags :=
  let f := if e5 then e5m2F else e4m3F
  let nanC := if e5 then 0x7E else 0x7F
  let special (n : Bool) (keepInf : Flags) : Nat × Flags :=
    if ovf then (if e5 then (f.infCode n, keepInf) else (nanC, fFP_OVF)) else (f.maxCode n, fSAT)
  match v with
  | .nan => (nanC, 0)
  | .inf n => special n 0
  | .zero n => (f.pack n 0 f.gmin, 0)
  | .fin n a d e =>
    let (q, g) := f.round rm a d e
    if f.exceeds q g then special n fFP_OVF else (f.pack n q g, 0)

/-- Convert a scaled element of a block format, flushing subnormals and saturating (R41, R57, R58). -/
def toBlockElem (f : Fp) (rm : RMode) (v : Num) : Nat × Flags :=
  match v with
  | .nan => (0, 0)
  | .inf n => (f.maxCode n, fSAT)
  | .zero n => (f.pack n 0 f.gmin, 0)
  | .fin n a d e =>
    let (q, g) := f.round rm a d e
    if f.exceeds q g then (f.maxCode n, fSAT)
    else if q < 2 ^ f.frac then (f.pack n 0 f.gmin, 0) else (f.pack n q g, 0)

/-- Two's complement of an integer in w bits. -/
def twos (w : Nat) (i : Int) : Nat := (i % (2 ^ w : Int)).toNat

/-- The signed value of a w-bit field. -/
def signed (w c : Nat) : Int := if c % 2 ^ w < 2 ^ (w - 1) then (c % 2 ^ w : Nat) else ((c % 2 ^ w : Nat) : Int) - 2 ^ w

/-- Round to the integer grid of 2^g and clamp to lo..hi, with SAT when it clamps (R56, R57). -/
def toIntGrid (rm : RMode) (g lo hi : Int) (v : Num) : Int × Flags :=
  match v with
  | .nan => (0, fINVALID)
  | .inf n => (if n then lo else hi, fSAT)
  | .zero _ => (0, 0)
  | .fin n a d e =>
    let (q, r, D) := Num.gridDiv a d e g
    let q : Int := roundUp rm q r D
    let i := if n then -q else q
    if i < lo then (lo, fSAT) else if hi < i then (hi, fSAT) else (i, 0)

/-! ### Block formats (R43-R48) -/

/-- The element format of a block code; MXINT8 (0x0D) has none. -/
def blockElemFp (code : Nat) : Fp :=
  if code = 0x08 then e4m3F else if code = 0x09 then e5m2F
  else if code = 0x0A ∨ code = 0x10 then e2m3F else if code = 0x0B then e3m2F else e2m1F

/-- The largest finite magnitude of the element type as q * 2^g (R47). -/
def blockMax (code : Nat) : Nat × Int :=
  if code = 0x0D then (127, -6) else ((blockElemFp code).maxQ, (blockElemFp code).maxG)

/-- Value of an element code of a block format before its scale (R44, R45). -/
def decodeBlockElem (code c : Nat) : Num :=
  if code = 0x0D then Num.ofInt (signed 8 c) (-6) false
  else if code = 0x08 then (if c % 128 = 127 then .nan else (blockElemFp code).decodeElem c)
  else if code = 0x09 then
    (if c / 4 % 32 = 31 then (if c % 4 = 0 then .inf (decide (c / 128 = 1)) else .nan) else e5m2F.decodeElem c)
  else (blockElemFp code).decodeElem c

/-- An infinity counts as the largest finite FP32 value when a scale is chosen (R58). -/
def forScale (v : Num) : Num :=
  match v with
  | .inf n => .fin n (2 ^ 24 - 1) 1 104
  | v => v

/-- The largest magnitude of a list, none when all are zero. -/
def amax (vs : List Num) : Option (Nat × Nat × Int) :=
  vs.foldl (fun acc v =>
    match forScale v with
    | .fin _ n d e =>
      match acc with
      | none => some (n, d, e)
      | some (n', d', e') => if Num.magLe n' d' e' n d e then some (n, d, e) else acc
    | _ => acc) none

/-- Ceiling of log2 of (n / d * 2^e) / (q * 2^g). -/
def ceilLog2 (n d : Nat) (e : Int) (q : Nat) (g : Int) : Int :=
  let k := Num.log2Q n (d * q)
  let exact := if k ≥ 0 then decide (n = d * q * 2 ^ k.toNat) else decide (n * 2 ^ (-k).toNat = d * q)
  (if exact then k else k + 1) + e - g

/-- The block scale of R47: X and whether the block is NaN. -/
def blockScale (code : Nat) (ovf : Bool) (vs : List Num) : Nat :=
  if vs.any Num.isNan || (ovf && vs.any Num.isInf) then 0xFF
  else match amax vs with
    | none => 0
    | some (n, d, e) =>
      let (q, g) := blockMax code
      min 254 (127 + ceilLog2 n d e q g).toNat

/-- The sub-block offset of R48: the largest o in 0-15 with amax_j * 2^(127 + o - X) within maxval. -/
def subOffset (code X : Nat) (vs : List Num) : Nat :=
  match amax vs with
  | none => 15
  | some (n, d, e) =>
    let (q, g) := blockMax code
    let ok (o : Nat) : Bool := Num.magLe n d (e + 127 + o - X) q 1 g
    ((List.range 16).filter ok).foldl max 0

/-- One element code of a block, from its exact value and its scale exponent. -/
def blockElemCode (code : Nat) (rm : RMode) (k : Int) (v : Num) : Nat × Flags :=
  let v := Num.scale (-k) v
  if code = 0x0D then
    match v with
    | .inf n => (if n then twos 8 (-127) else 127, fSAT)
    | v => let (i, f) := toIntGrid rm (-6) (-128) 127 v; (twos 8 i, f)
  else toBlockElem (blockElemFp code) rm v

/-- Convert one MX block: X and the element codes, with the flags (R44, R47, R57, R58). -/
def toMxBlock (code : Nat) (ovf : Bool) (vs : List (Num × RMode)) : Nat × List Nat × Flags :=
  let X := blockScale code ovf (vs.map Prod.fst)
  if X = 0xFF then
    (X, vs.map fun _ => 0, if ovf && vs.any (fun v => v.1.isInf) then fFP_OVF else 0)
  else
    let r := vs.map fun v => blockElemCode code v.2 ((X : Int) - 127) v.1
    (X, r.map Prod.fst, orFs (r.map Prod.snd))

/-- Cut a list into chunks of n. -/
def chunks {α : Type} (n : Nat) (l : List α) : List (List α) :=
  (List.range ((l.length + n - 1) / n)).map fun i => (l.drop (i * n)).take n

/-- Convert one TLB block: X, the eight offsets and the element codes, with the flags (R45-R48). -/
def toTlbBlock (code : Nat) (ovf : Bool) (vs : List (Num × RMode)) : Nat × List Nat × List Nat × Flags :=
  let X := blockScale code ovf (vs.map Prod.fst)
  if X = 0xFF then
    (X, List.replicate 8 0, vs.map fun _ => 0, if ovf && vs.any (fun v => v.1.isInf) then fFP_OVF else 0)
  else
    let subs := chunks 16 vs
    let r := subs.map fun sb =>
      let o := subOffset code X (sb.map Prod.fst)
      (o, sb.map fun v => blockElemCode code v.2 ((X : Int) - 127 - o) v.1)
    (X, r.map Prod.fst, (r.map fun p => p.2.map Prod.fst).flatten, orFs ((r.map fun p => p.2.map Prod.snd).flatten))

/-! ### Packing of element codes (R44, R46) -/

/-- Bytes of a bit string of `n` fields of `w` bits, the first field lowest. -/
def packBits (w : Nat) (cs : List Nat) : Nat := cs.foldr (fun c acc => c % 2 ^ w + acc * 2 ^ w) 0

/-- The little-endian bytes of a number. -/
def leBytes : Nat → Nat → List Byte
  | 0, _ => []
  | n + 1, v => BitVec.ofNat 8 v :: leBytes n (v / 256)

/-- The number of a little-endian byte list. -/
def ofLe (bs : List Byte) : Nat := bs.foldr (fun b acc => b.toNat + 256 * acc) 0

/-- The i-th field of w bits of a number. -/
def bitField (w i v : Nat) : Nat := v / 2 ^ (w * i) % 2 ^ w

/-- The record of a TLB block: elements, X, offsets, three reserved bytes (R46). -/
def tlbRecord (code X : Nat) (os cs : List Nat) : List Byte :=
  let w := if code = 0x10 then 6 else 4
  leBytes (16 * w) (packBits w cs) ++ leBytes 1 X ++ leBytes 4 (packBits 4 os) ++ [0, 0, 0]

/-- The elements of a TLB record (R45). -/
def tlbElems (code : Nat) (rec : List Byte) : List Num :=
  let w := if code = 0x10 then 6 else 4
  let el := ofLe (rec.take (16 * w))
  let X := ofLe ((rec.drop (16 * w)).take 1)
  let os := ofLe ((rec.drop (16 * w + 1)).take 4)
  (List.range 128).map fun i =>
    if X = 0xFF then .nan
    else Num.scale ((X : Int) - 127 - bitField 4 (i / 16) os) (decodeBlockElem code (bitField w i el))

/-- The value of an MX element with its scale byte (R43, R44). -/
def mxElem (code X c : Nat) : Num :=
  if X = 0xFF then .nan else Num.scale ((X : Int) - 127) (decodeBlockElem code c)

/-- The value q * s of an integer element, with INVALID for an infinite scale and a zero code (R49). -/
def intElem (w c s : Nat) : Num × Flags := Num.mul (Num.ofInt (signed w c) 0 false) (ofFp32 s)

/-- Convert to INT8 or INT4 with the output scale s: v / s on the integer grid (R56, R57). -/
def toIntCode (w : Nat) (rm : RMode) (s : Nat) (v : Num) : Nat × Flags :=
  let (i, f) := toIntGrid rm 0 (-(2 ^ (w - 1) : Int)) (2 ^ (w - 1) - 1) (Num.div v (ofFp32 s))
  (twos w i, f)

/-- Element width in bits by format code (R38). -/
def fmtBits (code : Nat) : Nat :=
  match code with
  | 0x00 => 32 | 0x01 => 16 | 0x02 => 16 | 0x03 => 8 | 0x04 => 8
  | 0x08 => 8 | 0x09 => 8 | 0x0A => 6 | 0x0B => 6 | 0x0C => 4 | 0x0D => 8
  | 0x10 => 6 | 0x11 => 4 | 0x18 => 8 | 0x19 => 4 | 0x1F => 160 | _ => 0

/-- Is a format code one of the table of R38? -/
def fmtKnown (code : Nat) : Bool := decide (fmtBits code ≠ 0)

def isMx (code : Nat) : Bool := decide (0x08 ≤ code ∧ code ≤ 0x0D)
def isTlb (code : Nat) : Bool := decide (code = 0x10 ∨ code = 0x11)
def isInt (code : Nat) : Bool := decide (code = 0x18 ∨ code = 0x19)

/-- May a format code be sparse (R38)? -/
def sparseOk (code : Nat) : Bool :=
  decide (code = 3 ∨ code = 4) || isMx code || isTlb code || isInt code

/-- Value of an unscaled scalar code (FP32, BF16, FP16, E4M3, E5M2). -/
def decodeScalar (code c : Nat) : Num :=
  match code with
  | 0x00 => fp32F.decodeIeee c
  | 0x01 => bf16F.decodeIeee c
  | 0x02 => fp16F.decodeIeee c
  | 0x03 => decodeE4m3 c
  | _ => e5m2F.decodeIeee c

/-- Convert to an unscaled scalar format (R57, R58). -/
def encodeScalar (code : Nat) (rm : RMode) (ovf : Bool) (v : Num) : Nat × Flags :=
  match code with
  | 0x00 => toIeee fp32F 0x7FC00000 rm v
  | 0x01 => toIeee bf16F 0x7FC0 rm v
  | 0x02 => toIeee fp16F 0x7E00 rm v
  | 0x03 => toFp8 false rm ovf v
  | _ => toFp8 true rm ovf v

/-! ### Stochastic rounding (R70) -/

def mix64 (z : BitVec 64) : BitVec 64 :=
  let z := (z ^^^ (z >>> 30)) * 0xBF58476D1CE4E5B9#64
  let z := (z ^^^ (z >>> 27)) * 0x94D049BB133111EB#64
  z ^^^ (z >>> 31)

/-- The 32 random bits of one element (R70). -/
def srBits (seed tensorId index : Nat) : Nat :=
  let k := mix64 (BitVec.ofNat 64 seed ^^^ (BitVec.ofNat 64 tensorId <<< 32) ^^^ 0x6A09E667F3BCC909#64)
  let z := mix64 (k + BitVec.ofNat 64 index * 0x9E3779B97F4A7C15#64)
  (z >>> 32).toNat

/-! ### FP32 operations (R60, R61, R73) -/

/-- FP32 addition of codes. -/
def add32 (a b : Nat) : Nat × Flags :=
  let (v, f) := Num.add (ofFp32 a) (ofFp32 b)
  let (c, f') := toFp32 v
  (c, orF f f')

def mul32 (a b : Nat) : Nat × Flags :=
  let (v, f) := Num.mul (ofFp32 a) (ofFp32 b)
  let (c, f') := toFp32 v
  (c, orF f f')

/-- Fused multiply-add a * b + c, rounded once. A NaN addend gives NaN and no flag, the product's zero times infinity
included: the result is then no NaN from non-NaN inputs (R76). -/
def fma32 (a b c : Nat) : Nat × Flags :=
  if (ofFp32 c).isNan then (0x7FC00000, 0) else
  let (p, f) := Num.mul (ofFp32 a) (ofFp32 b)
  let (v, f') := Num.add p (ofFp32 c)
  let (r, f'') := toFp32 v
  (r, orF f (orF f' f''))

def neg32 (a : Nat) : Nat := (toFp32 (Num.negate (ofFp32 a))).1
def sub32 (a b : Nat) : Nat × Flags :=
  let (v, f) := Num.add (ofFp32 a) (Num.negate (ofFp32 b))
  let (c, f') := toFp32 v
  (c, orF f f')
def min32 (a b : Nat) : Nat := (toFp32 (Num.minN (ofFp32 a) (ofFp32 b))).1
def max32 (a b : Nat) : Nat := (toFp32 (Num.maxN (ofFp32 a) (ofFp32 b))).1

/-- The exact sum of terms without NaN and without infinities of both signs. -/
def sumTerms : List Num → Num
  | [] => .zero false
  | [p] => p
  | p :: ps => (Num.add p (sumTerms ps)).1

/-- Sum a product group exactly (R60 step 1). A NaN product gives NaN; without one, infinities of both signs give NaN
and INVALID (R61, R76), wherever in the group they stand. -/
def sumExact (ps : List (Num × Flags)) : Num × Flags :=
  let vs := ps.map Prod.fst
  let f := orFs (ps.map Prod.snd)
  if vs.any Num.isNan then (.nan, f)
  else if .inf true ∈ vs ∧ .inf false ∈ vs then (.nan, orF f fINVALID)
  else (sumTerms vs, f)

/-- One fast accumulation: the group sum rounded once, added to the accumulator (R60, R61). -/
def fastAcc (acc : Nat) (group : List (Num × Flags)) : Nat × Flags :=
  let s := sumExact group
  let c := toFp32 s.1
  let r := add32 acc c.1
  (r.1, orF s.2 (orF c.2 r.2))

/-! ### XA160 (R63-R66) -/

/-- The NaN marker: bit 159 alone set (R63). -/
def xaNan : Nat := 2 ^ 159

/-- The integer of a word that is not the marker. -/
def xaVal (w : Nat) : Int := signed 160 w

/-- Saturate to ±(2^159 - 1) with ANCHOR_OVF (R65). -/
def xaSat (n : Int) : Nat × Flags :=
  if n.natAbs < 2 ^ 159 then (twos 160 n, 0)
  else (twos 160 (if n < 0 then -(2 ^ 159 - 1) else 2 ^ 159 - 1), fANCHOR_OVF)

/-- Addition of two words (R65). -/
def xaAdd (a b : Nat) : Nat × Flags :=
  if a = xaNan ∨ b = xaNan then (xaNan, 0) else xaSat (xaVal a + xaVal b)

/-- A product in units of 2^A, with the flags of R64; none for the NaN marker. -/
def xaProduct (A : Int) (p : Num) : Option Int × Flags :=
  match p with
  | .nan => (none, fINVALID)
  | .inf _ => (none, fINVALID)
  | .zero _ => (some 0, 0)
  | .fin n a d e =>
    let (q, r, D) := Num.gridDiv a d e A
    let q' := roundUp .rne q r D
    let loss := if r = 0 then 0 else fANCHOR_LOSS
    let i : Nat := if q' < 2 ^ 128 then q' else 2 ^ 128 - 1
    (some (if n then -(i : Int) else i), orF loss (if q' < 2 ^ 128 then 0 else fANCHOR_OVF))

/-- Accumulate one product into a word (R64, R65). -/
def xaAcc (A : Int) (w : Nat) (p : Num × Flags) : Nat × Flags :=
  match xaProduct A p.1 with
  | (none, f) => (xaNan, f)
  | (some i, f) =>
    if w = xaNan then (xaNan, f) else
    let r := xaSat (xaVal w + i)
    (r.1, orF f r.2)

/-- The exact value n * 2^A of a word, NaN for the marker (R66). -/
def xaNum (A : Int) (w : Nat) : Num := if w = xaNan then .nan else Num.ofInt (xaVal w) A false

/-! ### The special functions (R74, R75) -/

/-- Fraction bits of the fixed-point evaluation of exp (log entry 3). -/
def fxBits : Nat := 512

/-- Fixed-point product. -/
def fxMul (a b : Int) : Int := a * b / 2 ^ fxBits

/-- Taylor sum 1 + y(1 + y/2(1 + y/3(...))) with n terms. -/
def fxExpTaylor (y : Int) : Nat → Nat → Int
  | 0, _ => 2 ^ fxBits
  | n + 1, k => 2 ^ fxBits + fxMul y (fxExpTaylor y n (k + 1)) / (k : Int)

/-- n squarings. -/
def fxSquare : Nat → Int → Int
  | 0, v => v
  | n + 1, v => fxSquare n (fxMul v v)

/-- exp of the exact value, in fixed point, for |x| below 2^8: exp(x) = exp(x / 2^10)^(2^10). -/
def fxExp (neg : Bool) (n d : Nat) (e : Int) : Int :=
  let (q, _, _) := Num.gridDiv n d e (10 - (fxBits : Int))
  let y : Int := if neg then -(q : Int) else q
  fxSquare 10 (fxExpTaylor y 80 1)

/-- exp, correctly rounded, with the special cases of R74. -/
def exp32 (a : Nat) : Nat × Flags :=
  match ofFp32 a with
  | .nan => (0x7FC00000, 0)
  | .inf n => (if n then 0 else 0x7F800000, 0)
  | .zero _ => (0x3F800000, 0)
  | .fin n x d e =>
    if Num.magLe x d e 128 1 0 then toFp32 (Num.ofInt (fxExp n x d e) (-(fxBits : Int)) false)
    else if n then (0, 0) else (0x7F800000, fFP_OVF)

/-- tanh, correctly rounded, with the special cases of R74: (E - 1) / (E + 1) with E = exp(2x). -/
def tanh32 (a : Nat) : Nat × Flags :=
  match ofFp32 a with
  | .nan => (0x7FC00000, 0)
  | .inf n => (if n then 0xBF800000 else 0x3F800000, 0)
  | .zero n => (if n then 0x80000000 else 0, 0)
  | .fin n x d e =>
    if Num.magLe x d e 16 1 0 then
      let E := fxExp false x d (e + 1)
      let c := (toFp32 (.fin false (E - 2 ^ fxBits).natAbs (E + 2 ^ fxBits).natAbs 0)).1
      ((if n then 0x80000000 else 0) + c, 0)
    else (if n then 0xBF800000 else 0x3F800000, 0)

/-- Reciprocal, correctly rounded (R74); a finite result that overflows gives infinity with FP_OVF. -/
def recip32 (a : Nat) : Nat × Flags := toFp32 (Num.div (.fin false 1 1 0) (ofFp32 a))

/-- Integer square root, bit by bit from 2^k down. -/
def isqrtFrom (n : Nat) : Nat → Nat → Nat
  | 0, r => if (r + 1) * (r + 1) ≤ n then r + 1 else r
  | k + 1, r => let t := r + 2 ^ (k + 1); if t * t ≤ n then isqrtFrom n k t else isqrtFrom n k r

def isqrt (n : Nat) : Nat := isqrtFrom n (n.log2 / 2 + 1) 0

/-- rsqrt, correctly rounded, with the special cases of R74. -/
def rsqrt32 (a : Nat) : Nat × Flags :=
  match ofFp32 a with
  | .nan => (0x7FC00000, 0)
  | .inf n => if n then (0x7FC00000, fINVALID) else (0, 0)
  | .zero n => (if n then 0xFF800000 else 0x7F800000, 0)
  | .fin n x d e =>
    if n then (0x7FC00000, fINVALID) else
    -- d / x * 2^(-e) in units of 2^(-2k), k even so that the root is in units of 2^(-k)
    let g : Int := 2 * (Int.fdiv (-e) 2 - 80)
    let (q, rem, _) := Num.gridDiv d x (-e) g
    let r := isqrt q
    let odd := if r * r = q ∧ rem = 0 then 0 else 1
    toFp32 (.fin false (2 * r + odd) 1 (g / 2 - 1))

end Sys2Proof.Machine
end

