-- ==== Sys2Proof/Machine/Regs.lean ====
section
/-!
DEFINITION. The BAR0 register space: the page types of R35 and R36, where each page sits, its capabilities, and for
every block register its offset, access masks and reset value, row by row from the field tables of the spec.
Fields are named PAGE.REGISTER_FIELD, after R9.
-/
namespace Sys2Proof.Machine

/-- A register field: offset in its page and the bit range [hi:lo]. A whole register is [31:0]. -/
structure Fld where
  off : Nat
  hi : Nat
  lo : Nat
deriving DecidableEq, Repr

/-- The same field of the k-th register of a run with the given stride. -/
def Fld.at (f : Fld) (k stride : Nat) : Fld := ⟨f.off + k * stride, f.hi, f.lo⟩

/-- One register row of a page: offset, how many, stride, the masks of its bits by access type (R7), the masks of the
bits kept by a module reset, by a block reset and by a cold reset, its reset value (R6), and its half of a 64-bit pair
under R3 (1 low, 2 high, 0 none). Bits in no mask are read only to software. -/
structure RegRow where
  name : String
  off : Nat
  count : Nat
  stride : Nat
  rw : Nat
  w1c : Nat
  w1s : Nat
  rc : Nat
  keepModule : Nat
  keepBlock : Nat
  keepCold : Nat
  reset : Nat
  pair : Nat
deriving DecidableEq, Repr

/-- The page types of R35 and R36, the CROSSROADS and BELFRY pages told apart by their contents, and the two windows. -/
inductive PageTy where
  | DIRECTORY | MODULE | TILE | MESH | DIE | HBM | SIZE_TABLE | RESHARD | MSG | MENG | TIME | TRIGGERS | ENGINE | COMB | PORT | XRDS | XRDS_ID | XRDS_FREE | MILLRACE | CLAIM | HOSTWIN | MGMT | BELFRY | BELFRY_SRC | BELFRY_SUM | RESET | POWER | BACKUP | SELFTEST | CAL | AGEING | LOG | UPDATE | BELFRY_HDR | W_DESC | W_TRACE
deriving DecidableEq, Repr

abbrev DIRECTORY.DIR_COUNT_ENTRIES : Fld := ⟨0x040, 8, 0⟩
abbrev DIRECTORY.DIR_GEN_VALUE : Fld := ⟨0x044, 31, 0⟩
abbrev DIRECTORY.ENTRY_WORD0_BASE : Fld := ⟨0x100, 31, 12⟩
abbrev DIRECTORY.ENTRY_WORD0_COUNT : Fld := ⟨0x100, 11, 0⟩
abbrev DIRECTORY.ENTRY_WORD1_TYPE : Fld := ⟨0x104, 31, 16⟩
abbrev DIRECTORY.ENTRY_WORD1_FIRST_INST : Fld := ⟨0x104, 15, 0⟩
abbrev MODULE.SERIAL_LO_VALUE : Fld := ⟨0x040, 31, 0⟩
abbrev MODULE.SERIAL_HI_VALUE : Fld := ⟨0x044, 31, 0⟩
abbrev MODULE.PART_NUMBER : Fld := ⟨0x048, 15, 0⟩
abbrev MODULE.PART_STEP : Fld := ⟨0x048, 23, 16⟩
abbrev MODULE.STRAPS_BOOTSEL : Fld := ⟨0x04C, 1, 0⟩
abbrev MODULE.STRAPS_CLKMODE : Fld := ⟨0x04C, 2, 2⟩
abbrev MODULE.CLK_STAT_ROOT_LOCK : Fld := ⟨0x050, 0, 0⟩
abbrev MODULE.CLK_STAT_REFCLK_OK : Fld := ⟨0x050, 1, 1⟩
abbrev MODULE.CLK_STAT_HOLDOVER : Fld := ⟨0x050, 2, 2⟩
abbrev MODULE.CLK_STAT_LOSS_COUNT : Fld := ⟨0x050, 31, 16⟩
abbrev TILE.CTRL_AUDIT : Fld := ⟨0x040, 0, 0⟩
abbrev TILE.CTRL_HALT_REQ : Fld := ⟨0x040, 1, 1⟩
abbrev TILE.STATUS_ANCHOR_OVF : Fld := ⟨0x044, 0, 0⟩
abbrev TILE.STATUS_ANCHOR_LOSS : Fld := ⟨0x044, 1, 1⟩
abbrev TILE.STATUS_FP_OVF : Fld := ⟨0x044, 2, 2⟩
abbrev TILE.STATUS_SAT : Fld := ⟨0x044, 3, 3⟩
abbrev TILE.STATUS_INVALID : Fld := ⟨0x044, 4, 4⟩
abbrev TILE.STATUS_SPARSE_META : Fld := ⟨0x044, 5, 5⟩
abbrev TILE.STATUS_POISONED : Fld := ⟨0x044, 6, 6⟩
abbrev TILE.STATUS_STREAM_FAIL : Fld := ⟨0x044, 7, 7⟩
abbrev TILE.STATUS_STATE : Fld := ⟨0x044, 10, 8⟩
abbrev TILE.STATUS_WAIT_KIND : Fld := ⟨0x044, 14, 12⟩
abbrev TILE.STATUS_LOOP_DEPTH : Fld := ⟨0x044, 18, 16⟩
abbrev TILE.PC_PC : Fld := ⟨0x048, 13, 0⟩
abbrev TILE.FLAG_PC_PC : Fld := ⟨0x04C, 13, 0⟩
abbrev TILE.FLAG_PC_VALID : Fld := ⟨0x04C, 31, 31⟩
abbrev TILE.TOKENS_T0 : Fld := ⟨0x050, 7, 0⟩
abbrev TILE.TOKENS_T1 : Fld := ⟨0x050, 15, 8⟩
abbrev TILE.TOKENS_T2 : Fld := ⟨0x050, 23, 16⟩
abbrev TILE.TOKENS_T3 : Fld := ⟨0x050, 31, 24⟩
abbrev TILE.INDEX_VALUE : Fld := ⟨0x060, 19, 0⟩
abbrev TILE.PHYS_COLUMN : Fld := ⟨0x07C, 3, 0⟩
abbrev TILE.PHYS_ROW : Fld := ⟨0x07C, 7, 4⟩
abbrev TILE.EBASE_LO_VALUE : Fld := ⟨0x080, 31, 0⟩
abbrev TILE.EBASE_HI_VALUE : Fld := ⟨0x084, 15, 0⟩
abbrev TILE.RUN_CYC_LO : Fld := ⟨0x088, 31, 0⟩
abbrev TILE.RUN_CYC_HI : Fld := ⟨0x08C, 31, 0⟩
abbrev TILE.WAIT_CYC_LO : Fld := ⟨0x090, 31, 0⟩
abbrev TILE.WAIT_CYC_HI : Fld := ⟨0x094, 31, 0⟩
abbrev TILE.GOV_CYC_LO : Fld := ⟨0x098, 31, 0⟩
abbrev TILE.GOV_CYC_HI : Fld := ⟨0x09C, 31, 0⟩
abbrev TILE.BANK_CONF_LO : Fld := ⟨0x0A0, 31, 0⟩
abbrev TILE.BANK_CONF_HI : Fld := ⟨0x0A4, 31, 0⟩
abbrev TILE.AUDIT_LIMIT_LIMIT : Fld := ⟨0x0A8, 31, 0⟩
abbrev TILE.AUDIT_STAT_COUNT : Fld := ⟨0x0AC, 15, 0⟩
abbrev TILE.AUDIT_STAT_KIND : Fld := ⟨0x0AC, 19, 16⟩
abbrev TILE.AUDIT_PC_PC_A : Fld := ⟨0x0B0, 13, 0⟩
abbrev TILE.AUDIT_PC_PC_B : Fld := ⟨0x0B0, 29, 16⟩
abbrev TILE.AUDIT_ADDR_TWA : Fld := ⟨0x0B4, 18, 0⟩
abbrev TILE.ECC_CORR_COUNT : Fld := ⟨0x0B8, 31, 0⟩
abbrev TILE.ECC_UNCORR_COUNT : Fld := ⟨0x0BC, 15, 0⟩
abbrev MESH.SHAPE_LOG_ROWS : Fld := ⟨0x040, 3, 0⟩
abbrev MESH.SHAPE_LOG_COLS : Fld := ⟨0x040, 7, 4⟩
abbrev MESH.SHAPE_PHYS_ROWS : Fld := ⟨0x040, 11, 8⟩
abbrev MESH.SHAPE_PHYS_COLS : Fld := ⟨0x040, 15, 12⟩
abbrev MESH.SHAPE_LOST_ROW : Fld := ⟨0x040, 19, 16⟩
abbrev MESH.SHAPE_SPARES_USED : Fld := ⟨0x040, 23, 20⟩
abbrev MESH.REPAIR_A_CUT0 : Fld := ⟨0x044, 3, 0⟩
abbrev MESH.REPAIR_A_CUT1 : Fld := ⟨0x044, 7, 4⟩
abbrev MESH.REPAIR_A_CUT2 : Fld := ⟨0x044, 11, 8⟩
abbrev MESH.REPAIR_A_CUT3 : Fld := ⟨0x044, 15, 12⟩
abbrev MESH.REPAIR_A_CUT4 : Fld := ⟨0x044, 19, 16⟩
abbrev MESH.REPAIR_A_CUT5 : Fld := ⟨0x044, 23, 20⟩
abbrev MESH.REPAIR_A_CUT6 : Fld := ⟨0x044, 27, 24⟩
abbrev MESH.REPAIR_A_CUT7 : Fld := ⟨0x044, 31, 28⟩
abbrev MESH.REPAIR_B_CUT8 : Fld := ⟨0x048, 3, 0⟩
abbrev MESH.REPAIR_B_CUT9 : Fld := ⟨0x048, 7, 4⟩
abbrev MESH.REPAIR_B_BIST_ADDED : Fld := ⟨0x048, 17, 8⟩
abbrev MESH.PENDING_COUNT : Fld := ⟨0x04C, 7, 0⟩
abbrev MESH.PENDING_ROW : Fld := ⟨0x04C, 11, 8⟩
abbrev MESH.PENDING_COLUMN : Fld := ⟨0x04C, 15, 12⟩
abbrev MESH.PENDING_VALID : Fld := ⟨0x04C, 31, 31⟩
abbrev MESH.SCHED_STAT_SLOTS : Fld := ⟨0x050, 20, 0⟩
abbrev MESH.SCHED_STAT_PHASE : Fld := ⟨0x050, 27, 24⟩
abbrev MESH.SCHED_STAT_LOADED : Fld := ⟨0x050, 28, 28⟩
abbrev MESH.SCHED_CYC_LO : Fld := ⟨0x054, 31, 0⟩
abbrev MESH.SCHED_CYC_HI : Fld := ⟨0x058, 31, 0⟩
abbrev MESH.LATE_SENDS_COUNT : Fld := ⟨0x05C, 31, 0⟩
abbrev MESH.LINK_STAT_UP : Fld := ⟨0x060, 0, 0⟩
abbrev MESH.LINK_STAT_SPARES : Fld := ⟨0x060, 5, 1⟩
abbrev MESH.LINK_STAT_DOWN_MASK : Fld := ⟨0x060, 26, 16⟩
abbrev MESH.LINK_CORR_COUNT : Fld := ⟨0x064, 31, 0⟩
abbrev MESH.LINK_UNCORR_COUNT : Fld := ⟨0x068, 31, 0⟩
abbrev MESH.LINK_RETRY_COUNT : Fld := ⟨0x06C, 31, 0⟩
abbrev DIE.JOB_CTRL_LOAD : Fld := ⟨0x040, 0, 0⟩
abbrev DIE.JOB_CTRL_START : Fld := ⟨0x040, 1, 1⟩
abbrev DIE.JOB_CTRL_STOP : Fld := ⟨0x040, 2, 2⟩
abbrev DIE.JOB_CTRL_UNLOAD : Fld := ⟨0x040, 3, 3⟩
abbrev DIE.JOB_STAT_STATE : Fld := ⟨0x044, 3, 0⟩
abbrev DIE.JOB_STAT_PHASE : Fld := ⟨0x044, 7, 4⟩
abbrev DIE.JOB_STAT_ARMED : Fld := ⟨0x044, 8, 8⟩
abbrev DIE.JOB_STAT_AUTO : Fld := ⟨0x044, 9, 9⟩
abbrev DIE.JOB_STAT_ARMED_PHASE : Fld := ⟨0x044, 15, 12⟩
abbrev DIE.JOB_STAT_FAIL_CAUSE : Fld := ⟨0x044, 19, 16⟩
abbrev DIE.IMG_ADDR_LO_ADDR : Fld := ⟨0x048, 31, 0⟩
abbrev DIE.IMG_ADDR_HI_ADDR : Fld := ⟨0x04C, 7, 0⟩
abbrev DIE.IMG_BYTES_LO_BYTES : Fld := ⟨0x050, 31, 0⟩
abbrev DIE.IMG_BYTES_HI_BYTES : Fld := ⟨0x054, 7, 0⟩
abbrev DIE.NEXT_PHASE : Fld := ⟨0x058, 3, 0⟩
abbrev DIE.NEXT_TIME_LO_NS : Fld := ⟨0x05C, 31, 0⟩
abbrev DIE.NEXT_TIME_HI_NS : Fld := ⟨0x060, 31, 0⟩
abbrev DIE.PHASE_START_LO_NS : Fld := ⟨0x064, 31, 0⟩
abbrev DIE.PHASE_START_HI_NS : Fld := ⟨0x068, 31, 0⟩
abbrev DIE.REFUSE_CODE : Fld := ⟨0x06C, 15, 0⟩
abbrev DIE.REFUSE_SECTION : Fld := ⟨0x06C, 31, 16⟩
abbrev DIE.REFUSE_ARG_LO : Fld := ⟨0x070, 31, 0⟩
abbrev DIE.REFUSE_ARG_HI : Fld := ⟨0x074, 31, 0⟩
abbrev DIE.BARRIER_WAIT_LO_MASK : Fld := ⟨0x078, 31, 0⟩
abbrev DIE.BARRIER_WAIT_HI_MASK : Fld := ⟨0x07C, 31, 0⟩
abbrev DIE.SEED_LO_SEED : Fld := ⟨0x080, 31, 0⟩
abbrev DIE.SEED_HI_SEED : Fld := ⟨0x084, 31, 0⟩
abbrev DIE.LATE_TILES : Fld := ⟨0x088, 9, 0⟩
abbrev DIE.LATE_FIRST_DIE : Fld := ⟨0x088, 13, 12⟩
abbrev DIE.LATE_FIRST_TILE : Fld := ⟨0x088, 22, 16⟩
abbrev DIE.LATE_NS_NS : Fld := ⟨0x08C, 31, 0⟩
abbrev DIE.BUILD_ID : Fld := ⟨0x090, 31, 0⟩
abbrev DIE.SRAM_SCRUB_INTERVAL : Fld := ⟨0x100, 15, 0⟩
abbrev DIE.SRAM_PASS_COUNT : Fld := ⟨0x104, 31, 0⟩
abbrev DIE.SRAM_CORR_COUNT : Fld := ⟨0x108, 31, 0⟩
abbrev DIE.SRAM_UNCORR_COUNT : Fld := ⟨0x10C, 31, 0⟩
abbrev DIE.SRAM_LATE_COUNT : Fld := ⟨0x110, 31, 0⟩
abbrev DIE.SRAM_LAST_TILE : Fld := ⟨0x114, 6, 0⟩
abbrev DIE.SRAM_LAST_TWA : Fld := ⟨0x114, 26, 8⟩
abbrev DIE.SRAM_LAST_VALID : Fld := ⟨0x114, 31, 31⟩
abbrev DIE.GOV_CYC_LO : Fld := ⟨0x118, 31, 0⟩
abbrev DIE.GOV_CYC_HI : Fld := ⟨0x11C, 31, 0⟩
abbrev HBM.STACK_STAT_PRESENT : Fld := ⟨0x040, 0, 0⟩
abbrev HBM.STACK_STAT_MAPPED_OUT : Fld := ⟨0x040, 1, 1⟩
abbrev HBM.STACK_STAT_TRAINED : Fld := ⟨0x040, 2, 2⟩
abbrev HBM.STACK_STAT_WIPED : Fld := ⟨0x040, 3, 3⟩
abbrev HBM.STACK_STAT_MAPOUT_CAUSE : Fld := ⟨0x040, 7, 4⟩
abbrev HBM.STACK_STAT_MARKED : Fld := ⟨0x040, 8, 8⟩
abbrev HBM.STACK_STAT_TEMP : Fld := ⟨0x040, 23, 16⟩
abbrev HBM.CAPACITY_BLOCKS : Fld := ⟨0x044, 31, 0⟩
abbrev HBM.SCRUB_PERIOD_SECONDS : Fld := ⟨0x048, 19, 0⟩
abbrev HBM.SCRUB_POS_BLOCK : Fld := ⟨0x04C, 29, 0⟩
abbrev HBM.SCRUB_PASS_COUNT : Fld := ⟨0x050, 31, 0⟩
abbrev HBM.CORR_COUNT : Fld := ⟨0x054, 31, 0⟩
abbrev HBM.UNCORR_COUNT : Fld := ⟨0x058, 31, 0⟩
abbrev HBM.POISON_READ_COUNT : Fld := ⟨0x05C, 31, 0⟩
abbrev HBM.LAST_UNCORR_LO_ADDR : Fld := ⟨0x060, 31, 0⟩
abbrev HBM.LAST_UNCORR_HI_ADDR : Fld := ⟨0x064, 7, 0⟩
abbrev HBM.LAST_UNCORR_HI_VALID : Fld := ⟨0x064, 31, 31⟩
abbrev HBM.MAPOUT_CTRL_RETRY : Fld := ⟨0x068, 0, 0⟩
abbrev HBM.MAPOUT_CTRL_REQ : Fld := ⟨0x068, 1, 1⟩
abbrev HBM.MAPOUT_CTRL_THRESH : Fld := ⟨0x068, 31, 16⟩
abbrev SIZE_TABLE.CONTRACT_MINOR : Fld := ⟨0x040, 7, 0⟩
abbrev SIZE_TABLE.CONTRACT_MAJOR : Fld := ⟨0x040, 15, 8⟩
abbrev SIZE_TABLE.DIES_PRESENT : Fld := ⟨0x044, 3, 0⟩
abbrev SIZE_TABLE.DIES_COUNT : Fld := ⟨0x044, 6, 4⟩
abbrev SIZE_TABLE.DIES_DEGRADED : Fld := ⟨0x044, 8, 8⟩
abbrev SIZE_TABLE.TILE_CLK_MHZ : Fld := ⟨0x048, 15, 0⟩
abbrev SIZE_TABLE.DIE_SHAPE_LOG_ROWS : Fld := ⟨0x04C, 3, 0⟩
abbrev SIZE_TABLE.DIE_SHAPE_LOG_COLS : Fld := ⟨0x04C, 7, 4⟩
abbrev SIZE_TABLE.DIE_SHAPE_SPARES_USED : Fld := ⟨0x04C, 11, 8⟩
abbrev SIZE_TABLE.DIE_SHAPE_LOST_ROW : Fld := ⟨0x04C, 15, 12⟩
abbrev SIZE_TABLE.DIE_SHAPE_LINK_OK : Fld := ⟨0x04C, 19, 16⟩
abbrev SIZE_TABLE.DIE_SHAPE_PRESENT : Fld := ⟨0x04C, 31, 31⟩
abbrev SIZE_TABLE.TILE_MEM_DATA_KIB : Fld := ⟨0x05C, 15, 0⟩
abbrev SIZE_TABLE.TILE_MEM_STAGE_KIB : Fld := ⟨0x05C, 31, 16⟩
abbrev SIZE_TABLE.TILE_ARRAY_BANKS : Fld := ⟨0x060, 7, 0⟩
abbrev SIZE_TABLE.TILE_ARRAY_MACS_PER_BANK : Fld := ⟨0x060, 19, 8⟩
abbrev SIZE_TABLE.TILE_ARRAY_ACC_ENTRIES : Fld := ⟨0x060, 31, 20⟩
abbrev SIZE_TABLE.TILE_SEQ_INSTRUCTIONS : Fld := ⟨0x064, 15, 0⟩
abbrev SIZE_TABLE.TILE_SEQ_TOKENS : Fld := ⟨0x064, 20, 16⟩
abbrev SIZE_TABLE.TILE_SEQ_INDEX_REGS : Fld := ⟨0x064, 23, 21⟩
abbrev SIZE_TABLE.TILE_SEQ_LOOP_DEPTH : Fld := ⟨0x064, 26, 24⟩
abbrev SIZE_TABLE.TILE_VEC_LANES : Fld := ⟨0x068, 7, 0⟩
abbrev SIZE_TABLE.TILE_VEC_VREGS : Fld := ⟨0x068, 15, 8⟩
abbrev SIZE_TABLE.TILE_VEC_BARRIERS : Fld := ⟨0x068, 23, 16⟩
abbrev SIZE_TABLE.TILE_VEC_PHASES : Fld := ⟨0x068, 28, 24⟩
abbrev SIZE_TABLE.FORMAT_MAP_CODES : Fld := ⟨0x06C, 31, 0⟩
abbrev SIZE_TABLE.HBM_STACKS_PRESENT : Fld := ⟨0x07C, 7, 0⟩
abbrev SIZE_TABLE.HBM_STACKS_COUNT : Fld := ⟨0x07C, 11, 8⟩
abbrev SIZE_TABLE.HBM_CAP_MB : Fld := ⟨0x080, 31, 0⟩
abbrev SIZE_TABLE.HBM_BW_GBPS : Fld := ⟨0x084, 31, 0⟩
abbrev SIZE_TABLE.OPTICS_PORTS : Fld := ⟨0x088, 7, 0⟩
abbrev SIZE_TABLE.OPTICS_DATA_LANES : Fld := ⟨0x088, 11, 8⟩
abbrev SIZE_TABLE.OPTICS_SPARE_LANES : Fld := ⟨0x088, 15, 12⟩
abbrev SIZE_TABLE.OPTICS_COMB_LINES : Fld := ⟨0x088, 23, 16⟩
abbrev SIZE_TABLE.OPTICS_COMBS : Fld := ⟨0x088, 27, 24⟩
abbrev SIZE_TABLE.QUEUES_PER_DIE_COUNT : Fld := ⟨0x08C, 31, 0⟩
abbrev SIZE_TABLE.STREAMS_PER_DIE_COUNT : Fld := ⟨0x090, 31, 0⟩
abbrev SIZE_TABLE.SESSIONS_PER_DIE_COUNT : Fld := ⟨0x094, 31, 0⟩
abbrev SIZE_TABLE.LOOPS_SLOTS : Fld := ⟨0x098, 15, 0⟩
abbrev SIZE_TABLE.LOOPS_TRIGGERS : Fld := ⟨0x098, 23, 16⟩
abbrev SIZE_TABLE.SLOTS_PER_PHASE_COUNT : Fld := ⟨0x09C, 31, 0⟩
abbrev SIZE_TABLE.DESCRIPTORS_COUNT : Fld := ⟨0x0A0, 31, 0⟩
abbrev SIZE_TABLE.DESTINATIONS_COUNT : Fld := ⟨0x0A4, 31, 0⟩
abbrev SIZE_TABLE.RESHARD_PER_DIE_COUNT : Fld := ⟨0x0A8, 31, 0⟩
abbrev RESHARD.TIMEOUT_US : Fld := ⟨0x040, 23, 0⟩
abbrev RESHARD.STAT_ACTIVE : Fld := ⟨0x044, 0, 0⟩
abbrev RESHARD.STAT_DONE : Fld := ⟨0x044, 1, 1⟩
abbrev RESHARD.STAT_FAILED : Fld := ⟨0x044, 2, 2⟩
abbrev RESHARD.STAT_PHASE : Fld := ⟨0x044, 7, 4⟩
abbrev RESHARD.DESC_TOTAL_COUNT : Fld := ⟨0x048, 14, 0⟩
abbrev RESHARD.DESC_DONE_COUNT : Fld := ⟨0x04C, 14, 0⟩
abbrev RESHARD.BYTES_OUT_LO : Fld := ⟨0x050, 31, 0⟩
abbrev RESHARD.BYTES_OUT_HI : Fld := ⟨0x054, 31, 0⟩
abbrev RESHARD.BYTES_IN_LO : Fld := ⟨0x058, 31, 0⟩
abbrev RESHARD.BYTES_IN_HI : Fld := ⟨0x05C, 31, 0⟩
abbrev RESHARD.FAIL_DESC : Fld := ⟨0x060, 15, 0⟩
abbrev RESHARD.FAIL_CODE : Fld := ⟨0x060, 23, 16⟩
abbrev MSG.EPOCH_VALUE : Fld := ⟨0x040, 31, 0⟩
abbrev MSG.ACK_TIMEOUT_US : Fld := ⟨0x044, 15, 0⟩
abbrev MSG.RETRY_LIMIT_COUNT : Fld := ⟨0x048, 3, 0⟩
abbrev MSG.PATH_WAIT_US : Fld := ⟨0x04C, 23, 0⟩
abbrev MSG.PEER_CTRL_FLUSH : Fld := ⟨0x050, 0, 0⟩
abbrev MSG.PEER_STAT_ENTRIES : Fld := ⟨0x054, 12, 0⟩
abbrev MSG.LAST_PEER_X : Fld := ⟨0x058, 5, 0⟩
abbrev MSG.LAST_PEER_Y : Fld := ⟨0x058, 13, 8⟩
abbrev MSG.LAST_PEER_Z : Fld := ⟨0x058, 21, 16⟩
abbrev MSG.LAST_PEER_VALID : Fld := ⟨0x058, 31, 31⟩
abbrev MSG.LAST_PEER_EPOCH_VALUE : Fld := ⟨0x05C, 31, 0⟩
abbrev MSG.MISROUTE_COUNT : Fld := ⟨0x060, 31, 0⟩
abbrev MSG.EPOCH_NACK_OUT_COUNT : Fld := ⟨0x064, 31, 0⟩
abbrev MSG.EPOCH_NACK_IN_COUNT : Fld := ⟨0x068, 31, 0⟩
abbrev MSG.RESYNCS_COUNT : Fld := ⟨0x06C, 31, 0⟩
abbrev MSG.PATH_FAILS_COUNT : Fld := ⟨0x070, 31, 0⟩
abbrev MENG.QCMD_QUEUE : Fld := ⟨0x040, 17, 0⟩
abbrev MENG.QCMD_OP : Fld := ⟨0x040, 21, 20⟩
abbrev MENG.QCMD_STAT_BUSY : Fld := ⟨0x044, 0, 0⟩
abbrev MENG.QCMD_STAT_ERROR : Fld := ⟨0x044, 7, 4⟩
abbrev MENG.QARG_RING_LO_ADDR : Fld := ⟨0x048, 31, 0⟩
abbrev MENG.QARG_RING_HI_ADDR : Fld := ⟨0x04C, 7, 0⟩
abbrev MENG.QARG_INDEX_LO_ADDR : Fld := ⟨0x050, 31, 0⟩
abbrev MENG.QARG_INDEX_HI_ADDR : Fld := ⟨0x054, 7, 0⟩
abbrev MENG.QARG_CFG_LOG2_CAP : Fld := ⟨0x058, 4, 0⟩
abbrev MENG.QARG_CFG_ENTRY_256 : Fld := ⟨0x058, 8, 8⟩
abbrev MENG.QARG_CFG_IRQ : Fld := ⟨0x058, 9, 9⟩
abbrev MENG.QARG_CFG_SLICE : Fld := ⟨0x058, 27, 16⟩
abbrev MENG.QRD_POSTED_VALUE : Fld := ⟨0x05C, 31, 0⟩
abbrev MENG.QRD_CONSUMED_VALUE : Fld := ⟨0x060, 31, 0⟩
abbrev MENG.QRD_EPOCH_VALUE : Fld := ⟨0x064, 31, 0⟩
abbrev MENG.QRD_STAT_FLAGS : Fld := ⟨0x068, 7, 0⟩
abbrev MENG.QRD_STAT_LOG2_CAP : Fld := ⟨0x068, 12, 8⟩
abbrev MENG.QRD_STAT_FULL_NACKS : Fld := ⟨0x068, 31, 16⟩
abbrev MENG.DOORBELL_QUEUE : Fld := ⟨0x06C, 17, 0⟩
abbrev MENG.SESS_TABLE_LO_ADDR : Fld := ⟨0x070, 31, 0⟩
abbrev MENG.SESS_TABLE_HI_ADDR : Fld := ⟨0x074, 7, 0⟩
abbrev MENG.SESS_CTRL_INV : Fld := ⟨0x078, 0, 0⟩
abbrev MENG.STREAMS_OPEN : Fld := ⟨0x07C, 14, 0⟩
abbrev MENG.STREAMS_FREE : Fld := ⟨0x07C, 30, 16⟩
abbrev MENG.RX_STREAMS_OPEN : Fld := ⟨0x080, 14, 0⟩
abbrev MENG.RX_STREAMS_FREE : Fld := ⟨0x080, 30, 16⟩
abbrev MENG.ARRIVAL_QUEUE : Fld := ⟨0x084, 17, 0⟩
abbrev MENG.ARRIVAL_OVERFLOW : Fld := ⟨0x084, 30, 30⟩
abbrev MENG.ARRIVAL_VALID : Fld := ⟨0x084, 31, 31⟩
abbrev MENG.FAIL_A_CODE : Fld := ⟨0x088, 7, 0⟩
abbrev MENG.FAIL_A_KIND : Fld := ⟨0x088, 10, 8⟩
abbrev MENG.FAIL_A_TILE : Fld := ⟨0x088, 22, 16⟩
abbrev MENG.FAIL_A_OVERFLOW : Fld := ⟨0x088, 30, 30⟩
abbrev MENG.FAIL_A_VALID : Fld := ⟨0x088, 31, 31⟩
abbrev MENG.FAIL_B_ARG : Fld := ⟨0x08C, 19, 0⟩
abbrev MENG.QUEUES_COUNT : Fld := ⟨0x090, 16, 0⟩
abbrev MENG.CNT_COUNT : Fld := ⟨0x094, 31, 0⟩
abbrev TIME.CTRL_SRC : Fld := ⟨0x040, 2, 0⟩
abbrev TIME.CTRL_NO_BACK : Fld := ⟨0x040, 16, 16⟩
abbrev TIME.STAT_STATE : Fld := ⟨0x044, 1, 0⟩
abbrev TIME.STAT_PPS_OK : Fld := ⟨0x044, 2, 2⟩
abbrev TIME.NOW_LO : Fld := ⟨0x048, 31, 0⟩
abbrev TIME.NOW_HI : Fld := ⟨0x04C, 31, 0⟩
abbrev TIME.NOW_FRAC : Fld := ⟨0x050, 31, 0⟩
abbrev TIME.UP_LO : Fld := ⟨0x054, 31, 0⟩
abbrev TIME.UP_HI : Fld := ⟨0x058, 31, 0⟩
abbrev TIME.INC_FRAC : Fld := ⟨0x05C, 31, 0⟩
abbrev TIME.INC_NS : Fld := ⟨0x060, 7, 0⟩
abbrev TIME.STEP_FRAC : Fld := ⟨0x064, 31, 0⟩
abbrev TIME.STEP_LO : Fld := ⟨0x068, 31, 0⟩
abbrev TIME.STEP_HI : Fld := ⟨0x06C, 31, 0⟩
abbrev TIME.STEP_CTRL_GO : Fld := ⟨0x070, 0, 0⟩
abbrev TIME.STEP_THRESH_NS : Fld := ⟨0x074, 31, 0⟩
abbrev TIME.OFFSET_NS : Fld := ⟨0x078, 31, 0⟩
abbrev TIME.SYNC_LOSS_MS : Fld := ⟨0x07C, 15, 0⟩
abbrev TIME.PPS_IGNORED_COUNT : Fld := ⟨0x080, 31, 0⟩
abbrev TIME.PPS_LOSSES_COUNT : Fld := ⟨0x084, 31, 0⟩
abbrev TIME.ZT_SLAVE_PATH : Fld := ⟨0x088, 15, 0⟩
abbrev TIME.ZT_SLAVE_RPATH : Fld := ⟨0x088, 31, 16⟩
abbrev TIME.ZT_MASTER_LO_PORTS : Fld := ⟨0x08C, 31, 0⟩
abbrev TIME.ZT_MASTER_HI_PORTS : Fld := ⟨0x090, 3, 0⟩
abbrev TIME.ZT_CTRL_LOG_INTERVAL : Fld := ⟨0x094, 7, 0⟩
abbrev TIME.PTP_CTRL_ROLE0 : Fld := ⟨0x098, 1, 0⟩
abbrev TIME.PTP_CTRL_ROLE1 : Fld := ⟨0x098, 3, 2⟩
abbrev TIME.PTP_CTRL_DOMAIN : Fld := ⟨0x098, 15, 8⟩
abbrev TIME.PTP_CTRL_LOG_SYNC : Fld := ⟨0x098, 23, 16⟩
abbrev TIME.ZT_ASYM_PS : Fld := ⟨0x09C, 31, 0⟩
abbrev TIME.CORR_IN_PS : Fld := ⟨0x100, 31, 0⟩
abbrev TIME.CORR_OUT_PS : Fld := ⟨0x104, 31, 0⟩
abbrev TIME.PIN_DELAY_IN : Fld := ⟨0x230, 15, 0⟩
abbrev TIME.PIN_DELAY_OUT : Fld := ⟨0x230, 31, 16⟩
abbrev TIME.CAP_CTRL_EDGE : Fld := ⟨0x280, 1, 0⟩
abbrev TIME.CAP_STAT_DEPTH : Fld := ⟨0x284, 4, 0⟩
abbrev TIME.CAP_STAT_FIFO_OVF : Fld := ⟨0x284, 8, 8⟩
abbrev TIME.CAP_TS_LO : Fld := ⟨0x288, 31, 0⟩
abbrev TIME.CAP_TS_HI : Fld := ⟨0x28C, 31, 0⟩
abbrev TIME.CAP_TS_INFO_FRAC : Fld := ⟨0x290, 15, 0⟩
abbrev TIME.CAP_TS_INFO_RISING : Fld := ⟨0x290, 16, 16⟩
abbrev TIME.CAP_TS_INFO_OVERRUN : Fld := ⟨0x290, 17, 17⟩
abbrev TIME.CAP_TS_INFO_VALID : Fld := ⟨0x290, 31, 31⟩
abbrev TRIGGERS.PPS_CTRL_OE : Fld := ⟨0x040, 0, 0⟩
abbrev TRIGGERS.PPS_CTRL_WIDTH : Fld := ⟨0x040, 31, 8⟩
abbrev TRIGGERS.ARMED_MASK : Fld := ⟨0x044, 31, 0⟩
abbrev TRIGGERS.TIME_LO : Fld := ⟨0x100, 31, 0⟩
abbrev TRIGGERS.TIME_HI : Fld := ⟨0x104, 31, 0⟩
abbrev TRIGGERS.PERIOD_NS : Fld := ⟨0x108, 31, 0⟩
abbrev TRIGGERS.CTRL_ARM : Fld := ⟨0x10C, 0, 0⟩
abbrev TRIGGERS.CTRL_OUT_PPS : Fld := ⟨0x10C, 1, 1⟩
abbrev TRIGGERS.CTRL_IRQ : Fld := ⟨0x10C, 2, 2⟩
abbrev TRIGGERS.FIRES_COUNT : Fld := ⟨0x110, 31, 0⟩
abbrev TRIGGERS.MISSED_COUNT : Fld := ⟨0x114, 31, 0⟩
abbrev ENGINE.STAT_TEMP_MAX : Fld := ⟨0x040, 7, 0⟩
abbrev ENGINE.STAT_TEMP_MIN : Fld := ⟨0x040, 15, 8⟩
abbrev ENGINE.STAT_IN_WINDOW : Fld := ⟨0x040, 16, 16⟩
abbrev ENGINE.STAT_SELFTEST_OK : Fld := ⟨0x040, 17, 17⟩
abbrev ENGINE.HEATER_LIMIT_LIMIT : Fld := ⟨0x044, 8, 0⟩
abbrev ENGINE.HEATER_TOTAL_POWER : Fld := ⟨0x048, 15, 0⟩
abbrev ENGINE.POWER_W : Fld := ⟨0x04C, 15, 0⟩
abbrev ENGINE.RINGS_LOCKED : Fld := ⟨0x050, 8, 0⟩
abbrev ENGINE.RINGS_FAILED : Fld := ⟨0x050, 24, 16⟩
abbrev ENGINE.MZI_FAILED : Fld := ⟨0x054, 9, 0⟩
abbrev ENGINE.FW_VER_VERSION : Fld := ⟨0x058, 31, 0⟩
abbrev COMB.CTRL_ARM : Fld := ⟨0x040, 0, 0⟩
abbrev COMB.CTRL_TONE_EN : Fld := ⟨0x040, 1, 1⟩
abbrev COMB.STAT_STATE : Fld := ⟨0x044, 2, 0⟩
abbrev COMB.STAT_LASER_EN : Fld := ⟨0x044, 4, 4⟩
abbrev COMB.STAT_EN_STABLE : Fld := ⟨0x044, 5, 5⟩
abbrev COMB.STAT_SPACING_LOCK : Fld := ⟨0x044, 6, 6⟩
abbrev COMB.STAT_OFFSET_LOCK : Fld := ⟨0x044, 7, 7⟩
abbrev COMB.STAT_TEC_OK : Fld := ⟨0x044, 8, 8⟩
abbrev COMB.STAT_WEAK : Fld := ⟨0x044, 31, 16⟩
abbrev COMB.GRID_ERR_OFFSET : Fld := ⟨0x048, 15, 0⟩
abbrev COMB.GRID_ERR_SPACING : Fld := ⟨0x048, 31, 16⟩
abbrev COMB.LINE_TARGET_POWER : Fld := ⟨0x04C, 15, 0⟩
abbrev COMB.TEC_TEMP : Fld := ⟨0x050, 15, 0⟩
abbrev COMB.TEC_CURRENT : Fld := ⟨0x050, 31, 16⟩
abbrev COMB.ETALON_OFFSET : Fld := ⟨0x054, 15, 0⟩
abbrev COMB.DROPS_LASER_EN : Fld := ⟨0x058, 15, 0⟩
abbrev COMB.DROPS_LOCK_LOSSES : Fld := ⟨0x058, 31, 16⟩
abbrev COMB.LINE_POWER : Fld := ⟨0x060, 15, 0⟩
abbrev COMB.LINE_WEAK : Fld := ⟨0x060, 16, 16⟩
abbrev COMB.LINE_TONE_KHZ : Fld := ⟨0x060, 31, 20⟩
abbrev PORT.CFG_ROLE : Fld := ⟨0x040, 0, 0⟩
abbrev PORT.CFG_LOOPBACK : Fld := ⟨0x040, 1, 1⟩
abbrev PORT.CFG_DAC_RES : Fld := ⟨0x040, 6, 4⟩
abbrev PORT.CFG_RELAUNCH : Fld := ⟨0x040, 8, 8⟩
abbrev PORT.STAT_STATE : Fld := ⟨0x044, 2, 0⟩
abbrev PORT.STAT_RX_LIGHT : Fld := ⟨0x044, 4, 4⟩
abbrev PORT.STAT_OPEN_FIBRE : Fld := ⟨0x044, 5, 5⟩
abbrev PORT.STAT_LAUNCH_LIMIT : Fld := ⟨0x044, 6, 6⟩
abbrev PORT.STAT_DATA_LANES : Fld := ⟨0x044, 11, 8⟩
abbrev PORT.STAT_PAIR : Fld := ⟨0x044, 21, 16⟩
abbrev PORT.STAT_GROUP : Fld := ⟨0x044, 27, 24⟩
abbrev PORT.STAT_ENGINE : Fld := ⟨0x044, 28, 28⟩
abbrev PORT.FIBRE_PWR_IN : Fld := ⟨0x048, 15, 0⟩
abbrev PORT.FIBRE_PWR_OUT : Fld := ⟨0x048, 31, 16⟩
abbrev PORT.TX_STATE_LANE0 : Fld := ⟨0x04C, 3, 0⟩
abbrev PORT.TX_STATE_LANE1 : Fld := ⟨0x04C, 7, 4⟩
abbrev PORT.TX_STATE_LANE2 : Fld := ⟨0x04C, 11, 8⟩
abbrev PORT.TX_STATE_LANE3 : Fld := ⟨0x04C, 15, 12⟩
abbrev PORT.TX_STATE_LANE4 : Fld := ⟨0x04C, 19, 16⟩
abbrev PORT.TX_STATE_LANE5 : Fld := ⟨0x04C, 23, 20⟩
abbrev PORT.TX_STATE_LANE6 : Fld := ⟨0x04C, 27, 24⟩
abbrev PORT.TX_STATE_LANE7 : Fld := ⟨0x04C, 31, 28⟩
abbrev PORT.RX_STATE_LANE0 : Fld := ⟨0x050, 3, 0⟩
abbrev PORT.RX_STATE_LANE1 : Fld := ⟨0x050, 7, 4⟩
abbrev PORT.RX_STATE_LANE2 : Fld := ⟨0x050, 11, 8⟩
abbrev PORT.RX_STATE_LANE3 : Fld := ⟨0x050, 15, 12⟩
abbrev PORT.RX_STATE_LANE4 : Fld := ⟨0x050, 19, 16⟩
abbrev PORT.RX_STATE_LANE5 : Fld := ⟨0x050, 23, 20⟩
abbrev PORT.RX_STATE_LANE6 : Fld := ⟨0x050, 27, 24⟩
abbrev PORT.RX_STATE_LANE7 : Fld := ⟨0x050, 31, 28⟩
abbrev PORT.SPARE_TX_S : Fld := ⟨0x054, 3, 0⟩
abbrev PORT.SPARE_RX_S : Fld := ⟨0x054, 7, 4⟩
abbrev PORT.SPARE_FOR : Fld := ⟨0x054, 11, 8⟩
abbrev PORT.SPARE_PATH : Fld := ⟨0x054, 31, 16⟩
abbrev PORT.TX_EQ_PRE : Fld := ⟨0x058, 5, 0⟩
abbrev PORT.TX_EQ_POST : Fld := ⟨0x058, 13, 8⟩
abbrev PORT.TX_EQ_OVERRIDE : Fld := ⟨0x058, 15, 15⟩
abbrev PORT.FFE_SEL_LANE : Fld := ⟨0x05C, 3, 0⟩
abbrev PORT.FFE_TAPS_LO_TAP0 : Fld := ⟨0x060, 7, 0⟩
abbrev PORT.FFE_TAPS_LO_TAP1 : Fld := ⟨0x060, 15, 8⟩
abbrev PORT.FFE_TAPS_LO_TAP2 : Fld := ⟨0x060, 23, 16⟩
abbrev PORT.FFE_TAPS_LO_TAP3 : Fld := ⟨0x060, 31, 24⟩
abbrev PORT.FFE_TAPS_HI_TAP4 : Fld := ⟨0x064, 7, 0⟩
abbrev PORT.FFE_TAPS_HI_TAP5 : Fld := ⟨0x064, 15, 8⟩
abbrev PORT.FFE_TAPS_HI_TAP6 : Fld := ⟨0x064, 23, 16⟩
abbrev PORT.FFE_TAPS_HI_TAP7 : Fld := ⟨0x064, 31, 24⟩
abbrev PORT.RXBUF01_VC0 : Fld := ⟨0x068, 10, 0⟩
abbrev PORT.RXBUF01_VC1 : Fld := ⟨0x068, 25, 16⟩
abbrev PORT.RXBUF23_VC2 : Fld := ⟨0x06C, 6, 0⟩
abbrev PORT.RXBUF23_VC3 : Fld := ⟨0x06C, 21, 16⟩
abbrev PORT.BER_IN_LIMIT : Fld := ⟨0x070, 31, 0⟩
abbrev PORT.BER_OUT_LIMIT : Fld := ⟨0x074, 31, 0⟩
abbrev PORT.OPEN_FIBRE_CNT_COUNT : Fld := ⟨0x078, 31, 0⟩
abbrev PORT.LAUNCH_LIMIT_CNT_COUNT : Fld := ⟨0x07C, 31, 0⟩
abbrev PORT.VC3_DROP_COUNT : Fld := ⟨0x080, 31, 0⟩
abbrev PORT.FRAMES_OUT_LO : Fld := ⟨0x084, 31, 0⟩
abbrev PORT.FRAMES_OUT_HI : Fld := ⟨0x088, 31, 0⟩
abbrev PORT.FRAMES_IN_LO : Fld := ⟨0x08C, 31, 0⟩
abbrev PORT.FRAMES_IN_HI : Fld := ⟨0x090, 31, 0⟩
abbrev PORT.LCFG_TX_LINE : Fld := ⟨0x100, 3, 0⟩
abbrev PORT.LCFG_TX_ON : Fld := ⟨0x100, 4, 4⟩
abbrev PORT.LCFG_TX_OUT : Fld := ⟨0x100, 6, 5⟩
abbrev PORT.LCFG_RX_LINE : Fld := ⟨0x100, 11, 8⟩
abbrev PORT.LCFG_RX_DROP : Fld := ⟨0x100, 12, 12⟩
abbrev PORT.LCFG_RX_HOPS : Fld := ⟨0x100, 14, 13⟩
abbrev PORT.LCFG_TX_HOME : Fld := ⟨0x100, 19, 16⟩
abbrev PORT.LCFG_RX_HOME : Fld := ⟨0x100, 23, 20⟩
abbrev PORT.LSTAT_TX_STATE : Fld := ⟨0x104, 3, 0⟩
abbrev PORT.LSTAT_RX_STATE : Fld := ⟨0x104, 7, 4⟩
abbrev PORT.LSTAT_TONE_OK : Fld := ⟨0x104, 8, 8⟩
abbrev PORT.LSTAT_ID_OK : Fld := ⟨0x104, 9, 9⟩
abbrev PORT.LSTAT_BER_OK : Fld := ⟨0x104, 10, 10⟩
abbrev PORT.LSTAT_RX_OK_FAR : Fld := ⟨0x104, 11, 11⟩
abbrev PORT.LSTAT_FAIL_CAUSE : Fld := ⟨0x104, 15, 12⟩
abbrev PORT.RX_POWER_POWER : Fld := ⟨0x108, 15, 0⟩
abbrev PORT.RX_POWER_MARGIN : Fld := ⟨0x108, 31, 16⟩
abbrev PORT.BER_EST_VALUE : Fld := ⟨0x10C, 31, 0⟩
abbrev PORT.FEC_SYM_COUNT : Fld := ⟨0x110, 31, 0⟩
abbrev PORT.FEC_UNCORR_COUNT : Fld := ⟨0x114, 31, 0⟩
abbrev PORT.CRC_ERR_COUNT : Fld := ⟨0x118, 31, 0⟩
abbrev PORT.OUT_COUNT_COUNT : Fld := ⟨0x11C, 31, 0⟩
abbrev XRDS.PLAN_CTRL_CHECK : Fld := ⟨0x040, 0, 0⟩
abbrev XRDS.PLAN_CTRL_ARM : Fld := ⟨0x040, 1, 1⟩
abbrev XRDS.PLAN_CTRL_CANCEL : Fld := ⟨0x040, 2, 2⟩
abbrev XRDS.PLAN_CTRL_CLEAR : Fld := ⟨0x040, 3, 3⟩
abbrev XRDS.PLAN_CTRL_COPY_ACTIVE : Fld := ⟨0x040, 4, 4⟩
abbrev XRDS.CMD_CLAIM_LO : Fld := ⟨0x044, 31, 0⟩
abbrev XRDS.CMD_CLAIM_HI : Fld := ⟨0x048, 31, 0⟩
abbrev XRDS.CMD_STAT_CODE : Fld := ⟨0x04C, 7, 0⟩
abbrev XRDS.CMD_STAT_CMD : Fld := ⟨0x04C, 12, 8⟩
abbrev XRDS.CMD_STAT_BUSY : Fld := ⟨0x04C, 16, 16⟩
abbrev XRDS.STAGE_ADDR_OFFSET : Fld := ⟨0x050, 16, 0⟩
abbrev XRDS.STAGE_DATA_DATA : Fld := ⟨0x054, 31, 0⟩
abbrev XRDS.ACTIVE_ADDR_OFFSET : Fld := ⟨0x058, 16, 0⟩
abbrev XRDS.ACTIVE_DATA_DATA : Fld := ⟨0x05C, 31, 0⟩
abbrev XRDS.STAGE_STAT_STATE : Fld := ⟨0x060, 2, 0⟩
abbrev XRDS.STAGE_STAT_OWNER : Fld := ⟨0x060, 6, 4⟩
abbrev XRDS.ACTIVE_EPOCH_VALUE : Fld := ⟨0x064, 31, 0⟩
abbrev XRDS.STAGED_EPOCH_VALUE : Fld := ⟨0x068, 31, 0⟩
abbrev XRDS.PLAN_T_LO : Fld := ⟨0x06C, 31, 0⟩
abbrev XRDS.PLAN_T_HI : Fld := ⟨0x070, 31, 0⟩
abbrev XRDS.CHK_RESULT_CODE : Fld := ⟨0x074, 7, 0⟩
abbrev XRDS.CHK_RESULT_SECTION : Fld := ⟨0x074, 11, 8⟩
abbrev XRDS.CHK_RESULT_LINE : Fld := ⟨0x074, 15, 12⟩
abbrev XRDS.CHK_RESULT_INDEX : Fld := ⟨0x074, 31, 16⟩
abbrev XRDS.CHK_TIME_US : Fld := ⟨0x078, 8, 0⟩
abbrev XRDS.SWITCHES_COUNT : Fld := ⟨0x07C, 31, 0⟩
abbrev XRDS.PROTO_MAJOR : Fld := ⟨0x080, 7, 0⟩
abbrev XRDS.PROTO_MINOR : Fld := ⟨0x080, 15, 8⟩
abbrev XRDS.COORD_X : Fld := ⟨0x084, 5, 0⟩
abbrev XRDS.COORD_Y : Fld := ⟨0x084, 13, 8⟩
abbrev XRDS.COORD_Z : Fld := ⟨0x084, 21, 16⟩
abbrev XRDS.COORD_VALID : Fld := ⟨0x084, 31, 31⟩
abbrev XRDS.DISC_STAT_FORMED : Fld := ⟨0x088, 0, 0⟩
abbrev XRDS.DISC_STAT_IN_PATHS : Fld := ⟨0x088, 15, 4⟩
abbrev XRDS.DISC_STAT_IN_UP : Fld := ⟨0x088, 27, 16⟩
abbrev XRDS.DISC_WAIT_MS : Fld := ⟨0x08C, 15, 0⟩
abbrev XRDS.MISSING_LO_PORTS : Fld := ⟨0x090, 31, 0⟩
abbrev XRDS.MISSING_HI_PORTS : Fld := ⟨0x094, 3, 0⟩
abbrev XRDS.EXTRA_LO_PORTS : Fld := ⟨0x098, 31, 0⟩
abbrev XRDS.EXTRA_HI_PORTS : Fld := ⟨0x09C, 3, 0⟩
abbrev XRDS.MISMATCH_LO_PORTS : Fld := ⟨0x0A0, 31, 0⟩
abbrev XRDS.MISMATCH_HI_PORTS : Fld := ⟨0x0A4, 3, 0⟩
abbrev XRDS.MAINT_LO_PORTS : Fld := ⟨0x0A8, 31, 0⟩
abbrev XRDS.MAINT_HI_PORTS : Fld := ⟨0x0AC, 3, 0⟩
abbrev XRDS.STEER_CNT_COUNT : Fld := ⟨0x0B0, 31, 0⟩
abbrev XRDS_ID.ID_SERIAL_LO : Fld := ⟨0x040, 31, 0⟩
abbrev XRDS_ID.ID_SERIAL_HI : Fld := ⟨0x044, 31, 0⟩
abbrev XRDS_ID.ID_INFO_PORT : Fld := ⟨0x048, 5, 0⟩
abbrev XRDS_ID.ID_INFO_LANE : Fld := ⟨0x048, 11, 8⟩
abbrev XRDS_ID.ID_INFO_MAJOR : Fld := ⟨0x048, 23, 16⟩
abbrev XRDS_ID.ID_INFO_MINOR : Fld := ⟨0x048, 31, 24⟩
abbrev XRDS_ID.ID_FW_VERSION : Fld := ⟨0x04C, 31, 0⟩
abbrev XRDS_ID.ID_EPOCH_PLAN : Fld := ⟨0x050, 31, 0⟩
abbrev XRDS_ID.ID_PATH_PATH : Fld := ⟨0x054, 15, 0⟩
abbrev XRDS_ID.ID_PATH_STATE : Fld := ⟨0x054, 19, 16⟩
abbrev XRDS_ID.ID_PATH_OP_MINOR : Fld := ⟨0x054, 31, 24⟩
abbrev XRDS_ID.ID_SEEN_AGE_MS : Fld := ⟨0x058, 15, 0⟩
abbrev XRDS_ID.ID_SEEN_COUNT : Fld := ⟨0x058, 31, 16⟩
abbrev XRDS_ID.ID_INC_EPOCH : Fld := ⟨0x05C, 31, 0⟩
abbrev XRDS_FREE.FREE_ACT_TX : Fld := ⟨0x040, 15, 0⟩
abbrev XRDS_FREE.FREE_ACT_RX : Fld := ⟨0x040, 31, 16⟩
abbrev XRDS_FREE.FREE_STG_TX : Fld := ⟨0x044, 15, 0⟩
abbrev XRDS_FREE.FREE_STG_RX : Fld := ⟨0x044, 31, 16⟩
abbrev XRDS_FREE.SLICE_DROP_COUNT : Fld := ⟨0x180, 31, 0⟩
abbrev MILLRACE.STAT_RUNNING : Fld := ⟨0x040, 11, 0⟩
abbrev MILLRACE.STAT_LOCKED : Fld := ⟨0x040, 27, 16⟩
abbrev MILLRACE.LOAD_MEAN : Fld := ⟨0x044, 7, 0⟩
abbrev MILLRACE.LOAD_PEAK : Fld := ⟨0x044, 15, 8⟩
abbrev MILLRACE.CONV_LOAD_MEAN0 : Fld := ⟨0x048, 7, 0⟩
abbrev MILLRACE.CONV_LOAD_PEAK0 : Fld := ⟨0x048, 15, 8⟩
abbrev MILLRACE.CONV_LOAD_MEAN1 : Fld := ⟨0x048, 23, 16⟩
abbrev MILLRACE.CONV_LOAD_PEAK1 : Fld := ⟨0x048, 31, 24⟩
abbrev MILLRACE.FLOOR_RM_RING : Fld := ⟨0x04C, 15, 0⟩
abbrev MILLRACE.FLOOR_RM_MZI : Fld := ⟨0x04C, 31, 16⟩
abbrev MILLRACE.FLOOR_C_COMB : Fld := ⟨0x050, 15, 0⟩
abbrev MILLRACE.PLAUS_WINDOW_GHZ : Fld := ⟨0x054, 7, 0⟩
abbrev MILLRACE.PLAUS_COUNT : Fld := ⟨0x054, 11, 8⟩
abbrev MILLRACE.LOCK_LOCK_WIN : Fld := ⟨0x058, 15, 0⟩
abbrev MILLRACE.LOCK_IN : Fld := ⟨0x058, 20, 16⟩
abbrev MILLRACE.LOCK_OUT : Fld := ⟨0x058, 27, 24⟩
abbrev MILLRACE.ACQ_SETTLE_US : Fld := ⟨0x05C, 15, 0⟩
abbrev MILLRACE.ACQ_TIMEOUT_US : Fld := ⟨0x05C, 31, 16⟩
abbrev MILLRACE.LOST_LOST_US : Fld := ⟨0x060, 15, 0⟩
abbrev MILLRACE.LOST_FROZEN_N : Fld := ⟨0x060, 23, 16⟩
abbrev MILLRACE.TRIM_LIMIT_LIMIT : Fld := ⟨0x064, 17, 0⟩
abbrev MILLRACE.FF_TAU_TAU0 : Fld := ⟨0x068, 15, 0⟩
abbrev MILLRACE.FF_TAU_TAU1 : Fld := ⟨0x068, 31, 16⟩
abbrev MILLRACE.THERM_LIMIT : Fld := ⟨0x06C, 7, 0⟩
abbrev MILLRACE.THERM_STEPS : Fld := ⟨0x06C, 15, 8⟩
abbrev MILLRACE.GOV_CTRL_LIMIT_W : Fld := ⟨0x070, 6, 0⟩
abbrev MILLRACE.GOV_P_EST : Fld := ⟨0x074, 15, 0⟩
abbrev MILLRACE.GOV_FLOOR : Fld := ⟨0x074, 31, 16⟩
abbrev MILLRACE.TEL_P_NOW : Fld := ⟨0x084, 15, 0⟩
abbrev MILLRACE.TEL_T_NOW : Fld := ⟨0x084, 23, 16⟩
abbrev MILLRACE.TEL_SLEW : Fld := ⟨0x084, 31, 24⟩
abbrev MILLRACE.SLOT_SEL_SLOT : Fld := ⟨0x094, 10, 0⟩
abbrev MILLRACE.SLOT_STAT_STATE : Fld := ⟨0x098, 2, 0⟩
abbrev MILLRACE.SLOT_STAT_FLAGS : Fld := ⟨0x098, 15, 8⟩
abbrev MILLRACE.SLOT_STAT_FRAMES : Fld := ⟨0x098, 31, 16⟩
abbrev MILLRACE.SLOT_CODE_CODE : Fld := ⟨0x09C, 15, 0⟩
abbrev MILLRACE.SLOT_CODE_PRED : Fld := ⟨0x09C, 31, 16⟩
abbrev MILLRACE.SLOT_ERR_E : Fld := ⟨0x0A0, 17, 0⟩
abbrev MILLRACE.SLOT_Y_Y : Fld := ⟨0x0A4, 23, 0⟩
abbrev MILLRACE.SLOT_FF_FF : Fld := ⟨0x0A8, 23, 0⟩
abbrev MILLRACE.SLOT_TRIM_TRIM : Fld := ⟨0x0AC, 17, 0⟩
abbrev MILLRACE.SLOT_DEV_DEV_GHZ : Fld := ⟨0x0B0, 15, 0⟩
abbrev MILLRACE.SLOT_CNT_MISSES : Fld := ⟨0x0B4, 15, 0⟩
abbrev MILLRACE.SLOT_CNT_ACQ_FAILS : Fld := ⟨0x0B4, 31, 16⟩
abbrev MILLRACE.FLAG_FIFO_SLOT : Fld := ⟨0x0B8, 10, 0⟩
abbrev MILLRACE.FLAG_FIFO_CODE : Fld := ⟨0x0B8, 15, 12⟩
abbrev MILLRACE.FLAG_FIFO_OVERFLOW : Fld := ⟨0x0B8, 30, 30⟩
abbrev MILLRACE.FLAG_FIFO_VALID : Fld := ⟨0x0B8, 31, 31⟩
abbrev MILLRACE.DEADLINE_MISS_COUNT : Fld := ⟨0x0BC, 31, 0⟩
abbrev MILLRACE.MISLOCKS_COUNT : Fld := ⟨0x0C0, 31, 0⟩
abbrev MILLRACE.FEEDBACK_LOSTS_COUNT : Fld := ⟨0x0C4, 31, 0⟩
abbrev MILLRACE.ACQ_FAILS_COUNT : Fld := ⟨0x0C8, 31, 0⟩
abbrev MILLRACE.DESC_CORR_COUNT : Fld := ⟨0x0CC, 31, 0⟩
abbrev MILLRACE.TRACE_CTRL_ARM : Fld := ⟨0x0D0, 15, 0⟩
abbrev MILLRACE.TRACE_CTRL_FROZEN : Fld := ⟨0x0D0, 31, 16⟩
abbrev MILLRACE.TRACE_SEL_SOURCE : Fld := ⟨0x100, 10, 0⟩
abbrev MILLRACE.TRACE_SEL_NODE : Fld := ⟨0x100, 19, 16⟩
abbrev MILLRACE.TRACE_SEL_FREEZE_ON : Fld := ⟨0x100, 23, 20⟩
abbrev MILLRACE.TRACE_SEL_POST : Fld := ⟨0x100, 31, 24⟩
abbrev MILLRACE.TRACE_STAT_NEXT : Fld := ⟨0x104, 11, 0⟩
abbrev MILLRACE.TRACE_STAT_WRAPPED : Fld := ⟨0x104, 12, 12⟩
abbrev MILLRACE.TRACE_STAT_FROZEN : Fld := ⟨0x104, 13, 13⟩
abbrev MILLRACE.TRACE_STAT_SAMPLES : Fld := ⟨0x104, 31, 16⟩
abbrev MILLRACE.ATTN_SLOTS : Fld := ⟨0x180, 31, 0⟩
abbrev CLAIM.CURRENT_LO : Fld := ⟨0x040, 31, 0⟩
abbrev CLAIM.CURRENT_HI : Fld := ⟨0x044, 31, 0⟩
abbrev CLAIM.PRESENT_LO : Fld := ⟨0x048, 31, 0⟩
abbrev CLAIM.PRESENT_HI : Fld := ⟨0x04C, 31, 0⟩
abbrev CLAIM.CTRL_PRESENT : Fld := ⟨0x050, 0, 0⟩
abbrev CLAIM.RESULT_CODE : Fld := ⟨0x054, 7, 0⟩
abbrev CLAIM.RESULT_RAISED : Fld := ⟨0x054, 8, 8⟩
abbrev CLAIM.STAT_LOST : Fld := ⟨0x058, 0, 0⟩
abbrev CLAIM.STAT_LAST_PATH : Fld := ⟨0x058, 6, 4⟩
abbrev CLAIM.STAT_ARMED : Fld := ⟨0x058, 8, 8⟩
abbrev CLAIM.RAISES_COUNT : Fld := ⟨0x05C, 31, 0⟩
abbrev CLAIM.STALE_COUNT : Fld := ⟨0x060, 31, 0⟩
abbrev CLAIM.LAST_STALE_LO : Fld := ⟨0x064, 31, 0⟩
abbrev CLAIM.LAST_STALE_HI : Fld := ⟨0x068, 31, 0⟩
abbrev CLAIM.LAST_STALE_INFO_PATH : Fld := ⟨0x06C, 2, 0⟩
abbrev CLAIM.LAST_STALE_INFO_CMD : Fld := ⟨0x06C, 12, 8⟩
abbrev CLAIM.LAST_STALE_INFO_PRESENT : Fld := ⟨0x06C, 13, 13⟩
abbrev CLAIM.RAISED_T_LO : Fld := ⟨0x070, 31, 0⟩
abbrev CLAIM.RAISED_T_HI : Fld := ⟨0x074, 31, 0⟩
abbrev CLAIM.SW_STAT_STATE : Fld := ⟨0x080, 2, 0⟩
abbrev CLAIM.SW_STAT_AFFECTED : Fld := ⟨0x080, 13, 4⟩
abbrev CLAIM.SW_STAT_NOT_UP : Fld := ⟨0x080, 25, 16⟩
abbrev CLAIM.SW_OLD_EPOCH_VALUE : Fld := ⟨0x084, 31, 0⟩
abbrev CLAIM.SW_NEW_EPOCH_VALUE : Fld := ⟨0x088, 31, 0⟩
abbrev CLAIM.SW_T_LO : Fld := ⟨0x08C, 31, 0⟩
abbrev CLAIM.SW_T_HI : Fld := ⟨0x090, 31, 0⟩
abbrev CLAIM.SW_CLAIM_LO : Fld := ⟨0x094, 31, 0⟩
abbrev CLAIM.SW_CLAIM_HI : Fld := ⟨0x098, 31, 0⟩
abbrev CLAIM.SW_NOTUP_LO_PORTS : Fld := ⟨0x09C, 31, 0⟩
abbrev CLAIM.SW_NOTUP_HI_PORTS : Fld := ⟨0x0A0, 3, 0⟩
abbrev CLAIM.SW_LAST_UP_US : Fld := ⟨0x0A4, 15, 0⟩
abbrev CLAIM.SW_SKEW_COUNT : Fld := ⟨0x0A8, 15, 0⟩
abbrev CLAIM.SW_SKEW_PORT : Fld := ⟨0x0A8, 21, 16⟩
abbrev CLAIM.SW_SKEW_VALID : Fld := ⟨0x0A8, 31, 31⟩
abbrev CLAIM.SW_SKEW_PEER_X : Fld := ⟨0x0AC, 5, 0⟩
abbrev CLAIM.SW_SKEW_PEER_Y : Fld := ⟨0x0AC, 13, 8⟩
abbrev CLAIM.SW_SKEW_PEER_Z : Fld := ⟨0x0AC, 21, 16⟩
abbrev CLAIM.SW_SKEW_EPOCH_VALUE : Fld := ⟨0x0B0, 31, 0⟩
abbrev HOSTWIN.WIN_STAT_HOST : Fld := ⟨0x040, 14, 0⟩
abbrev HOSTWIN.WIN_STAT_MODULE : Fld := ⟨0x040, 30, 16⟩
abbrev HOSTWIN.HANDOFF_SLOT : Fld := ⟨0x044, 13, 0⟩
abbrev HOSTWIN.HANDOFF_COUNT : Fld := ⟨0x044, 27, 14⟩
abbrev HOSTWIN.HANDOFF_FROM : Fld := ⟨0x044, 28, 28⟩
abbrev HOSTWIN.HANDOFF_NOTIFY : Fld := ⟨0x044, 29, 29⟩
abbrev HOSTWIN.HANDOFF_STAT_CODE : Fld := ⟨0x048, 1, 0⟩
abbrev HOSTWIN.HANDOFF_STAT_SLOT : Fld := ⟨0x048, 29, 16⟩
abbrev HOSTWIN.NOTIFY_FIFO_SLOT : Fld := ⟨0x04C, 13, 0⟩
abbrev HOSTWIN.NOTIFY_FIFO_COUNT : Fld := ⟨0x04C, 27, 14⟩
abbrev HOSTWIN.NOTIFY_FIFO_OVERFLOW : Fld := ⟨0x04C, 30, 30⟩
abbrev HOSTWIN.NOTIFY_FIFO_VALID : Fld := ⟨0x04C, 31, 31⟩
abbrev HOSTWIN.WRITE_DROP_COUNT : Fld := ⟨0x050, 31, 0⟩
abbrev HOSTWIN.READ_DENIED_COUNT : Fld := ⟨0x054, 31, 0⟩
abbrev HOSTWIN.UNMAPPED_COUNT : Fld := ⟨0x058, 31, 0⟩
abbrev HOSTWIN.LAST_DROP_SLOT : Fld := ⟨0x05C, 13, 0⟩
abbrev HOSTWIN.LAST_DROP_OFFSET : Fld := ⟨0x05C, 29, 14⟩
abbrev HOSTWIN.LAST_DROP_VALID : Fld := ⟨0x05C, 31, 31⟩
abbrev HOSTWIN.MBOX_CTRL_GO : Fld := ⟨0x060, 0, 0⟩
abbrev HOSTWIN.MBOX_STAT_BUSY : Fld := ⟨0x064, 0, 0⟩
abbrev HOSTWIN.MBOX_STAT_DONE : Fld := ⟨0x064, 1, 1⟩
abbrev HOSTWIN.LINK_RATE : Fld := ⟨0x068, 2, 0⟩
abbrev HOSTWIN.LINK_WIDTH : Fld := ⟨0x068, 8, 4⟩
abbrev HOSTWIN.LINK_FLIT : Fld := ⟨0x068, 9, 9⟩
abbrev HOSTWIN.LINK_DOWNTRAINED : Fld := ⟨0x068, 10, 10⟩
abbrev HOSTWIN.LINK_RETRAINS : Fld := ⟨0x068, 31, 16⟩
abbrev HOSTWIN.SEG_BASE_LO_VALID : Fld := ⟨0x080, 0, 0⟩
abbrev HOSTWIN.SEG_BASE_LO_ADDR : Fld := ⟨0x080, 31, 26⟩
abbrev HOSTWIN.SEG_BASE_HI_ADDR : Fld := ⟨0x084, 7, 0⟩
abbrev HOSTWIN.MBOX_REQ : Fld := ⟨0x100, 31, 0⟩
abbrev HOSTWIN.MBOX_RSP : Fld := ⟨0x480, 31, 0⟩
abbrev HOSTWIN.OWN_SLOTS : Fld := ⟨0x800, 31, 0⟩
abbrev MGMT.CTRL_PROTO_EN : Fld := ⟨0x040, 0, 0⟩
abbrev MGMT.STAT_LINK_UP : Fld := ⟨0x044, 0, 0⟩
abbrev MGMT.MAC_LO : Fld := ⟨0x048, 31, 0⟩
abbrev MGMT.MAC_HI : Fld := ⟨0x04C, 15, 0⟩
abbrev MGMT.ADDR : Fld := ⟨0x050, 31, 0⟩
abbrev MGMT.PREFIX_LEN : Fld := ⟨0x060, 7, 0⟩
abbrev MGMT.PREFIX_VALID : Fld := ⟨0x060, 8, 8⟩
abbrev MGMT.UDP_PORT_PORT : Fld := ⟨0x064, 15, 0⟩
abbrev MGMT.RX_FRAMES : Fld := ⟨0x068, 31, 0⟩
abbrev MGMT.TX_FRAMES : Fld := ⟨0x06C, 31, 0⟩
abbrev MGMT.RX_ERR : Fld := ⟨0x070, 31, 0⟩
abbrev MGMT.RX_DROP : Fld := ⟨0x074, 31, 0⟩
abbrev MGMT.REQUESTS : Fld := ⟨0x078, 31, 0⟩
abbrev MGMT.REQ_ERR : Fld := ⟨0x07C, 31, 0⟩
abbrev MGMT.DUP : Fld := ⟨0x080, 31, 0⟩
abbrev MGMT.HELD_DROP : Fld := ⟨0x084, 31, 0⟩
abbrev BELFRY.GCTRL_DISABLE : Fld := ⟨0x040, 0, 0⟩
abbrev BELFRY.GSTAT_PENDING : Fld := ⟨0x044, 10, 0⟩
abbrev BELFRY.GSTAT_CLAIMED : Fld := ⟨0x044, 26, 16⟩
abbrev BELFRY.SW_SET_LATCH : Fld := ⟨0x048, 15, 0⟩
abbrev BELFRY.SW_CLR_LATCH : Fld := ⟨0x04C, 15, 0⟩
abbrev BELFRY.THRESH_THRESH : Fld := ⟨0x060, 3, 0⟩
abbrev BELFRY.CLAIM_ID : Fld := ⟨0x064, 9, 0⟩
abbrev BELFRY.COMPLETE_ID : Fld := ⟨0x068, 9, 0⟩
abbrev BELFRY.TOP_ID : Fld := ⟨0x06C, 9, 0⟩
abbrev BELFRY.TOP_PRIO : Fld := ⟨0x06C, 19, 16⟩
abbrev BELFRY.RUN_PRIO : Fld := ⟨0x070, 3, 0⟩
abbrev BELFRY.RUN_DEPTH : Fld := ⟨0x070, 11, 8⟩
abbrev BELFRY.LINE_LINE : Fld := ⟨0x074, 0, 0⟩
abbrev BELFRY.LINE_ASLEEP : Fld := ⟨0x074, 1, 1⟩
abbrev BELFRY.LINE_WAKE : Fld := ⟨0x074, 2, 2⟩
abbrev BELFRY_SRC.SRC_CFG_PRIO : Fld := ⟨0x040, 3, 0⟩
abbrev BELFRY_SRC.SRC_CFG_SENSE : Fld := ⟨0x040, 6, 4⟩
abbrev BELFRY_SRC.SRC_CFG_MASK : Fld := ⟨0x040, 7, 7⟩
abbrev BELFRY_SRC.SRC_CFG_TARGET : Fld := ⟨0x040, 10, 8⟩
abbrev BELFRY_SRC.SRC_CFG_PEND : Fld := ⟨0x040, 16, 16⟩
abbrev BELFRY_SRC.SRC_CFG_CLAIMED : Fld := ⟨0x040, 17, 17⟩
abbrev BELFRY_SRC.SRC_CFG_CLAIMANT : Fld := ⟨0x040, 20, 18⟩
abbrev BELFRY_SRC.SRC_CFG_LEVEL : Fld := ⟨0x040, 21, 21⟩
abbrev BELFRY_SRC.SRC_CFG_OVERRUN : Fld := ⟨0x040, 22, 22⟩
abbrev BELFRY_SRC.SRC_CFG_CLAIM_PRIO : Fld := ⟨0x040, 27, 24⟩
abbrev BELFRY_SRC.FIRE_COUNT_EVEN : Fld := ⟨0x840, 15, 0⟩
abbrev BELFRY_SRC.FIRE_COUNT_ODD : Fld := ⟨0x840, 31, 16⟩
abbrev BELFRY_SUM.PEND : Fld := ⟨0x040, 31, 0⟩
abbrev BELFRY_SUM.CLAIMED : Fld := ⟨0x0C0, 31, 0⟩
abbrev BELFRY_SUM.OVERRUN : Fld := ⟨0x140, 31, 0⟩
abbrev BELFRY_SUM.LEVEL : Fld := ⟨0x1C0, 31, 0⟩
abbrev RESET.CAUSE_POR : Fld := ⟨0x040, 0, 0⟩
abbrev RESET.CAUSE_BROWNOUT : Fld := ⟨0x040, 1, 1⟩
abbrev RESET.CAUSE_PERST : Fld := ⟨0x040, 2, 2⟩
abbrev RESET.CAUSE_WDT_REEVE : Fld := ⟨0x040, 3, 3⟩
abbrev RESET.CAUSE_THERM_TRIP : Fld := ⟨0x040, 4, 4⟩
abbrev RESET.CAUSE_CRIT_ECC : Fld := ⟨0x040, 5, 5⟩
abbrev RESET.CAUSE_SW_MODULE : Fld := ⟨0x040, 6, 6⟩
abbrev RESET.CAUSE_MGMT_CMD : Fld := ⟨0x040, 7, 7⟩
abbrev RESET.CAUSE_MILLRACE_FATAL : Fld := ⟨0x040, 8, 8⟩
abbrev RESET.LAST_TYPE : Fld := ⟨0x044, 1, 0⟩
abbrev RESET.LAST_SOURCE : Fld := ⟨0x044, 7, 4⟩
abbrev RESET.LAST_HELD_OFF : Fld := ⟨0x044, 8, 8⟩
abbrev RESET.LAST_SUPERSEDED : Fld := ⟨0x044, 9, 9⟩
abbrev RESET.CTRL_MODULE : Fld := ⟨0x048, 0, 0⟩
abbrev RESET.CTRL_REEVE : Fld := ⟨0x048, 1, 1⟩
abbrev RESET.CTRL_KEY : Fld := ⟨0x048, 31, 16⟩
abbrev RESET.WDT_CTRL_PERIOD_MS : Fld := ⟨0x04C, 15, 0⟩
abbrev RESET.WDT_CTRL_EN : Fld := ⟨0x04C, 16, 16⟩
abbrev RESET.WDT_KICK_KEY : Fld := ⟨0x050, 15, 0⟩
abbrev RESET.WDT_STAT_STAGE : Fld := ⟨0x054, 1, 0⟩
abbrev RESET.WDT_STAT_REMAIN_MS : Fld := ⟨0x054, 31, 16⟩
abbrev RESET.COUNTS_MODULE : Fld := ⟨0x058, 15, 0⟩
abbrev RESET.COUNTS_WARM : Fld := ⟨0x058, 31, 16⟩
abbrev RESET.LAST_UP_LO : Fld := ⟨0x05C, 31, 0⟩
abbrev RESET.LAST_UP_HI : Fld := ⟨0x060, 31, 0⟩
abbrev POWER.STATE_STATE : Fld := ⟨0x040, 1, 0⟩
abbrev POWER.STATE_HOLD : Fld := ⟨0x040, 4, 4⟩
abbrev POWER.STATE_DEGRADED : Fld := ⟨0x040, 5, 5⟩
abbrev POWER.STATE_THERM_HOLD : Fld := ⟨0x040, 6, 6⟩
abbrev POWER.STATE_PERST_HOLD : Fld := ⟨0x040, 7, 7⟩
abbrev POWER.STATE_STEP : Fld := ⟨0x040, 10, 8⟩
abbrev POWER.CTRL_RESUME : Fld := ⟨0x044, 0, 0⟩
abbrev POWER.CTRL_STAY_STANDBY : Fld := ⟨0x044, 1, 1⟩
abbrev POWER.CTRL_CAP_W : Fld := ⟨0x044, 31, 16⟩
abbrev POWER.INPUT_VOLTS : Fld := ⟨0x048, 15, 0⟩
abbrev POWER.INPUT_AMPS : Fld := ⟨0x048, 31, 16⟩
abbrev POWER.INPUT_PWR_W : Fld := ⟨0x04C, 15, 0⟩
abbrev POWER.INPUT_PWR_PEAK_W : Fld := ⟨0x04C, 31, 16⟩
abbrev POWER.BULK_VOLTS : Fld := ⟨0x050, 15, 0⟩
abbrev POWER.BULK_AUX_W : Fld := ⟨0x050, 31, 16⟩
abbrev POWER.RAILS_AUX_OK : Fld := ⟨0x054, 0, 0⟩
abbrev POWER.RAILS_MAIN_OK : Fld := ⟨0x054, 1, 1⟩
abbrev POWER.RAILS_CORE_OK : Fld := ⟨0x054, 5, 2⟩
abbrev POWER.RAILS_HBM_OK : Fld := ⟨0x054, 13, 6⟩
abbrev POWER.RAILS_OE_OK : Fld := ⟨0x054, 15, 14⟩
abbrev POWER.COOLANT_INLET : Fld := ⟨0x058, 7, 0⟩
abbrev POWER.COOLANT_OUTLET : Fld := ⟨0x058, 15, 8⟩
abbrev POWER.THERM_HOTTEST : Fld := ⟨0x05C, 7, 0⟩
abbrev POWER.THERM_SOURCE : Fld := ⟨0x05C, 15, 8⟩
abbrev POWER.THERM_WARN : Fld := ⟨0x05C, 16, 16⟩
abbrev POWER.THERM_TRIPPED : Fld := ⟨0x05C, 17, 17⟩
abbrev POWER.ALERT_STAT : Fld := ⟨0x060, 7, 0⟩
abbrev POWER.ALERT_EN : Fld := ⟨0x064, 7, 0⟩
abbrev POWER.LC_STATE : Fld := ⟨0x068, 1, 0⟩
abbrev POWER.LC_TARGET : Fld := ⟨0x068, 5, 4⟩
abbrev POWER.LC_KEY : Fld := ⟨0x068, 31, 16⟩
abbrev POWER.CAP_STAT_ENGAGED : Fld := ⟨0x06C, 0, 0⟩
abbrev POWER.CAP_STAT_COUNT : Fld := ⟨0x06C, 31, 16⟩
abbrev BACKUP.STAT_LOST : Fld := ⟨0x040, 0, 0⟩
abbrev BACKUP.STAT_CHARGED : Fld := ⟨0x040, 1, 1⟩
abbrev BACKUP.STAT_CAP_MV : Fld := ⟨0x040, 31, 16⟩
abbrev BACKUP.EPOCH_VALUE : Fld := ⟨0x044, 31, 0⟩
abbrev BACKUP.PRIV_A_POR : Fld := ⟨0x048, 15, 0⟩
abbrev BACKUP.PRIV_A_BROWNOUT : Fld := ⟨0x048, 31, 16⟩
abbrev BACKUP.PRIV_B_THERM_TRIP : Fld := ⟨0x04C, 15, 0⟩
abbrev BACKUP.PRIV_B_CRIT_ECC : Fld := ⟨0x04C, 31, 16⟩
abbrev BACKUP.PRIV_TOTAL_COUNT : Fld := ⟨0x050, 31, 0⟩
abbrev BACKUP.CRIT_INFO_TYPE : Fld := ⟨0x054, 15, 0⟩
abbrev BACKUP.CRIT_INFO_KIND : Fld := ⟨0x054, 19, 16⟩
abbrev BACKUP.CRIT_INFO_VALID : Fld := ⟨0x054, 31, 31⟩
abbrev BACKUP.CRIT_ADDR_LO : Fld := ⟨0x058, 31, 0⟩
abbrev BACKUP.CRIT_ADDR_HI : Fld := ⟨0x05C, 31, 0⟩
abbrev SELFTEST.RESULT_STATE : Fld := ⟨0x040, 1, 0⟩
abbrev SELFTEST.RESULT_OUTCOME : Fld := ⟨0x040, 5, 4⟩
abbrev SELFTEST.RESULT_STEP : Fld := ⟨0x040, 10, 8⟩
abbrev SELFTEST.RESULT_FIRST_FAIL : Fld := ⟨0x040, 19, 16⟩
abbrev SELFTEST.ITEMS_OUT0 : Fld := ⟨0x044, 1, 0⟩
abbrev SELFTEST.ITEMS_OUT1 : Fld := ⟨0x044, 3, 2⟩
abbrev SELFTEST.ITEMS_OUT2 : Fld := ⟨0x044, 5, 4⟩
abbrev SELFTEST.ITEMS_OUT3 : Fld := ⟨0x044, 7, 6⟩
abbrev SELFTEST.ITEMS_OUT4 : Fld := ⟨0x044, 9, 8⟩
abbrev SELFTEST.ITEMS_OUT5 : Fld := ⟨0x044, 11, 10⟩
abbrev SELFTEST.ITEMS_OUT6 : Fld := ⟨0x044, 13, 12⟩
abbrev SELFTEST.ITEMS_OUT7 : Fld := ⟨0x044, 15, 14⟩
abbrev SELFTEST.ITEMS_OUT8 : Fld := ⟨0x044, 17, 16⟩
abbrev SELFTEST.ITEMS_OUT9 : Fld := ⟨0x044, 19, 18⟩
abbrev SELFTEST.ITEMS_OUT10 : Fld := ⟨0x044, 21, 20⟩
abbrev SELFTEST.ITEMS_OUT11 : Fld := ⟨0x044, 23, 22⟩
abbrev SELFTEST.ITEMS_OUT12 : Fld := ⟨0x044, 25, 24⟩
abbrev SELFTEST.ITEMS_OUT13 : Fld := ⟨0x044, 27, 26⟩
abbrev SELFTEST.ITEMS_OUT14 : Fld := ⟨0x044, 29, 28⟩
abbrev SELFTEST.ITEMS_OUT15 : Fld := ⟨0x044, 31, 30⟩
abbrev SELFTEST.DURATION_MS : Fld := ⟨0x048, 15, 0⟩
abbrev SELFTEST.RUNS_COUNT : Fld := ⟨0x04C, 15, 0⟩
abbrev SELFTEST.RUNS_HOLDS : Fld := ⟨0x04C, 31, 16⟩
abbrev SELFTEST.DETAIL : Fld := ⟨0x080, 31, 0⟩
abbrev CAL.CTRL_INSVC_EN : Fld := ⟨0x040, 0, 0⟩
abbrev CAL.CTRL_FULL : Fld := ⟨0x040, 1, 1⟩
abbrev CAL.SCHED_PERIOD_MIN : Fld := ⟨0x044, 15, 0⟩
abbrev CAL.SCHED_PORTS : Fld := ⟨0x044, 19, 16⟩
abbrev CAL.STAT_STATE : Fld := ⟨0x048, 1, 0⟩
abbrev CAL.STAT_NO_FACTORY : Fld := ⟨0x048, 2, 2⟩
abbrev CAL.STAT_ACTIVE : Fld := ⟨0x048, 13, 8⟩
abbrev CAL.FULL_COUNT : Fld := ⟨0x04C, 15, 0⟩
abbrev CAL.FULL_RINGS_FAILED : Fld := ⟨0x04C, 25, 16⟩
abbrev CAL.FULL_UP_LO : Fld := ⟨0x050, 31, 0⟩
abbrev CAL.FULL_UP_HI : Fld := ⟨0x054, 31, 0⟩
abbrev CAL.LANES_COUNT : Fld := ⟨0x058, 31, 0⟩
abbrev CAL.SKIPPED_COUNT : Fld := ⟨0x05C, 31, 0⟩
abbrev CAL.ABANDONED_COUNT : Fld := ⟨0x060, 31, 0⟩
abbrev CAL.SEL_RING : Fld := ⟨0x064, 9, 0⟩
abbrev CAL.RING_STAT_COUNT : Fld := ⟨0x068, 15, 0⟩
abbrev CAL.RING_STAT_RESULT : Fld := ⟨0x068, 18, 16⟩
abbrev CAL.RING_STAT_SOURCE : Fld := ⟨0x068, 19, 19⟩
abbrev CAL.RING_UP_LO : Fld := ⟨0x06C, 31, 0⟩
abbrev CAL.RING_UP_HI : Fld := ⟨0x070, 31, 0⟩
abbrev CAL.RING_DELTA_HOME : Fld := ⟨0x074, 15, 0⟩
abbrev CAL.RING_DELTA_STEP : Fld := ⟨0x074, 31, 16⟩
abbrev CAL.RING_RESP_RESP : Fld := ⟨0x078, 7, 0⟩
abbrev CAL.RING_RESP_HEADROOM : Fld := ⟨0x078, 31, 16⟩
abbrev AGEING.CTRL_AVS_EN : Fld := ⟨0x040, 0, 0⟩
abbrev AGEING.CTRL_ADV_CLEAR : Fld := ⟨0x040, 1, 1⟩
abbrev AGEING.AVS_CFG_FLOOR : Fld := ⟨0x044, 3, 0⟩
abbrev AGEING.AVS_CFG_CEIL : Fld := ⟨0x044, 7, 4⟩
abbrev AGEING.AVS_CFG_LOW : Fld := ⟨0x044, 15, 8⟩
abbrev AGEING.AVS_CFG_HIGH : Fld := ⟨0x044, 23, 16⟩
abbrev AGEING.AVS_V_MV : Fld := ⟨0x048, 11, 0⟩
abbrev AGEING.AVS_STEPS : Fld := ⟨0x048, 23, 16⟩
abbrev AGEING.AVS_MARGIN : Fld := ⟨0x048, 30, 24⟩
abbrev AGEING.AVS_AT_CEILING : Fld := ⟨0x048, 31, 31⟩
abbrev AGEING.AVS_COUNT_RAISES : Fld := ⟨0x058, 15, 0⟩
abbrev AGEING.AVS_COUNT_LOWERS : Fld := ⟨0x058, 31, 16⟩
abbrev AGEING.THRESH_OPT_HEADROOM_PCT : Fld := ⟨0x05C, 7, 0⟩
abbrev AGEING.THRESH_OPT_RESP_PCT : Fld := ⟨0x05C, 15, 8⟩
abbrev AGEING.THRESH_OPT_MARGIN_CDB : Fld := ⟨0x05C, 31, 16⟩
abbrev AGEING.THRESH_ERR_SRAM_PER_H : Fld := ⟨0x060, 15, 0⟩
abbrev AGEING.THRESH_ERR_HBM_PER_H : Fld := ⟨0x060, 31, 16⟩
abbrev AGEING.ADV_STAT_COUNT : Fld := ⟨0x064, 6, 0⟩
abbrev AGEING.ADV_STAT_OVERFLOW : Fld := ⟨0x064, 7, 7⟩
abbrev AGEING.ADV_STAT_NO_FACTORY : Fld := ⟨0x064, 8, 8⟩
abbrev AGEING.ADV_SEL_INDEX : Fld := ⟨0x068, 5, 0⟩
abbrev AGEING.ADV_KIND_KIND : Fld := ⟨0x06C, 7, 0⟩
abbrev AGEING.ADV_KIND_SEVERITY : Fld := ⟨0x06C, 9, 8⟩
abbrev AGEING.ADV_KIND_OBJECT : Fld := ⟨0x06C, 31, 16⟩
abbrev AGEING.ADV_VALUE : Fld := ⟨0x070, 31, 0⟩
abbrev AGEING.ADV_FIRST_LO : Fld := ⟨0x074, 31, 0⟩
abbrev AGEING.ADV_FIRST_HI : Fld := ⟨0x078, 31, 0⟩
abbrev AGEING.ADV_LAST_LO : Fld := ⟨0x07C, 31, 0⟩
abbrev AGEING.ADV_LAST_HI : Fld := ⟨0x080, 31, 0⟩
abbrev LOG.STAT_HEAD_COUNT : Fld := ⟨0x040, 9, 0⟩
abbrev LOG.STAT_PENDING : Fld := ⟨0x040, 22, 16⟩
abbrev LOG.STAT_WRITING : Fld := ⟨0x040, 24, 24⟩
abbrev LOG.STAT_PAUSED : Fld := ⟨0x040, 25, 25⟩
abbrev LOG.NEWEST_LO : Fld := ⟨0x044, 31, 0⟩
abbrev LOG.NEWEST_HI : Fld := ⟨0x048, 31, 0⟩
abbrev LOG.OLDEST_LO : Fld := ⟨0x04C, 31, 0⟩
abbrev LOG.OLDEST_HI : Fld := ⟨0x050, 31, 0⟩
abbrev LOG.WRITTEN_LO : Fld := ⟨0x054, 31, 0⟩
abbrev LOG.WRITTEN_HI : Fld := ⟨0x058, 31, 0⟩
abbrev LOG.LOST_COUNT : Fld := ⟨0x05C, 15, 0⟩
abbrev LOG.LOST_UNRECORDED : Fld := ⟨0x05C, 31, 16⟩
abbrev LOG.CLEAR_KEY : Fld := ⟨0x060, 15, 0⟩
abbrev LOG.CLEARS_COUNT : Fld := ⟨0x064, 31, 0⟩
abbrev LOG.CURSOR_LO : Fld := ⟨0x068, 31, 0⟩
abbrev LOG.CURSOR_HI : Fld := ⟨0x06C, 31, 0⟩
abbrev LOG.READ_STAT_VALID : Fld := ⟨0x070, 0, 0⟩
abbrev LOG.READ_STAT_AREA : Fld := ⟨0x070, 1, 1⟩
abbrev LOG.READ_STAT_PENDING : Fld := ⟨0x070, 2, 2⟩
abbrev LOG.READ_STAT_GONE : Fld := ⟨0x070, 3, 3⟩
abbrev LOG.READ_STAT_NOT_YET : Fld := ⟨0x070, 4, 4⟩
abbrev LOG.READ_STAT_CRC_ERR : Fld := ⟨0x070, 5, 5⟩
abbrev LOG.POST_CODE_CODE : Fld := ⟨0x074, 15, 0⟩
abbrev LOG.POST_ARG_VALUE : Fld := ⟨0x078, 31, 0⟩
abbrev LOG.TRACE_SEL_INSTANCE : Fld := ⟨0x090, 15, 0⟩
abbrev LOG.TRACE_SEL_TYPE : Fld := ⟨0x090, 31, 16⟩
abbrev LOG.TRACE_STAT_COUNT : Fld := ⟨0x094, 4, 0⟩
abbrev LOG.TRACE_STAT_VALID : Fld := ⟨0x094, 31, 31⟩
abbrev LOG.PAGE_FAILS_COUNT : Fld := ⟨0x098, 31, 0⟩
abbrev LOG.WINDOW : Fld := ⟨0x100, 31, 0⟩
abbrev LOG.TRACE : Fld := ⟨0x200, 31, 0⟩
abbrev UPDATE.CTRL_DOWNLOAD : Fld := ⟨0x040, 0, 0⟩
abbrev UPDATE.CTRL_VERIFY : Fld := ⟨0x040, 1, 1⟩
abbrev UPDATE.CTRL_ACTIVATE : Fld := ⟨0x040, 2, 2⟩
abbrev UPDATE.CTRL_CONFIRM : Fld := ⟨0x040, 3, 3⟩
abbrev UPDATE.CTRL_ABORT : Fld := ⟨0x040, 4, 4⟩
abbrev UPDATE.CTRL_KEY : Fld := ⟨0x040, 31, 16⟩
abbrev UPDATE.STAT_STATE : Fld := ⟨0x044, 3, 0⟩
abbrev UPDATE.STAT_SOURCE : Fld := ⟨0x044, 6, 4⟩
abbrev UPDATE.STAT_UNCONFIRMED : Fld := ⟨0x044, 8, 8⟩
abbrev UPDATE.STAT_DISKLESS : Fld := ⟨0x044, 9, 9⟩
abbrev UPDATE.STAT_PENDING_RESET : Fld := ⟨0x044, 10, 10⟩
abbrev UPDATE.STAT_RELAYING : Fld := ⟨0x044, 11, 11⟩
abbrev UPDATE.STAT_RESULT : Fld := ⟨0x044, 23, 16⟩
abbrev UPDATE.STAT_RESULT_PART : Fld := ⟨0x044, 27, 24⟩
abbrev UPDATE.STAGE_LO : Fld := ⟨0x048, 31, 0⟩
abbrev UPDATE.STAGE_HI : Fld := ⟨0x04C, 7, 0⟩
abbrev UPDATE.PKG_LEN_BYTES : Fld := ⟨0x050, 23, 0⟩
abbrev UPDATE.WRITTEN_BYTES : Fld := ⟨0x054, 31, 0⟩
abbrev UPDATE.RUN_VER_VERSION : Fld := ⟨0x058, 31, 0⟩
abbrev UPDATE.CONF_VER_VERSION : Fld := ⟨0x05C, 31, 0⟩
abbrev UPDATE.STAGED_VER_VERSION : Fld := ⟨0x060, 31, 0⟩
abbrev UPDATE.SETTINGS_RUN_FMT : Fld := ⟨0x064, 15, 0⟩
abbrev UPDATE.SETTINGS_OTHER_FMT : Fld := ⟨0x064, 31, 16⟩
abbrev UPDATE.OTP_COUNT : Fld := ⟨0x068, 6, 0⟩
abbrev UPDATE.BC_CTRL_ACCEPT : Fld := ⟨0x06C, 0, 0⟩
abbrev UPDATE.BC_CTRL_AUTO_ACTIVATE : Fld := ⟨0x06C, 1, 1⟩
abbrev UPDATE.BC_STAT_PORT : Fld := ⟨0x070, 5, 0⟩
abbrev UPDATE.BC_STAT_CHUNKS : Fld := ⟨0x070, 23, 8⟩
abbrev UPDATE.BC_STAT_ACTIVE : Fld := ⟨0x070, 31, 31⟩
abbrev UPDATE.RELAY_LO_PORTS : Fld := ⟨0x074, 31, 0⟩
abbrev UPDATE.RELAY_HI_PORTS : Fld := ⟨0x078, 3, 0⟩
abbrev UPDATE.RELAY_DONE_LO : Fld := ⟨0x07C, 31, 0⟩
abbrev UPDATE.RELAY_DONE_HI : Fld := ⟨0x080, 3, 0⟩
abbrev UPDATE.TIMES_HANDOVER_MS : Fld := ⟨0x084, 15, 0⟩
abbrev UPDATE.TIMES_UNCONF_BOOTS : Fld := ⟨0x084, 19, 16⟩
abbrev UPDATE.PART_RUN_VERSION : Fld := ⟨0x0C0, 31, 0⟩
abbrev DESC.CTRL_RUN : Fld := ⟨0x000, 0, 0⟩
abbrev DESC.CTRL_LAW : Fld := ⟨0x000, 1, 1⟩
abbrev DESC.CTRL_HOLD : Fld := ⟨0x000, 2, 2⟩
abbrev DESC.CTRL_FF_EN : Fld := ⟨0x000, 3, 3⟩
abbrev DESC.CTRL_PLAUS_EN : Fld := ⟨0x000, 4, 4⟩
abbrev DESC.CTRL_DITHER_EN : Fld := ⟨0x000, 5, 5⟩
abbrev DESC.CTRL_TRIM_EN : Fld := ⟨0x000, 6, 6⟩
abbrev DESC.CTRL_TRIG_EN : Fld := ⟨0x000, 7, 7⟩
abbrev DESC.CTRL_RATE : Fld := ⟨0x000, 10, 8⟩
abbrev DESC.CTRL_TRIG : Fld := ⟨0x000, 15, 11⟩
abbrev DESC.CTRL_TRIM_DIV : Fld := ⟨0x000, 18, 16⟩
abbrev DESC.CTRL_SP_SRC : Fld := ⟨0x000, 20, 19⟩
abbrev DESC.CTRL_PARENT : Fld := ⟨0x000, 31, 21⟩
abbrev DESC.SENSE_POINT : Fld := ⟨0x004, 9, 0⟩
abbrev DESC.SENSE_ENGINE : Fld := ⟨0x004, 10, 10⟩
abbrev DESC.SENSE_INT : Fld := ⟨0x004, 27, 12⟩
abbrev DESC.SETPOINT_SP : Fld := ⟨0x008, 17, 0⟩
abbrev DESC.SETPOINT_TRIM_DELTA : Fld := ⟨0x008, 25, 18⟩
abbrev DESC.SETPOINT_TRIM_SHIFT : Fld := ⟨0x008, 28, 26⟩
abbrev DESC.OUT_LIM_OUT_MIN : Fld := ⟨0x00C, 15, 0⟩
abbrev DESC.OUT_LIM_OUT_MAX : Fld := ⟨0x00C, 31, 16⟩
abbrev DESC.BIAS_BIAS : Fld := ⟨0x010, 23, 0⟩
abbrev DESC.DITHER_AMPL : Fld := ⟨0x014, 15, 0⟩
abbrev DESC.DITHER_RESP_FLOOR : Fld := ⟨0x014, 31, 16⟩
abbrev DESC.B0_MANT : Fld := ⟨0x018, 17, 0⟩
abbrev DESC.B0_EB : Fld := ⟨0x018, 23, 18⟩
abbrev DESC.B1_MANT : Fld := ⟨0x01C, 17, 0⟩
abbrev DESC.B2_MANT : Fld := ⟨0x020, 17, 0⟩
abbrev DESC.B3_MANT : Fld := ⟨0x024, 17, 0⟩
abbrev DESC.A1_MANT : Fld := ⟨0x028, 17, 0⟩
abbrev DESC.A1_EA : Fld := ⟨0x028, 23, 18⟩
abbrev DESC.A2_MANT : Fld := ⟨0x02C, 17, 0⟩
abbrev DESC.A3_MANT : Fld := ⟨0x030, 17, 0⟩
abbrev DESC.FF_K_W : Fld := ⟨0x034, 15, 0⟩
abbrev DESC.FF_K_E : Fld := ⟨0x034, 31, 16⟩
abbrev DESC.PLAUS_A_P_HOME : Fld := ⟨0x038, 15, 0⟩
abbrev DESC.PLAUS_A_P_STEP : Fld := ⟨0x038, 31, 16⟩
abbrev DESC.PLAUS_B_T_CAL : Fld := ⟨0x03C, 7, 0⟩
abbrev DESC.PLAUS_B_H_PER_C : Fld := ⟨0x03C, 23, 8⟩
abbrev HDR.PAGE_ID_TYPE : Fld := ⟨0x000, 31, 16⟩
abbrev HDR.PAGE_ID_INSTANCE : Fld := ⟨0x000, 15, 0⟩
abbrev HDR.PAGE_VER_MAJOR : Fld := ⟨0x004, 15, 8⟩
abbrev HDR.PAGE_VER_MINOR : Fld := ⟨0x004, 7, 0⟩
abbrev HDR.PAGE_CAPS_BLOCK_RESET : Fld := ⟨0x008, 31, 31⟩
abbrev HDR.PAGE_CAPS_QUIESCE : Fld := ⟨0x008, 30, 30⟩
abbrev HDR.PAGE_CAPS_ENABLE_FIXED : Fld := ⟨0x008, 29, 29⟩
abbrev HDR.PAGE_CAPS_BLOCK : Fld := ⟨0x008, 28, 0⟩
abbrev HDR.PAGE_CTRL_ENABLE : Fld := ⟨0x00C, 0, 0⟩
abbrev HDR.PAGE_CTRL_BLOCK_RESET_REQ : Fld := ⟨0x00C, 1, 1⟩
abbrev HDR.PAGE_CTRL_QUIESCE_REQ : Fld := ⟨0x00C, 2, 2⟩
abbrev HDR.PAGE_STAT_READY : Fld := ⟨0x010, 0, 0⟩
abbrev HDR.PAGE_STAT_IDLE : Fld := ⟨0x010, 1, 1⟩
abbrev HDR.PAGE_STAT_QUIESCED : Fld := ⟨0x010, 2, 2⟩
abbrev HDR.PAGE_STAT_FAULT : Fld := ⟨0x010, 3, 3⟩
abbrev HDR.EVT_STAT_EVENT : Fld := ⟨0x014, 31, 0⟩
abbrev HDR.EVT_EN_EVENT : Fld := ⟨0x018, 31, 0⟩
abbrev HDR.EVT_SET_EVENT : Fld := ⟨0x01C, 31, 0⟩
abbrev HDR.ERR_STAT_ACCESS : Fld := ⟨0x020, 0, 0⟩
abbrev HDR.ERR_STAT_REFUSED : Fld := ⟨0x020, 1, 1⟩
abbrev HDR.ERR_STAT_UNCORR : Fld := ⟨0x020, 2, 2⟩
abbrev HDR.ERR_STAT_BLOCK : Fld := ⟨0x020, 31, 16⟩
abbrev HDR.ERR_INFO_CODE : Fld := ⟨0x024, 15, 0⟩
abbrev HDR.ERR_INFO_PATH : Fld := ⟨0x024, 18, 16⟩
abbrev HDR.ERR_INFO_COUNT : Fld := ⟨0x024, 31, 24⟩
abbrev HDR.ERR_ADDR_LO : Fld := ⟨0x028, 31, 0⟩
abbrev HDR.ERR_ADDR_HI : Fld := ⟨0x02C, 31, 0⟩
abbrev DIRECTORY.DIR_COUNT : Fld := ⟨0x040, 31, 0⟩
abbrev DIRECTORY.DIR_GEN : Fld := ⟨0x044, 31, 0⟩
abbrev DIRECTORY.ENTRY_WORD0 : Fld := ⟨0x100, 31, 0⟩
abbrev DIRECTORY.ENTRY_WORD1 : Fld := ⟨0x104, 31, 0⟩
abbrev MODULE.SERIAL_LO : Fld := ⟨0x040, 31, 0⟩
abbrev MODULE.SERIAL_HI : Fld := ⟨0x044, 31, 0⟩
abbrev MODULE.PART : Fld := ⟨0x048, 31, 0⟩
abbrev MODULE.STRAPS : Fld := ⟨0x04C, 31, 0⟩
abbrev MODULE.CLK_STAT : Fld := ⟨0x050, 31, 0⟩
abbrev TILE.CTRL : Fld := ⟨0x040, 31, 0⟩
abbrev TILE.STATUS : Fld := ⟨0x044, 31, 0⟩
abbrev TILE.PC : Fld := ⟨0x048, 31, 0⟩
abbrev TILE.FLAG_PC : Fld := ⟨0x04C, 31, 0⟩
abbrev TILE.TOKENS : Fld := ⟨0x050, 31, 0⟩
abbrev TILE.INDEX : Fld := ⟨0x060, 31, 0⟩
abbrev TILE.PHYS : Fld := ⟨0x07C, 31, 0⟩
abbrev TILE.EBASE_LO : Fld := ⟨0x080, 31, 0⟩
abbrev TILE.EBASE_HI : Fld := ⟨0x084, 31, 0⟩
abbrev TILE.AUDIT_LIMIT : Fld := ⟨0x0A8, 31, 0⟩
abbrev TILE.AUDIT_STAT : Fld := ⟨0x0AC, 31, 0⟩
abbrev TILE.AUDIT_PC : Fld := ⟨0x0B0, 31, 0⟩
abbrev TILE.AUDIT_ADDR : Fld := ⟨0x0B4, 31, 0⟩
abbrev TILE.ECC_CORR : Fld := ⟨0x0B8, 31, 0⟩
abbrev TILE.ECC_UNCORR : Fld := ⟨0x0BC, 31, 0⟩
abbrev MESH.SHAPE : Fld := ⟨0x040, 31, 0⟩
abbrev MESH.REPAIR_A : Fld := ⟨0x044, 31, 0⟩
abbrev MESH.REPAIR_B : Fld := ⟨0x048, 31, 0⟩
abbrev MESH.PENDING : Fld := ⟨0x04C, 31, 0⟩
abbrev MESH.SCHED_STAT : Fld := ⟨0x050, 31, 0⟩
abbrev MESH.LATE_SENDS : Fld := ⟨0x05C, 31, 0⟩
abbrev MESH.LINK_STAT : Fld := ⟨0x060, 31, 0⟩
abbrev MESH.LINK_CORR : Fld := ⟨0x064, 31, 0⟩
abbrev MESH.LINK_UNCORR : Fld := ⟨0x068, 31, 0⟩
abbrev MESH.LINK_RETRY : Fld := ⟨0x06C, 31, 0⟩
abbrev DIE.JOB_CTRL : Fld := ⟨0x040, 31, 0⟩
abbrev DIE.JOB_STAT : Fld := ⟨0x044, 31, 0⟩
abbrev DIE.IMG_ADDR_LO : Fld := ⟨0x048, 31, 0⟩
abbrev DIE.IMG_ADDR_HI : Fld := ⟨0x04C, 31, 0⟩
abbrev DIE.IMG_BYTES_LO : Fld := ⟨0x050, 31, 0⟩
abbrev DIE.IMG_BYTES_HI : Fld := ⟨0x054, 31, 0⟩
abbrev DIE.NEXT : Fld := ⟨0x058, 31, 0⟩
abbrev DIE.NEXT_TIME_LO : Fld := ⟨0x05C, 31, 0⟩
abbrev DIE.NEXT_TIME_HI : Fld := ⟨0x060, 31, 0⟩
abbrev DIE.PHASE_START_LO : Fld := ⟨0x064, 31, 0⟩
abbrev DIE.PHASE_START_HI : Fld := ⟨0x068, 31, 0⟩
abbrev DIE.REFUSE : Fld := ⟨0x06C, 31, 0⟩
abbrev DIE.BARRIER_WAIT_LO : Fld := ⟨0x078, 31, 0⟩
abbrev DIE.BARRIER_WAIT_HI : Fld := ⟨0x07C, 31, 0⟩
abbrev DIE.SEED_LO : Fld := ⟨0x080, 31, 0⟩
abbrev DIE.SEED_HI : Fld := ⟨0x084, 31, 0⟩
abbrev DIE.LATE : Fld := ⟨0x088, 31, 0⟩
abbrev DIE.LATE_NS : Fld := ⟨0x08C, 31, 0⟩
abbrev DIE.SRAM_SCRUB : Fld := ⟨0x100, 31, 0⟩
abbrev DIE.SRAM_PASS : Fld := ⟨0x104, 31, 0⟩
abbrev DIE.SRAM_CORR : Fld := ⟨0x108, 31, 0⟩
abbrev DIE.SRAM_UNCORR : Fld := ⟨0x10C, 31, 0⟩
abbrev DIE.SRAM_LATE : Fld := ⟨0x110, 31, 0⟩
abbrev DIE.SRAM_LAST : Fld := ⟨0x114, 31, 0⟩
abbrev HBM.STACK_STAT : Fld := ⟨0x040, 31, 0⟩
abbrev HBM.CAPACITY : Fld := ⟨0x044, 31, 0⟩
abbrev HBM.SCRUB_PERIOD : Fld := ⟨0x048, 31, 0⟩
abbrev HBM.SCRUB_POS : Fld := ⟨0x04C, 31, 0⟩
abbrev HBM.SCRUB_PASS : Fld := ⟨0x050, 31, 0⟩
abbrev HBM.CORR : Fld := ⟨0x054, 31, 0⟩
abbrev HBM.UNCORR : Fld := ⟨0x058, 31, 0⟩
abbrev HBM.POISON_READ : Fld := ⟨0x05C, 31, 0⟩
abbrev HBM.LAST_UNCORR_LO : Fld := ⟨0x060, 31, 0⟩
abbrev HBM.LAST_UNCORR_HI : Fld := ⟨0x064, 31, 0⟩
abbrev HBM.MAPOUT_CTRL : Fld := ⟨0x068, 31, 0⟩
abbrev SIZE_TABLE.CONTRACT : Fld := ⟨0x040, 31, 0⟩
abbrev SIZE_TABLE.DIES : Fld := ⟨0x044, 31, 0⟩
abbrev SIZE_TABLE.TILE_CLK : Fld := ⟨0x048, 31, 0⟩
abbrev SIZE_TABLE.DIE_SHAPE : Fld := ⟨0x04C, 31, 0⟩
abbrev SIZE_TABLE.TILE_MEM : Fld := ⟨0x05C, 31, 0⟩
abbrev SIZE_TABLE.TILE_ARRAY : Fld := ⟨0x060, 31, 0⟩
abbrev SIZE_TABLE.TILE_SEQ : Fld := ⟨0x064, 31, 0⟩
abbrev SIZE_TABLE.TILE_VEC : Fld := ⟨0x068, 31, 0⟩
abbrev SIZE_TABLE.FORMAT_MAP : Fld := ⟨0x06C, 31, 0⟩
abbrev SIZE_TABLE.HBM_STACKS : Fld := ⟨0x07C, 31, 0⟩
abbrev SIZE_TABLE.HBM_CAP : Fld := ⟨0x080, 31, 0⟩
abbrev SIZE_TABLE.HBM_BW : Fld := ⟨0x084, 31, 0⟩
abbrev SIZE_TABLE.OPTICS : Fld := ⟨0x088, 31, 0⟩
abbrev SIZE_TABLE.QUEUES_PER_DIE : Fld := ⟨0x08C, 31, 0⟩
abbrev SIZE_TABLE.STREAMS_PER_DIE : Fld := ⟨0x090, 31, 0⟩
abbrev SIZE_TABLE.SESSIONS_PER_DIE : Fld := ⟨0x094, 31, 0⟩
abbrev SIZE_TABLE.LOOPS : Fld := ⟨0x098, 31, 0⟩
abbrev SIZE_TABLE.SLOTS_PER_PHASE : Fld := ⟨0x09C, 31, 0⟩
abbrev SIZE_TABLE.DESCRIPTORS : Fld := ⟨0x0A0, 31, 0⟩
abbrev SIZE_TABLE.DESTINATIONS : Fld := ⟨0x0A4, 31, 0⟩
abbrev SIZE_TABLE.RESHARD_PER_DIE : Fld := ⟨0x0A8, 31, 0⟩
abbrev RESHARD.TIMEOUT : Fld := ⟨0x040, 31, 0⟩
abbrev RESHARD.STAT : Fld := ⟨0x044, 31, 0⟩
abbrev RESHARD.DESC_TOTAL : Fld := ⟨0x048, 31, 0⟩
abbrev RESHARD.DESC_DONE : Fld := ⟨0x04C, 31, 0⟩
abbrev RESHARD.FAIL : Fld := ⟨0x060, 31, 0⟩
abbrev MSG.EPOCH : Fld := ⟨0x040, 31, 0⟩
abbrev MSG.ACK_TIMEOUT : Fld := ⟨0x044, 31, 0⟩
abbrev MSG.RETRY_LIMIT : Fld := ⟨0x048, 31, 0⟩
abbrev MSG.PATH_WAIT : Fld := ⟨0x04C, 31, 0⟩
abbrev MSG.PEER_CTRL : Fld := ⟨0x050, 31, 0⟩
abbrev MSG.PEER_STAT : Fld := ⟨0x054, 31, 0⟩
abbrev MSG.LAST_PEER : Fld := ⟨0x058, 31, 0⟩
abbrev MSG.LAST_PEER_EPOCH : Fld := ⟨0x05C, 31, 0⟩
abbrev MSG.MISROUTE : Fld := ⟨0x060, 31, 0⟩
abbrev MSG.EPOCH_NACK_OUT : Fld := ⟨0x064, 31, 0⟩
abbrev MSG.EPOCH_NACK_IN : Fld := ⟨0x068, 31, 0⟩
abbrev MSG.RESYNCS : Fld := ⟨0x06C, 31, 0⟩
abbrev MSG.PATH_FAILS : Fld := ⟨0x070, 31, 0⟩
abbrev MENG.QCMD : Fld := ⟨0x040, 31, 0⟩
abbrev MENG.QCMD_STAT : Fld := ⟨0x044, 31, 0⟩
abbrev MENG.QARG_RING_LO : Fld := ⟨0x048, 31, 0⟩
abbrev MENG.QARG_RING_HI : Fld := ⟨0x04C, 31, 0⟩
abbrev MENG.QARG_INDEX_LO : Fld := ⟨0x050, 31, 0⟩
abbrev MENG.QARG_INDEX_HI : Fld := ⟨0x054, 31, 0⟩
abbrev MENG.QARG_CFG : Fld := ⟨0x058, 31, 0⟩
abbrev MENG.QRD_POSTED : Fld := ⟨0x05C, 31, 0⟩
abbrev MENG.QRD_CONSUMED : Fld := ⟨0x060, 31, 0⟩
abbrev MENG.QRD_EPOCH : Fld := ⟨0x064, 31, 0⟩
abbrev MENG.QRD_STAT : Fld := ⟨0x068, 31, 0⟩
abbrev MENG.DOORBELL : Fld := ⟨0x06C, 31, 0⟩
abbrev MENG.SESS_TABLE_LO : Fld := ⟨0x070, 31, 0⟩
abbrev MENG.SESS_TABLE_HI : Fld := ⟨0x074, 31, 0⟩
abbrev MENG.SESS_CTRL : Fld := ⟨0x078, 31, 0⟩
abbrev MENG.STREAMS : Fld := ⟨0x07C, 31, 0⟩
abbrev MENG.RX_STREAMS : Fld := ⟨0x080, 31, 0⟩
abbrev MENG.ARRIVAL : Fld := ⟨0x084, 31, 0⟩
abbrev MENG.FAIL_A : Fld := ⟨0x088, 31, 0⟩
abbrev MENG.FAIL_B : Fld := ⟨0x08C, 31, 0⟩
abbrev MENG.QUEUES : Fld := ⟨0x090, 31, 0⟩
abbrev MENG.CNT : Fld := ⟨0x094, 31, 0⟩
abbrev TIME.CTRL : Fld := ⟨0x040, 31, 0⟩
abbrev TIME.STAT : Fld := ⟨0x044, 31, 0⟩
abbrev TIME.STEP_CTRL : Fld := ⟨0x070, 31, 0⟩
abbrev TIME.STEP_THRESH : Fld := ⟨0x074, 31, 0⟩
abbrev TIME.OFFSET : Fld := ⟨0x078, 31, 0⟩
abbrev TIME.SYNC_LOSS : Fld := ⟨0x07C, 31, 0⟩
abbrev TIME.PPS_IGNORED : Fld := ⟨0x080, 31, 0⟩
abbrev TIME.PPS_LOSSES : Fld := ⟨0x084, 31, 0⟩
abbrev TIME.ZT_SLAVE : Fld := ⟨0x088, 31, 0⟩
abbrev TIME.ZT_MASTER_LO : Fld := ⟨0x08C, 31, 0⟩
abbrev TIME.ZT_MASTER_HI : Fld := ⟨0x090, 31, 0⟩
abbrev TIME.ZT_CTRL : Fld := ⟨0x094, 31, 0⟩
abbrev TIME.PTP_CTRL : Fld := ⟨0x098, 31, 0⟩
abbrev TIME.ZT_ASYM : Fld := ⟨0x09C, 31, 0⟩
abbrev TIME.CORR_IN : Fld := ⟨0x100, 31, 0⟩
abbrev TIME.CORR_OUT : Fld := ⟨0x104, 31, 0⟩
abbrev TIME.PIN_DELAY : Fld := ⟨0x230, 31, 0⟩
abbrev TIME.CAP_CTRL : Fld := ⟨0x280, 31, 0⟩
abbrev TIME.CAP_STAT : Fld := ⟨0x284, 31, 0⟩
abbrev TIME.CAP_TS_INFO : Fld := ⟨0x290, 31, 0⟩
abbrev TRIGGERS.PPS_CTRL : Fld := ⟨0x040, 31, 0⟩
abbrev TRIGGERS.ARMED : Fld := ⟨0x044, 31, 0⟩
abbrev TRIGGERS.PERIOD : Fld := ⟨0x108, 31, 0⟩
abbrev TRIGGERS.CTRL : Fld := ⟨0x10C, 31, 0⟩
abbrev TRIGGERS.FIRES : Fld := ⟨0x110, 31, 0⟩
abbrev TRIGGERS.MISSED : Fld := ⟨0x114, 31, 0⟩
abbrev ENGINE.STAT : Fld := ⟨0x040, 31, 0⟩
abbrev ENGINE.HEATER_LIMIT : Fld := ⟨0x044, 31, 0⟩
abbrev ENGINE.HEATER_TOTAL : Fld := ⟨0x048, 31, 0⟩
abbrev ENGINE.POWER : Fld := ⟨0x04C, 31, 0⟩
abbrev ENGINE.RINGS : Fld := ⟨0x050, 31, 0⟩
abbrev ENGINE.MZI : Fld := ⟨0x054, 31, 0⟩
abbrev ENGINE.FW_VER : Fld := ⟨0x058, 31, 0⟩
abbrev COMB.CTRL : Fld := ⟨0x040, 31, 0⟩
abbrev COMB.STAT : Fld := ⟨0x044, 31, 0⟩
abbrev COMB.GRID_ERR : Fld := ⟨0x048, 31, 0⟩
abbrev COMB.LINE_TARGET : Fld := ⟨0x04C, 31, 0⟩
abbrev COMB.TEC : Fld := ⟨0x050, 31, 0⟩
abbrev COMB.ETALON : Fld := ⟨0x054, 31, 0⟩
abbrev COMB.DROPS : Fld := ⟨0x058, 31, 0⟩
abbrev COMB.LINE : Fld := ⟨0x060, 31, 0⟩
abbrev PORT.CFG : Fld := ⟨0x040, 31, 0⟩
abbrev PORT.STAT : Fld := ⟨0x044, 31, 0⟩
abbrev PORT.FIBRE_PWR : Fld := ⟨0x048, 31, 0⟩
abbrev PORT.TX_STATE : Fld := ⟨0x04C, 31, 0⟩
abbrev PORT.RX_STATE : Fld := ⟨0x050, 31, 0⟩
abbrev PORT.SPARE : Fld := ⟨0x054, 31, 0⟩
abbrev PORT.TX_EQ : Fld := ⟨0x058, 31, 0⟩
abbrev PORT.FFE_SEL : Fld := ⟨0x05C, 31, 0⟩
abbrev PORT.FFE_TAPS_LO : Fld := ⟨0x060, 31, 0⟩
abbrev PORT.FFE_TAPS_HI : Fld := ⟨0x064, 31, 0⟩
abbrev PORT.RXBUF01 : Fld := ⟨0x068, 31, 0⟩
abbrev PORT.RXBUF23 : Fld := ⟨0x06C, 31, 0⟩
abbrev PORT.BER_IN : Fld := ⟨0x070, 31, 0⟩
abbrev PORT.BER_OUT : Fld := ⟨0x074, 31, 0⟩
abbrev PORT.OPEN_FIBRE_CNT : Fld := ⟨0x078, 31, 0⟩
abbrev PORT.LAUNCH_LIMIT_CNT : Fld := ⟨0x07C, 31, 0⟩
abbrev PORT.VC3_DROP : Fld := ⟨0x080, 31, 0⟩
abbrev PORT.LCFG : Fld := ⟨0x100, 31, 0⟩
abbrev PORT.LSTAT : Fld := ⟨0x104, 31, 0⟩
abbrev PORT.RX_POWER : Fld := ⟨0x108, 31, 0⟩
abbrev PORT.BER_EST : Fld := ⟨0x10C, 31, 0⟩
abbrev PORT.FEC_SYM : Fld := ⟨0x110, 31, 0⟩
abbrev PORT.FEC_UNCORR : Fld := ⟨0x114, 31, 0⟩
abbrev PORT.CRC_ERR : Fld := ⟨0x118, 31, 0⟩
abbrev PORT.OUT_COUNT : Fld := ⟨0x11C, 31, 0⟩
abbrev XRDS.PLAN_CTRL : Fld := ⟨0x040, 31, 0⟩
abbrev XRDS.CMD_STAT : Fld := ⟨0x04C, 31, 0⟩
abbrev XRDS.STAGE_ADDR : Fld := ⟨0x050, 31, 0⟩
abbrev XRDS.STAGE_DATA : Fld := ⟨0x054, 31, 0⟩
abbrev XRDS.ACTIVE_ADDR : Fld := ⟨0x058, 31, 0⟩
abbrev XRDS.ACTIVE_DATA : Fld := ⟨0x05C, 31, 0⟩
abbrev XRDS.STAGE_STAT : Fld := ⟨0x060, 31, 0⟩
abbrev XRDS.ACTIVE_EPOCH : Fld := ⟨0x064, 31, 0⟩
abbrev XRDS.STAGED_EPOCH : Fld := ⟨0x068, 31, 0⟩
abbrev XRDS.CHK_RESULT : Fld := ⟨0x074, 31, 0⟩
abbrev XRDS.CHK_TIME : Fld := ⟨0x078, 31, 0⟩
abbrev XRDS.SWITCHES : Fld := ⟨0x07C, 31, 0⟩
abbrev XRDS.PROTO : Fld := ⟨0x080, 31, 0⟩
abbrev XRDS.COORD : Fld := ⟨0x084, 31, 0⟩
abbrev XRDS.DISC_STAT : Fld := ⟨0x088, 31, 0⟩
abbrev XRDS.DISC_WAIT : Fld := ⟨0x08C, 31, 0⟩
abbrev XRDS.MISSING_LO : Fld := ⟨0x090, 31, 0⟩
abbrev XRDS.MISSING_HI : Fld := ⟨0x094, 31, 0⟩
abbrev XRDS.EXTRA_LO : Fld := ⟨0x098, 31, 0⟩
abbrev XRDS.EXTRA_HI : Fld := ⟨0x09C, 31, 0⟩
abbrev XRDS.MISMATCH_LO : Fld := ⟨0x0A0, 31, 0⟩
abbrev XRDS.MISMATCH_HI : Fld := ⟨0x0A4, 31, 0⟩
abbrev XRDS.MAINT_LO : Fld := ⟨0x0A8, 31, 0⟩
abbrev XRDS.MAINT_HI : Fld := ⟨0x0AC, 31, 0⟩
abbrev XRDS.STEER_CNT : Fld := ⟨0x0B0, 31, 0⟩
abbrev XRDS_ID.ID_INFO : Fld := ⟨0x048, 31, 0⟩
abbrev XRDS_ID.ID_FW : Fld := ⟨0x04C, 31, 0⟩
abbrev XRDS_ID.ID_EPOCH : Fld := ⟨0x050, 31, 0⟩
abbrev XRDS_ID.ID_PATH : Fld := ⟨0x054, 31, 0⟩
abbrev XRDS_ID.ID_SEEN : Fld := ⟨0x058, 31, 0⟩
abbrev XRDS_ID.ID_INC : Fld := ⟨0x05C, 31, 0⟩
abbrev XRDS_FREE.FREE_ACT : Fld := ⟨0x040, 31, 0⟩
abbrev XRDS_FREE.FREE_STG : Fld := ⟨0x044, 31, 0⟩
abbrev XRDS_FREE.SLICE_DROP : Fld := ⟨0x180, 31, 0⟩
abbrev MILLRACE.STAT : Fld := ⟨0x040, 31, 0⟩
abbrev MILLRACE.LOAD : Fld := ⟨0x044, 31, 0⟩
abbrev MILLRACE.CONV_LOAD : Fld := ⟨0x048, 31, 0⟩
abbrev MILLRACE.FLOOR_RM : Fld := ⟨0x04C, 31, 0⟩
abbrev MILLRACE.FLOOR_C : Fld := ⟨0x050, 31, 0⟩
abbrev MILLRACE.PLAUS : Fld := ⟨0x054, 31, 0⟩
abbrev MILLRACE.LOCK : Fld := ⟨0x058, 31, 0⟩
abbrev MILLRACE.ACQ : Fld := ⟨0x05C, 31, 0⟩
abbrev MILLRACE.LOST : Fld := ⟨0x060, 31, 0⟩
abbrev MILLRACE.TRIM_LIMIT : Fld := ⟨0x064, 31, 0⟩
abbrev MILLRACE.FF_TAU : Fld := ⟨0x068, 31, 0⟩
abbrev MILLRACE.THERM : Fld := ⟨0x06C, 31, 0⟩
abbrev MILLRACE.GOV_CTRL : Fld := ⟨0x070, 31, 0⟩
abbrev MILLRACE.GOV : Fld := ⟨0x074, 31, 0⟩
abbrev MILLRACE.TEL : Fld := ⟨0x084, 31, 0⟩
abbrev MILLRACE.SLOT_SEL : Fld := ⟨0x094, 31, 0⟩
abbrev MILLRACE.SLOT_STAT : Fld := ⟨0x098, 31, 0⟩
abbrev MILLRACE.SLOT_CODE : Fld := ⟨0x09C, 31, 0⟩
abbrev MILLRACE.SLOT_ERR : Fld := ⟨0x0A0, 31, 0⟩
abbrev MILLRACE.SLOT_Y : Fld := ⟨0x0A4, 31, 0⟩
abbrev MILLRACE.SLOT_FF : Fld := ⟨0x0A8, 31, 0⟩
abbrev MILLRACE.SLOT_TRIM : Fld := ⟨0x0AC, 31, 0⟩
abbrev MILLRACE.SLOT_DEV : Fld := ⟨0x0B0, 31, 0⟩
abbrev MILLRACE.SLOT_CNT : Fld := ⟨0x0B4, 31, 0⟩
abbrev MILLRACE.FLAG_FIFO : Fld := ⟨0x0B8, 31, 0⟩
abbrev MILLRACE.DEADLINE_MISS : Fld := ⟨0x0BC, 31, 0⟩
abbrev MILLRACE.MISLOCKS : Fld := ⟨0x0C0, 31, 0⟩
abbrev MILLRACE.FEEDBACK_LOSTS : Fld := ⟨0x0C4, 31, 0⟩
abbrev MILLRACE.ACQ_FAILS : Fld := ⟨0x0C8, 31, 0⟩
abbrev MILLRACE.DESC_CORR : Fld := ⟨0x0CC, 31, 0⟩
abbrev MILLRACE.TRACE_CTRL : Fld := ⟨0x0D0, 31, 0⟩
abbrev MILLRACE.TRACE_SEL : Fld := ⟨0x100, 31, 0⟩
abbrev MILLRACE.TRACE_STAT : Fld := ⟨0x104, 31, 0⟩
abbrev MILLRACE.ATTN : Fld := ⟨0x180, 31, 0⟩
abbrev CLAIM.CTRL : Fld := ⟨0x050, 31, 0⟩
abbrev CLAIM.RESULT : Fld := ⟨0x054, 31, 0⟩
abbrev CLAIM.STAT : Fld := ⟨0x058, 31, 0⟩
abbrev CLAIM.RAISES : Fld := ⟨0x05C, 31, 0⟩
abbrev CLAIM.STALE : Fld := ⟨0x060, 31, 0⟩
abbrev CLAIM.LAST_STALE_INFO : Fld := ⟨0x06C, 31, 0⟩
abbrev CLAIM.SW_STAT : Fld := ⟨0x080, 31, 0⟩
abbrev CLAIM.SW_OLD_EPOCH : Fld := ⟨0x084, 31, 0⟩
abbrev CLAIM.SW_NEW_EPOCH : Fld := ⟨0x088, 31, 0⟩
abbrev CLAIM.SW_NOTUP_LO : Fld := ⟨0x09C, 31, 0⟩
abbrev CLAIM.SW_NOTUP_HI : Fld := ⟨0x0A0, 31, 0⟩
abbrev CLAIM.SW_LAST_UP : Fld := ⟨0x0A4, 31, 0⟩
abbrev CLAIM.SW_SKEW : Fld := ⟨0x0A8, 31, 0⟩
abbrev CLAIM.SW_SKEW_PEER : Fld := ⟨0x0AC, 31, 0⟩
abbrev CLAIM.SW_SKEW_EPOCH : Fld := ⟨0x0B0, 31, 0⟩
abbrev HOSTWIN.WIN_STAT : Fld := ⟨0x040, 31, 0⟩
abbrev HOSTWIN.HANDOFF : Fld := ⟨0x044, 31, 0⟩
abbrev HOSTWIN.HANDOFF_STAT : Fld := ⟨0x048, 31, 0⟩
abbrev HOSTWIN.NOTIFY_FIFO : Fld := ⟨0x04C, 31, 0⟩
abbrev HOSTWIN.WRITE_DROP : Fld := ⟨0x050, 31, 0⟩
abbrev HOSTWIN.READ_DENIED : Fld := ⟨0x054, 31, 0⟩
abbrev HOSTWIN.UNMAPPED : Fld := ⟨0x058, 31, 0⟩
abbrev HOSTWIN.LAST_DROP : Fld := ⟨0x05C, 31, 0⟩
abbrev HOSTWIN.MBOX_CTRL : Fld := ⟨0x060, 31, 0⟩
abbrev HOSTWIN.MBOX_STAT : Fld := ⟨0x064, 31, 0⟩
abbrev HOSTWIN.LINK : Fld := ⟨0x068, 31, 0⟩
abbrev HOSTWIN.SEG_BASE_LO : Fld := ⟨0x080, 31, 0⟩
abbrev HOSTWIN.SEG_BASE_HI : Fld := ⟨0x084, 31, 0⟩
abbrev HOSTWIN.OWN : Fld := ⟨0x800, 31, 0⟩
abbrev MGMT.CTRL : Fld := ⟨0x040, 31, 0⟩
abbrev MGMT.STAT : Fld := ⟨0x044, 31, 0⟩
abbrev MGMT.PREFIX : Fld := ⟨0x060, 31, 0⟩
abbrev MGMT.UDP_PORT : Fld := ⟨0x064, 31, 0⟩
abbrev BELFRY.GCTRL : Fld := ⟨0x040, 31, 0⟩
abbrev BELFRY.GSTAT : Fld := ⟨0x044, 31, 0⟩
abbrev BELFRY.SW_SET : Fld := ⟨0x048, 31, 0⟩
abbrev BELFRY.SW_CLR : Fld := ⟨0x04C, 31, 0⟩
abbrev BELFRY.THRESH : Fld := ⟨0x060, 31, 0⟩
abbrev BELFRY.CLAIM : Fld := ⟨0x064, 31, 0⟩
abbrev BELFRY.COMPLETE : Fld := ⟨0x068, 31, 0⟩
abbrev BELFRY.TOP : Fld := ⟨0x06C, 31, 0⟩
abbrev BELFRY.RUN : Fld := ⟨0x070, 31, 0⟩
abbrev BELFRY.LINE : Fld := ⟨0x074, 31, 0⟩
abbrev BELFRY_SRC.SRC_CFG : Fld := ⟨0x040, 31, 0⟩
abbrev BELFRY_SRC.FIRE : Fld := ⟨0x840, 31, 0⟩
abbrev RESET.CAUSE : Fld := ⟨0x040, 31, 0⟩
abbrev RESET.LAST : Fld := ⟨0x044, 31, 0⟩
abbrev RESET.CTRL : Fld := ⟨0x048, 31, 0⟩
abbrev RESET.WDT_CTRL : Fld := ⟨0x04C, 31, 0⟩
abbrev RESET.WDT_KICK : Fld := ⟨0x050, 31, 0⟩
abbrev RESET.WDT_STAT : Fld := ⟨0x054, 31, 0⟩
abbrev RESET.COUNTS : Fld := ⟨0x058, 31, 0⟩
abbrev POWER.STATE : Fld := ⟨0x040, 31, 0⟩
abbrev POWER.CTRL : Fld := ⟨0x044, 31, 0⟩
abbrev POWER.INPUT : Fld := ⟨0x048, 31, 0⟩
abbrev POWER.INPUT_PWR : Fld := ⟨0x04C, 31, 0⟩
abbrev POWER.BULK : Fld := ⟨0x050, 31, 0⟩
abbrev POWER.RAILS : Fld := ⟨0x054, 31, 0⟩
abbrev POWER.COOLANT : Fld := ⟨0x058, 31, 0⟩
abbrev POWER.THERM : Fld := ⟨0x05C, 31, 0⟩
abbrev POWER.LC : Fld := ⟨0x068, 31, 0⟩
abbrev POWER.CAP_STAT : Fld := ⟨0x06C, 31, 0⟩
abbrev BACKUP.STAT : Fld := ⟨0x040, 31, 0⟩
abbrev BACKUP.EPOCH : Fld := ⟨0x044, 31, 0⟩
abbrev BACKUP.PRIV_A : Fld := ⟨0x048, 31, 0⟩
abbrev BACKUP.PRIV_B : Fld := ⟨0x04C, 31, 0⟩
abbrev BACKUP.PRIV_TOTAL : Fld := ⟨0x050, 31, 0⟩
abbrev BACKUP.CRIT_INFO : Fld := ⟨0x054, 31, 0⟩
abbrev SELFTEST.RESULT : Fld := ⟨0x040, 31, 0⟩
abbrev SELFTEST.ITEMS : Fld := ⟨0x044, 31, 0⟩
abbrev SELFTEST.DURATION : Fld := ⟨0x048, 31, 0⟩
abbrev SELFTEST.RUNS : Fld := ⟨0x04C, 31, 0⟩
abbrev CAL.CTRL : Fld := ⟨0x040, 31, 0⟩
abbrev CAL.SCHED : Fld := ⟨0x044, 31, 0⟩
abbrev CAL.STAT : Fld := ⟨0x048, 31, 0⟩
abbrev CAL.FULL : Fld := ⟨0x04C, 31, 0⟩
abbrev CAL.LANES : Fld := ⟨0x058, 31, 0⟩
abbrev CAL.SKIPPED : Fld := ⟨0x05C, 31, 0⟩
abbrev CAL.ABANDONED : Fld := ⟨0x060, 31, 0⟩
abbrev CAL.SEL : Fld := ⟨0x064, 31, 0⟩
abbrev CAL.RING_STAT : Fld := ⟨0x068, 31, 0⟩
abbrev CAL.RING_DELTA : Fld := ⟨0x074, 31, 0⟩
abbrev CAL.RING_RESP : Fld := ⟨0x078, 31, 0⟩
abbrev AGEING.CTRL : Fld := ⟨0x040, 31, 0⟩
abbrev AGEING.AVS_CFG : Fld := ⟨0x044, 31, 0⟩
abbrev AGEING.AVS : Fld := ⟨0x048, 31, 0⟩
abbrev AGEING.AVS_COUNT : Fld := ⟨0x058, 31, 0⟩
abbrev AGEING.THRESH_OPT : Fld := ⟨0x05C, 31, 0⟩
abbrev AGEING.THRESH_ERR : Fld := ⟨0x060, 31, 0⟩
abbrev AGEING.ADV_STAT : Fld := ⟨0x064, 31, 0⟩
abbrev AGEING.ADV_SEL : Fld := ⟨0x068, 31, 0⟩
abbrev AGEING.ADV_KIND : Fld := ⟨0x06C, 31, 0⟩
abbrev LOG.STAT : Fld := ⟨0x040, 31, 0⟩
abbrev LOG.LOST : Fld := ⟨0x05C, 31, 0⟩
abbrev LOG.CLEAR : Fld := ⟨0x060, 31, 0⟩
abbrev LOG.CLEARS : Fld := ⟨0x064, 31, 0⟩
abbrev LOG.READ_STAT : Fld := ⟨0x070, 31, 0⟩
abbrev LOG.POST_CODE : Fld := ⟨0x074, 31, 0⟩
abbrev LOG.POST_ARG : Fld := ⟨0x078, 31, 0⟩
abbrev LOG.TRACE_SEL : Fld := ⟨0x090, 31, 0⟩
abbrev LOG.TRACE_STAT : Fld := ⟨0x094, 31, 0⟩
abbrev LOG.PAGE_FAILS : Fld := ⟨0x098, 31, 0⟩
abbrev UPDATE.CTRL : Fld := ⟨0x040, 31, 0⟩
abbrev UPDATE.STAT : Fld := ⟨0x044, 31, 0⟩
abbrev UPDATE.PKG_LEN : Fld := ⟨0x050, 31, 0⟩
abbrev UPDATE.WRITTEN : Fld := ⟨0x054, 31, 0⟩
abbrev UPDATE.RUN_VER : Fld := ⟨0x058, 31, 0⟩
abbrev UPDATE.CONF_VER : Fld := ⟨0x05C, 31, 0⟩
abbrev UPDATE.STAGED_VER : Fld := ⟨0x060, 31, 0⟩
abbrev UPDATE.SETTINGS : Fld := ⟨0x064, 31, 0⟩
abbrev UPDATE.OTP : Fld := ⟨0x068, 31, 0⟩
abbrev UPDATE.BC_CTRL : Fld := ⟨0x06C, 31, 0⟩
abbrev UPDATE.BC_STAT : Fld := ⟨0x070, 31, 0⟩
abbrev UPDATE.RELAY_LO : Fld := ⟨0x074, 31, 0⟩
abbrev UPDATE.RELAY_HI : Fld := ⟨0x078, 31, 0⟩
abbrev UPDATE.TIMES : Fld := ⟨0x084, 31, 0⟩
abbrev UPDATE.PART_RUN : Fld := ⟨0x0C0, 31, 0⟩
abbrev DESC.CTRL : Fld := ⟨0x000, 31, 0⟩
abbrev DESC.SENSE : Fld := ⟨0x004, 31, 0⟩
abbrev DESC.SETPOINT : Fld := ⟨0x008, 31, 0⟩
abbrev DESC.OUT_LIM : Fld := ⟨0x00C, 31, 0⟩
abbrev DESC.BIAS : Fld := ⟨0x010, 31, 0⟩
abbrev DESC.DITHER : Fld := ⟨0x014, 31, 0⟩
abbrev DESC.B0 : Fld := ⟨0x018, 31, 0⟩
abbrev DESC.B1 : Fld := ⟨0x01C, 31, 0⟩
abbrev DESC.B2 : Fld := ⟨0x020, 31, 0⟩
abbrev DESC.B3 : Fld := ⟨0x024, 31, 0⟩
abbrev DESC.A1 : Fld := ⟨0x028, 31, 0⟩
abbrev DESC.A2 : Fld := ⟨0x02C, 31, 0⟩
abbrev DESC.A3 : Fld := ⟨0x030, 31, 0⟩
abbrev DESC.FF : Fld := ⟨0x034, 31, 0⟩
abbrev DESC.PLAUS_A : Fld := ⟨0x038, 31, 0⟩
abbrev DESC.PLAUS_B : Fld := ⟨0x03C, 31, 0⟩
abbrev HDR.PAGE_ID : Fld := ⟨0x000, 31, 0⟩
abbrev HDR.PAGE_VER : Fld := ⟨0x004, 31, 0⟩
abbrev HDR.PAGE_CAPS : Fld := ⟨0x008, 31, 0⟩
abbrev HDR.PAGE_CTRL : Fld := ⟨0x00C, 31, 0⟩
abbrev HDR.PAGE_STAT : Fld := ⟨0x010, 31, 0⟩
abbrev HDR.EVT_STAT : Fld := ⟨0x014, 31, 0⟩
abbrev HDR.EVT_EN : Fld := ⟨0x018, 31, 0⟩
abbrev HDR.EVT_SET : Fld := ⟨0x01C, 31, 0⟩
abbrev HDR.ERR_STAT : Fld := ⟨0x020, 31, 0⟩
abbrev HDR.ERR_INFO : Fld := ⟨0x024, 31, 0⟩

/-- Register rows of DIRECTORY (R20). -/
def rowsDIRECTORY : List RegRow := [
  ⟨"DIR_COUNT", 0x040, 1, 0x4, 0x0, 0x0, 0x0, 0x0, 0x0, 0x0, 0x0, 0x0, 0⟩,
  ⟨"DIR_GEN", 0x044, 1, 0x4, 0x0, 0x0, 0x0, 0x0, 0x0, 0x0, 0x0, 0x0, 0⟩,
  ⟨"ENTRY_WORD0", 0x100, 480, 0x8, 0x0, 0x0, 0x0, 0x0, 0x0, 0x0, 0x0, 0x0, 0⟩,
  ⟨"ENTRY_WORD1", 0x104, 480, 0x8, 0x0, 0x0, 0x0, 0x0, 0x0, 0x0, 0x0, 0x0, 0⟩]


/-- Register rows of MODULE (R34). -/
def rowsMODULE : List RegRow := [
  ⟨"SERIAL_LO", 0x040, 1, 0x4, 0x0, 0x0, 0x0, 0x0, 0xFFFFFFFF, 0xFFFFFFFF, 0xFFFFFFFF, 0x0, 1⟩,
  ⟨"SERIAL_HI", 0x044, 1, 0x4, 0x0, 0x0, 0x0, 0x0, 0xFFFFFFFF, 0xFFFFFFFF, 0xFFFFFFFF, 0x0, 2⟩,
  ⟨"PART", 0x048, 1, 0x4, 0x0, 0x0, 0x0, 0x0, 0xFF0000, 0xFF0000, 0xFF0000, 0x880, 0⟩,
  ⟨"STRAPS", 0x04C, 1, 0x4, 0x0, 0x0, 0x0, 0x0, 0x7, 0x7, 0x7, 0x0, 0⟩,
  ⟨"CLK_STAT", 0x050, 1, 0x4, 0xFFFF0000, 0x0, 0x0, 0x0, 0xFFFF0007, 0xFFFF0000, 0x0, 0x0, 0⟩]


/-- Register rows of TILE (R119). -/
def rowsTILE : List RegRow := [
  ⟨"CTRL", 0x040, 1, 0x4, 0x3, 0x0, 0x0, 0x0, 0x0, 0x0, 0x0, 0x0, 0⟩,
  ⟨"STATUS", 0x044, 1, 0x4, 0x0, 0xFF, 0x0, 0x0, 0x0, 0x0, 0x0, 0x0, 0⟩,
  ⟨"PC", 0x048, 1, 0x4, 0x0, 0x0, 0x0, 0x0, 0x0, 0x0, 0x0, 0x0, 0⟩,
  ⟨"FLAG_PC", 0x04C, 1, 0x4, 0x0, 0x0, 0x0, 0x0, 0x0, 0x0, 0x0, 0x0, 0⟩,
  ⟨"TOKENS", 0x050, 4, 0x4, 0x0, 0x0, 0x0, 0x0, 0x0, 0x0, 0x0, 0x0, 0⟩,
  ⟨"INDEX", 0x060, 7, 0x4, 0x0, 0x0, 0x0, 0x0, 0x0, 0x0, 0x0, 0x0, 0⟩,
  ⟨"PHYS", 0x07C, 1, 0x4, 0x0, 0x0, 0x0, 0x0, 0x0, 0xFF, 0x0, 0x0, 0⟩,
  ⟨"EBASE_LO", 0x080, 1, 0x4, 0x0, 0x0, 0x0, 0x0, 0x0, 0x0, 0x0, 0x0, 1⟩,
  ⟨"EBASE_HI", 0x084, 1, 0x4, 0x0, 0x0, 0x0, 0x0, 0x0, 0x0, 0x0, 0x0, 2⟩,
  ⟨"RUN_CYC_LO", 0x088, 1, 0x4, 0x0, 0x0, 0x0, 0x0, 0x0, 0x0, 0x0, 0x0, 1⟩,
  ⟨"RUN_CYC_HI", 0x08C, 1, 0x4, 0x0, 0x0, 0x0, 0x0, 0x0, 0x0, 0x0, 0x0, 2⟩,
  ⟨"WAIT_CYC_LO", 0x090, 1, 0x4, 0x0, 0x0, 0x0, 0x0, 0x0, 0x0, 0x0, 0x0, 1⟩,
  ⟨"WAIT_CYC_HI", 0x094, 1, 0x4, 0x0, 0x0, 0x0, 0x0, 0x0, 0x0, 0x0, 0x0, 2⟩,
  ⟨"GOV_CYC_LO", 0x098, 1, 0x4, 0x0, 0x0, 0x0, 0x0, 0x0, 0x0, 0x0, 0x0, 1⟩,
  ⟨"GOV_CYC_HI", 0x09C, 1, 0x4, 0x0, 0x0, 0x0, 0x0, 0x0, 0x0, 0x0, 0x0, 2⟩,
  ⟨"BANK_CONF_LO", 0x0A0, 1, 0x4, 0x0, 0x0, 0x0, 0x0, 0x0, 0x0, 0x0, 0x0, 1⟩,
  ⟨"BANK_CONF_HI", 0x0A4, 1, 0x4, 0x0, 0x0, 0x0, 0x0, 0x0, 0x0, 0x0, 0x0, 2⟩,
  ⟨"AUDIT_LIMIT", 0x0A8, 1, 0x4, 0xFFFFFFFF, 0x0, 0x0, 0x0, 0x0, 0x0, 0x0, 0x0, 0⟩,
  ⟨"AUDIT_STAT", 0x0AC, 1, 0x4, 0x0, 0x0, 0x0, 0xFFFFF, 0x0, 0x0, 0x0, 0x0, 0⟩,
  ⟨"AUDIT_PC", 0x0B0, 1, 0x4, 0x0, 0x0, 0x0, 0x0, 0x0, 0x0, 0x0, 0x0, 0⟩,
  ⟨"AUDIT_ADDR", 0x0B4, 1, 0x4, 0x0, 0x0, 0x0, 0x0, 0x0, 0x0, 0x0, 0x0, 0⟩,
  ⟨"ECC_CORR", 0x0B8, 1, 0x4, 0x0, 0x0, 0x0, 0x0, 0x0, 0x0, 0x0, 0x0, 0⟩,
  ⟨"ECC_UNCORR", 0x0BC, 1, 0x4, 0x0, 0x0, 0x0, 0x0, 0x0, 0x0, 0x0, 0x0, 0⟩]


/-- Register rows of MESH (R152). -/
def rowsMESH : List RegRow := [
  ⟨"SHAPE", 0x040, 1, 0x4, 0x0, 0x0, 0x0, 0x0, 0x0, 0x0, 0x0, 0xCAB0, 0⟩,
  ⟨"REPAIR_A", 0x044, 1, 0x4, 0x0, 0x0, 0x0, 0x0, 0x0, 0x0, 0x0, 0x0, 0⟩,
  ⟨"REPAIR_B", 0x048, 1, 0x4, 0x0, 0x0, 0x0, 0x0, 0x0, 0x0, 0x0, 0x0, 0⟩,
  ⟨"PENDING", 0x04C, 1, 0x4, 0x0, 0x0, 0x0, 0x0, 0x0, 0x0, 0x0, 0x0, 0⟩,
  ⟨"SCHED_STAT", 0x050, 1, 0x4, 0x0, 0x0, 0x0, 0x0, 0x0, 0x0, 0x0, 0x0, 0⟩,
  ⟨"SCHED_CYC_LO", 0x054, 1, 0x4, 0x0, 0x0, 0x0, 0x0, 0x0, 0x0, 0x0, 0x0, 1⟩,
  ⟨"SCHED_CYC_HI", 0x058, 1, 0x4, 0x0, 0x0, 0x0, 0x0, 0x0, 0x0, 0x0, 0x0, 2⟩,
  ⟨"LATE_SENDS", 0x05C, 1, 0x4, 0x0, 0x0, 0x0, 0x0, 0x0, 0x0, 0x0, 0x0, 0⟩,
  ⟨"LINK_STAT", 0x060, 4, 0x10, 0x0, 0x0, 0x0, 0x0, 0x0, 0x0, 0x0, 0x0, 0⟩,
  ⟨"LINK_CORR", 0x064, 4, 0x10, 0x0, 0x0, 0x0, 0x0, 0x0, 0x0, 0x0, 0x0, 0⟩,
  ⟨"LINK_UNCORR", 0x068, 4, 0x10, 0x0, 0x0, 0x0, 0x0, 0x0, 0x0, 0x0, 0x0, 0⟩,
  ⟨"LINK_RETRY", 0x06C, 4, 0x10, 0x0, 0x0, 0x0, 0x0, 0x0, 0x0, 0x0, 0x0, 0⟩]


/-- Register rows of DIE (R183). -/
def rowsDIE : List RegRow := [
  ⟨"JOB_CTRL", 0x040, 1, 0x4, 0x0, 0x0, 0x0, 0x0, 0x0, 0x0, 0x0, 0x0, 0⟩,
  ⟨"JOB_STAT", 0x044, 1, 0x4, 0x0, 0x0, 0x0, 0x0, 0x0, 0x0, 0x0, 0x0, 0⟩,
  ⟨"IMG_ADDR_LO", 0x048, 1, 0x4, 0xFFFFFFFF, 0x0, 0x0, 0x0, 0x0, 0x0, 0x0, 0x0, 1⟩,
  ⟨"IMG_ADDR_HI", 0x04C, 1, 0x4, 0xFF, 0x0, 0x0, 0x0, 0x0, 0x0, 0x0, 0x0, 2⟩,
  ⟨"IMG_BYTES_LO", 0x050, 1, 0x4, 0xFFFFFFFF, 0x0, 0x0, 0x0, 0x0, 0x0, 0x0, 0x0, 1⟩,
  ⟨"IMG_BYTES_HI", 0x054, 1, 0x4, 0xFF, 0x0, 0x0, 0x0, 0x0, 0x0, 0x0, 0x0, 2⟩,
  ⟨"NEXT", 0x058, 1, 0x4, 0xF, 0x0, 0x0, 0x0, 0x0, 0x0, 0x0, 0x0, 0⟩,
  ⟨"NEXT_TIME_LO", 0x05C, 1, 0x4, 0xFFFFFFFF, 0x0, 0x0, 0x0, 0x0, 0x0, 0x0, 0x0, 1⟩,
  ⟨"NEXT_TIME_HI", 0x060, 1, 0x4, 0xFFFFFFFF, 0x0, 0x0, 0x0, 0x0, 0x0, 0x0, 0x0, 2⟩,
  ⟨"PHASE_START_LO", 0x064, 1, 0x4, 0x0, 0x0, 0x0, 0x0, 0x0, 0x0, 0x0, 0x0, 1⟩,
  ⟨"PHASE_START_HI", 0x068, 1, 0x4, 0x0, 0x0, 0x0, 0x0, 0x0, 0x0, 0x0, 0x0, 2⟩,
  ⟨"REFUSE", 0x06C, 1, 0x4, 0x0, 0x0, 0x0, 0x0, 0x0, 0x0, 0x0, 0x0, 0⟩,
  ⟨"REFUSE_ARG_LO", 0x070, 1, 0x4, 0x0, 0x0, 0x0, 0x0, 0x0, 0x0, 0x0, 0x0, 1⟩,
  ⟨"REFUSE_ARG_HI", 0x074, 1, 0x4, 0x0, 0x0, 0x0, 0x0, 0x0, 0x0, 0x0, 0x0, 2⟩,
  ⟨"BARRIER_WAIT_LO", 0x078, 1, 0x4, 0x0, 0x0, 0x0, 0x0, 0x0, 0x0, 0x0, 0x0, 0⟩,
  ⟨"BARRIER_WAIT_HI", 0x07C, 1, 0x4, 0x0, 0x0, 0x0, 0x0, 0x0, 0x0, 0x0, 0x0, 0⟩,
  ⟨"SEED_LO", 0x080, 1, 0x4, 0xFFFFFFFF, 0x0, 0x0, 0x0, 0x0, 0x0, 0x0, 0x0, 1⟩,
  ⟨"SEED_HI", 0x084, 1, 0x4, 0xFFFFFFFF, 0x0, 0x0, 0x0, 0x0, 0x0, 0x0, 0x0, 2⟩,
  ⟨"LATE", 0x088, 1, 0x4, 0x0, 0x0, 0x0, 0x0, 0x0, 0x0, 0x0, 0x0, 0⟩,
  ⟨"LATE_NS", 0x08C, 1, 0x4, 0x0, 0x0, 0x0, 0x0, 0x0, 0x0, 0x0, 0x0, 0⟩,
  ⟨"BUILD_ID", 0x090, 4, 0x4, 0x0, 0x0, 0x0, 0x0, 0x0, 0x0, 0x0, 0x0, 0⟩,
  ⟨"SRAM_SCRUB", 0x100, 1, 0x4, 0xFFFF, 0x0, 0x0, 0x0, 0x0, 0x0, 0x0, 0x17E, 0⟩,
  ⟨"SRAM_PASS", 0x104, 1, 0x4, 0x0, 0x0, 0x0, 0x0, 0x0, 0x0, 0x0, 0x0, 0⟩,
  ⟨"SRAM_CORR", 0x108, 1, 0x4, 0x0, 0x0, 0x0, 0x0, 0x0, 0x0, 0x0, 0x0, 0⟩,
  ⟨"SRAM_UNCORR", 0x10C, 1, 0x4, 0x0, 0x0, 0x0, 0x0, 0x0, 0x0, 0x0, 0x0, 0⟩,
  ⟨"SRAM_LATE", 0x110, 1, 0x4, 0x0, 0x0, 0x0, 0x0, 0x0, 0x0, 0x0, 0x0, 0⟩,
  ⟨"SRAM_LAST", 0x114, 1, 0x4, 0x0, 0x0, 0x0, 0x0, 0x0, 0x0, 0x0, 0x0, 0⟩,
  ⟨"GOV_CYC_LO", 0x118, 1, 0x4, 0x0, 0x0, 0x0, 0x0, 0x0, 0x0, 0x0, 0x0, 1⟩,
  ⟨"GOV_CYC_HI", 0x11C, 1, 0x4, 0x0, 0x0, 0x0, 0x0, 0x0, 0x0, 0x0, 0x0, 2⟩]


/-- Register rows of HBM (R185). -/
def rowsHBM : List RegRow := [
  ⟨"STACK_STAT", 0x040, 1, 0x4, 0x0, 0x0, 0x0, 0x0, 0x100, 0x100, 0x100, 0x0, 0⟩,
  ⟨"CAPACITY", 0x044, 1, 0x4, 0x0, 0x0, 0x0, 0x0, 0x0, 0x0, 0x0, 0x218711A0, 0⟩,
  ⟨"SCRUB_PERIOD", 0x048, 1, 0x4, 0xFFFFF, 0x0, 0x0, 0x0, 0x0, 0x0, 0x0, 0x15180, 0⟩,
  ⟨"SCRUB_POS", 0x04C, 1, 0x4, 0x0, 0x0, 0x0, 0x0, 0x0, 0x0, 0x0, 0x0, 0⟩,
  ⟨"SCRUB_PASS", 0x050, 1, 0x4, 0x0, 0x0, 0x0, 0x0, 0x0, 0x0, 0x0, 0x0, 0⟩,
  ⟨"CORR", 0x054, 1, 0x4, 0x0, 0x0, 0x0, 0x0, 0x0, 0x0, 0x0, 0x0, 0⟩,
  ⟨"UNCORR", 0x058, 1, 0x4, 0x0, 0x0, 0x0, 0x0, 0x0, 0x0, 0x0, 0x0, 0⟩,
  ⟨"POISON_READ", 0x05C, 1, 0x4, 0x0, 0x0, 0x0, 0x0, 0x0, 0x0, 0x0, 0x0, 0⟩,
  ⟨"LAST_UNCORR_LO", 0x060, 1, 0x4, 0x0, 0x0, 0x0, 0x0, 0x0, 0x0, 0x0, 0x0, 1⟩,
  ⟨"LAST_UNCORR_HI", 0x064, 1, 0x4, 0x0, 0x0, 0x0, 0x0, 0x0, 0x0, 0x0, 0x0, 2⟩,
  ⟨"MAPOUT_CTRL", 0x068, 1, 0x4, 0xFFFF0003, 0x0, 0x0, 0x0, 0xFFFF0003, 0xFFFF0003, 0x0, 0x400000, 0⟩]


/-- Register rows of SIZE_TABLE (R193). -/
def rowsSIZE_TABLE : List RegRow := [
  ⟨"CONTRACT", 0x040, 1, 0x4, 0x0, 0x0, 0x0, 0x0, 0x0, 0x0, 0x0, 0x100, 0⟩,
  ⟨"DIES", 0x044, 1, 0x4, 0x0, 0x0, 0x0, 0x0, 0x0, 0x0, 0x0, 0x0, 0⟩,
  ⟨"TILE_CLK", 0x048, 1, 0x4, 0x0, 0x0, 0x0, 0x0, 0x0, 0x0, 0x0, 0x640, 0⟩,
  ⟨"DIE_SHAPE", 0x04C, 4, 0x4, 0x0, 0x0, 0x0, 0x0, 0x0, 0x0, 0x0, 0x0, 0⟩,
  ⟨"TILE_MEM", 0x05C, 1, 0x4, 0x0, 0x0, 0x0, 0x0, 0x0, 0x0, 0x0, 0x4002000, 0⟩,
  ⟨"TILE_ARRAY", 0x060, 1, 0x4, 0x0, 0x0, 0x0, 0x0, 0x0, 0x0, 0x0, 0x20010020, 0⟩,
  ⟨"TILE_SEQ", 0x064, 1, 0x4, 0x0, 0x0, 0x0, 0x0, 0x0, 0x0, 0x0, 0x4F04000, 0⟩,
  ⟨"TILE_VEC", 0x068, 1, 0x4, 0x0, 0x0, 0x0, 0x0, 0x0, 0x0, 0x0, 0x10402080, 0⟩,
  ⟨"FORMAT_MAP", 0x06C, 4, 0x4, 0x0, 0x0, 0x0, 0x0, 0x0, 0x0, 0x0, 0x0, 0⟩,
  ⟨"HBM_STACKS", 0x07C, 1, 0x4, 0x0, 0x0, 0x0, 0x0, 0x0, 0x0, 0x0, 0x0, 0⟩,
  ⟨"HBM_CAP", 0x080, 1, 0x4, 0x0, 0x0, 0x0, 0x0, 0x0, 0x0, 0x0, 0x0, 0⟩,
  ⟨"HBM_BW", 0x084, 1, 0x4, 0x0, 0x0, 0x0, 0x0, 0x0, 0x0, 0x0, 0x0, 0⟩,
  ⟨"OPTICS", 0x088, 1, 0x4, 0x0, 0x0, 0x0, 0x0, 0x0, 0x0, 0x0, 0x2101824, 0⟩,
  ⟨"QUEUES_PER_DIE", 0x08C, 1, 0x4, 0x0, 0x0, 0x0, 0x0, 0x0, 0x0, 0x0, 0x10000, 0⟩,
  ⟨"STREAMS_PER_DIE", 0x090, 1, 0x4, 0x0, 0x0, 0x0, 0x0, 0x0, 0x0, 0x0, 0x4000, 0⟩,
  ⟨"SESSIONS_PER_DIE", 0x094, 1, 0x4, 0x0, 0x0, 0x0, 0x0, 0x0, 0x0, 0x0, 0x40000, 0⟩,
  ⟨"LOOPS", 0x098, 1, 0x4, 0x0, 0x0, 0x0, 0x0, 0x0, 0x0, 0x0, 0x200800, 0⟩,
  ⟨"SLOTS_PER_PHASE", 0x09C, 1, 0x4, 0x0, 0x0, 0x0, 0x0, 0x0, 0x0, 0x0, 0x100000, 0⟩,
  ⟨"DESCRIPTORS", 0x0A0, 1, 0x4, 0x0, 0x0, 0x0, 0x0, 0x0, 0x0, 0x0, 0x10000, 0⟩,
  ⟨"DESTINATIONS", 0x0A4, 1, 0x4, 0x0, 0x0, 0x0, 0x0, 0x0, 0x0, 0x0, 0x10000, 0⟩,
  ⟨"RESHARD_PER_DIE", 0x0A8, 1, 0x4, 0x0, 0x0, 0x0, 0x0, 0x0, 0x0, 0x0, 0x4000, 0⟩]


/-- Register rows of RESHARD (R223). -/
def rowsRESHARD : List RegRow := [
  ⟨"TIMEOUT", 0x040, 1, 0x4, 0xFFFFFF, 0x0, 0x0, 0x0, 0x0, 0x0, 0x0, 0x2710, 0⟩,
  ⟨"STAT", 0x044, 1, 0x4, 0x0, 0x0, 0x0, 0x0, 0x0, 0x0, 0x0, 0x0, 0⟩,
  ⟨"DESC_TOTAL", 0x048, 1, 0x4, 0x0, 0x0, 0x0, 0x0, 0x0, 0x0, 0x0, 0x0, 0⟩,
  ⟨"DESC_DONE", 0x04C, 1, 0x4, 0x0, 0x0, 0x0, 0x0, 0x0, 0x0, 0x0, 0x0, 0⟩,
  ⟨"BYTES_OUT_LO", 0x050, 1, 0x4, 0x0, 0x0, 0x0, 0x0, 0x0, 0x0, 0x0, 0x0, 1⟩,
  ⟨"BYTES_OUT_HI", 0x054, 1, 0x4, 0x0, 0x0, 0x0, 0x0, 0x0, 0x0, 0x0, 0x0, 2⟩,
  ⟨"BYTES_IN_LO", 0x058, 1, 0x4, 0x0, 0x0, 0x0, 0x0, 0x0, 0x0, 0x0, 0x0, 1⟩,
  ⟨"BYTES_IN_HI", 0x05C, 1, 0x4, 0x0, 0x0, 0x0, 0x0, 0x0, 0x0, 0x0, 0x0, 2⟩,
  ⟨"FAIL", 0x060, 1, 0x4, 0x0, 0x0, 0x0, 0x0, 0x0, 0x0, 0x0, 0x0, 0⟩]


/-- Register rows of MSG (R265). -/
def rowsMSG : List RegRow := [
  ⟨"EPOCH", 0x040, 1, 0x4, 0x0, 0x0, 0x0, 0x0, 0xFFFFFFFF, 0xFFFFFFFF, 0xFFFFFFFF, 0x0, 0⟩,
  ⟨"ACK_TIMEOUT", 0x044, 1, 0x4, 0xFFFF, 0x0, 0x0, 0x0, 0x0, 0x0, 0x0, 0x14, 0⟩,
  ⟨"RETRY_LIMIT", 0x048, 1, 0x4, 0xF, 0x0, 0x0, 0x0, 0x0, 0x0, 0x0, 0x8, 0⟩,
  ⟨"PATH_WAIT", 0x04C, 1, 0x4, 0xFFFFFF, 0x0, 0x0, 0x0, 0x0, 0x0, 0x0, 0x7D0, 0⟩,
  ⟨"PEER_CTRL", 0x050, 1, 0x4, 0x0, 0x0, 0x0, 0x0, 0x0, 0x0, 0x0, 0x0, 0⟩,
  ⟨"PEER_STAT", 0x054, 1, 0x4, 0x0, 0x0, 0x0, 0x0, 0x0, 0x0, 0x0, 0x0, 0⟩,
  ⟨"LAST_PEER", 0x058, 1, 0x4, 0x0, 0x0, 0x0, 0x0, 0x0, 0x0, 0x0, 0x0, 0⟩,
  ⟨"LAST_PEER_EPOCH", 0x05C, 1, 0x4, 0x0, 0x0, 0x0, 0x0, 0x0, 0x0, 0x0, 0x0, 0⟩,
  ⟨"MISROUTE", 0x060, 1, 0x4, 0x0, 0x0, 0x0, 0x0, 0x0, 0x0, 0x0, 0x0, 0⟩,
  ⟨"EPOCH_NACK_OUT", 0x064, 1, 0x4, 0x0, 0x0, 0x0, 0x0, 0x0, 0x0, 0x0, 0x0, 0⟩,
  ⟨"EPOCH_NACK_IN", 0x068, 1, 0x4, 0x0, 0x0, 0x0, 0x0, 0x0, 0x0, 0x0, 0x0, 0⟩,
  ⟨"RESYNCS", 0x06C, 1, 0x4, 0x0, 0x0, 0x0, 0x0, 0x0, 0x0, 0x0, 0x0, 0⟩,
  ⟨"PATH_FAILS", 0x070, 1, 0x4, 0x0, 0x0, 0x0, 0x0, 0x0, 0x0, 0x0, 0x0, 0⟩]


/-- Register rows of MENG (R268). -/
def rowsMENG : List RegRow := [
  ⟨"QCMD", 0x040, 1, 0x4, 0x0, 0x0, 0x0, 0x0, 0x0, 0x0, 0x0, 0x0, 0⟩,
  ⟨"QCMD_STAT", 0x044, 1, 0x4, 0x0, 0x0, 0x0, 0x0, 0x0, 0x0, 0x0, 0x0, 0⟩,
  ⟨"QARG_RING_LO", 0x048, 1, 0x4, 0xFFFFFFFF, 0x0, 0x0, 0x0, 0x0, 0x0, 0x0, 0x0, 1⟩,
  ⟨"QARG_RING_HI", 0x04C, 1, 0x4, 0xFF, 0x0, 0x0, 0x0, 0x0, 0x0, 0x0, 0x0, 2⟩,
  ⟨"QARG_INDEX_LO", 0x050, 1, 0x4, 0xFFFFFFFF, 0x0, 0x0, 0x0, 0x0, 0x0, 0x0, 0x0, 1⟩,
  ⟨"QARG_INDEX_HI", 0x054, 1, 0x4, 0xFF, 0x0, 0x0, 0x0, 0x0, 0x0, 0x0, 0x0, 2⟩,
  ⟨"QARG_CFG", 0x058, 1, 0x4, 0xFFF031F, 0x0, 0x0, 0x0, 0x0, 0x0, 0x0, 0x0, 0⟩,
  ⟨"QRD_POSTED", 0x05C, 1, 0x4, 0x0, 0x0, 0x0, 0x0, 0x0, 0x0, 0x0, 0x0, 0⟩,
  ⟨"QRD_CONSUMED", 0x060, 1, 0x4, 0x0, 0x0, 0x0, 0x0, 0x0, 0x0, 0x0, 0x0, 0⟩,
  ⟨"QRD_EPOCH", 0x064, 1, 0x4, 0x0, 0x0, 0x0, 0x0, 0x0, 0x0, 0x0, 0x0, 0⟩,
  ⟨"QRD_STAT", 0x068, 1, 0x4, 0x0, 0x0, 0x0, 0x0, 0x0, 0x0, 0x0, 0x0, 0⟩,
  ⟨"DOORBELL", 0x06C, 1, 0x4, 0x0, 0x0, 0x0, 0x0, 0x0, 0x0, 0x0, 0x0, 0⟩,
  ⟨"SESS_TABLE_LO", 0x070, 1, 0x4, 0xFFFFFFFF, 0x0, 0x0, 0x0, 0x0, 0x0, 0x0, 0x0, 1⟩,
  ⟨"SESS_TABLE_HI", 0x074, 1, 0x4, 0xFF, 0x0, 0x0, 0x0, 0x0, 0x0, 0x0, 0x0, 2⟩,
  ⟨"SESS_CTRL", 0x078, 1, 0x4, 0x0, 0x0, 0x0, 0x0, 0x0, 0x0, 0x0, 0x0, 0⟩,
  ⟨"STREAMS", 0x07C, 1, 0x4, 0x0, 0x0, 0x0, 0x0, 0x0, 0x0, 0x0, 0x40000000, 0⟩,
  ⟨"RX_STREAMS", 0x080, 1, 0x4, 0x0, 0x0, 0x0, 0x0, 0x0, 0x0, 0x0, 0x40000000, 0⟩,
  ⟨"ARRIVAL", 0x084, 1, 0x4, 0x0, 0x0, 0x0, 0xC003FFFF, 0x0, 0x0, 0x0, 0x0, 0⟩,
  ⟨"FAIL_A", 0x088, 1, 0x4, 0x0, 0x0, 0x0, 0xC07F07FF, 0x0, 0x0, 0x0, 0x0, 0⟩,
  ⟨"FAIL_B", 0x08C, 1, 0x4, 0x0, 0x0, 0x0, 0x0, 0x0, 0x0, 0x0, 0x0, 0⟩,
  ⟨"QUEUES", 0x090, 1, 0x4, 0x0, 0x0, 0x0, 0x0, 0x0, 0x0, 0x0, 0x0, 0⟩,
  ⟨"CNT", 0x094, 11, 0x4, 0x0, 0x0, 0x0, 0x0, 0x0, 0x0, 0x0, 0x0, 0⟩]


/-- Register rows of TIME (R294). -/
def rowsTIME : List RegRow := [
  ⟨"CTRL", 0x040, 1, 0x4, 0x10007, 0x0, 0x0, 0x0, 0x10007, 0x0, 0x0, 0x0, 0⟩,
  ⟨"STAT", 0x044, 1, 0x4, 0x0, 0x0, 0x0, 0x0, 0x7, 0x0, 0x0, 0x0, 0⟩,
  ⟨"NOW_LO", 0x048, 1, 0x4, 0x0, 0x0, 0x0, 0x0, 0xFFFFFFFF, 0x0, 0x0, 0x0, 1⟩,
  ⟨"NOW_HI", 0x04C, 1, 0x4, 0x0, 0x0, 0x0, 0x0, 0xFFFFFFFF, 0x0, 0x0, 0x0, 2⟩,
  ⟨"NOW_FRAC", 0x050, 1, 0x4, 0x0, 0x0, 0x0, 0x0, 0xFFFFFFFF, 0x0, 0x0, 0x0, 0⟩,
  ⟨"UP_LO", 0x054, 1, 0x4, 0x0, 0x0, 0x0, 0x0, 0xFFFFFFFF, 0x0, 0x0, 0x0, 1⟩,
  ⟨"UP_HI", 0x058, 1, 0x4, 0x0, 0x0, 0x0, 0x0, 0xFFFFFFFF, 0x0, 0x0, 0x0, 2⟩,
  ⟨"INC_FRAC", 0x05C, 1, 0x4, 0xFFFFFFFF, 0x0, 0x0, 0x0, 0xFFFFFFFF, 0x0, 0x0, 0x80000000, 0⟩,
  ⟨"INC_NS", 0x060, 1, 0x4, 0xFF, 0x0, 0x0, 0x0, 0xFF, 0x0, 0x0, 0x2, 0⟩,
  ⟨"STEP_FRAC", 0x064, 1, 0x4, 0xFFFFFFFF, 0x0, 0x0, 0x0, 0xFFFFFFFF, 0x0, 0x0, 0x0, 0⟩,
  ⟨"STEP_LO", 0x068, 1, 0x4, 0xFFFFFFFF, 0x0, 0x0, 0x0, 0xFFFFFFFF, 0x0, 0x0, 0x0, 1⟩,
  ⟨"STEP_HI", 0x06C, 1, 0x4, 0xFFFFFFFF, 0x0, 0x0, 0x0, 0xFFFFFFFF, 0x0, 0x0, 0x0, 2⟩,
  ⟨"STEP_CTRL", 0x070, 1, 0x4, 0x1, 0x0, 0x0, 0x0, 0x1, 0x0, 0x0, 0x0, 0⟩,
  ⟨"STEP_THRESH", 0x074, 1, 0x4, 0xFFFFFFFF, 0x0, 0x0, 0x0, 0xFFFFFFFF, 0x0, 0x0, 0x186A0, 0⟩,
  ⟨"OFFSET", 0x078, 1, 0x4, 0x0, 0x0, 0x0, 0x0, 0xFFFFFFFF, 0x0, 0x0, 0x0, 0⟩,
  ⟨"SYNC_LOSS", 0x07C, 1, 0x4, 0xFFFF, 0x0, 0x0, 0x0, 0xFFFF, 0x0, 0x0, 0xBB8, 0⟩,
  ⟨"PPS_IGNORED", 0x080, 1, 0x4, 0x0, 0x0, 0x0, 0x0, 0xFFFFFFFF, 0x0, 0x0, 0x0, 0⟩,
  ⟨"PPS_LOSSES", 0x084, 1, 0x4, 0x0, 0x0, 0x0, 0x0, 0xFFFFFFFF, 0x0, 0x0, 0x0, 0⟩,
  ⟨"ZT_SLAVE", 0x088, 1, 0x4, 0xFFFFFFFF, 0x0, 0x0, 0x0, 0xFFFFFFFF, 0x0, 0x0, 0x0, 0⟩,
  ⟨"ZT_MASTER_LO", 0x08C, 1, 0x4, 0xFFFFFFFF, 0x0, 0x0, 0x0, 0xFFFFFFFF, 0x0, 0x0, 0x0, 0⟩,
  ⟨"ZT_MASTER_HI", 0x090, 1, 0x4, 0xF, 0x0, 0x0, 0x0, 0xF, 0x0, 0x0, 0x0, 0⟩,
  ⟨"ZT_CTRL", 0x094, 1, 0x4, 0xFF, 0x0, 0x0, 0x0, 0xFF, 0x0, 0x0, 0xFA, 0⟩,
  ⟨"PTP_CTRL", 0x098, 1, 0x4, 0xFFFF0F, 0x0, 0x0, 0x0, 0xFFFF0F, 0x0, 0x0, 0x0, 0⟩,
  ⟨"ZT_ASYM", 0x09C, 1, 0x4, 0xFFFFFFFF, 0x0, 0x0, 0x0, 0xFFFFFFFF, 0x0, 0x0, 0x0, 0⟩,
  ⟨"CORR_IN", 0x100, 38, 0x8, 0x0, 0x0, 0x0, 0x0, 0xFFFFFFFF, 0x0, 0x0, 0x0, 0⟩,
  ⟨"CORR_OUT", 0x104, 38, 0x8, 0x0, 0x0, 0x0, 0x0, 0xFFFFFFFF, 0x0, 0x0, 0x0, 0⟩,
  ⟨"PIN_DELAY", 0x230, 1, 0x4, 0x0, 0x0, 0x0, 0x0, 0xFFFFFFFF, 0x0, 0x0, 0x222E0FA0, 0⟩,
  ⟨"CAP_CTRL", 0x280, 3, 0x20, 0x3, 0x0, 0x0, 0x0, 0x3, 0x0, 0x0, 0x0, 0⟩,
  ⟨"CAP_STAT", 0x284, 3, 0x20, 0x0, 0x100, 0x0, 0x0, 0x11F, 0x0, 0x0, 0x0, 0⟩,
  ⟨"CAP_TS_LO", 0x288, 3, 0x20, 0x0, 0x0, 0x0, 0xFFFFFFFF, 0xFFFFFFFF, 0x0, 0x0, 0x0, 0⟩,
  ⟨"CAP_TS_HI", 0x28C, 3, 0x20, 0x0, 0x0, 0x0, 0x0, 0xFFFFFFFF, 0x0, 0x0, 0x0, 0⟩,
  ⟨"CAP_TS_INFO", 0x290, 3, 0x20, 0x0, 0x0, 0x0, 0x0, 0x8003FFFF, 0x0, 0x0, 0x0, 0⟩]


/-- Register rows of TRIGGERS (R296). -/
def rowsTRIGGERS : List RegRow := [
  ⟨"PPS_CTRL", 0x040, 1, 0x4, 0xFFFFFF01, 0x0, 0x0, 0x0, 0x0, 0x0, 0x0, 0x186A000, 0⟩,
  ⟨"ARMED", 0x044, 1, 0x4, 0x0, 0x0, 0x0, 0x0, 0x0, 0x0, 0x0, 0x0, 0⟩,
  ⟨"TIME_LO", 0x100, 32, 0x20, 0xFFFFFFFF, 0x0, 0x0, 0x0, 0x0, 0x0, 0x0, 0x0, 1⟩,
  ⟨"TIME_HI", 0x104, 32, 0x20, 0xFFFFFFFF, 0x0, 0x0, 0x0, 0x0, 0x0, 0x0, 0x0, 2⟩,
  ⟨"PERIOD", 0x108, 32, 0x20, 0xFFFFFFFF, 0x0, 0x0, 0x0, 0x0, 0x0, 0x0, 0x0, 0⟩,
  ⟨"CTRL", 0x10C, 32, 0x20, 0x7, 0x0, 0x0, 0x0, 0x0, 0x0, 0x0, 0x0, 0⟩,
  ⟨"FIRES", 0x110, 32, 0x20, 0x0, 0x0, 0x0, 0x0, 0x0, 0x0, 0x0, 0x0, 0⟩,
  ⟨"MISSED", 0x114, 32, 0x20, 0x0, 0x0, 0x0, 0x0, 0x0, 0x0, 0x0, 0x0, 0⟩]


/-- Register rows of ENGINE (R335). -/
def rowsENGINE : List RegRow := [
  ⟨"STAT", 0x040, 1, 0x4, 0x0, 0x0, 0x0, 0x0, 0x0, 0x0, 0x0, 0x0, 0⟩,
  ⟨"HEATER_LIMIT", 0x044, 1, 0x4, 0x1FF, 0x0, 0x0, 0x0, 0x0, 0x0, 0x0, 0x12C, 0⟩,
  ⟨"HEATER_TOTAL", 0x048, 1, 0x4, 0x0, 0x0, 0x0, 0x0, 0x0, 0x0, 0x0, 0x0, 0⟩,
  ⟨"POWER", 0x04C, 1, 0x4, 0x0, 0x0, 0x0, 0x0, 0x0, 0x0, 0x0, 0x0, 0⟩,
  ⟨"RINGS", 0x050, 1, 0x4, 0x0, 0x0, 0x0, 0x0, 0x0, 0x0, 0x0, 0x0, 0⟩,
  ⟨"MZI", 0x054, 1, 0x4, 0x0, 0x0, 0x0, 0x0, 0x0, 0x0, 0x0, 0x0, 0⟩,
  ⟨"FW_VER", 0x058, 1, 0x4, 0x0, 0x0, 0x0, 0x0, 0xFFFFFFFF, 0xFFFFFFFF, 0xFFFFFFFF, 0x0, 0⟩]


/-- Register rows of COMB (R337). -/
def rowsCOMB : List RegRow := [
  ⟨"CTRL", 0x040, 1, 0x4, 0x2, 0x0, 0x1, 0x0, 0x0, 0x0, 0x0, 0x2, 0⟩,
  ⟨"STAT", 0x044, 1, 0x4, 0x0, 0x0, 0x0, 0x0, 0x10, 0x10, 0x10, 0x0, 0⟩,
  ⟨"GRID_ERR", 0x048, 1, 0x4, 0x0, 0x0, 0x0, 0x0, 0x0, 0x0, 0x0, 0x0, 0⟩,
  ⟨"LINE_TARGET", 0x04C, 1, 0x4, 0xFFFF, 0x0, 0x0, 0x0, 0x0, 0x0, 0x0, 0x640, 0⟩,
  ⟨"TEC", 0x050, 1, 0x4, 0x0, 0x0, 0x0, 0x0, 0x0, 0x0, 0x0, 0x0, 0⟩,
  ⟨"ETALON", 0x054, 1, 0x4, 0x0, 0x0, 0x0, 0x0, 0xFFFF, 0xFFFF, 0xFFFF, 0x0, 0⟩,
  ⟨"DROPS", 0x058, 1, 0x4, 0xFFFFFFFF, 0x0, 0x0, 0x0, 0xFFFFFFFF, 0xFFFFFFFF, 0x0, 0x0, 0⟩,
  ⟨"LINE", 0x060, 16, 0x4, 0x0, 0x0, 0x0, 0x0, 0x0, 0x0, 0x0, 0x0, 0⟩]


/-- Register rows of PORT (R340). -/
def rowsPORT : List RegRow := [
  ⟨"CFG", 0x040, 1, 0x4, 0x71, 0x0, 0x0, 0x0, 0x0, 0x0, 0x0, 0x20, 0⟩,
  ⟨"STAT", 0x044, 1, 0x4, 0x0, 0x0, 0x0, 0x0, 0x0, 0x0, 0x0, 0x0, 0⟩,
  ⟨"FIBRE_PWR", 0x048, 1, 0x4, 0x0, 0x0, 0x0, 0x0, 0x0, 0x0, 0x0, 0x0, 0⟩,
  ⟨"TX_STATE", 0x04C, 1, 0x4, 0x0, 0x0, 0x0, 0x0, 0x0, 0x0, 0x0, 0x0, 0⟩,
  ⟨"RX_STATE", 0x050, 1, 0x4, 0x0, 0x0, 0x0, 0x0, 0x0, 0x0, 0x0, 0x0, 0⟩,
  ⟨"SPARE", 0x054, 1, 0x4, 0x0, 0x0, 0x0, 0x0, 0x0, 0x0, 0x0, 0xFFFF0F00, 0⟩,
  ⟨"TX_EQ", 0x058, 1, 0x4, 0xBF3F, 0x0, 0x0, 0x0, 0x0, 0x0, 0x0, 0x0, 0⟩,
  ⟨"FFE_SEL", 0x05C, 1, 0x4, 0xF, 0x0, 0x0, 0x0, 0x0, 0x0, 0x0, 0x0, 0⟩,
  ⟨"FFE_TAPS_LO", 0x060, 1, 0x4, 0x0, 0x0, 0x0, 0x0, 0x0, 0x0, 0x0, 0x0, 0⟩,
  ⟨"FFE_TAPS_HI", 0x064, 1, 0x4, 0x0, 0x0, 0x0, 0x0, 0x0, 0x0, 0x0, 0x0, 0⟩,
  ⟨"RXBUF01", 0x068, 1, 0x4, 0x0, 0x0, 0x0, 0x0, 0x0, 0x0, 0x0, 0x2000400, 0⟩,
  ⟨"RXBUF23", 0x06C, 1, 0x4, 0x0, 0x0, 0x0, 0x0, 0x0, 0x0, 0x0, 0x200040, 0⟩,
  ⟨"BER_IN", 0x070, 1, 0x4, 0xFFFFFFFF, 0x0, 0x0, 0x0, 0x0, 0x0, 0x0, 0x16E3600, 0⟩,
  ⟨"BER_OUT", 0x074, 1, 0x4, 0xFFFFFFFF, 0x0, 0x0, 0x0, 0x0, 0x0, 0x0, 0x7270E00, 0⟩,
  ⟨"OPEN_FIBRE_CNT", 0x078, 1, 0x4, 0x0, 0x0, 0x0, 0x0, 0x0, 0x0, 0x0, 0x0, 0⟩,
  ⟨"LAUNCH_LIMIT_CNT", 0x07C, 1, 0x4, 0x0, 0x0, 0x0, 0x0, 0x0, 0x0, 0x0, 0x0, 0⟩,
  ⟨"VC3_DROP", 0x080, 1, 0x4, 0x0, 0x0, 0x0, 0x0, 0x0, 0x0, 0x0, 0x0, 0⟩,
  ⟨"FRAMES_OUT_LO", 0x084, 1, 0x4, 0x0, 0x0, 0x0, 0x0, 0x0, 0x0, 0x0, 0x0, 1⟩,
  ⟨"FRAMES_OUT_HI", 0x088, 1, 0x4, 0x0, 0x0, 0x0, 0x0, 0x0, 0x0, 0x0, 0x0, 2⟩,
  ⟨"FRAMES_IN_LO", 0x08C, 1, 0x4, 0x0, 0x0, 0x0, 0x0, 0x0, 0x0, 0x0, 0x0, 1⟩,
  ⟨"FRAMES_IN_HI", 0x090, 1, 0x4, 0x0, 0x0, 0x0, 0x0, 0x0, 0x0, 0x0, 0x0, 2⟩,
  ⟨"LCFG", 0x100, 9, 0x20, 0x0, 0x0, 0x0, 0x0, 0x0, 0x0, 0x0, 0x60, 0⟩,
  ⟨"LSTAT", 0x104, 9, 0x20, 0x0, 0x0, 0x0, 0x0, 0x0, 0x0, 0x0, 0x0, 0⟩,
  ⟨"RX_POWER", 0x108, 9, 0x20, 0x0, 0x0, 0x0, 0x0, 0x0, 0x0, 0x0, 0x0, 0⟩,
  ⟨"BER_EST", 0x10C, 9, 0x20, 0x0, 0x0, 0x0, 0x0, 0x0, 0x0, 0x0, 0x0, 0⟩,
  ⟨"FEC_SYM", 0x110, 9, 0x20, 0x0, 0x0, 0x0, 0x0, 0x0, 0x0, 0x0, 0x0, 0⟩,
  ⟨"FEC_UNCORR", 0x114, 9, 0x20, 0x0, 0x0, 0x0, 0x0, 0x0, 0x0, 0x0, 0x0, 0⟩,
  ⟨"CRC_ERR", 0x118, 9, 0x20, 0x0, 0x0, 0x0, 0x0, 0x0, 0x0, 0x0, 0x0, 0⟩,
  ⟨"OUT_COUNT", 0x11C, 9, 0x20, 0x0, 0x0, 0x0, 0x0, 0x0, 0x0, 0x0, 0x0, 0⟩]


/-- Register rows of XRDS (R378). -/
def rowsXRDS : List RegRow := [
  ⟨"PLAN_CTRL", 0x040, 1, 0x4, 0x0, 0x0, 0x0, 0x0, 0x0, 0x0, 0x0, 0x0, 0⟩,
  ⟨"CMD_CLAIM_LO", 0x044, 1, 0x4, 0xFFFFFFFF, 0x0, 0x0, 0x0, 0x0, 0x0, 0x0, 0x0, 1⟩,
  ⟨"CMD_CLAIM_HI", 0x048, 1, 0x4, 0xFFFFFFFF, 0x0, 0x0, 0x0, 0x0, 0x0, 0x0, 0x0, 2⟩,
  ⟨"CMD_STAT", 0x04C, 1, 0x4, 0x0, 0x0, 0x0, 0x0, 0x0, 0x0, 0x0, 0x0, 0⟩,
  ⟨"STAGE_ADDR", 0x050, 1, 0x4, 0x1FFFF, 0x0, 0x0, 0x0, 0x0, 0x0, 0x0, 0x0, 0⟩,
  ⟨"STAGE_DATA", 0x054, 1, 0x4, 0xFFFFFFFF, 0x0, 0x0, 0x0, 0x0, 0x0, 0x0, 0x0, 0⟩,
  ⟨"ACTIVE_ADDR", 0x058, 1, 0x4, 0x1FFFF, 0x0, 0x0, 0x0, 0x0, 0x0, 0x0, 0x0, 0⟩,
  ⟨"ACTIVE_DATA", 0x05C, 1, 0x4, 0x0, 0x0, 0x0, 0x0, 0x0, 0x0, 0x0, 0x0, 0⟩,
  ⟨"STAGE_STAT", 0x060, 1, 0x4, 0x0, 0x0, 0x0, 0x0, 0x0, 0x0, 0x0, 0x70, 0⟩,
  ⟨"ACTIVE_EPOCH", 0x064, 1, 0x4, 0x0, 0x0, 0x0, 0x0, 0x0, 0x0, 0x0, 0x0, 0⟩,
  ⟨"STAGED_EPOCH", 0x068, 1, 0x4, 0x0, 0x0, 0x0, 0x0, 0x0, 0x0, 0x0, 0x0, 0⟩,
  ⟨"PLAN_T_LO", 0x06C, 1, 0x4, 0xFFFFFFFF, 0x0, 0x0, 0x0, 0x0, 0x0, 0x0, 0x0, 1⟩,
  ⟨"PLAN_T_HI", 0x070, 1, 0x4, 0xFFFFFFFF, 0x0, 0x0, 0x0, 0x0, 0x0, 0x0, 0x0, 2⟩,
  ⟨"CHK_RESULT", 0x074, 1, 0x4, 0x0, 0x0, 0x0, 0x0, 0x0, 0x0, 0x0, 0x0, 0⟩,
  ⟨"CHK_TIME", 0x078, 1, 0x4, 0x0, 0x0, 0x0, 0x0, 0x0, 0x0, 0x0, 0x0, 0⟩,
  ⟨"SWITCHES", 0x07C, 1, 0x4, 0x0, 0x0, 0x0, 0x0, 0x0, 0x0, 0x0, 0x0, 0⟩,
  ⟨"PROTO", 0x080, 1, 0x4, 0x0, 0x0, 0x0, 0x0, 0x0, 0x0, 0x0, 0x1, 0⟩,
  ⟨"COORD", 0x084, 1, 0x4, 0x0, 0x0, 0x0, 0x0, 0x0, 0x0, 0x0, 0x0, 0⟩,
  ⟨"DISC_STAT", 0x088, 1, 0x4, 0x0, 0x0, 0x0, 0x0, 0x0, 0x0, 0x0, 0x0, 0⟩,
  ⟨"DISC_WAIT", 0x08C, 1, 0x4, 0xFFFF, 0x0, 0x0, 0x0, 0x0, 0x0, 0x0, 0x64, 0⟩,
  ⟨"MISSING_LO", 0x090, 1, 0x4, 0x0, 0x0, 0x0, 0x0, 0x0, 0x0, 0x0, 0x0, 0⟩,
  ⟨"MISSING_HI", 0x094, 1, 0x4, 0x0, 0x0, 0x0, 0x0, 0x0, 0x0, 0x0, 0x0, 0⟩,
  ⟨"EXTRA_LO", 0x098, 1, 0x4, 0x0, 0x0, 0x0, 0x0, 0x0, 0x0, 0x0, 0x0, 0⟩,
  ⟨"EXTRA_HI", 0x09C, 1, 0x4, 0x0, 0x0, 0x0, 0x0, 0x0, 0x0, 0x0, 0x0, 0⟩,
  ⟨"MISMATCH_LO", 0x0A0, 1, 0x4, 0x0, 0x0, 0x0, 0x0, 0x0, 0x0, 0x0, 0x0, 0⟩,
  ⟨"MISMATCH_HI", 0x0A4, 1, 0x4, 0x0, 0x0, 0x0, 0x0, 0x0, 0x0, 0x0, 0x0, 0⟩,
  ⟨"MAINT_LO", 0x0A8, 1, 0x4, 0x0, 0x0, 0x0, 0x0, 0x0, 0x0, 0x0, 0x0, 0⟩,
  ⟨"MAINT_HI", 0x0AC, 1, 0x4, 0x0, 0x0, 0x0, 0x0, 0x0, 0x0, 0x0, 0x0, 0⟩,
  ⟨"STEER_CNT", 0x0B0, 1, 0x4, 0x0, 0x0, 0x0, 0x0, 0x0, 0x0, 0x0, 0x0, 0⟩]


/-- Register rows of XRDS_ID (R380). -/
def rowsXRDS_ID : List RegRow := [
  ⟨"ID_SERIAL_LO", 0x040, 126, 0x20, 0x0, 0x0, 0x0, 0x0, 0x0, 0x0, 0x0, 0x0, 1⟩,
  ⟨"ID_SERIAL_HI", 0x044, 126, 0x20, 0x0, 0x0, 0x0, 0x0, 0x0, 0x0, 0x0, 0x0, 2⟩,
  ⟨"ID_INFO", 0x048, 126, 0x20, 0x0, 0x0, 0x0, 0x0, 0x0, 0x0, 0x0, 0x0, 0⟩,
  ⟨"ID_FW", 0x04C, 126, 0x20, 0x0, 0x0, 0x0, 0x0, 0x0, 0x0, 0x0, 0x0, 0⟩,
  ⟨"ID_EPOCH", 0x050, 126, 0x20, 0x0, 0x0, 0x0, 0x0, 0x0, 0x0, 0x0, 0x0, 0⟩,
  ⟨"ID_PATH", 0x054, 126, 0x20, 0x0, 0x0, 0x0, 0x0, 0x0, 0x0, 0x0, 0xFFFF, 0⟩,
  ⟨"ID_SEEN", 0x058, 126, 0x20, 0x0, 0x0, 0x0, 0x0, 0x0, 0x0, 0x0, 0xFFFF, 0⟩,
  ⟨"ID_INC", 0x05C, 126, 0x20, 0x0, 0x0, 0x0, 0x0, 0x0, 0x0, 0x0, 0x0, 0⟩]


/-- Register rows of XRDS_FREE (R381). -/
def rowsXRDS_FREE : List RegRow := [
  ⟨"FREE_ACT", 0x040, 36, 0x8, 0x0, 0x0, 0x0, 0x0, 0x0, 0x0, 0x0, 0xFFFFFFFF, 0⟩,
  ⟨"FREE_STG", 0x044, 36, 0x8, 0x0, 0x0, 0x0, 0x0, 0x0, 0x0, 0x0, 0x0, 0⟩,
  ⟨"SLICE_DROP", 0x180, 36, 0x4, 0x0, 0x0, 0x0, 0x0, 0x0, 0x0, 0x0, 0x0, 0⟩]


/-- Register rows of MILLRACE (R423). -/
def rowsMILLRACE : List RegRow := [
  ⟨"STAT", 0x040, 1, 0x4, 0x0, 0x0, 0x0, 0x0, 0x0, 0x0, 0x0, 0x0, 0⟩,
  ⟨"LOAD", 0x044, 1, 0x4, 0x0, 0x0, 0x0, 0x0, 0x0, 0x0, 0x0, 0x0, 0⟩,
  ⟨"CONV_LOAD", 0x048, 1, 0x4, 0x0, 0x0, 0x0, 0x0, 0x0, 0x0, 0x0, 0x0, 0⟩,
  ⟨"FLOOR_RM", 0x04C, 1, 0x4, 0xFFFFFFFF, 0x0, 0x0, 0x0, 0x0, 0x0, 0x0, 0x40004, 0⟩,
  ⟨"FLOOR_C", 0x050, 1, 0x4, 0xFFFF, 0x0, 0x0, 0x0, 0x0, 0x0, 0x0, 0x4, 0⟩,
  ⟨"PLAUS", 0x054, 1, 0x4, 0xFFF, 0x0, 0x0, 0x0, 0xFFF, 0x0, 0x0, 0x83C, 0⟩,
  ⟨"LOCK", 0x058, 1, 0x4, 0xF1FFFFF, 0x0, 0x0, 0x0, 0xF1FFFFF, 0x0, 0x0, 0x4100100, 0⟩,
  ⟨"ACQ", 0x05C, 1, 0x4, 0xFFFFFFFF, 0x0, 0x0, 0x0, 0xFFFFFFFF, 0x0, 0x0, 0x3E80096, 0⟩,
  ⟨"LOST", 0x060, 1, 0x4, 0xFFFF, 0x0, 0x0, 0x0, 0xFFFFFF, 0x0, 0x0, 0x4007D0, 0⟩,
  ⟨"TRIM_LIMIT", 0x064, 1, 0x4, 0x3FFFF, 0x0, 0x0, 0x0, 0x3FFFF, 0x0, 0x0, 0x1000, 0⟩,
  ⟨"FF_TAU", 0x068, 1, 0x4, 0xFFFFFFFF, 0x0, 0x0, 0x0, 0xFFFFFFFF, 0x0, 0x0, 0x12C012C, 0⟩,
  ⟨"THERM", 0x06C, 1, 0x4, 0x0, 0x0, 0x0, 0x0, 0x0, 0x0, 0x0, 0x19, 0⟩,
  ⟨"GOV_CTRL", 0x070, 1, 0x4, 0x7F, 0x0, 0x0, 0x0, 0x7F, 0x0, 0x0, 0x3C, 0⟩,
  ⟨"GOV", 0x074, 4, 0x4, 0x0, 0x0, 0x0, 0x0, 0x0, 0x0, 0x0, 0x0, 0⟩,
  ⟨"TEL", 0x084, 4, 0x4, 0x0, 0x0, 0x0, 0x0, 0x0, 0x0, 0x0, 0x0, 0⟩,
  ⟨"SLOT_SEL", 0x094, 1, 0x4, 0x7FF, 0x0, 0x0, 0x0, 0x0, 0x0, 0x0, 0x0, 0⟩,
  ⟨"SLOT_STAT", 0x098, 1, 0x4, 0x0, 0xFF00, 0x0, 0x0, 0x0, 0x0, 0x0, 0x0, 0⟩,
  ⟨"SLOT_CODE", 0x09C, 1, 0x4, 0x0, 0x0, 0x0, 0x0, 0x0, 0x0, 0x0, 0x0, 0⟩,
  ⟨"SLOT_ERR", 0x0A0, 1, 0x4, 0x0, 0x0, 0x0, 0x0, 0x0, 0x0, 0x0, 0x0, 0⟩,
  ⟨"SLOT_Y", 0x0A4, 1, 0x4, 0x0, 0x0, 0x0, 0x0, 0x0, 0x0, 0x0, 0x0, 0⟩,
  ⟨"SLOT_FF", 0x0A8, 1, 0x4, 0x0, 0x0, 0x0, 0x0, 0x0, 0x0, 0x0, 0x0, 0⟩,
  ⟨"SLOT_TRIM", 0x0AC, 1, 0x4, 0x0, 0x0, 0x0, 0x0, 0x0, 0x0, 0x0, 0x0, 0⟩,
  ⟨"SLOT_DEV", 0x0B0, 1, 0x4, 0x0, 0x0, 0x0, 0x0, 0x0, 0x0, 0x0, 0x0, 0⟩,
  ⟨"SLOT_CNT", 0x0B4, 1, 0x4, 0x0, 0x0, 0x0, 0x0, 0x0, 0x0, 0x0, 0x0, 0⟩,
  ⟨"FLAG_FIFO", 0x0B8, 1, 0x4, 0x0, 0x0, 0x0, 0xC000F7FF, 0x0, 0x0, 0x0, 0x0, 0⟩,
  ⟨"DEADLINE_MISS", 0x0BC, 1, 0x4, 0x0, 0x0, 0x0, 0x0, 0x0, 0x0, 0x0, 0x0, 0⟩,
  ⟨"MISLOCKS", 0x0C0, 1, 0x4, 0x0, 0x0, 0x0, 0x0, 0x0, 0x0, 0x0, 0x0, 0⟩,
  ⟨"FEEDBACK_LOSTS", 0x0C4, 1, 0x4, 0x0, 0x0, 0x0, 0x0, 0x0, 0x0, 0x0, 0x0, 0⟩,
  ⟨"ACQ_FAILS", 0x0C8, 1, 0x4, 0x0, 0x0, 0x0, 0x0, 0x0, 0x0, 0x0, 0x0, 0⟩,
  ⟨"DESC_CORR", 0x0CC, 1, 0x4, 0x0, 0x0, 0x0, 0x0, 0x0, 0x0, 0x0, 0x0, 0⟩,
  ⟨"TRACE_CTRL", 0x0D0, 1, 0x4, 0x0, 0x0, 0xFFFF, 0x0, 0x0, 0x0, 0x0, 0x0, 0⟩,
  ⟨"TRACE_SEL", 0x100, 16, 0x8, 0xFFFF07FF, 0x0, 0x0, 0x0, 0x0, 0x0, 0x0, 0x0, 0⟩,
  ⟨"TRACE_STAT", 0x104, 16, 0x8, 0x0, 0x0, 0x0, 0x0, 0x0, 0x0, 0x0, 0x0, 0⟩,
  ⟨"ATTN", 0x180, 64, 0x4, 0x0, 0x0, 0x0, 0x0, 0x0, 0x0, 0x0, 0x0, 0⟩]


/-- Register rows of CLAIM (R447). -/
def rowsCLAIM : List RegRow := [
  ⟨"CURRENT_LO", 0x040, 1, 0x4, 0x0, 0x0, 0x0, 0x0, 0xFFFFFFFF, 0x0, 0x0, 0x0, 1⟩,
  ⟨"CURRENT_HI", 0x044, 1, 0x4, 0x0, 0x0, 0x0, 0x0, 0xFFFFFFFF, 0x0, 0x0, 0x0, 2⟩,
  ⟨"PRESENT_LO", 0x048, 1, 0x4, 0xFFFFFFFF, 0x0, 0x0, 0x0, 0x0, 0x0, 0x0, 0x0, 1⟩,
  ⟨"PRESENT_HI", 0x04C, 1, 0x4, 0xFFFFFFFF, 0x0, 0x0, 0x0, 0x0, 0x0, 0x0, 0x0, 2⟩,
  ⟨"CTRL", 0x050, 1, 0x4, 0x0, 0x0, 0x0, 0x0, 0x0, 0x0, 0x0, 0x0, 0⟩,
  ⟨"RESULT", 0x054, 1, 0x4, 0x0, 0x0, 0x0, 0x0, 0x0, 0x0, 0x0, 0x0, 0⟩,
  ⟨"STAT", 0x058, 1, 0x4, 0x0, 0x0, 0x0, 0x0, 0x0, 0x0, 0x0, 0x70, 0⟩,
  ⟨"RAISES", 0x05C, 1, 0x4, 0x0, 0x0, 0x0, 0x0, 0x0, 0x0, 0x0, 0x0, 0⟩,
  ⟨"STALE", 0x060, 1, 0x4, 0x0, 0x0, 0x0, 0x0, 0x0, 0x0, 0x0, 0x0, 0⟩,
  ⟨"LAST_STALE_LO", 0x064, 1, 0x4, 0x0, 0x0, 0x0, 0x0, 0x0, 0x0, 0x0, 0x0, 1⟩,
  ⟨"LAST_STALE_HI", 0x068, 1, 0x4, 0x0, 0x0, 0x0, 0x0, 0x0, 0x0, 0x0, 0x0, 2⟩,
  ⟨"LAST_STALE_INFO", 0x06C, 1, 0x4, 0x0, 0x0, 0x0, 0x0, 0x0, 0x0, 0x0, 0x0, 0⟩,
  ⟨"RAISED_T_LO", 0x070, 1, 0x4, 0x0, 0x0, 0x0, 0x0, 0x0, 0x0, 0x0, 0x0, 1⟩,
  ⟨"RAISED_T_HI", 0x074, 1, 0x4, 0x0, 0x0, 0x0, 0x0, 0x0, 0x0, 0x0, 0x0, 2⟩,
  ⟨"SW_STAT", 0x080, 1, 0x4, 0x0, 0x0, 0x0, 0x0, 0x3FF3FF7, 0x0, 0x0, 0x0, 0⟩,
  ⟨"SW_OLD_EPOCH", 0x084, 1, 0x4, 0x0, 0x0, 0x0, 0x0, 0xFFFFFFFF, 0x0, 0x0, 0x0, 0⟩,
  ⟨"SW_NEW_EPOCH", 0x088, 1, 0x4, 0x0, 0x0, 0x0, 0x0, 0xFFFFFFFF, 0x0, 0x0, 0x0, 0⟩,
  ⟨"SW_T_LO", 0x08C, 1, 0x4, 0x0, 0x0, 0x0, 0x0, 0xFFFFFFFF, 0x0, 0x0, 0x0, 1⟩,
  ⟨"SW_T_HI", 0x090, 1, 0x4, 0x0, 0x0, 0x0, 0x0, 0xFFFFFFFF, 0x0, 0x0, 0x0, 2⟩,
  ⟨"SW_CLAIM_LO", 0x094, 1, 0x4, 0x0, 0x0, 0x0, 0x0, 0xFFFFFFFF, 0x0, 0x0, 0x0, 1⟩,
  ⟨"SW_CLAIM_HI", 0x098, 1, 0x4, 0x0, 0x0, 0x0, 0x0, 0xFFFFFFFF, 0x0, 0x0, 0x0, 2⟩,
  ⟨"SW_NOTUP_LO", 0x09C, 1, 0x4, 0x0, 0x0, 0x0, 0x0, 0xFFFFFFFF, 0x0, 0x0, 0x0, 0⟩,
  ⟨"SW_NOTUP_HI", 0x0A0, 1, 0x4, 0x0, 0x0, 0x0, 0x0, 0xF, 0x0, 0x0, 0x0, 0⟩,
  ⟨"SW_LAST_UP", 0x0A4, 1, 0x4, 0x0, 0x0, 0x0, 0x0, 0xFFFF, 0x0, 0x0, 0x0, 0⟩,
  ⟨"SW_SKEW", 0x0A8, 1, 0x4, 0x0, 0x0, 0x0, 0x0, 0x803FFFFF, 0x0, 0x0, 0x0, 0⟩,
  ⟨"SW_SKEW_PEER", 0x0AC, 1, 0x4, 0x0, 0x0, 0x0, 0x0, 0x3F3F3F, 0x0, 0x0, 0x0, 0⟩,
  ⟨"SW_SKEW_EPOCH", 0x0B0, 1, 0x4, 0x0, 0x0, 0x0, 0x0, 0xFFFFFFFF, 0x0, 0x0, 0x0, 0⟩]


/-- Register rows of HOSTWIN (R465). -/
def rowsHOSTWIN : List RegRow := [
  ⟨"WIN_STAT", 0x040, 1, 0x4, 0x0, 0x0, 0x0, 0x0, 0x0, 0x0, 0x0, 0x4000, 0⟩,
  ⟨"HANDOFF", 0x044, 1, 0x4, 0x0, 0x0, 0x0, 0x0, 0x0, 0x0, 0x0, 0x0, 0⟩,
  ⟨"HANDOFF_STAT", 0x048, 1, 0x4, 0x0, 0x0, 0x0, 0x0, 0x0, 0x0, 0x0, 0x0, 0⟩,
  ⟨"NOTIFY_FIFO", 0x04C, 1, 0x4, 0x0, 0x0, 0x0, 0xCFFFFFFF, 0x0, 0x0, 0x0, 0x0, 0⟩,
  ⟨"WRITE_DROP", 0x050, 1, 0x4, 0x0, 0x0, 0x0, 0x0, 0x0, 0x0, 0x0, 0x0, 0⟩,
  ⟨"READ_DENIED", 0x054, 1, 0x4, 0x0, 0x0, 0x0, 0x0, 0x0, 0x0, 0x0, 0x0, 0⟩,
  ⟨"UNMAPPED", 0x058, 1, 0x4, 0x0, 0x0, 0x0, 0x0, 0x0, 0x0, 0x0, 0x0, 0⟩,
  ⟨"LAST_DROP", 0x05C, 1, 0x4, 0x0, 0x0, 0x0, 0x0, 0x0, 0x0, 0x0, 0x0, 0⟩,
  ⟨"MBOX_CTRL", 0x060, 1, 0x4, 0x0, 0x0, 0x1, 0x0, 0x0, 0x0, 0x0, 0x0, 0⟩,
  ⟨"MBOX_STAT", 0x064, 1, 0x4, 0x0, 0x2, 0x0, 0x0, 0x0, 0x0, 0x0, 0x0, 0⟩,
  ⟨"LINK", 0x068, 1, 0x4, 0xFFFF0000, 0x0, 0x0, 0x0, 0xFFFF07F7, 0xFFFF07F7, 0x7F7, 0x0, 0⟩,
  ⟨"SEG_BASE_LO", 0x080, 16, 0x8, 0xFC000001, 0x0, 0x0, 0x0, 0x0, 0x0, 0x0, 0x0, 1⟩,
  ⟨"SEG_BASE_HI", 0x084, 16, 0x8, 0xFF, 0x0, 0x0, 0x0, 0x0, 0x0, 0x0, 0x0, 2⟩,
  ⟨"MBOX_REQ", 0x100, 224, 0x4, 0xFFFFFFFF, 0x0, 0x0, 0x0, 0x0, 0x0, 0x0, 0x0, 0⟩,
  ⟨"MBOX_RSP", 0x480, 224, 0x4, 0x0, 0x0, 0x0, 0x0, 0x0, 0x0, 0x0, 0x0, 0⟩,
  ⟨"OWN", 0x800, 512, 0x4, 0x0, 0x0, 0x0, 0x0, 0x0, 0x0, 0x0, 0x0, 0⟩]


/-- Register rows of MGMT (R474). -/
def rowsMGMT : List RegRow := [
  ⟨"CTRL", 0x040, 1, 0x4, 0x1, 0x0, 0x0, 0x0, 0x1, 0x1, 0x0, 0x1, 0⟩,
  ⟨"STAT", 0x044, 1, 0x4, 0x0, 0x0, 0x0, 0x0, 0x0, 0x0, 0x0, 0x0, 0⟩,
  ⟨"MAC_LO", 0x048, 1, 0x4, 0x0, 0x0, 0x0, 0x0, 0xFFFFFFFF, 0xFFFFFFFF, 0xFFFFFFFF, 0x0, 1⟩,
  ⟨"MAC_HI", 0x04C, 1, 0x4, 0x0, 0x0, 0x0, 0x0, 0xFFFF, 0xFFFF, 0xFFFF, 0x0, 2⟩,
  ⟨"ADDR", 0x050, 4, 0x4, 0xFFFFFFFF, 0x0, 0x0, 0x0, 0xFFFFFFFF, 0xFFFFFFFF, 0x0, 0x0, 0⟩,
  ⟨"PREFIX", 0x060, 1, 0x4, 0x1FF, 0x0, 0x0, 0x0, 0x1FF, 0x1FF, 0x0, 0x40, 0⟩,
  ⟨"UDP_PORT", 0x064, 1, 0x4, 0xFFFF, 0x0, 0x0, 0x0, 0xFFFF, 0xFFFF, 0x0, 0xBB08, 0⟩,
  ⟨"RX_FRAMES", 0x068, 1, 0x4, 0x0, 0x0, 0x0, 0x0, 0x0, 0x0, 0x0, 0x0, 0⟩,
  ⟨"TX_FRAMES", 0x06C, 1, 0x4, 0x0, 0x0, 0x0, 0x0, 0x0, 0x0, 0x0, 0x0, 0⟩,
  ⟨"RX_ERR", 0x070, 1, 0x4, 0x0, 0x0, 0x0, 0x0, 0x0, 0x0, 0x0, 0x0, 0⟩,
  ⟨"RX_DROP", 0x074, 1, 0x4, 0x0, 0x0, 0x0, 0x0, 0x0, 0x0, 0x0, 0x0, 0⟩,
  ⟨"REQUESTS", 0x078, 1, 0x4, 0x0, 0x0, 0x0, 0x0, 0x0, 0x0, 0x0, 0x0, 0⟩,
  ⟨"REQ_ERR", 0x07C, 1, 0x4, 0x0, 0x0, 0x0, 0x0, 0x0, 0x0, 0x0, 0x0, 0⟩,
  ⟨"DUP", 0x080, 1, 0x4, 0x0, 0x0, 0x0, 0x0, 0x0, 0x0, 0x0, 0x0, 0⟩,
  ⟨"HELD_DROP", 0x084, 1, 0x4, 0x0, 0x0, 0x0, 0x0, 0x0, 0x0, 0x0, 0x0, 0⟩]


/-- Register rows of BELFRY (R494). -/
def rowsBELFRY : List RegRow := [
  ⟨"GCTRL", 0x040, 1, 0x4, 0x1, 0x0, 0x0, 0x0, 0x1, 0x0, 0x0, 0x0, 0⟩,
  ⟨"GSTAT", 0x044, 1, 0x4, 0x0, 0x0, 0x0, 0x0, 0x7FF07FF, 0x0, 0x0, 0x0, 0⟩,
  ⟨"SW_SET", 0x048, 1, 0x4, 0x0, 0x0, 0xFFFF, 0x0, 0xFFFF, 0x0, 0x0, 0x0, 0⟩,
  ⟨"SW_CLR", 0x04C, 1, 0x4, 0x0, 0xFFFF, 0x0, 0x0, 0xFFFF, 0x0, 0x0, 0x0, 0⟩,
  ⟨"THRESH", 0x060, 5, 0x20, 0xF, 0x0, 0x0, 0x0, 0xF, 0x0, 0x0, 0x0, 0⟩,
  ⟨"CLAIM", 0x064, 5, 0x20, 0x0, 0x0, 0x0, 0x3FF, 0x3FF, 0x0, 0x0, 0x0, 0⟩,
  ⟨"COMPLETE", 0x068, 5, 0x20, 0x0, 0x0, 0x0, 0x0, 0x3FF, 0x0, 0x0, 0x0, 0⟩,
  ⟨"TOP", 0x06C, 5, 0x20, 0x0, 0x0, 0x0, 0x0, 0xF03FF, 0x0, 0x0, 0x0, 0⟩,
  ⟨"RUN", 0x070, 5, 0x20, 0x0, 0x0, 0x0, 0x0, 0xF0F, 0x0, 0x0, 0x0, 0⟩,
  ⟨"LINE", 0x074, 5, 0x20, 0x0, 0x0, 0x0, 0x0, 0x7, 0x0, 0x0, 0x0, 0⟩]


/-- Register rows of BELFRY_SRC (R495). -/
def rowsBELFRY_SRC : List RegRow := [
  ⟨"SRC_CFG", 0x040, 512, 0x4, 0x7FF, 0x400000, 0x0, 0x0, 0xF7F07FF, 0x0, 0x0, 0x0, 0⟩,
  ⟨"FIRE", 0x840, 256, 0x4, 0xFFFFFFFF, 0x0, 0x0, 0x0, 0xFFFFFFFF, 0x0, 0x0, 0x0, 0⟩]


/-- Register rows of BELFRY_SUM (R496). -/
def rowsBELFRY_SUM : List RegRow := [
  ⟨"PEND", 0x040, 32, 0x4, 0x0, 0x0, 0x0, 0x0, 0xFFFFFFFF, 0x0, 0x0, 0x0, 0⟩,
  ⟨"CLAIMED", 0x0C0, 32, 0x4, 0x0, 0x0, 0x0, 0x0, 0xFFFFFFFF, 0x0, 0x0, 0x0, 0⟩,
  ⟨"OVERRUN", 0x140, 32, 0x4, 0x0, 0xFFFFFFFF, 0x0, 0x0, 0xFFFFFFFF, 0x0, 0x0, 0x0, 0⟩,
  ⟨"LEVEL", 0x1C0, 32, 0x4, 0x0, 0x0, 0x0, 0x0, 0xFFFFFFFF, 0x0, 0x0, 0x0, 0⟩]


/-- Register rows of RESET (R524). -/
def rowsRESET : List RegRow := [
  ⟨"CAUSE", 0x040, 1, 0x4, 0x0, 0x1FF, 0x0, 0x0, 0x1FF, 0x1FF, 0x1FF, 0x0, 0⟩,
  ⟨"LAST", 0x044, 1, 0x4, 0x0, 0x0, 0x0, 0x0, 0x3F3, 0x0, 0x0, 0x0, 0⟩,
  ⟨"CTRL", 0x048, 1, 0x4, 0x0, 0x0, 0x0, 0x0, 0x0, 0x0, 0x0, 0x0, 0⟩,
  ⟨"WDT_CTRL", 0x04C, 1, 0x4, 0x1FFFF, 0x0, 0x0, 0x0, 0x1FFFF, 0x1FFFF, 0x0, 0x107D0, 0⟩,
  ⟨"WDT_KICK", 0x050, 1, 0x4, 0x0, 0x0, 0x0, 0x0, 0x0, 0x0, 0x0, 0x0, 0⟩,
  ⟨"WDT_STAT", 0x054, 1, 0x4, 0x0, 0x0, 0x0, 0x0, 0x0, 0x0, 0x0, 0x0, 0⟩,
  ⟨"COUNTS", 0x058, 1, 0x4, 0x0, 0x0, 0x0, 0x0, 0xFFFFFFFF, 0x0, 0x0, 0x0, 0⟩,
  ⟨"LAST_UP_LO", 0x05C, 1, 0x4, 0x0, 0x0, 0x0, 0x0, 0xFFFFFFFF, 0x0, 0x0, 0x0, 1⟩,
  ⟨"LAST_UP_HI", 0x060, 1, 0x4, 0x0, 0x0, 0x0, 0x0, 0xFFFFFFFF, 0x0, 0x0, 0x0, 2⟩]


/-- Register rows of POWER (R525). -/
def rowsPOWER : List RegRow := [
  ⟨"STATE", 0x040, 1, 0x4, 0x0, 0x0, 0x0, 0x0, 0xC0, 0x80, 0x80, 0x1, 0⟩,
  ⟨"CTRL", 0x044, 1, 0x4, 0xFFFF0002, 0x0, 0x0, 0x0, 0x2, 0x2, 0x0, 0xFA00000, 0⟩,
  ⟨"INPUT", 0x048, 1, 0x4, 0x0, 0x0, 0x0, 0x0, 0x0, 0x0, 0x0, 0x0, 0⟩,
  ⟨"INPUT_PWR", 0x04C, 1, 0x4, 0x0, 0x0, 0x0, 0xFFFF0000, 0x0, 0x0, 0x0, 0x0, 0⟩,
  ⟨"BULK", 0x050, 1, 0x4, 0x0, 0x0, 0x0, 0x0, 0x0, 0x0, 0x0, 0x0, 0⟩,
  ⟨"RAILS", 0x054, 1, 0x4, 0x0, 0x0, 0x0, 0x0, 0x0, 0x0, 0x0, 0x1, 0⟩,
  ⟨"COOLANT", 0x058, 1, 0x4, 0x0, 0x0, 0x0, 0x0, 0x0, 0x0, 0x0, 0x0, 0⟩,
  ⟨"THERM", 0x05C, 1, 0x4, 0x0, 0x0, 0x0, 0x0, 0x20000, 0x0, 0x0, 0x0, 0⟩,
  ⟨"ALERT_STAT", 0x060, 1, 0x4, 0x0, 0x0, 0x0, 0x0, 0x0, 0x0, 0x0, 0x0, 0⟩,
  ⟨"ALERT_EN", 0x064, 1, 0x4, 0xFF, 0x0, 0x0, 0x0, 0xFF, 0xFF, 0x0, 0x0, 0⟩,
  ⟨"LC", 0x068, 1, 0x4, 0x0, 0x0, 0x0, 0x0, 0x3, 0x3, 0x3, 0x0, 0⟩,
  ⟨"CAP_STAT", 0x06C, 1, 0x4, 0x0, 0x0, 0x0, 0x0, 0x0, 0x0, 0x0, 0x0, 0⟩]


/-- Register rows of BACKUP (R526). -/
def rowsBACKUP : List RegRow := [
  ⟨"STAT", 0x040, 1, 0x4, 0x0, 0x1, 0x0, 0x0, 0x1, 0x1, 0x1, 0x0, 0⟩,
  ⟨"EPOCH", 0x044, 1, 0x4, 0x0, 0x0, 0x0, 0x0, 0xFFFFFFFF, 0xFFFFFFFF, 0xFFFFFFFF, 0x0, 0⟩,
  ⟨"PRIV_A", 0x048, 1, 0x4, 0xFFFFFFFF, 0x0, 0x0, 0x0, 0xFFFFFFFF, 0xFFFFFFFF, 0xFFFFFFFF, 0x0, 0⟩,
  ⟨"PRIV_B", 0x04C, 1, 0x4, 0xFFFFFFFF, 0x0, 0x0, 0x0, 0xFFFFFFFF, 0xFFFFFFFF, 0xFFFFFFFF, 0x0, 0⟩,
  ⟨"PRIV_TOTAL", 0x050, 1, 0x4, 0xFFFFFFFF, 0x0, 0x0, 0x0, 0xFFFFFFFF, 0xFFFFFFFF, 0xFFFFFFFF, 0x0, 0⟩,
  ⟨"CRIT_INFO", 0x054, 1, 0x4, 0x800FFFFF, 0x0, 0x0, 0x0, 0x800FFFFF, 0x800FFFFF, 0x800FFFFF, 0x0, 0⟩,
  ⟨"CRIT_ADDR_LO", 0x058, 1, 0x4, 0xFFFFFFFF, 0x0, 0x0, 0x0, 0xFFFFFFFF, 0xFFFFFFFF, 0xFFFFFFFF, 0x0, 1⟩,
  ⟨"CRIT_ADDR_HI", 0x05C, 1, 0x4, 0xFFFFFFFF, 0x0, 0x0, 0x0, 0xFFFFFFFF, 0xFFFFFFFF, 0xFFFFFFFF, 0x0, 2⟩]


/-- Register rows of SELFTEST (R527). -/
def rowsSELFTEST : List RegRow := [
  ⟨"RESULT", 0x040, 1, 0x4, 0x0, 0x0, 0x0, 0x0, 0x0, 0x0, 0x0, 0x0, 0⟩,
  ⟨"ITEMS", 0x044, 1, 0x4, 0x0, 0x0, 0x0, 0x0, 0x0, 0x0, 0x0, 0x0, 0⟩,
  ⟨"DURATION", 0x048, 1, 0x4, 0x0, 0x0, 0x0, 0x0, 0x0, 0x0, 0x0, 0x0, 0⟩,
  ⟨"RUNS", 0x04C, 1, 0x4, 0x0, 0x0, 0x0, 0x0, 0xFFFFFFFF, 0x0, 0x0, 0x0, 0⟩,
  ⟨"DETAIL", 0x080, 16, 0x4, 0x0, 0x0, 0x0, 0x0, 0x0, 0x0, 0x0, 0x0, 0⟩]


/-- Register rows of CAL (R549). -/
def rowsCAL : List RegRow := [
  ⟨"CTRL", 0x040, 1, 0x4, 0x1, 0x0, 0x0, 0x0, 0x1, 0x1, 0x0, 0x1, 0⟩,
  ⟨"SCHED", 0x044, 1, 0x4, 0xFFFFF, 0x0, 0x0, 0x0, 0xFFFFF, 0xFFFFF, 0x0, 0x4000F, 0⟩,
  ⟨"STAT", 0x048, 1, 0x4, 0x0, 0x0, 0x0, 0x0, 0x0, 0x0, 0x0, 0x0, 0⟩,
  ⟨"FULL", 0x04C, 1, 0x4, 0x0, 0x0, 0x0, 0x0, 0x3FFFFFF, 0x0, 0x0, 0x0, 0⟩,
  ⟨"FULL_UP_LO", 0x050, 1, 0x4, 0x0, 0x0, 0x0, 0x0, 0xFFFFFFFF, 0x0, 0x0, 0x0, 1⟩,
  ⟨"FULL_UP_HI", 0x054, 1, 0x4, 0x0, 0x0, 0x0, 0x0, 0xFFFFFFFF, 0x0, 0x0, 0x0, 2⟩,
  ⟨"LANES", 0x058, 1, 0x4, 0x0, 0x0, 0x0, 0x0, 0xFFFFFFFF, 0x0, 0x0, 0x0, 0⟩,
  ⟨"SKIPPED", 0x05C, 1, 0x4, 0x0, 0x0, 0x0, 0x0, 0xFFFFFFFF, 0x0, 0x0, 0x0, 0⟩,
  ⟨"ABANDONED", 0x060, 1, 0x4, 0x0, 0x0, 0x0, 0x0, 0xFFFFFFFF, 0x0, 0x0, 0x0, 0⟩,
  ⟨"SEL", 0x064, 1, 0x4, 0x3FF, 0x0, 0x0, 0x0, 0x0, 0x0, 0x0, 0x0, 0⟩,
  ⟨"RING_STAT", 0x068, 1, 0x4, 0x0, 0x0, 0x0, 0x0, 0xFFFFF, 0x0, 0x0, 0x0, 0⟩,
  ⟨"RING_UP_LO", 0x06C, 1, 0x4, 0x0, 0x0, 0x0, 0x0, 0xFFFFFFFF, 0x0, 0x0, 0x0, 1⟩,
  ⟨"RING_UP_HI", 0x070, 1, 0x4, 0x0, 0x0, 0x0, 0x0, 0xFFFFFFFF, 0x0, 0x0, 0x0, 2⟩,
  ⟨"RING_DELTA", 0x074, 1, 0x4, 0x0, 0x0, 0x0, 0x0, 0xFFFFFFFF, 0x0, 0x0, 0x0, 0⟩,
  ⟨"RING_RESP", 0x078, 1, 0x4, 0x0, 0x0, 0x0, 0x0, 0xFFFF00FF, 0x0, 0x0, 0x0, 0⟩]


/-- Register rows of AGEING (R550). -/
def rowsAGEING : List RegRow := [
  ⟨"CTRL", 0x040, 1, 0x4, 0x1, 0x0, 0x0, 0x0, 0x1, 0x1, 0x0, 0x1, 0⟩,
  ⟨"AVS_CFG", 0x044, 1, 0x4, 0xFFFFFF, 0x0, 0x0, 0x0, 0xFFFFFF, 0xFFFFFF, 0x0, 0xC04C6, 0⟩,
  ⟨"AVS", 0x048, 4, 0x4, 0x0, 0x0, 0x0, 0x0, 0xFF0FFF, 0xFF0FFF, 0xFF0FFF, 0x0, 0⟩,
  ⟨"AVS_COUNT", 0x058, 1, 0x4, 0x0, 0x0, 0x0, 0x0, 0x0, 0x0, 0x0, 0x0, 0⟩,
  ⟨"THRESH_OPT", 0x05C, 1, 0x4, 0xFFFFFFFF, 0x0, 0x0, 0x0, 0xFFFFFFFF, 0xFFFFFFFF, 0x0, 0x641405, 0⟩,
  ⟨"THRESH_ERR", 0x060, 1, 0x4, 0xFFFFFFFF, 0x0, 0x0, 0x0, 0xFFFFFFFF, 0xFFFFFFFF, 0x0, 0x6403E8, 0⟩,
  ⟨"ADV_STAT", 0x064, 1, 0x4, 0x0, 0x80, 0x0, 0x0, 0x7F, 0x7F, 0x7F, 0x0, 0⟩,
  ⟨"ADV_SEL", 0x068, 1, 0x4, 0x3F, 0x0, 0x0, 0x0, 0x0, 0x0, 0x0, 0x0, 0⟩,
  ⟨"ADV_KIND", 0x06C, 1, 0x4, 0x0, 0x0, 0x0, 0x0, 0xFFFF03FF, 0xFFFF03FF, 0xFFFF03FF, 0x0, 0⟩,
  ⟨"ADV_VALUE", 0x070, 1, 0x4, 0x0, 0x0, 0x0, 0x0, 0xFFFFFFFF, 0xFFFFFFFF, 0xFFFFFFFF, 0x0, 0⟩,
  ⟨"ADV_FIRST_LO", 0x074, 1, 0x4, 0x0, 0x0, 0x0, 0x0, 0xFFFFFFFF, 0xFFFFFFFF, 0xFFFFFFFF, 0x0, 1⟩,
  ⟨"ADV_FIRST_HI", 0x078, 1, 0x4, 0x0, 0x0, 0x0, 0x0, 0xFFFFFFFF, 0xFFFFFFFF, 0xFFFFFFFF, 0x0, 2⟩,
  ⟨"ADV_LAST_LO", 0x07C, 1, 0x4, 0x0, 0x0, 0x0, 0x0, 0xFFFFFFFF, 0xFFFFFFFF, 0xFFFFFFFF, 0x0, 1⟩,
  ⟨"ADV_LAST_HI", 0x080, 1, 0x4, 0x0, 0x0, 0x0, 0x0, 0xFFFFFFFF, 0xFFFFFFFF, 0xFFFFFFFF, 0x0, 2⟩]


/-- Register rows of LOG (R563). -/
def rowsLOG : List RegRow := [
  ⟨"STAT", 0x040, 1, 0x4, 0x0, 0x0, 0x0, 0x0, 0x3FF, 0x3FF, 0x3FF, 0x0, 0⟩,
  ⟨"NEWEST_LO", 0x044, 1, 0x4, 0x0, 0x0, 0x0, 0x0, 0xFFFFFFFF, 0xFFFFFFFF, 0xFFFFFFFF, 0x0, 1⟩,
  ⟨"NEWEST_HI", 0x048, 1, 0x4, 0x0, 0x0, 0x0, 0x0, 0xFFFFFFFF, 0xFFFFFFFF, 0xFFFFFFFF, 0x0, 2⟩,
  ⟨"OLDEST_LO", 0x04C, 1, 0x4, 0x0, 0x0, 0x0, 0x0, 0xFFFFFFFF, 0xFFFFFFFF, 0xFFFFFFFF, 0x0, 1⟩,
  ⟨"OLDEST_HI", 0x050, 1, 0x4, 0x0, 0x0, 0x0, 0x0, 0xFFFFFFFF, 0xFFFFFFFF, 0xFFFFFFFF, 0x0, 2⟩,
  ⟨"WRITTEN_LO", 0x054, 1, 0x4, 0x0, 0x0, 0x0, 0x0, 0xFFFFFFFF, 0xFFFFFFFF, 0xFFFFFFFF, 0x0, 1⟩,
  ⟨"WRITTEN_HI", 0x058, 1, 0x4, 0x0, 0x0, 0x0, 0x0, 0xFFFFFFFF, 0xFFFFFFFF, 0xFFFFFFFF, 0x0, 2⟩,
  ⟨"LOST", 0x05C, 1, 0x4, 0x0, 0x0, 0x0, 0x0, 0x0, 0x0, 0x0, 0x0, 0⟩,
  ⟨"CLEAR", 0x060, 1, 0x4, 0x0, 0x0, 0x0, 0x0, 0x0, 0x0, 0x0, 0x0, 0⟩,
  ⟨"CLEARS", 0x064, 1, 0x4, 0x0, 0x0, 0x0, 0x0, 0x0, 0x0, 0x0, 0x0, 0⟩,
  ⟨"CURSOR_LO", 0x068, 1, 0x4, 0xFFFFFFFF, 0x0, 0x0, 0x0, 0x0, 0x0, 0x0, 0x0, 1⟩,
  ⟨"CURSOR_HI", 0x06C, 1, 0x4, 0xFFFFFFFF, 0x0, 0x0, 0x0, 0x0, 0x0, 0x0, 0x0, 2⟩,
  ⟨"READ_STAT", 0x070, 1, 0x4, 0x0, 0x0, 0x0, 0x0, 0x0, 0x0, 0x0, 0x0, 0⟩,
  ⟨"POST_CODE", 0x074, 1, 0x4, 0x0, 0x0, 0x0, 0x0, 0x0, 0x0, 0x0, 0x0, 0⟩,
  ⟨"POST_ARG", 0x078, 6, 0x4, 0xFFFFFFFF, 0x0, 0x0, 0x0, 0x0, 0x0, 0x0, 0x0, 0⟩,
  ⟨"TRACE_SEL", 0x090, 1, 0x4, 0xFFFFFFFF, 0x0, 0x0, 0x0, 0x0, 0x0, 0x0, 0x0, 0⟩,
  ⟨"TRACE_STAT", 0x094, 1, 0x4, 0x0, 0x0, 0x0, 0x0, 0x0, 0x0, 0x0, 0x0, 0⟩,
  ⟨"PAGE_FAILS", 0x098, 1, 0x4, 0x0, 0x0, 0x0, 0x0, 0x0, 0x0, 0x0, 0x0, 0⟩,
  ⟨"WINDOW", 0x100, 16, 0x4, 0x0, 0x0, 0x0, 0x0, 0x0, 0x0, 0x0, 0x0, 0⟩,
  ⟨"TRACE", 0x200, 64, 0x4, 0x0, 0x0, 0x0, 0x0, 0x0, 0x0, 0x0, 0x0, 0⟩]


/-- Register rows of UPDATE (R585). -/
def rowsUPDATE : List RegRow := [
  ⟨"CTRL", 0x040, 1, 0x4, 0x0, 0x0, 0x0, 0x0, 0x0, 0x0, 0x0, 0x0, 0⟩,
  ⟨"STAT", 0x044, 1, 0x4, 0x0, 0x0, 0x0, 0x0, 0x300, 0x300, 0x300, 0x0, 0⟩,
  ⟨"STAGE_LO", 0x048, 1, 0x4, 0xFFFFFFFF, 0x0, 0x0, 0x0, 0x0, 0x0, 0x0, 0x50000000, 1⟩,
  ⟨"STAGE_HI", 0x04C, 1, 0x4, 0xFF, 0x0, 0x0, 0x0, 0x0, 0x0, 0x0, 0x8, 2⟩,
  ⟨"PKG_LEN", 0x050, 1, 0x4, 0xFFFFFF, 0x0, 0x0, 0x0, 0x0, 0x0, 0x0, 0x0, 0⟩,
  ⟨"WRITTEN", 0x054, 1, 0x4, 0x0, 0x0, 0x0, 0x0, 0x0, 0x0, 0x0, 0x0, 0⟩,
  ⟨"RUN_VER", 0x058, 1, 0x4, 0x0, 0x0, 0x0, 0x0, 0xFFFFFFFF, 0xFFFFFFFF, 0xFFFFFFFF, 0x0, 0⟩,
  ⟨"CONF_VER", 0x05C, 1, 0x4, 0x0, 0x0, 0x0, 0x0, 0xFFFFFFFF, 0xFFFFFFFF, 0xFFFFFFFF, 0x0, 0⟩,
  ⟨"STAGED_VER", 0x060, 1, 0x4, 0x0, 0x0, 0x0, 0x0, 0x0, 0x0, 0x0, 0x0, 0⟩,
  ⟨"SETTINGS", 0x064, 1, 0x4, 0x0, 0x0, 0x0, 0x0, 0xFFFFFFFF, 0xFFFFFFFF, 0xFFFFFFFF, 0x0, 0⟩,
  ⟨"OTP", 0x068, 1, 0x4, 0x0, 0x0, 0x0, 0x0, 0x7F, 0x7F, 0x7F, 0x0, 0⟩,
  ⟨"BC_CTRL", 0x06C, 1, 0x4, 0x3, 0x0, 0x0, 0x0, 0x3, 0x3, 0x0, 0x0, 0⟩,
  ⟨"BC_STAT", 0x070, 1, 0x4, 0x0, 0x0, 0x0, 0x0, 0x0, 0x0, 0x0, 0x0, 0⟩,
  ⟨"RELAY_LO", 0x074, 1, 0x4, 0xFFFFFFFF, 0x0, 0x0, 0x0, 0xFFFFFFFF, 0xFFFFFFFF, 0x0, 0x0, 0⟩,
  ⟨"RELAY_HI", 0x078, 1, 0x4, 0xF, 0x0, 0x0, 0x0, 0xF, 0xF, 0x0, 0x0, 0⟩,
  ⟨"RELAY_DONE_LO", 0x07C, 1, 0x4, 0x0, 0xFFFFFFFF, 0x0, 0x0, 0x0, 0x0, 0x0, 0x0, 0⟩,
  ⟨"RELAY_DONE_HI", 0x080, 1, 0x4, 0x0, 0xF, 0x0, 0x0, 0x0, 0x0, 0x0, 0x0, 0⟩,
  ⟨"TIMES", 0x084, 1, 0x4, 0x0, 0x0, 0x0, 0x0, 0xF0000, 0xF0000, 0xF0000, 0x0, 0⟩,
  ⟨"PART_RUN", 0x0C0, 9, 0x4, 0x0, 0x0, 0x0, 0x0, 0xFFFFFFFF, 0xFFFFFFFF, 0xFFFFFFFF, 0x0, 0⟩]


/-- The register rows of a page type. -/
def pageRows : PageTy → List RegRow
  | .DIRECTORY => rowsDIRECTORY
  | .MODULE => rowsMODULE
  | .TILE => rowsTILE
  | .MESH => rowsMESH
  | .DIE => rowsDIE
  | .HBM => rowsHBM
  | .SIZE_TABLE => rowsSIZE_TABLE
  | .RESHARD => rowsRESHARD
  | .MSG => rowsMSG
  | .MENG => rowsMENG
  | .TIME => rowsTIME
  | .TRIGGERS => rowsTRIGGERS
  | .ENGINE => rowsENGINE
  | .COMB => rowsCOMB
  | .PORT => rowsPORT
  | .XRDS => rowsXRDS
  | .XRDS_ID => rowsXRDS_ID
  | .XRDS_FREE => rowsXRDS_FREE
  | .MILLRACE => rowsMILLRACE
  | .CLAIM => rowsCLAIM
  | .HOSTWIN => rowsHOSTWIN
  | .MGMT => rowsMGMT
  | .BELFRY => rowsBELFRY
  | .BELFRY_SRC => rowsBELFRY_SRC
  | .BELFRY_SUM => rowsBELFRY_SUM
  | .RESET => rowsRESET
  | .POWER => rowsPOWER
  | .BACKUP => rowsBACKUP
  | .SELFTEST => rowsSELFTEST
  | .CAL => rowsCAL
  | .AGEING => rowsAGEING
  | .LOG => rowsLOG
  | .UPDATE => rowsUPDATE
  | .BELFRY_HDR => []
  | .W_DESC => []
  | .W_TRACE => []

/-- The base of die window d (R36). -/
def dieBase (d : Nat) : Nat := 0x00200000 + d * 0x00100000

/-- Page bases (R35, R36). -/
def DIRECTORY_B : Nat := 0x00000000
def MODULE_B : Nat := 0x00001000
def SIZE_TABLE_B : Nat := 0x00002000
def RESET_B : Nat := 0x00010000
def POWER_B : Nat := 0x00011000
def BACKUP_B : Nat := 0x00012000
def SELFTEST_B : Nat := 0x00013000
def TIME_B : Nat := 0x00020000
def TRIGGERS_B : Nat := 0x00021000
def BELFRY_B : Nat := 0x00030000
def LOG_B : Nat := 0x00040000
def UPDATE_B : Nat := 0x00041000
def CAL_B : Nat := 0x00042000
def AGEING_B : Nat := 0x00043000
def HOSTWIN_B : Nat := 0x00050000
def MGMT_B (n : Nat) : Nat := 0x00051000 + n * 0x1000
def CLAIM_B : Nat := 0x00053000
def MSG_B : Nat := 0x00060000
def XRDS_B : Nat := 0x00080000
def PORT_B (p : Nat) : Nat := 0x00090000 + p * 0x1000
def ENGINE_B (e : Nat) : Nat := 0x000C0000 + e * 0x1000
def COMB_B (e : Nat) : Nat := 0x000C8000 + e * 0x1000
def MILLRACE_B : Nat := 0x000D0000
def DESC_B : Nat := 0x00100000
def TRACE_B : Nat := 0x00120000
def DIE_B (d : Nat) : Nat := dieBase d
def MESH_B (d : Nat) : Nat := dieBase d + 0x1000
/-- HBM page of stack m (0-7): stack 2d at 0x2000, stack 2d + 1 at 0x3000 of die d's window. -/
def HBM_B (m : Nat) : Nat := dieBase (m / 2) + 0x2000 + (m % 2) * 0x1000
def RESHARD_B (d : Nat) : Nat := dieBase d + 0x4000
def MENG_B (d : Nat) : Nat := dieBase d + 0x10000
/-- TILE page of tile g = 256 d + t (the instance number of R36). -/
def TILE_B (g : Nat) : Nat := dieBase (g / 256) + 0x80000 + (g % 256) * 0x1000

/-- The page type and instance at a die-window page offset (R36). -/
def diePageAt (d o : Nat) : Option (PageTy × Nat) :=
  if o = 0 then some (.DIE, d) else if o = 1 then some (.MESH, d)
  else if o = 2 then some (.HBM, 2 * d) else if o = 3 then some (.HBM, 2 * d + 1)
  else if o = 4 then some (.RESHARD, d) else if o = 0x10 then some (.MENG, d * 16)
  else if 0x80 ≤ o ∧ o < 0x80 + 110 then some (.TILE, d * 256 + (o - 0x80)) else none

/-- The page type and instance at page number p = address / 4096, without regard to which dies are present (R35). -/
def pageAt (p : Nat) : Option (PageTy × Nat) :=
  if 0x200 ≤ p then (if p < 0x600 then diePageAt ((p - 0x200) / 0x100) (p % 0x100) else none)
  else if 0x160 ≤ p then none
  else if 0x120 ≤ p then some (.W_TRACE, 0)
  else if 0x100 ≤ p then some (.W_DESC, 0)
  else if 0x90 ≤ p then
    if p < 0xB4 then some (.PORT, p - 0x90)
    else if p = 0xC0 ∨ p = 0xC1 then some (.ENGINE, p - 0xC0)
    else if p = 0xC8 ∨ p = 0xC9 then some (.COMB, p - 0xC8)
    else if p = 0xD0 then some (.MILLRACE, 0) else none
  else if 0x80 ≤ p then
    if p = 0x80 then some (.XRDS, 0) else if p ≤ 0x83 then some (.XRDS_ID, p - 0x80)
    else if p = 0x84 then some (.XRDS_FREE, 4) else none
  else if 0x40 ≤ p then
    if p = 0x40 then some (.LOG, 0) else if p = 0x41 then some (.UPDATE, 0)
    else if p = 0x42 then some (.CAL, 0) else if p = 0x43 then some (.AGEING, 0)
    else if p = 0x50 then some (.HOSTWIN, 0) else if p = 0x51 then some (.MGMT, 0)
    else if p = 0x52 then some (.MGMT, 1) else if p = 0x53 then some (.CLAIM, 0)
    else if p = 0x60 then some (.MSG, 0) else none
  else if 0x30 ≤ p then
    if p = 0x30 then some (.BELFRY, 0) else if p ≤ 0x32 then some (.BELFRY_SRC, p - 0x30)
    else if p = 0x33 then some (.BELFRY_SUM, 3) else if p ≤ 0x37 then some (.BELFRY_HDR, p - 0x30) else none
  else if p = 0 then some (.DIRECTORY, 0) else if p = 1 then some (.MODULE, 0) else if p = 2 then some (.SIZE_TABLE, 0)
  else if p = 0x10 then some (.RESET, 0) else if p = 0x11 then some (.POWER, 0)
  else if p = 0x12 then some (.BACKUP, 0) else if p = 0x13 then some (.SELFTEST, 0)
  else if p = 0x20 then some (.TIME, 0) else if p = 0x21 then some (.TRIGGERS, 0) else none

/-- The page type code of R35 and R36. -/
def typeCode : PageTy → Nat
  | .DIRECTORY => 0x0001 | .MODULE => 0x0002 | .SIZE_TABLE => 0x0003
  | .RESET => 0x0010 | .POWER => 0x0011 | .BACKUP => 0x0012 | .SELFTEST => 0x0013
  | .TIME => 0x0020 | .TRIGGERS => 0x0021
  | .BELFRY => 0x0030 | .BELFRY_SRC => 0x0030 | .BELFRY_SUM => 0x0030 | .BELFRY_HDR => 0x0030
  | .LOG => 0x0040 | .UPDATE => 0x0041 | .CAL => 0x0042 | .AGEING => 0x0043
  | .HOSTWIN => 0x0050 | .MGMT => 0x0051 | .CLAIM => 0x0053 | .MSG => 0x0060
  | .XRDS => 0x0080 | .XRDS_ID => 0x0080 | .XRDS_FREE => 0x0080
  | .PORT => 0x0090 | .ENGINE => 0x00C0 | .COMB => 0x00C8 | .MILLRACE => 0x00D0
  | .DIE => 0x0100 | .MESH => 0x0101 | .HBM => 0x0102 | .TILE => 0x0103 | .RESHARD => 0x0104 | .MENG => 0x0105
  | .W_DESC => 0x8001 | .W_TRACE => 0x8002

/-- Does the type have a page header (windows have none, R22)? -/
def hasHeader : PageTy → Bool
  | .W_DESC => false | .W_TRACE => false | _ => true

/-- PAGE_CAPS.BLOCK_RESET by page type (the page sections of each chapter). -/
def capBlockReset : PageTy → Bool
  | .TILE => true | .PORT => true | .MENG => true | .RESHARD => true | .TRIGGERS => true
  | .BELFRY => true | .BELFRY_SRC => true | .BELFRY_SUM => true | .BELFRY_HDR => true
  | _ => false

/-- The event bits that a page's chapter defines (R23); the others are reserved, read zero and ignore writes (R1). -/
def evtMask : PageTy → Nat
  | .MODULE => 0x3 | .TILE => 0x3F | .MESH => 0xF | .DIE => 0x13F | .HBM => 0xF | .RESHARD => 0x3 | .MSG => 0x7 | .MENG => 0x3F
  | .TIME => 0xFF | .TRIGGERS => 0xFFFFFFFF | .ENGINE => 0xF | .COMB => 0xF | .PORT => 0xFF03FF | .XRDS => 0x3FF
  | .MILLRACE => 0xFF | .CLAIM => 0x7F | .HOSTWIN => 0x3F | .MGMT => 0x7 | .BELFRY => 0x3 | .RESET => 0x3 | .POWER => 0x3F
  | .BACKUP => 0x3 | .SELFTEST => 0x3 | .CAL => 0x7 | .AGEING => 0xF | .LOG => 0xF | .UPDATE => 0x3F
  | _ => 0

/-- PAGE_CAPS.QUIESCE by page type. -/
def capQuiesce : PageTy → Bool
  | .TILE => true | .MESH => true | .HBM => true | .MENG => true | .RESHARD => true | .PORT => true | .CAL => true
  | _ => false

/-- PAGE_CAPS.ENABLE_FIXED: "1 fixed" in R35 and R36. -/
def capEnableFixed : PageTy → Bool
  | .DIRECTORY => true | .MODULE => true | .SIZE_TABLE => true | .RESET => true | .POWER => true | .BACKUP => true
  | .SELFTEST => true | .LOG => true | .CLAIM => true | .DIE => true
  | _ => false

/-- PAGE_CAPS.BLOCK by page type (R118, R151, R184, R267, R296, R335, R337, R339, R377, R421, R465, R493). -/
def capBlock : PageTy → Nat
  | .TILE => 32 + 16 * 64
  | .MESH => 12 + 10 * 16
  | .HBM => 12 + 32 * 16
  | .MENG => 64
  | .TRIGGERS => 32
  | .ENGINE => 18
  | .COMB => 16
  | .PORT => 8 + 1 * 16
  | .XRDS => 5 | .XRDS_ID => 5 | .XRDS_FREE => 5
  | .MILLRACE => 2048 + 6 * 4096
  | .HOSTWIN => 16384
  | .BELFRY => 1024 + 5 * 2048 | .BELFRY_SRC => 1024 + 5 * 2048
  | .BELFRY_SUM => 1024 + 5 * 2048 | .BELFRY_HDR => 1024 + 5 * 2048
  | _ => 0

def pageCaps (ty : PageTy) : Nat :=
  (if capBlockReset ty then 0x80000000 else 0) + (if capQuiesce ty then 0x40000000 else 0)
    + (if capEnableFixed ty then 0x20000000 else 0) + capBlock ty

/-- PAGE_CTRL.ENABLE after a module reset (R35, R36; for TIME and BELFRY after a cold reset). -/
def enableReset : PageTy → Nat
  | .TRIGGERS => 0 | .MSG => 0 | .XRDS => 0 | .XRDS_ID => 0 | .XRDS_FREE => 0 | .PORT => 0 | .ENGINE => 0
  | .COMB => 0 | .MILLRACE => 0 | .MESH => 0 | .RESHARD => 0 | .MENG => 0 | .TILE => 0
  | .W_DESC => 0 | .W_TRACE => 0
  | _ => 1

/-- The home line of a lane (R305); lane 8 is lane S. -/
def homeLine (l : Nat) : Nat := [2, 3, 5, 6, 9, 10, 12, 13, 8].getD l 0

/-- Find the register row of an offset, with the index of the register in its run. -/
def findRow (off : Nat) : List RegRow → Option (RegRow × Nat)
  | [] => none
  | r :: rs =>
    if r.off ≤ off ∧ (off - r.off) % r.stride = 0 ∧ (off - r.off) / r.stride < r.count
    then some (r, (off - r.off) / r.stride) else findRow off rs

/-- The register row of an offset of a page; the third identity page ends with the record of lane 323 (R380). -/
def rowIn (ty : PageTy) (inst off : Nat) : Option (RegRow × Nat) :=
  if ty = .XRDS_ID ∧ inst = 3 ∧ 0x940 ≤ off then none else findRow off (pageRows ty)

/-- Reset values that depend on the instance or on the index in a run (R38, R282, R294, R305, R337, R340, R492). -/
def specialReset (ty : PageTy) (inst off : Nat) : Nat :=
  match ty with
  | .SIZE_TABLE => if off = 0x6C then 0x83033F1F else 0
  | .TIME =>
    if 0x100 ≤ off ∧ off < 0x230 then
      (if (off - 0x100) % 8 = 0 then (if (off - 0x100) / 8 < 36 then 18000 else 164000)
       else (if (off - 0x100) / 8 < 36 then 12500 else 118000))
    else if off = 0x280 then 1 else 0
  | .COMB => if 0x60 ≤ off ∧ off < 0xA0 then (2000 + 125 * ((off - 0x60) / 4)) * 2 ^ 20 else 0
  | .PORT =>
    if off = 0x40 then (if inst % 9 = 8 then 1 else 0)
    else if off = 0x44 then (inst ^^^ 1) * 2 ^ 16 + (inst / 3) * 2 ^ 24 + (inst / 18) * 2 ^ 28
    else if 0x100 ≤ off ∧ (off - 0x100) % 0x20 = 0 ∧ (off - 0x100) / 0x20 < 9 then
      homeLine ((off - 0x100) / 0x20) * (2 ^ 16 + 2 ^ 20)
    else 0
  | .BELFRY_SRC =>
    if 0x40 ≤ off ∧ off < 0x840 then
      (let i := (off - 0x40) / 4 + (inst - 1) * 512
       if i = 144 ∨ i = 145 ∨ i = 146 then 2 * 16 else if i = 147 then 3 * 16 else if i = 148 then 1 * 16 else 0)
    else 0
  | _ => 0

/-- The module-reset value of a header register (R23). PAGE_STAT.IDLE is computed on a read and is not stored. -/
def headerReset (ty : PageTy) (inst off : Nat) : Nat :=
  if off = 0x00 then typeCode ty * 65536 + inst
  else if off = 0x04 then 0x100
  else if off = 0x08 then pageCaps ty
  else if off = 0x0C then enableReset ty
  else 0

/-- A run of consecutive pages that the directory lists as one entry (R20): base page, count, type code, first
instance. Runs are as long as they can be. -/
abbrev DirRun := Nat × Nat × Nat × Nat

/-- The runs listed from reset on, before the compute-die windows are added (R21 step 1, R35). -/
def dirRuns0 : List DirRun :=
  [(0x0, 1, 1, 0), (0x1, 1, 2, 0), (0x2, 1, 3, 0), (0x10, 1, 0x10, 0), (0x11, 1, 0x11, 0), (0x12, 1, 0x12, 0),
   (0x13, 1, 0x13, 0), (0x20, 1, 0x20, 0), (0x21, 1, 0x21, 0), (0x30, 8, 0x30, 0), (0x40, 1, 0x40, 0),
   (0x41, 1, 0x41, 0), (0x42, 1, 0x42, 0), (0x43, 1, 0x43, 0), (0x50, 1, 0x50, 0), (0x51, 2, 0x51, 0),
   (0x53, 1, 0x53, 0), (0x60, 1, 0x60, 0), (0x80, 5, 0x80, 0), (0x90, 36, 0x90, 0),
   (0xC0, 2, 0xC0, 0), (0xC8, 2, 0xC8, 0), (0xD0, 1, 0xD0, 0), (0x100, 32, 0x8001, 0), (0x120, 64, 0x8002, 0)]

/-- The runs of a present compute die's window with its number of logical rows (R21 step 2, R36). -/
def dirRunsDie (d rows : Nat) : List DirRun :=
  let b := 0x200 + d * 0x100
  [(b, 1, 0x100, d), (b + 1, 1, 0x101, d), (b + 2, 2, 0x102, 2 * d), (b + 4, 1, 0x104, d), (b + 0x10, 1, 0x105, 16 * d), (b + 0x80, rows * 11, 0x103, 256 * d)]

/-- The value of a directory word for a list of runs: DIR_COUNT and ENTRY[i] (R20). -/
def dirWord (runs : List DirRun) (off : Nat) : Nat :=
  if off = 0x40 then runs.length
  else if 0x100 ≤ off ∧ off < 0x1000 then
    match runs[(off - 0x100) / 8]? with
    | none => 0
    | some (b, n, t, i) => if (off - 0x100) % 8 = 0 then b * 4096 + n else if (off - 0x100) % 8 = 4 then t * 65536 + i else 0
  else 0

/-- What a word of the descriptor table reads before the tables set it (R387): TRIM_DIV 4 in CTRL, else 0 (log entry 80). -/
def tableReset (o : Nat) : Word := if o % 64 = 0 then 0x40000 else 0

/-- The value of a BAR0 register after a module reset (R6); 0 where the address holds none. Directory entries are
those of R21 step 1. -/
def regReset (a : Nat) : Word :=
  match pageAt (a / 4096) with
  | none => 0
  | some (ty, inst) =>
    let off := a % 4096
    if hasHeader ty = false then (if ty = .W_DESC then tableReset off else 0)
    else if off < 0x40 then BitVec.ofNat 32 (headerReset ty inst off)
    else if ty = .DIRECTORY then BitVec.ofNat 32 (dirWord dirRuns0 off)
    else match rowIn ty inst off with
      | none => 0
      | some (r, _) => BitVec.ofNat 32 (r.reset ||| specialReset ty inst off)

/-- Registers of a block's several pages that are one register: PAGE_CTRL and PAGE_STAT of BELFRY and CROSSROADS
live in the first page (R25), the job registers of the DIE pages on die 0 (R208). -/
def canon (a : Nat) : Nat :=
  match pageAt (a / 4096) with
  | some (ty, _) =>
    let off := a % 4096
    if off = 0x0C ∨ off = 0x10 then
      match ty with
      | .BELFRY_SRC => BELFRY_B + off | .BELFRY_SUM => BELFRY_B + off | .BELFRY_HDR => BELFRY_B + off
      | .XRDS_ID => XRDS_B + off | .XRDS_FREE => XRDS_B + off
      | _ => a
    else if ty = .DIE ∧ 0x40 ≤ off ∧ off < 0x100 then DIE_B 0 + off
    else a
  | none => a

end Sys2Proof.Machine
end

