-- ==== Sys2Proof/Machine/SMap.lean ====
section
/-!
DEFINITION. Sparse maps: lists of (key, value) pairs in one canonical form. They hold registers, memories and every
other collection of the machine. An unlisted key reads as the map's default, and storing that default removes the entry.
-/
namespace Sys2Proof.Machine

/-- A sparse map from Nat keys: keys strictly rising, no entry equal to the default of its key. -/
abbrev SMap (α : Type) := List (Nat × α)

/-- Read key `k` of a map whose unlisted keys read as `d`. -/
def mget {α : Type} (d : Nat → α) : SMap α → Nat → α
  | [], k => d k
  | (a, v) :: m, k => if a = k then v else mget d m k

/-- Remove every entry of key `k`. -/
def merase {α : Type} (m : SMap α) (k : Nat) : SMap α :=
  m.filter fun p => !(p.1 == k)

/-- Put an entry in its place in the order of the keys. -/
def minsert {α : Type} : SMap α → Nat → α → SMap α
  | [], k, v => [(k, v)]
  | (a, w) :: m, k, v => if k < a then (k, v) :: (a, w) :: m else (a, w) :: minsert m k v

/-- Write key `k`; writing the default of `k` removes the entry. -/
def mset {α : Type} [DecidableEq α] (d : Nat → α) (m : SMap α) (k : Nat) (v : α) : SMap α :=
  if v = d k then merase m k else minsert (merase m k) k v

/-- Keys strictly rising from `lo` on, no entry equal to the default. -/
def mwfFrom {α : Type} [DecidableEq α] (d : Nat → α) : Nat → SMap α → Bool
  | _, [] => true
  | lo, (a, v) :: m => decide (lo ≤ a) && decide (v ≠ d a) && mwfFrom d (a + 1) m

/-- The canonical form of a map. -/
def mwf {α : Type} [DecidableEq α] (d : Nat → α) (m : SMap α) : Bool := mwfFrom d 0 m

/-- Read of a map whose unlisted keys read as the type's default value. -/
def zget {α : Type} [Inhabited α] (m : SMap α) (k : Nat) : α := mget (fun _ => default) m k

/-- Write of a map whose unlisted keys read as the type's default value. -/
def zset {α : Type} [Inhabited α] [DecidableEq α] (m : SMap α) (k : Nat) (v : α) : SMap α :=
  mset (fun _ => default) m k v

/-- Read-modify-write of one key. -/
def zmod {α : Type} [Inhabited α] [DecidableEq α] (m : SMap α) (k : Nat) (f : α → α) : SMap α :=
  zset m k (f (zget m k))

/-- The keys of a map that satisfy `p`, in rising order. -/
def mkeys {α : Type} (p : Nat → α → Bool) (m : SMap α) : List Nat :=
  (m.filter fun e => p e.1 e.2).map Prod.fst

end Sys2Proof.Machine
end

