-- ==== Sys2Proof/Machine/State.lean ====
section
/-!
DEFINITION. The state of the module as plain data: the BAR0 registers, the memories, the engines' own state chapter by
chapter, the queue of waiting commands, and State.reset. INVENTORY.md lists every piece with the rule that names it.
-/
namespace Sys2Proof.Machine

/-- Why a command stops the machine. No command of this block does: every path of every meaning answers a next state
(log entry 2), so the type has no use but to fill the host's interface. Nobody raises it. Safe. -/
inductive Fault where
  | none
deriving DecidableEq, Repr

/-- Why a command has no meaning. -/
inductive Refusal where
  /-- The arm of a command whose meaning is not written. Raised by Dispatch only. Safe. -/
  | notModelled (mnemonic : String)
deriving DecidableEq, Repr

/-! ### Tile (03_tile.md) -/

/-- An accumulator entry (R85): value, poison bit, mode tag (0 none, 1 fast, 2 exact), bound descriptor, the FP32 scales of
integer operands that exact accumulation leaves to the final rounding (R65, R66), and the descriptor of the XA160 partial
sum that ACC_ADD added last (R68). -/
structure AccEntry where
  val : Nat
  poison : Bool
  mode : Nat
  bind : Option Nat
  scales : List Nat
  part : Option Nat
deriving DecidableEq, Repr, Inhabited

/-- One stored operand element: its dense position in the group, its value (integer formats: the code's integer), its
FP32 integer scale where it has one, and whether its word was poisoned or its metadata invalid (R49, R50, R91). -/
structure Elem where
  pos : Nat
  val : Num
  scale : Option Nat
  poison : Bool
deriving DecidableEq, Repr, Inhabited

/-- A weight register array (R90): format of the last WLOAD (none when no WLOAD has filled it) and one group per channel. -/
structure WArr where
  fmt : Option Nat
  chans : List (List Elem)
deriving DecidableEq, Repr, Inhabited

/-- The chunk that a load pipe keeps (R90): its bank offset, format selector and channel count, its words as read, those of
the slice's header first, and the same words as they stand in memory; no words while it keeps none. -/
structure LoadChunk where
  off : Nat
  sel : Nat
  chans : Nat
  words : List (Nat × Bool)
  stored : List (Nat × Bool)
deriving DecidableEq, Repr, Inhabited

/-- An open loop (R97): first body instruction, last, passes left, step register and step. -/
structure LoopFrame where
  start : Nat
  last : Nat
  left : Nat
  stepIdx : Nat
  step : Int
deriving DecidableEq, Repr, Inhabited

/-- An issued and uncompleted operation of a unit (R95): its instruction index and word, the index-register offset and
EBASE as it issued, a stage number (SEND: the slot occurrence; POST and PUT: the message engine's operation), its
place in the order of issue, and for a late SEND the schedule cycle from which its words can enter the mesh (R134). -/
structure Op where
  pc : Nat
  word : Nat
  off : Int
  ebase : Nat
  stage : Nat
  seq : Nat
  late : Option Nat
deriving DecidableEq, Repr, Inhabited

/-- The tiles' state outside BAR0 and module memory. Keys are built from the tile number g = 256 d + t (R36). -/
structure TileSt where
  /-- accumulator files (R85), key (g * 32 + bank) * 512 + entry -/
  acc : SMap AccEntry
  /-- weight register arrays (R90), key (g * 32 + bank) * 2 + array -/
  warr : SMap WArr
  /-- the chunk each load pipe keeps (R90), key g * 32 + bank -/
  chunk : SMap LoadChunk
  /-- vector lanes (R92), key (g * 32 + register) * 128 + lane: FP32 code, plus 2^32 when the lane is poisoned -/
  vreg : SMap Nat
  /-- open loops, innermost first (R97), key g -/
  loops : SMap (List LoopFrame)
  /-- unit queues, oldest first (R95), key g * 8 + unit: 0 load pipe, 1 compute pipe, 2 vector, 3 data mover, 4 mesh -/
  queue : SMap (List Op)
  /-- why issue has stopped (R112, R122, R123), key g: 0 not, 1 HALT, 2 HALT_REQ, 3 fault, 4 PHASE_END, 5 quiesce -/
  stop : SMap Nat
  /-- words a scrubber visits ahead of its pass (R172), byte addresses of protected words, oldest first -/
  urgent : List Nat
  /-- SENDs issued on a slot in the current phase (R133), key g * 2^21 + slot -/
  slotUse : SMap Nat
  /-- operations issued since load (the order of R90 and R95), key g -/
  issued : SMap Nat
  /-- words that have had their turn in the scrubbers' pass (R173), key their byte address -/
  scrubbed : SMap Bool
  /-- tiles recorded in PENDING since the module reset (R143), key 256 d + 16 row + column -/
  failed : SMap Bool
  /-- schedule cycle at which the quiesce of a die's mesh began (R155), key the die; none while it is not quiesced -/
  hold : SMap (Option Nat)
  /-- times that each flit in a bundle's replay buffer has been sent again (R148), key ((4 d + k) * 16 + i) * 64 + entry -/
  retries : SMap Nat
deriving DecidableEq, Repr, Inhabited

/-- SEND words on their way (R105, R131): sender, receiver, destination tile word, the words with their poison, the
receiver's token, none in the scheduled part of a late SEND whose other words follow (R134). -/
structure Flight where
  src : Nat
  dst : Nat
  addr : Nat
  words : List (Nat × Bool)
  rtoken : Option Nat
  /-- carried by the scheduled class (R135) -/
  sched : Bool
  /-- the words of a late SEND that its occurrence could not take (R134) -/
  rest : Bool
  /-- symbol errors that a word and its check symbols have taken on the mesh (R128), key the word's place -/
  errs : SMap Nat
deriving DecidableEq, Repr, Inhabited

/-! ### Program image and job (06_contract.md) -/

/-- A tensor descriptor (R199). -/
structure TDesc where
  id : Nat
  fmt : Nat
  res : Nat
  anchor : Int
  rank : Nat
  baxis : Nat
  caxis : Nat
  role : Nat
  shape : List Nat
  mask : Nat
  scale : Nat
  metaIx : Nat
  scaleVal : Nat
  home : Nat
  placeFirst : Nat
  placeCount : Nat
deriving DecidableEq, Repr, Inhabited

/-- A placement (R200); tile is g = 256 d + t. -/
structure Place where
  desc : Nat
  kind : Nat
  tile : Nat
  mask : Nat
  addr : Nat
  bytes : Nat
deriving DecidableEq, Repr, Inhabited

/-- A destination entry (R202). -/
structure Dest where
  slice : Nat
  x : Nat
  y : Nat
  z : Nat
  die : Nat
  kind : Nat
  target : Nat
deriving DecidableEq, Repr, Inhabited

/-- A phase entry (R203). -/
structure PhaseEnt where
  flags : Nat
  succ : Nat
  slotFirst : Nat
  slotCount : Nat
  planEpoch : Nat
  duration : Nat
  rsFirst : Nat
  rsCount : Nat
deriving DecidableEq, Repr, Inhabited

/-- A slot entry (R130). -/
structure SlotEnt where
  start : Nat
  len : Nat
  rep : Nat
  period : Nat
  srcRow : Nat
  srcCol : Nat
  dstRow : Nat
  dstCol : Nat
deriving DecidableEq, Repr, Inhabited

/-- A barrier record (R204). -/
structure BarRec where
  id : Nat
  kind : Nat
  trigger : Nat
  arrivals : Nat
  mask : Nat
deriving DecidableEq, Repr, Inhabited

/-- A reshard descriptor (R205); counts and strides for the three dimensions. -/
structure RsDesc where
  kind : Nat
  die : Nat
  dest : Nat
  tensor : Nat
  barrier : Nat
  src : Nat
  dst : Nat
  piece : Nat
  counts : List Nat
  sstr : List Int
  dstr : List Int
deriving DecidableEq, Repr, Inhabited

/-- A stream record (R198): tile g, instruction count, entry points of phases 0-15. -/
structure StreamRec where
  tile : Nat
  count : Nat
  entries : List Nat
deriving DecidableEq, Repr, Inhabited

/-- A loaded image (R194-R207), the part that the module keeps. -/
structure Image where
  slice : Nat
  streams : List StreamRec
  descs : List TDesc
  places : List Place
  dests : List Dest
  phases : List PhaseEnt
  slots : List SlotEnt
  bars : List BarRec
  reshard : List RsDesc
deriving DecidableEq, Repr, Inhabited

/-- The job outside its registers: the loaded image, the armed change, a start that waits for late tiles, a start that
waits for the schedule, the seed in force, barrier counts and the reshard engines' progress (R204, R216-R221). -/
structure JobSt where
  img : Image
  /-- image area of the load, address and length, as IMG_ADDR and IMG_BYTES named it at the LOAD (R211) -/
  area : Nat × Nat
  /-- armed instant of the armed change, ns (R216); phase and AUTO are in JOB_STAT -/
  armT : Nat
  /-- phase whose start waits under LATE_WAIT, with its instant (R218) -/
  late : Option (Nat × Nat)
  /-- the phase start waits for scheduled words of the earlier phase (R135) -/
  starting : Bool
  /-- seed in force (R210: a write of SEED takes effect at the next phase start) -/
  seed : Nat
  /-- arrivals counted at each arrival barrier (R204) -/
  arrivals : SMap Nat
  /-- completed reshard descriptors of the current phase, indices from RESHARD_FIRST -/
  rsDone : List Nat
  /-- destination bytes of RECEIVE descriptors that reshard streams have written in this phase -/
  rsGot : List (Nat × Nat)
  /-- reshard descriptors run in the current phase (false once one has failed or the job stopped) -/
  rsRun : Bool
  /-- next piece of each SEND descriptor, by index from RESHARD_FIRST -/
  rsPiece : SMap Nat
  /-- reshard destinations whose barrier has not released in this phase: barrier, module address, bytes (R219) -/
  rsOpen : List (Nat × Nat × Nat)
deriving DecidableEq, Repr, Inhabited
/-! ### Messages (07_messaging.md) -/

/-- A POST (kind 0), a PUT (1) or a reshard stream (3) that has not ended (R224-R226, R241). -/
structure MOp where
  id : Nat
  kind : Nat
  /-- owning die, and issuing tile (0x7F of the die for the reshard engine) -/
  die : Nat
  tile : Nat
  /-- issue number of the tile's operation (R95), destination entry or reshard descriptor for FAIL_B, token and pc -/
  seq : Nat
  arg : Nat
  token : Nat
  pc : Nat
  dest : Dest
  /-- ENTRY_256 of a POST -/
  big : Bool
  /-- notify queue of a PUT -/
  notify : Option Nat
  /-- TARGET of frame 0 -/
  target : Nat
  /-- source address and bytes -/
  src : Nat
  bytes : Nat
  frames : Nat
  /-- opened (its destination checked and its slot given), frames launched, frames acknowledged -/
  opened : Bool
  next : Nat
  acked : Nat
  slot : Option Nat
  /-- DST_EPOCH of a stream (R253) -/
  epoch : Option Nat
  firstAck : Bool
  /-- waits 2^k times 2 µs after QUEUE_FULL or RX_BUSY (R237): k refusals so far, and whether it waits now -/
  backoff : Bool
  tries : Nat
  /-- asked to stop (R244) -/
  stop : Bool
deriving DecidableEq, Repr, Inhabited

/-- A frame in the replay buffer (R231): its operation, and whether it has been sent since the last timeout. -/
structure Rep where
  op : Nat
  sent : Bool
  frame : MsgFrame
deriving DecidableEq, Repr, Inhabited

/-- The sender's side of a (light path, VC) (R230, R231, R258, R259). -/
structure Pair where
  next : Nat
  reset : Bool
  credits : Nat
  replay : List Rep
  timeouts : Nat
  /-- the last ACK had HOLD (R243) -/
  hold : Bool
  /-- number of the resync that waits for its RESYNC, and the last number used -/
  resync : Option Nat
  resyncNo : Nat
  /-- slice and coordinate of the last frame's destination, none before the first (R253) -/
  peer : Option (Nat × Nat × Nat × Nat)
deriving DecidableEq, Repr, Inhabited

/-- The receiver's side of a (light path, VC) (R230, R243, R259, R319, R431). -/
structure RPair where
  expect : Option Nat
  last : Option Nat
  /-- credits to return -/
  pend : Nat
  /-- buffers above the share, whose credits are withheld (R431) -/
  excess : Nat
  /-- the last frame of a stream, held for its notify, with its port -/
  held : Option MsgFrame
  /-- resync number asked for and the lanes its RESYNC_REQ has arrived on -/
  reqNo : Nat
  reqs : List Nat
  /-- resync number of an answer that waits for a lane of the return path (R259) -/
  answer : Option Nat
deriving DecidableEq, Repr, Inhabited

/-- A receive record (R242, R255): destination die, source coordinate, owning die, stream, source epoch; first TARGET,
bytes and frames so far, waiting for its notify. -/
structure RxRec where
  die : Nat
  x : Nat
  y : Nat
  z : Nat
  own : Nat
  stream : Nat
  epoch : Nat
  target : Nat
  bytes : Nat
  got : Nat
  held : Bool
deriving DecidableEq, Repr, Inhabited

/-- A queue descriptor that is VALID (R234). -/
structure QDesc where
  ring : Nat
  log2 : Nat
  big : Bool
  irq : Bool
  broken : Bool
  consErr : Bool
  index : Nat
  slice : Nat
  epoch : Nat
  posted : Nat
  consumed : Nat
  fullNacks : Nat
  /-- the descriptor holds an uncorrectable error that no use has met yet (R269) -/
  upset : Bool
deriving DecidableEq, Repr, Inhabited

/-- Work offered to a block that takes none, held back at its source in the order of its arrival (R30, R31, R187): the
bytes a window access writes; the bytes it reads, each with what it met and its module address; a handoff behind them; a
frame at a port; a queue command; a doorbell; a walker cache to empty. -/
inductive Offer where
  | hostWrite (bytes : List (Nat × Byte))
  | hostRead (bytes : List (Nat × Nat))
  | handoff (v : Word)
  | frame (port vc slice : Nat) (f : MsgFrame)
  | queueCmd (die op queue : Nat)
  | doorbell (die queue : Nat)
  | sessInv (die : Nat)
  | chain (port ty xfer : Nat) (args : List Nat)
  | stage (off : Nat) (bytes : List Nat)
deriving DecidableEq, Repr, Inhabited

/-- A failure record (R244, R268). -/
structure FailRec where
  code : Nat
  kind : Nat
  tile : Nat
  arg : Nat
deriving DecidableEq, Repr, Inhabited

/-- The message engines and walkers outside their pages. -/
structure MsgSt where
  /-- operations in the order of their issue, and the number of the next -/
  ops : List MOp
  nextId : Nat
  /-- sender and receiver sides, key path * 2 + VC; path 0xFFFF is the local one -/
  pairs : SMap Pair
  rpairs : SMap RPair
  rx : List RxRec
  /-- slots that a stream has just left (R241): die and slot -/
  leaving : List (Nat × Nat)
  /-- queues, key the queue number -/
  queues : SMap (Option QDesc)
  /-- peer table, most recently used first, at most 4,096 (R253): slice and coordinate, epoch -/
  peers : List ((Nat × Nat × Nat × Nat) × Nat)
  /-- walker caches (R250), key die * 1024 + set: session, block, GEN and block address, most recently used first -/
  walk : SMap (List (Nat × Nat × Nat × Nat))
  /-- GATHERs that a walker has taken: tile and issue number (R251) -/
  walking : List (Nat × Nat)
  /-- work held back at its source (R30, R31) -/
  offers : List Offer
  /-- arrival and failure FIFOs with their overflow bits (R239, R244), key the die -/
  arrivals : SMap (List Nat)
  arrLost : SMap Bool
  fails : SMap (List FailRec)
  failLost : SMap Bool
  /-- outbound paths that had a lane in service (R430), and retuned paths that owe a resync -/
  up : SMap Bool
  due : List Nat
  /-- shares in force until the release (R431), key path * 2 + VC -/
  shares : SMap Nat
  /-- growth of shares that waits for the excess of others to drain (R431), key path * 2 + VC -/
  owed : SMap Nat
deriving DecidableEq, Repr, Inhabited

/-! ### Time (08_time.md) -/

/-- A captured edge (R287): clock in units of 2^-32 ns, edge, merged edges. -/
structure Stamp where
  clock : Nat
  rising : Bool
  overrun : Bool
deriving DecidableEq, Repr, Inhabited

/-- The time base outside the TIME page's registers (R271-R288). -/
structure TimeSt where
  /-- the local clock, units of 2^-32 ns, below 2^96 (R271) -/
  clock : Nat
  /-- the uptime in half nanoseconds, so that 2.5 ns is 5 (R272) -/
  up : Nat
  /-- uptime of the last accepted PPS pulse's sample, quarter nanoseconds (R281) -/
  lastPps : Option Nat
  /-- the selected source is lost (R279): a servo that was stopped then enters HOLDOVER as it resumes (R280) -/
  srcLost : Bool
  /-- PPS is lost: the next accepted pulse raises PPS_RESTORED (R281, R295) -/
  ppsLost : Bool
  /-- consecutive samples below 100 ns (R280) -/
  good : Nat
  /-- the last 16 increments the servo wrote, newest first (R280) -/
  incs : List Nat
  /-- next SYNC sequence number of each master path (R285), key the path -/
  ztSeq : SMap Nat
  /-- the accepted SYNC that waits for its DRESP (R285): sequence, t1, t2, and t3 once the DREQ has left -/
  ztSync : Option (Nat × Nat × Nat × Option Nat)
  /-- the master each slave management port follows (R286), key the port -/
  ptpMaster : SMap (Option Nat)
  /-- t1 and t2 of each slave port’s last Sync and t3 of its Delay_Req (R286), key the port -/
  ptpSync : SMap (Option (Nat × Nat × Nat))
  /-- capture FIFOs, oldest first (R287), key the unit -/
  caps : SMap (List Stamp)
  /-- PPS_OUT is high until this uptime (R290) -/
  ppsOut : Bool
deriving DecidableEq, Repr, Inhabited

/-! ### Light and plans (09_optics.md, 10_crossroads.md, 12_reconfiguration.md) -/

/-- What the module has sent out: the model's own record (log entry 5). Each carries its numbers in the order its
sender's docstring gives. -/
inductive OutKind where
  | read | frame | ack | control | codeword | beacon | ztFrame | ptpFrame | switchNote | bcFrame | mgmt | arp | icmp
  | msix | pin | mailbox | fru | burst | bar2 | probe | calNote | chain | na
deriving DecidableEq, Repr, Inhabited

/-- A frame for a transmit lane (R316): the port and lane that send it, the light path of its link header, its SLICE, and
what it carries. -/
structure TxFrame where
  port : Nat
  lane : Nat
  path : Nat
  slice : Nat
  kind : OutKind
  args : List Nat
deriving DecidableEq, Repr, Inhabited

/-- Lanes and ports outside their registers. -/
structure OptSt where
  /-- CW_SEQ of a transmit lane's next codeword (R315), key 9p + l -/
  cwSeq : SMap Nat
  /-- the lane's tree has switched: a burst preamble goes before its next codeword (R325), key 9p + l -/
  burst : SMap Bool
  /-- frames held at their source by a quiesce of their port or until a steered lane visits their output (R339, R365),
  oldest first -/
  wait : List TxFrame
  /-- VC1 frames in a row that a lane has sent while a VC0 frame waited for it (R317), key 9p + l -/
  vc1Run : SMap Nat
  /-- cause of a lane direction's failure, which only a block reset of its port or a new plan for it ends (R321); 0 none,
  key the ring index -/
  failed : SMap Nat
  /-- a data lane has left service, or had not come up by the release, and has not come back (R324), key 9p + l -/
  away : SMap Bool
  /-- 1 + the port whose launch limit parked the lane until its RELAUNCH (R331), key 9p + l -/
  tripped : SMap Nat
  /-- uptime of the last beacon and of the last visit on an output of a lane (R366), half ns, key (9p + l) * 4 + output -/
  beaconAt : SMap (Option Nat)
  visitAt : SMap (Option Nat)
  /-- DAC_RES in force on a transmit lane (R310), taken as it enters CHECKING, key 9p + l -/
  dac : SMap (Option Nat)
  /-- PRE and POST that a transmit lane's bring-up has set (R310, R340), key 9p + l -/
  eq : SMap Nat
  /-- equaliser taps of a receive lane (R340), key 2 * (9p + l) + half -/
  ffe : SMap Nat
  /-- failed acquisitions in a row (R323), key the ring or MZI slot -/
  acqFails : SMap Nat
  /-- checks of R322 that a receive lane has passed since it last had to pass them: bit 0 the tone check, bit 1 the error check, key
  9p + l -/
  checks : SMap Nat
  /-- the modulator monitor shows the lane's own line (R321), key the transmit ring index -/
  txTone : SMap Bool
  /-- codeword alignment of a receive lane (R314), key 9p + l: good codewords in a row up to 4 (4 is aligned), next
  CW_SEQ, wrong SYNCs in a row -/
  align : SMap (Nat × Nat × Nat)
  /-- frame stream of a receive lane (R316, R318), key 9p + l: words of a frame that runs on; none while the stream
  waits for a FRAME_OFF -/
  stream : SMap (Option (List Nat))
  /-- a LOOPBACK port does not launch again until the plan is applied (R330), key the port -/
  loopTrip : SMap Bool
  /-- frames sent in the current visit of a steered lane (R365), key 9p + l -/
  visit : SMap Nat
  /-- uptime of the last beacon of a receive lane (R380), half ns, key 9p + l -/
  seen : SMap Nat
deriving DecidableEq, Repr, Inhabited

/-- Plan banks, the checker and the timed switch outside their registers. -/
structure XrdsSt where
  /-- ACTIVE and STAGED, by byte offset (R355) -/
  active : SMap Byte
  staged : SMap Byte
  /-- one past the last byte written in STAGED (R361 rule 0x01) -/
  stagedEnd : Nat
  /-- PORT.CFG.ROLE of the 36 ports at the CHECK command (R361) -/
  roles : List Nat
  /-- SW_STAT.STATE before the ARM (R447) -/
  before : Nat
  /-- rings affected by the last switch and the paths it retunes (R359, R425) -/
  affected : List Nat
  retuned : List Nat
  /-- ports lit at drain, while the relaxation of R429 is in force -/
  lit : List Nat
  /-- the release and the report of the last switch are still to come (R430, R433) -/
  toRelease : Bool
  toReport : Bool
  /-- `lit` is that of the armed switch, whose drain instant has been reached -/
  litArmed : Bool
  /-- receive rings that the reference path lights (R428) -/
  refLit : List Nat
  /-- outbound paths that have still to send their SWITCH_NOTE (R438), and the claim when their switch was armed (R437) -/
  notes : List Nat
  noteClaim : Nat
deriving DecidableEq, Repr, Inhabited

/-! ### Millrace (11_millrace.md) -/

/-- The state memory of a loop slot (R385, R394). -/
structure Slot where
  /-- SLOT_STAT.STATE (R403), and the state left for HELD or GAP -/
  st : Nat
  left : Nat
  /-- previous sample, none after a miss; the dither sign now (true: -1) and that of the previous sample -/
  mPrev : Option Nat
  neg : Bool
  negPrev : Bool
  /-- e and y histories, newest first -/
  es : List Int
  ys : List Int
  y : Int
  /-- base of a ring slot in 1/256 code (R404), the feedforward references and the last ff (R414) -/
  base : Int
  refW : Int
  refE : Int
  ff : Int
  trim : Int
  code : Nat
  pred : Int
  e : Int
  num : Int
  den : Int
  dev : Nat
  /-- the eight sticky flags, bit code - 1 (R395, R424) -/
  flags : Nat
  frames : Nat
  misses : Nat
  acqFails : Nat
  /-- frames in a row inside or outside LOCK_WIN (R405), over the plausibility window (R410), not completed (R391), and
  of FROZEN samples that show life (R408) -/
  inRun : Nat
  outRun : Nat
  devRun : Nat
  missRun : Nat
  liveRun : Nat
  /-- the last 64 samples with their differences, newest first (R408) -/
  hist : List (Nat × Nat)
  /-- trim stage (R401): odd period, frames in it, its metric sum, the sum and the frames of the even period, the lane's metric, and
  the symbols its lane had corrected when the period began -/
  odd : Bool
  trimN : Nat
  sum : Nat
  sumEven : Nat
  evenN : Nat
  metric : Nat
  symFrom : Nat
  /-- uptime of the last frame start, and a trigger firing that has not yet started its frame (R389) -/
  started : Option Nat
  due : Bool
  /-- the tone check found another line: the slot re-enters SETTLE at its next frame (R407) -/
  resettle : Bool
  /-- the slot stays IDLE after a hardware failure (R412) -/
  dead : Bool
deriving DecidableEq, Repr, Inhabited

/-- Millrace outside the MILLRACE page and the two windows. -/
structure MillSt where
  /-- slots, key s; line Lk of a line power slot, k >= 1, is key s + 2048 k (R418) -/
  slots : SMap Slot
  /-- the line that each line power slot takes next -/
  turn : SMap Nat
  /-- filtered powers F_d, 1/256 W (R414) -/
  filt : SMap Int
  /-- die temperatures of the last 1 ms, newest first (R413), key the die -/
  temps : SMap (List Nat)
  /-- 1 µs power estimates of the last 100 µs, newest first, and the die's request for stalls (R415) -/
  ests : SMap (List Nat)
  stall : SMap Bool
  /-- ring-area temperatures of the ports, 1/16 °C (R404) -/
  portT : SMap Nat
  /-- FLAG_FIFO, oldest first: slot, code (R395); records lost since its last read -/
  flagQ : List (Nat × Nat)
  flagLost : Bool
  /-- samples a trace channel still takes before it freezes (R419) -/
  freeze : SMap (Option Nat)
  /-- start points of affected rings for the staged line, as P_pred (R406) -/
  starts : SMap (Option Int)
  /-- use of the datapaths (0, in steps) and of the converters of OE0 (1) and OE1 (2), in 5 ns, by the 10 µs interval of the uptime in
  which the frames started (R392), key 4 * interval + which -/
  load : SMap Nat
  /-- symbol errors in the descriptor table (R175), key the 32-byte word: a pattern of its 32 bytes and 3 check bytes -/
  descUpset : SMap Nat
deriving DecidableEq, Repr, Inhabited

/-! ### Host and management interfaces (13_host_mgmt.md), Belfry’s pins (14_belfry.md) -/

/-- A management request (R470): version, FLAGS, opcode, SEQ and payload bytes. -/
structure MReq where
  version : Nat
  flags : Nat
  opcode : Nat
  seq : Nat
  payload : List Nat
deriving DecidableEq, Repr, Inhabited

/-- A response: opcode, status, SEQ and payload bytes. -/
structure MResp where
  opcode : Nat
  status : Nat
  seq : Nat
  payload : List Nat
deriving DecidableEq, Repr, Inhabited

/-- The capabilities that the PCIe function lists (R453). -/
inductive PcieCap where
  | powerManagement | pciExpress | msix | advancedErrorReporting | drusynBinding
deriving DecidableEq, Repr

/-- Identity and options of the one endpoint function (R453), which only a reset of its configuration space writes again. It lists
no MSI and no INTx, none of SR-IOV, ATS, PRI and PASID, and issues no request but MSI-X messages. -/
structure PcieFn where
  /-- vendor and device (R453) -/
  vendor : Nat
  device : Nat
  /-- class code: processing accelerator (R453) -/
  classCode : Nat
  /-- maximum payload in bytes, and MSI-X vectors (R453) -/
  maxPayload : Nat
  vectors : Nat
  /-- the capabilities it lists (R453) -/
  caps : List PcieCap
deriving DecidableEq, Repr, Inhabited

def pcieFn : PcieFn :=
  ⟨0x1E5A, 0x0880, 0x120000, 512, 64, [.powerManagement, .pciExpress, .msix, .advancedErrorReporting, .drusynBinding]⟩

/-- The host window, the PCIe function, the mailbox and the management ports outside their pages. -/
structure HostSt where
  /-- the function's identity, as its configuration space shows it (R453) -/
  fn : PcieFn
  /-- notify FIFO, oldest first: first slot and slots less one, with its overflow bit (R462) -/
  notify : List (Nat × Nat)
  notifyLost : Bool
  /-- slots in which a write has been dropped since their last handoff (R461) -/
  dropped : SMap Bool
  /-- MSI-X vectors that are unmasked, and those pending (R457) -/
  unmasked : SMap Bool
  msixPend : SMap Bool
  /-- words 0 to 2 of the entries of the MSI-X table in BAR4, key 4 v + word: message address low and high, data (R454) -/
  msixTab : SMap Nat
  /-- the function is in D3hot (R487) -/
  d3 : Bool
  /-- responses kept by each management port, most recently used first, at most 16 (R473): requester, response -/
  cache : SMap (List (Nat × MResp))
  /-- requests that wait while the Reeve does not run (R467), oldest first: requester and request -/
  waiting : SMap (List (Nat × MReq))
  /-- 1 + the management port whose request is being served, 0 for none (R474) -/
  serving : Nat
  /-- sources of compute-die pages that were absent when their directory last took its final form (R492) -/
  gone : SMap Bool
  /-- the request in MBOX_REQ as it stood at the GO being served (R464) -/
  mbox : List Nat
  /-- levels of the pins EVT_IN0, EVT_IN1, PPS_IN, LASER_EN and PERST_N, sources 144-148, that differ from their rest
  level, which is high for PERST_N and low for the others (R478) -/
  pins : SMap Bool
deriving DecidableEq, Repr, Inhabited

/-! ### Power, reset and the Reeve (15_power_reset.md), repair maps (04_mesh.md) -/

/-- The Reeve and the requests that wait for it (R211, R508, R524). -/
structure ReeveSt where
  /-- a Reeve warm reset is in progress (R508) -/
  down : Bool
  /-- register writes held until the Reeve serves again: path, address, value, oldest first (R211, R524) -/
  held : List (Nat × Nat × Nat)
  /-- what core k does about interrupts: 0 it runs, 1 it waits asleep, 2 the wake condition has woken it (R486) -/
  sleep : SMap Nat
deriving DecidableEq, Repr, Inhabited

/-- The power and reset controller outside its pages, the fuses and the flash that bring-up reads. -/
structure PowerSt where
  /-- the aux rail is down: the module is OFF (R18, R502) -/
  off : Bool
  /-- the input has been below 720 V, or above 880 V, for 1 ms (R498, R519) -/
  inLow : Bool
  inHigh : Bool
  /-- the input switch is open (R498) -/
  switchOpen : Bool
  /-- the input has been at or above 720 V for 100 ms (R498) -/
  railsOk : Bool
  /-- REFCLK_OK has fallen and not risen since (R34) -/
  refLost : Bool
  /-- bring-up waits before the main rails (R518) -/
  waitRails : Bool
  /-- uptime in ns at which the watchdog’s count last started to run, and the ns that it had counted before then (R509) -/
  wdtAt : Nat
  wdtGone : Nat
  /-- uptime in ns of the reset assertion (R527) -/
  resetAt : Nat
  /-- the input power last seen, averaged over 10 ms and over 1 ms, in W (R501) -/
  avg10 : Nat
  avg1 : Nat
  /-- the life-cycle state that the reset in progress takes (R523) -/
  lcTarget : Option Nat
  /-- optics deferred (R518) -/
  deferred : Bool
  /-- a CRIT_ECC record is owed at this bring-up (R176) -/
  critOwed : Bool
  /-- repair maps (R139, R142), key 16 d + physical row: factory cut-outs and cut-outs added by BIST, column + 1; the
  lost row of a die, row + 1, key d -/
  cutF : SMap Nat
  cutB : SMap Nat
  lostB : SMap Nat
deriving DecidableEq, Repr, Inhabited
/-! ### Calibration and ageing (16_calibration.md) -/

/-- The measured constants of a ring: P_HOME, P_STEP, T_CAL, H_PER_C, K_W and K_E (R529, R533). -/
structure RingCurve where
  home : Int
  step : Int
  tcal : Int
  hper : Int
  kw : Int
  ke : Int
deriving DecidableEq, Repr, Inhabited

/-- Statistics of a ring’s calibrations (R549): count, result, source, uptime, changes of P_pred and P_STEP, responsivity
and headroom. -/
structure RingCal where
  count : Nat
  result : Nat
  source : Nat
  up : Nat
  dHome : Int
  dStep : Int
  resp : Nat
  headroom : Int
deriving DecidableEq, Repr, Inhabited

/-- A lane calibration in progress (R540): the ring at this end, whether this module leads it, the path and lane, its
number, the data lanes of the path in service at its start, and whether this end’s corrections are written and the
leader’s CAL_END has come. -/
structure LaneCal where
  ring : Nat
  lead : Bool
  path : Nat
  lane : Nat
  seq : Nat
  up : List Nat
  swept : Bool
  ended : Bool
deriving DecidableEq, Repr, Inhabited

/-- An advisory (R547, R548). -/
structure Advis where
  kind : Nat
  sev : Nat
  object : Nat
  value : Int
  first : Nat
  last : Nat
deriving DecidableEq, Repr, Inhabited

/-- The factory calibration record, the ledger and the calibrations in progress. -/
structure CalSt where
  /-- the factory calibration record (R529), key the ring; whether a copy is readable (R530) -/
  fac : SMap RingCurve
  facBad : Bool
  /-- baselines from the first power-up calibration after the record was lost (R530) -/
  base : SMap (Option RingCurve)
  /-- factory core voltage of each die, mV (R529) -/
  facV : SMap Nat
  rings : SMap RingCal
  lanes : List LaneCal
  /-- slots of the rings and MZI stages that failed the last power-up or full calibration (R535) -/
  failed : List Nat
  /-- number of the next lane calibration (R539) -/
  seq : Nat
  /-- the advisory list (R548), oldest first, at most 64 -/
  adv : List Advis
  /-- step counts saved in the ledger (R545), and the uptime of the last save -/
  steps : SMap Int
  savedAt : Option Nat
  /-- per die, uptimes: the last raise, and since when MARGIN has been above HIGH (R545) -/
  raised : SMap (Option Nat)
  above : SMap (Option Nat)
  /-- corrections counted at the last hourly check (R544): die d is key d, stack m key 16 + m -/
  errBase : SMap Nat
deriving DecidableEq, Repr, Inhabited
/-! ### Parish register and trace buffers (17_parish_register.md) -/

/-- A record (R555) but for its CRC, and the difference of the stored CRC from the right one (0: the CRC holds). -/
structure Rec where
  seq : Nat
  uptime : Nat
  wall : Nat
  source : Nat
  epoch : Nat
  code : Nat
  flags : Nat
  w : List Nat
  crcErr : Nat
deriving DecidableEq, Repr, Inhabited

/-- A trace entry (R551). -/
structure TraceEnt where
  uptime : Nat
  kind : Nat
  bit : Nat
  code : Nat
  arg : Nat
deriving DecidableEq, Repr, Inhabited

/-- The parish register controller (R551-R564). -/
structure LogSt where
  /-- the pending FIFO, oldest first, at most 64 (R554) -/
  fifo : List Rec
  /-- records in flash, by SEQ (R552) -/
  flash : SMap (Option Rec)
  /-- a LOG_CLEARED record that waits for a free slot (R560): access paths, oldest first -/
  clearWait : List Nat
  /-- uptimes of the first and the last lost record (R558) -/
  firstLost : Nat
  lastLost : Nat
  /-- page programs failed in a row (R554) -/
  fails : Nat
  /-- writing has stopped after 16 failed pages (R554) -/
  dead : Bool
  /-- trace buffers, newest first, at most 16 (R551), key the page number -/
  trace : SMap (List TraceEnt)
  /-- records in the page under program, the first of the FIFO; 0 when none is (R554) -/
  prog : Nat
deriving DecidableEq, Repr, Inhabited

/-! ### Firmware update and the bucket chain (18_update.md) -/

/-- What the module keeps of a package (R566-R568): tag, settings format, SVN and VERSION of parts 1-9, and the Millrace
tables of part 2 (R385), by byte offset in the descriptor table. -/
structure PkgInfo where
  tag : Nat
  fmt : Nat
  svns : List Nat
  vers : List Nat
  tables : SMap Word
deriving DecidableEq, Repr, Inhabited

/-- An incoming bucket-chain transfer (R582, R583): port, XFER, the chunks received and the chunks requested and
not received. -/
structure Xfer where
  port : Nat
  xfer : Nat
  got : List Nat
  asked : List Nat
deriving DecidableEq, Repr, Inhabited

/-- The update machine outside its page, and the flash it writes. -/
structure UpdSt where
  /-- the running image, the confirmed manifest and the flash image; the flash image is torn or fails to verify -/
  run : PkgInfo
  conf : Option PkgInfo
  flash : PkgInfo
  torn : Bool
  /-- the boot ROM waits for a package in bring-up step 1 (R579): 8 RECOVERY, 9 ROM_BOOT, 0 when it does not -/
  rom : Nat
  /-- the ROM serves the bucket chain on discovery lanes of its own (R580) -/
  romPorts : Bool
  /-- the verified package, and whether it is still in the staging area (R569, R582) -/
  pkg : Option PkgInfo
  staged : Bool
  /-- ACTIVATING: uptime of the accepted command; the copy in hub SRAM is checked and the header block erased (R573) -/
  actAt : Nat
  erased : Bool
  /-- a Reeve warm reset has suspended an erase of the flash, which restarts after it (R510) -/
  suspended : Bool
  /-- slots whose descriptors differ from the tables after a handover (R575) -/
  due : List Nat
  /-- versions of parts 3-9 that take effect at the next reset (R575) -/
  pending : Option PkgInfo
  inc : Option Xfer
  /-- END repeated for a transfer: port, XFER, code -/
  ended : Option (Nat × Nat × Nat)
  /-- offers ignored with ACCEPT 0 that have raised OFFER: port and XFER -/
  offered : List (Nat × Nat)
  /-- outgoing: ports whose neighbour has answered END, and the XFER of each port’s offers -/
  stopped : SMap Bool
  xfers : SMap Nat
deriving DecidableEq, Repr, Inhabited

/-! ### Outputs -/


/-- The module's state. `pending` is the queue of waiting commands, `free` the counter of free values, `out` the
record of outputs: these three are the model's own, every other field is the spec's (INVENTORY.md). -/
structure State where
  /-- the commands that wait, first in first out; exec leaves it alone -/
  pending : List Instr
  /-- the counter of free values (log entry 1) -/
  free : Nat
  /-- what the module has sent, oldest first (log entry 5) -/
  out : List (OutKind × List Nat)
  /-- BAR0 registers and windows, by canonical address (R2) -/
  regs : SMap Word
  /-- registers kept apart for each access path (R4, R446, R465, R421, R549, R550, R562) -/
  pregs : SMap Word
  /-- shadow copies of high halves (R3), key of the path and the high half's address -/
  shadow : SMap (Option Word)
  /-- held low-half writes (R3), key of the path and the low half's address -/
  held : SMap (Option Word)
  /-- bytes of module memory (R158), instruction stores and hub SRAM -/
  mem : List Host.Cell
  /-- symbol errors present in a protected word (R167-R169), key its first byte's address -/
  upset : SMap Nat
  /-- poisoned words and blocks (R170) -/
  poison : SMap Bool
  /-- failed HBM channels (R182), key stack * 32 + channel -/
  chanFail : SMap Bool
  /-- the map-out record in flash (R180): cause code by stack, 0 unmarked -/
  mapoutRec : SMap Nat
  tile : TileSt
  flights : List Flight
  job : JobSt
  time : TimeSt
  log : LogSt
  msg : MsgSt
  mill : MillSt
  opt : OptSt
  xrds : XrdsSt
  host : HostSt
  reeve : ReeveSt
  power : PowerSt
  cal : CalSt
  upd : UpdSt
deriving DecidableEq, Repr, Inhabited

/-- The machine right after a power-on reset: STANDBY at bring-up step 0 with the input at 600 V (R498, R502), the
backup domain kept with one POR counted (R505, R512), the empty plan (R354) and every register at its reset value. The
values that no rule gives (factory values, flash contents, the incarnation epoch before it) are those of log entry 80. -/
def State.reset : State :=
  { (default : State) with
    regs := [(0x44, 1), (0x10040, 1), (0x10044, 1), (0x12044, 1), (0x12048, 1), (0x12050, 1),
             (0x31290, 0x200010), (0x50068, 0x400), (0x60040, 1)]
    host := { (default : HostSt) with fn := pcieFn }
    power := { (default : PowerSt) with inLow := true } }

/-- What a command answers. -/
abbrev Res := Host.Outcome State Fault Refusal

end Sys2Proof.Machine
end

