-- ==== Sys2Proof/Machine/Ops.lean ====
section
/-!
DEFINITION. The named operations over registers and memories: fields of registers, 64-bit pairs, saturating counters,
events and error capture (R22-R28), the module address space (R158, R159) and protected reads and writes (R79,
R170-R172).
-/
namespace Sys2Proof.Machine

/-! ### Fields of registers -/

/-- The value of a field of a word. -/
def fget (w : Word) (f : Fld) : Nat := w.toNat / 2 ^ f.lo % 2 ^ (f.hi + 1 - f.lo)

/-- A word with a field replaced. -/
def fput (w : Word) (f : Fld) (v : Nat) : Word :=
  BitVec.ofNat 32 (w.toNat % 2 ^ f.lo + v % 2 ^ (f.hi + 1 - f.lo) * 2 ^ f.lo + w.toNat / 2 ^ (f.hi + 1) * 2 ^ (f.hi + 1))

/-- The stored contents of the register at a BAR0 address. -/
def State.rd (s : State) (a : Nat) : Word := mget regReset s.regs a

/-- Store a register. -/
def State.wr (s : State) (a : Nat) (v : Word) : State := { s with regs := mset regReset s.regs a v }

/-- A field of the page at base a. -/
def State.get (s : State) (a : Nat) (f : Fld) : Nat := fget (s.rd (a + f.off)) f

/-- Write a field of the page at base a. -/
def State.put (s : State) (a : Nat) (f : Fld) (v : Nat) : State := s.wr (a + f.off) (fput (s.rd (a + f.off)) f v)

/-- Is a one-bit field set? -/
def State.bit (s : State) (a : Nat) (f : Fld) : Bool := decide (s.get a f = 1)

/-- Largest value of a field. -/
def Fld.max (f : Fld) : Nat := 2 ^ (f.hi + 1 - f.lo) - 1

/-- Add n to a field, saturating at its largest value. -/
def State.incBy (s : State) (a : Nat) (f : Fld) (n : Nat) : State := s.put a f (min (s.get a f + n) f.max)

/-- Count one in a saturating field. -/
def State.inc (s : State) (a : Nat) (f : Fld) : State := s.incBy a f 1

/-- The 64-bit number in a _LO, _HI pair whose low half is the register of f (R3). -/
def State.get64 (s : State) (a : Nat) (f : Fld) : Nat :=
  (s.rd (a + f.off)).toNat + (s.rd (a + f.off + 4)).toNat * 2 ^ 32

/-- Write a 64-bit pair. -/
def State.put64 (s : State) (a : Nat) (f : Fld) (v : Nat) : State :=
  (s.wr (a + f.off) (BitVec.ofNat 32 v)).wr (a + f.off + 4) (BitVec.ofNat 32 (v / 2 ^ 32))

/-- Add to a 64-bit counter, wrapping. -/
def State.add64 (s : State) (a : Nat) (f : Fld) (n : Nat) : State := s.put64 a f (s.get64 a f + n)

/-- A register kept apart for each access path (R4): path, address. -/
def pkey (path a : Nat) : Nat := path * 2 ^ 26 + a

/-- What a per-path register reads as that nothing has written. -/
def pregReset (k : Nat) : Word := regReset (k % 2 ^ 26)

/-- Read a per-path register. -/
def State.prd (s : State) (path a : Nat) : Word := mget pregReset s.pregs (pkey path a)

/-- Write a per-path register. -/
def State.pwr (s : State) (path a : Nat) (v : Word) : State :=
  { s with pregs := mset pregReset s.pregs (pkey path a) v }

def State.pget (s : State) (path a : Nat) (f : Fld) : Nat := fget (s.prd path (a + f.off)) f
def State.pput (s : State) (path a : Nat) (f : Fld) (v : Nat) : State :=
  s.pwr path (a + f.off) (fput (s.prd path (a + f.off)) f v)
def State.pget64 (s : State) (path a : Nat) (f : Fld) : Nat :=
  (s.prd path (a + f.off)).toNat + (s.prd path (a + f.off + 4)).toNat * 2 ^ 32
def State.pput64 (s : State) (path a : Nat) (f : Fld) (v : Nat) : State :=
  (s.pwr path (a + f.off) (BitVec.ofNat 32 v)).pwr path (a + f.off + 4) (BitVec.ofNat 32 (v / 2 ^ 32))

/-! ### The common header (R22-R28) -/

abbrev hCTRL_ENABLE : Fld := ⟨0x0C, 0, 0⟩
abbrev hCTRL_BLOCK_RESET : Fld := ⟨0x0C, 1, 1⟩
abbrev hCTRL_QUIESCE : Fld := ⟨0x0C, 2, 2⟩
abbrev hSTAT_READY : Fld := ⟨0x10, 0, 0⟩
abbrev hSTAT_QUIESCED : Fld := ⟨0x10, 2, 2⟩
abbrev hSTAT_FAULT : Fld := ⟨0x10, 3, 3⟩
abbrev hEVT_STAT : Fld := ⟨0x14, 31, 0⟩
abbrev hEVT_EN : Fld := ⟨0x18, 31, 0⟩
abbrev hERR_STAT : Fld := ⟨0x20, 31, 0⟩
abbrev hERR_CODE : Fld := ⟨0x24, 15, 0⟩
abbrev hERR_PATH : Fld := ⟨0x24, 18, 16⟩
abbrev hERR_COUNT : Fld := ⟨0x24, 31, 24⟩
abbrev hERR_ADDR : Fld := ⟨0x28, 31, 0⟩

/-- The one-bit field i of a register. -/
abbrev bitF (off i : Nat) : Fld := ⟨off, i, i⟩

/-- Does the block at page base a operate (R23)? During a block reset it accepts no work (R31). -/
def State.on (s : State) (a : Nat) : Bool := s.bit a hCTRL_ENABLE && !s.bit a hCTRL_BLOCK_RESET

/-- The uptime in ns (R272). -/
def State.upNs (s : State) : Nat := s.time.up / 2 % 2 ^ 64

/-- The local clock in ns (R271). -/
def State.nowNs (s : State) : Nat := s.time.clock / 2 ^ 32 % 2 ^ 64

/-- Has the clock reached an instant (R277)? -/
def State.reached (s : State) (t : Nat) : Bool := decide ((s.nowNs + 2 ^ 64 - t % 2 ^ 64) % 2 ^ 64 < 2 ^ 63)

/-- Write an entry of the trace buffer of the page at base a (R551). -/
def State.traceEntry (s : State) (a kind bit code arg : Nat) : State :=
  { s with log.trace := zset s.log.trace (a / 4096) ((⟨s.upNs, kind, bit, code, arg⟩ :: zget s.log.trace (a / 4096)).take 16) }

/-- Set EVT_STAT bit i of the page at base a, whatever ENABLE is; a bit that goes from 0 to 1 is traced (R551). -/
def State.raiseAlways (s : State) (a i : Nat) : State :=
  if s.bit a (bitF 0x14 i) then s else (s.put a (bitF 0x14 i) 1).traceEntry a 0 i 0 0

/-- Raise event i of the page at base a: a block whose ENABLE is 0 raises none (R23). -/
def State.raise (s : State) (a i : Nat) : State := if s.on a then s.raiseAlways a i else s

/-- Record an error (R27): the first since ERR_STAT was all zero is captured, later ones set their bit and count; each
is traced (R551). -/
def State.recErr (s : State) (a bit code path addr : Nat) : State :=
  if s.get a hERR_STAT = 0 then
    let s := s.put a (bitF 0x20 bit) 1
    let s := s.put a hERR_CODE code
    let s := s.put a hERR_PATH path
    let s := s.put a hERR_COUNT 1
    (s.put64 a hERR_ADDR addr).traceEntry a 1 bit code (addr % 2 ^ 32)
  else ((s.put a (bitF 0x20 bit) 1).inc a hERR_COUNT).traceEntry a 1 bit 0 0

/-- The access path number of the module's own hardware (R23). -/
def pathHw : Nat := 7

/-- Record an error for which the spec names no ERR_ADDR: a free value (log entry 1). -/
def State.recErrX (s : State) (a bit code path : Nat) : State :=
  { s with free := s.free + 1 }.recErr a bit code path (Config.free s.free % 2 ^ 64)

/-- Append an output of the module: a response, a frame, a message, a pin (the model's own record). -/
def State.emit (s : State) (k : OutKind) (args : List Nat) : State := { s with out := s.out ++ [(k, args)] }

/-- Take the next free value (log entry 1). -/
def State.freeVal (s : State) : Nat × State := (Config.free s.free, { s with free := s.free + 1 })

/-! ### Parish-register records (R553-R558) -/

/-- Records present in flash or pending (R552, R559), by SEQ. -/
def State.logRecs (s : State) : List Rec := (s.log.flash.filterMap Prod.snd) ++ s.log.fifo

/-- The lowest SEQ presented in the rolling area (R552), 0 when it is empty. -/
def State.logOldest (s : State) : Nat := s.get64 LOG_B LOG.OLDEST_LO

/-- Rolling-area records below a SEQ are no longer in flash. -/
def State.logDrop (s : State) (o : Nat) : State :=
  { s with log.flash := s.log.flash.filter fun e => decide (e.1 ≤ 512 ∨ o ≤ e.1) }

/-- Present a record that has just entered (R552): the oldest leaves beyond the 8,192th (log entry 35). -/
def State.logPresent (s : State) (seq : Nat) : State :=
  if seq ≤ 512 then s
  else if s.logOldest = 0 then s.put64 LOG_B LOG.OLDEST_LO seq
  else
    let l := (s.logRecs.map Rec.seq).filter fun q => decide (s.logOldest ≤ q)
    if l.length ≤ 8192 then s
    else
      let o := (l.filter fun q => decide (s.logOldest < q)).foldl min seq
      (s.put64 LOG_B LOG.OLDEST_LO o).logDrop o

/-- Start the next page program when none runs (R554). -/
def State.logProgram (s : State) : State :=
  if s.log.prog = 0 ∧ s.log.fifo ≠ [] ∧ s.log.dead = false ∧ s.bit LOG_B LOG.STAT_PAUSED = false then
    { s.put LOG_B LOG.STAT_WRITING 1 with log.prog := min 4 s.log.fifo.length }
  else s

/-- The record of an occasion as it enters the FIFO now (R555, R556). -/
def State.mkRec (s : State) (seq source code flags : Nat) (w : List Nat) : Rec :=
  { seq := seq, uptime := s.upNs, wall := s.nowNs, source := (s.rd source).toNat,
    epoch := s.get BACKUP_B BACKUP.EPOCH_VALUE, code := code,
    flags := flags + (if s.get TIME_B TIME.STAT_STATE = 2 then 1 else 0) + (if seq ≤ 512 then 4 else 0),
    w := (List.range 6).map fun i => w.getD i 0 % 2 ^ 32, crcErr := 0 }

/-- Enter a record into a FIFO that has room. -/
def State.enterRec (s : State) (source code flags : Nat) (w : List Nat) : State :=
  let seq := s.get64 LOG_B LOG.NEWEST_LO + 1
  let s := { s with log.fifo := s.log.fifo ++ [s.mkRec seq source code flags w] }
  (((s.put64 LOG_B LOG.NEWEST_LO seq).put LOG_B LOG.STAT_PENDING s.log.fifo.length).logPresent seq).logProgram

/-- Note a lost record (R558). -/
def State.loseRec (s : State) : State :=
  let first := decide (s.get LOG_B LOG.LOST_UNRECORDED = 0)
  let s := (s.inc LOG_B LOG.LOST_COUNT).inc LOG_B LOG.LOST_UNRECORDED
  let s := { s with log.firstLost := if first then s.upNs else s.log.firstLost, log.lastLost := s.upNs }
  if first then s.raise LOG_B 1 else s

/-- Put a record into the pending FIFO, or lose it when the FIFO is full (R554, R555, R558). `source` is the page base,
`flags` carries DEFERRED, SOFTWARE and the path. -/
def State.pushRec (s : State) (source code flags : Nat) (w : List Nat) : State :=
  if s.log.fifo.length < 64 ∧ s.log.dead = false then s.enterRec source code flags w else s.loseRec

/-- A record written by hardware or the Reeve firmware at a rule's occasion (R557). -/
def State.record (s : State) (source code : Nat) (w : List Nat) : State := s.pushRec source code 0 w

/-! ### Tiles, dies and the module address space (R11, R36, R158, R159) -/

/-- Is compute die d present (R144, R193)? -/
def State.diePresent (s : State) (d : Nat) : Bool := decide (d < 4) && s.bit SIZE_TABLE_B (SIZE_TABLE.DIE_SHAPE_PRESENT.at d 4)

/-- Logical rows of die d, 0 when it is absent. -/
def State.dieRows (s : State) (d : Nat) : Nat := if d < 4 then s.get SIZE_TABLE_B (SIZE_TABLE.DIE_SHAPE_LOG_ROWS.at d 4) else 0

/-- Is tile g = 256 d + t a tile the size table reports? -/
def State.tilePresent (s : State) (g : Nat) : Bool := s.diePresent (g / 256) && decide (g % 256 < s.dieRows (g / 256) * 11)

/-- The tiles the size table reports, in ascending die and tile order. -/
def State.tiles (s : State) : List Nat :=
  ((List.range 4).map fun d => (List.range (if s.diePresent d then s.dieRows d * 11 else 0)).map (d * 256 + ·)).flatten

/-- The lowest-numbered present die (0 when none). -/
def State.firstDie (s : State) : Nat := ((List.range 4).find? fun d => s.diePresent d).getD 0

/-- Module mesh coordinate of a tile (R11). -/
def tileRow (g : Nat) : Nat := g % 256 / 11 + (if g / 256 ≥ 2 then 10 else 0)
def tileCol (g : Nat) : Nat := g % 256 % 11 + (if g / 256 % 2 = 1 then 11 else 0)

/-- Tile number of a module mesh coordinate, present or not (R11). -/
def tileAt (row col : Nat) : Nat :=
  ((if row ≥ 10 then 2 else 0) + (if col ≥ 11 then 1 else 0)) * 256 + row % 10 * 11 + col % 11

/-- Is there a tile at a module mesh coordinate? -/
def State.hasTile (s : State) (row col : Nat) : Bool := decide (row < 20) && decide (col < 22) && s.tilePresent (tileAt row col)

/-- Module address of byte b of tile g's memory (R158). -/
def tileAddr (g b : Nat) : Nat := 0x8000000000 + g * 0x1000000 + b

/-- Cell address of byte b of tile g's instruction store, which is outside the module address space (R158): the
model keeps it above it. -/
def instrAddr (g b : Nat) : Nat := 0x10000000000 + g * 0x1000000 + b

/-- Cell address of byte b of hub SRAM (16 MiB), outside the module address space too. -/
def hubAddr (b : Nat) : Nat := 0x20000000000 + b

def isHbm (a : Nat) : Bool := decide (a < 0x8000000000)
def stackOf (a : Nat) : Nat := a / 0x1000000000

/-- Is stack m in service (R36, R159, R181)? -/
def State.stackIn (s : State) (m : Nat) : Bool := decide (m < 8) && s.bit (HBM_B m) HBM.STACK_STAT_PRESENT

/-- Bytes of a stack (R157). -/
def stackBytes : Nat := 36000000000

/-- Is every byte of the range a .. a + n - 1 present (R159)? -/
def State.presentRange (s : State) (a n : Nat) : Bool :=
  if isHbm a then s.stackIn (stackOf a) && decide (a % 0x1000000000 + n ≤ stackBytes)
  else
    let o := a - 0x8000000000
    decide (a < 0x8400000000) && s.tilePresent (o / 0x1000000) && decide (o % 0x1000000 + n ≤ 0x900000)

/-- Size of the protected unit at an address: 64-byte blocks in HBM, 32-byte words elsewhere (R167, R168). -/
def unitOf (a : Nat) : Nat := if isHbm a then 64 else 32

/-- Start of the protected unit that holds an address. -/
def unitBase (a : Nat) : Nat := a / unitOf a * unitOf a

/-! ### Bytes of memory -/

/-- What an unlisted address reads as: a byte that nothing has written since the wipe is 0 (R177, R178). -/
def memReset (_a : Nat) : Byte := 0

/-- The canonical form of a memory: addresses strictly rising, and no entry equal to what an unlisted address reads as. -/
def Memory.wf (m : List Host.Cell) : Bool := mwf memReset m

/-- One byte of memory. -/
def State.byte (s : State) (a : Nat) : Byte := mget memReset s.mem a

/-- Write one byte. -/
def State.setByte (s : State) (a : Nat) (v : Byte) : State := { s with mem := mset memReset s.mem a v }

/-- Write bytes from an address up. -/
def State.setBytes (s : State) (a : Nat) : List Byte → State
  | [] => s
  | b :: bs => (s.setByte a b).setBytes (a + 1) bs

/-- n bytes from an address up. -/
def State.bytes (s : State) (a n : Nat) : List Byte := (List.range n).map fun i => s.byte (a + i)

/-- The little-endian number of n bytes. -/
def State.num (s : State) (a n : Nat) : Nat := ofLe (s.bytes a n)

/-! ### Protected reads and writes -/

/-- What a read of a protected unit finds (R79, R170). -/
inductive EccStatus where
  | ok
  | corrected
  | uncorrectable
  | poisoned
deriving DecidableEq, Repr

/-- The data a read of the unit at base u returns, and what it finds. -/
def State.readUnit (s : State) (u : Nat) : Nat × EccStatus :=
  let k := unitOf u
  let e := zget s.upset u
  let d := s.num u k
  if e = 0 then (d, if zget s.poison u then .poisoned else .ok)
  else match rsDecode (k + 4) e with
    | .clean => (d ^^^ (e % 256 ^ k), if zget s.poison u then .poisoned else .ok)
    | .corrected c => if zget s.poison u then (d ^^^ (e % 256 ^ k), .uncorrectable) else (d ^^^ ((e ^^^ c) % 256 ^ k), .corrected)
    | .uncorrectable => (d ^^^ (e % 256 ^ k), .uncorrectable)

/-- Store the data of a whole unit: errors and poison are replaced (R171). -/
def State.setUnit (s : State) (u d : Nat) (poison : Bool) : State :=
  let s := s.setBytes u (leBytes (unitOf u) d)
  { s with upset := zset s.upset u 0, poison := zset s.poison u poison }

/-- Is the channel of an HBM block failed (R182)? -/
def State.channelDown (s : State) (u : Nat) : Bool :=
  zget s.chanFail (stackOf u * 32 + Config.hbmChannel (u / 64) % 32)

/-- Count an HBM read that finds a new uncorrectable block (R172, R185, R186), with the count rule of R180. DESIGN CHOICE (log
entry 304): the power-on period over which R180 counts runs from the last module reset, where UNCORR.COUNT clears. -/
def State.hbmUncorr (s : State) (u : Nat) : State :=
  let b := HBM_B (stackOf u)
  let s := s.inc b HBM.UNCORR_COUNT
  let s := s.put b HBM.LAST_UNCORR_LO_ADDR u
  let s := s.put b HBM.LAST_UNCORR_HI_ADDR (u / 2 ^ 32)
  let s := s.put b HBM.LAST_UNCORR_HI_VALID 1
  let s := s.raise b 0
  let t := s.get b HBM.MAPOUT_CTRL_THRESH
  if t ≠ 0 ∧ t ≤ s.get b HBM.UNCORR_COUNT ∧ s.get b HBM.STACK_STAT_MARKED = 0 then
    { (s.put b HBM.STACK_STAT_MARKED 1).raise b 3 with mapoutRec := zset s.mapoutRec (stackOf u) 3 }
  else s

/-- Read the HBM block at u with correction on read (R172): corrected blocks and poison are written back. A block of a failed
channel reads as poisoned and counts in UNCORR (R182); DEDUCED (log entry 324): it raises no event, leaves LAST_UNCORR and does
not count toward the threshold. -/
def State.readBlock (s : State) (u : Nat) : (Nat × Bool) × State :=
  let b := HBM_B (stackOf u)
  if s.channelDown u then
    ((s.num u 64, true), s.inc b HBM.UNCORR_COUNT)
  else
    let (d, st) := s.readUnit u
    match st with
    | .ok => ((d, false), s)
    | .corrected => ((d, false), (s.setUnit u d false).inc b HBM.CORR_COUNT)
    | .uncorrectable => ((d, true), (s.setUnit u d true).hbmUncorr u)
    | .poisoned => ((d, true), (s.inc b HBM.POISON_READ_COUNT).raise b 1)

/-- Read the tile word at cell address u of tile g (R79, R172): counted, the bank not written, the scrubber called. -/
def State.readTileUnit (s : State) (g u : Nat) : (Nat × Bool) × State :=
  let b := TILE_B g
  let (d, st) := s.readUnit u
  match st with
  | .ok => ((d, false), s)
  | .corrected => ((d, false), { s.inc b TILE.ECC_CORR_COUNT with tile.urgent := s.tile.urgent ++ [u] })
  | .uncorrectable => ((d, true), { s.inc b TILE.ECC_UNCORR_COUNT with tile.urgent := s.tile.urgent ++ [u] })
  | .poisoned => ((d, true), s)

/-- Tile number of a cell address in tile memory or an instruction store. -/
def tileOfAddr (a : Nat) : Nat := (if a < 0x10000000000 then a - 0x8000000000 else a - 0x10000000000) / 0x1000000

/-- Read any protected unit of module memory. -/
def State.readMemUnit (s : State) (u : Nat) : (Nat × Bool) × State :=
  if isHbm u then s.readBlock u else s.readTileUnit (tileOfAddr u) u

/-- Write a whole unit of module memory; a write to a failed channel is discarded and counted (R182). -/
def State.writeMemUnit (s : State) (u d : Nat) (poison : Bool) : State :=
  if isHbm u && s.channelDown u then s.inc (HBM_B (stackOf u)) HBM.UNCORR_COUNT else s.setUnit u d poison

/-- The unit bases that the range a .. a + n - 1 touches. -/
def unitsOf (a n : Nat) : List Nat :=
  if n = 0 then [] else
  let u := unitOf a
  (List.range ((a + n - 1) / u - a / u + 1)).map fun i => (a / u + i) * u

/-- Read a byte range of module memory, each byte with the poison of its unit. -/
def State.readRange (s : State) (a n : Nat) : List (Byte × Bool) × State :=
  let r := (unitsOf a n).foldl (fun (acc : List (Byte × Bool) × State) u =>
    let ((d, p), s') := acc.2.readMemUnit u
    let lo := max a u
    let hi := min (a + n) (u + unitOf u)
    (acc.1 ++ ((leBytes (unitOf u) d).drop (lo - u) |>.take (hi - lo)).map (·, p), s')) ([], s)
  r

/-- Write bytes into the unit at base u from offset o: a whole unit replaces it, a part is a read-modify-write that
keeps the poison of an unreadable unit (R79, R171, R220). -/
def State.writePart (s : State) (u o : Nat) (bs : List (Byte × Bool)) : State :=
  let p := bs.any Prod.snd
  if o = 0 ∧ bs.length = unitOf u then s.writeMemUnit u (ofLe (bs.map Prod.fst)) p
  else
    let ((d, q), s') := s.readMemUnit u
    let old := leBytes (unitOf u) d
    let new := old.take o ++ bs.map Prod.fst ++ old.drop (o + bs.length)
    s'.writeMemUnit u (ofLe new) (p || q)

/-- Write a byte range of module memory; bytes flagged poisoned poison their unit (R171). -/
def State.writeRange (s : State) (a : Nat) (bs : List (Byte × Bool)) : State :=
  (unitsOf a bs.length).foldl (fun s u =>
    let lo := max a u
    let hi := min (a + bs.length) (u + unitOf u)
    s.writePart u (lo - u) ((bs.drop (lo - a)).take (hi - lo))) s

/-- Bytes of a list with one poison flag. -/
def withPoison (p : Bool) (bs : List Byte) : List (Byte × Bool) := bs.map (·, p)

/-! ### Tile words -/

/-- Cell address of tile word wa of tile g (R77). -/
def twAddr (g wa : Nat) : Nat := tileAddr g (32 * wa)

/-- Does a range hold a byte of a reshard destination whose barrier has not released (R219)? A tile reads an undefined value there. -/
def State.rsUnsure (s : State) (a n : Nat) : Bool :=
  s.job.rsOpen.any fun x => decide (x.2.1 < a + n) && decide (a < x.2.1 + x.2.2)

/-- Does the controller of the stack at a module address hold back new requests: quiescing, or with ENABLE 0 (R187)? -/
def State.memHeld (s : State) (a : Nat) : Bool :=
  let b := HBM_B (stackOf a)
  isHbm a && s.stackIn (stackOf a) && (s.bit b hCTRL_QUIESCE || !s.on b)

/-- Hold work back at its source (R30). -/
def State.offer (s : State) (x : Offer) : State := { s with msg.offers := s.msg.offers ++ [x] }

/-- The level of pin source i, 144-148: PERST_N rests high, the others low (R478). -/
def State.pinLevel (s : State) (i : Nat) : Bool := zget s.host.pins i != decide (i = 148)
def State.setPin (s : State) (i : Nat) (level : Bool) : State :=
  { s with host.pins := zset s.host.pins i (level != decide (i = 148)) }

/-- Read the block at a module address as two tile words, as the data mover and the walker move it (R159, R171, R249): both
words of a poisoned HBM block are poisoned; a reshard destination not yet released is a free value (R219). -/
def State.readPair (s : State) (a : Nat) : List (Nat × Bool) × State :=
  let (bs, s) := s.readRange a 64
  let p := isHbm a && bs.any Prod.snd
  let w (k : Nat) : Nat × Bool := (ofLe (((bs.drop (32 * k)).take 32).map Prod.fst), p || ((bs.drop (32 * k)).take 32).any Prod.snd)
  if s.rsUnsure a 64 then
    let (v, s) := s.freeVal
    ([(v % 2 ^ 256, (w 0).2), (v / 2 ^ 256 % 2 ^ 256, (w 1).2)], s)
  else ([w 0, w 1], s)

/-- Read tile word wa of tile g; a reshard destination not yet released is a free value (R219). -/
def State.readTW (s : State) (g wa : Nat) : (Nat × Bool) × State :=
  let r := s.readTileUnit g (twAddr g wa)
  if s.rsUnsure (twAddr g wa) 32 then
    let (v, t) := r.2.freeVal
    ((v % 2 ^ 256, r.1.2), t)
  else r

/-- Write tile word wa of tile g whole. -/
def State.writeTW (s : State) (g wa d : Nat) (poison : Bool) : State := s.setUnit (twAddr g wa) d poison

/-- Read n tile words from wa. -/
def State.readTWs (s : State) (g wa n : Nat) : List (Nat × Bool) × State :=
  (List.range n).foldl (fun acc i =>
    let (w, s') := acc.2.readTW g (wa + i)
    (acc.1 ++ [w], s')) ([], s)

/-- Write tile words from wa. -/
def State.writeTWs (s : State) (g : Nat) : Nat → List (Nat × Bool) → State
  | _, [] => s
  | wa, w :: ws => (s.writeTW g wa w.1 w.2).writeTWs g (wa + 1) ws

/-! ### Tile registers -/

/-- The value of STATUS.STATE (R119). -/
def State.tstate (s : State) (g : Nat) : Nat := s.get (TILE_B g) TILE.STATUS_STATE

def tsEMPTY : Nat := 0
def tsLOADED : Nat := 1
def tsRUNNING : Nat := 2
def tsWAITING : Nat := 3
def tsPHASE_END : Nat := 4
def tsHALTED : Nat := 5
def tsFAULTED : Nat := 6

/-- Enter a tile state with a wait kind (R119). -/
def State.setT (s : State) (g st kind : Nat) : State :=
  (s.put (TILE_B g) TILE.STATUS_STATE st).put (TILE_B g) TILE.STATUS_WAIT_KIND kind

def State.pc (s : State) (g : Nat) : Nat := s.get (TILE_B g) TILE.PC_PC
def State.setPc (s : State) (g v : Nat) : State := s.put (TILE_B g) TILE.PC_PC v

/-- Token k of tile g (R108). -/
def tokF (k : Nat) : Fld := ⟨0x50 + k / 4 * 4, 8 * (k % 4) + 7, 8 * (k % 4)⟩
def State.token (s : State) (g k : Nat) : Nat := s.get (TILE_B g) (tokF k)

/-- Index register k (1-7) as stored, and as a signed word offset; 0 is none (R96). -/
def idxF (k : Nat) : Fld := ⟨0x60 + (k - 1) * 4, 19, 0⟩
def State.idx (s : State) (g k : Nat) : Int := if k = 0 then 0 else signed 20 (s.get (TILE_B g) (idxF k))

/-- EBASE (R98). -/
def State.ebase (s : State) (g : Nat) : Nat := s.get64 (TILE_B g) TILE.EBASE_LO % 2 ^ 48

/-- Set sticky flags (R76): FLAG_PC at the first, event FLAG when a bit rises (R119, R120). -/
def State.setFlags (s : State) (g pc : Nat) (f : Flags) : State :=
  let b := TILE_B g
  let old := s.get b ⟨0x44, 7, 0⟩
  let new := old ||| (f % 256)
  if new = old then s else
  let s1 := if old = 0 then (s.put b TILE.FLAG_PC_PC pc).put b TILE.FLAG_PC_VALID 1 else s
  (s1.put b ⟨0x44, 7, 0⟩ new).raise b 2

/-- Record one poisoned read by an instruction (R91, R121). -/
def State.poisonRead (s : State) (g pc wa : Nat) : State :=
  (s.setFlags g pc fPOISONED).recErr (TILE_B g) 17 0x8009 pathHw (pc + wa * 2 ^ 32)

/-- A tile fault (R121, R122): recorded, and issue stops. Where no instruction of the tile faults (TILE_HW, and TOKEN_OVF
by another tile's SEND) the index is the tile's present PC: DESIGN CHOICE (log entry 289). -/
def State.tfault (s : State) (g pc code addr : Nat) : State :=
  let s := s.recErr (TILE_B g) 16 code pathHw (pc % 2 ^ 14 + addr * 2 ^ 32)
  { s with tile.stop := zset s.tile.stop g 3 }

/-- Increment a token; past 255 it stays and the tile faults with TOKEN_OVF (R108). -/
def State.bumpToken (s : State) (g k pc : Nat) : State :=
  if s.token g k = 255 then s.tfault g pc 0x8004 0 else s.put (TILE_B g) (tokF k) (s.token g k + 1)

/-- A write of STATUS (R119): it clears flags, and FLAG_PC is no longer valid once none is left. -/
def State.flagsWrite (s : State) (g : Nat) (v : Word) : State :=
  let b := TILE_B g
  let s := s.wr (b + 0x44) (s.rd (b + 0x44) &&& ~~~(v &&& 0xFF#32))
  if s.get b ⟨0x44, 7, 0⟩ = 0 then s.put b TILE.FLAG_PC_VALID 0 else s

/-! ### Governor stalls (R115, R415, R501) -/

/-- Does a slew governor of a die, or the power cap, request stall cycles? -/
def State.stallReq (s : State) : Bool :=
  ((List.range 4).any fun d => s.diePresent d && zget s.mill.stall d) || s.bit POWER_B POWER.CAP_STAT_ENGAGED

/-- Is the present tile cycle a stall cycle? A time tick is four tile cycles and begins with the one in which commands
act; cycle 0 of every window of 16 is free (log entry 290). -/
def State.stalled (s : State) : Bool := s.stallReq && decide (s.time.up / 5 % 4 ≠ 0)

/-- Stall cycles among the four tile cycles of the time tick that begins now. -/
def State.stallCycles (s : State) : Nat := if s.stallReq = false then 0 else if s.time.up / 5 % 4 = 0 then 3 else 4

/-- A unit's queue (R95). -/
def State.queue (s : State) (g u : Nat) : List Op := zget s.tile.queue (g * 8 + u)
def State.setQueue (s : State) (g u : Nat) (q : List Op) : State := { s with tile.queue := zset s.tile.queue (g * 8 + u) q }

/-- Does the tile have any operation in flight? -/
def State.inflight (s : State) (g : Nat) : Bool := (List.range 5).any fun u => !(s.queue g u).isEmpty

/-! ### Pages -/

/-- Does the directory list page p (R20, R21)? The dies' pages once the size table has them. -/
def State.listed (s : State) (p : Nat) : Bool :=
  match pageAt p with
  | none => false
  | some (ty, _) =>
    if p < 0x200 then true
    else
      let d := p / 0x100 - 2
      s.diePresent d && (decide (ty ≠ .TILE) || decide (p % 0x100 - 0x80 < s.dieRows d * 11))

/-- The listed page of a type code and instance. -/
def State.pageOf (s : State) (ty inst : Nat) : Option Nat :=
  (List.range 0x600).find? fun p => s.listed p && (match pageAt p with
    | some (t, i) => decide (typeCode t = ty ∧ i = inst)
    | none => false)

/-! ### Commands -/

/-- What a command answers: it completes, and the queue is not its concern. Every command but AUX_START finds no answer
while the module is OFF (R18, R502). -/
def State.live (s t : State) : Res := .next (if s.power.off then s else { t with pending := s.pending })

/-- Does an access path reach the registers? In D3hot the PCIe function answers configuration requests only (R454; log
entry 235). -/
def State.hears (s : State) (path : Nat) : Bool := !(s.host.d3 && decide (path = 0))
/-- What an access through a path answers: without effect where the path does not reach the registers. -/
def State.heard (s : State) (path : Nat) (t : State) : Res := s.live (if s.hears path then t else s)

end Sys2Proof.Machine
end

