-- ==== Sys2Proof/Machine/Mesh.lean ====
section
/-!
DEFINITION. Routes over the module mesh (R125-R128), slot times (R130, R131), edge tiles (R138) and the repair of a
die (R139-R144).
-/
namespace Sys2Proof.Machine

/-- The mesh a route sees: logical rows of dies 0-3, 0 for a die that is absent (R11, R126, R127). -/
abbrev MeshShape := List Nat

def State.shape (s : State) : MeshShape := (List.range 4).map fun d => if s.diePresent d then s.dieRows d else 0

/-- Die that covers a module mesh position. -/
def dieAt (row col : Nat) : Nat := (if row ≥ 10 then 2 else 0) + (if col ≥ 11 then 1 else 0)

/-- Is there a tile at a position? -/
def MeshShape.has (m : MeshShape) (row col : Nat) : Bool :=
  decide (row < 20) && decide (col < 22) && decide (row % 10 < m.getD (dieAt row col) 0)

/-- Does a failed die cover the position (a hole for columns too, R127)? -/
def MeshShape.dead (m : MeshShape) (row col : Nat) : Bool := decide (m.getD (dieAt row col) 0 = 0)

/-- The numbers from a to b in walking order, both ends included. -/
def walk (a b : Nat) : List Nat :=
  if a ≤ b then (List.range (b - a + 1)).map (a + ·) else (List.range (a - b + 1)).map (a - ·)

/-- A leg along a row: every position must hold a tile (R126). -/
def MeshShape.rowLeg (m : MeshShape) (row c0 c1 : Nat) : Option (List (Nat × Nat)) :=
  if (walk c0 c1).all fun c => m.has row c then some ((walk c0 c1).map (row, ·)) else none

/-- A leg along a column: missing rows are skipped, a failed die's rows are holes (R126, R127). -/
def MeshShape.colLeg (m : MeshShape) (col r0 r1 : Nat) : Option (List (Nat × Nat)) :=
  if (walk r0 r1).any fun r => m.dead r col then none else some (((walk r0 r1).filter fun r => m.has r col).map (·, col))

/-- Join two legs that share a position. -/
def joinLegs (a b : Option (List (Nat × Nat))) : Option (List (Nat × Nat)) :=
  match a, b with
  | some x, some y => some (x ++ y.drop 1)
  | _, _ => none

/-- The route of R127 as the positions visited, source first; none when there is no route. -/
def MeshShape.route (m : MeshShape) (r0 c0 r1 c1 : Nat) : Option (List (Nat × Nat)) :=
  match joinLegs (m.rowLeg r0 c0 c1) (m.colLeg c1 r0 r1) with
  | some p => some p
  | none =>
    match joinLegs (m.colLeg c0 r0 r1) (m.rowLeg r1 c0 c1) with
    | some p => some p
    | none =>
      match (walk r1 r0).find? fun r => (walk c0 c1).all fun c => m.has r c with
      | none => none
      | some pr => joinLegs (joinLegs (m.colLeg c0 r0 pr) (m.rowLeg pr c0 c1)) (m.colLeg c1 pr r1)

/-- Hop times along a route (R128): 24 cycles within a die, 64 over a die link. -/
def hopTimes : List (Nat × Nat) → List Nat
  | a :: b :: rest => (if dieAt a.1 a.2 = dieAt b.1 b.2 then 24 else 64) :: hopTimes (b :: rest)
  | _ => []

/-- The links of a route with the offset D(h) of each (R131). -/
def hopOffsets : Nat → List (Nat × Nat) → List ((Nat × Nat) × (Nat × Nat) × Nat)
  | d, a :: b :: rest => (a, b, d) :: hopOffsets (d + (if dieAt a.1 a.2 = dieAt b.1 b.2 then 24 else 64)) (b :: rest)
  | _, _ => []

/-- Cycles from S_k to the landing of the last of W words (R131). -/
def landCycles (p : List (Nat × Nat)) (W : Nat) : Nat := (W + 3) / 4 + 6 + (hopTimes p).sum

/-- The edge tile at which tile g reaches stack m's controller (R138): the outer edge of the owning die, in the
tile's own die-local row or the highest present row. -/
def MeshShape.outerEdge (m : MeshShape) (g st : Nat) : Nat × Nat :=
  let d := st / 2
  let r := min (g % 256 / 11) (m.getD d 0 - 1)
  (r + (if d ≥ 2 then 10 else 0), if d % 2 = 0 then 0 else 21)

/-- The optical-edge tile of tile g's column on its own die (R138). -/
def MeshShape.opticalEdge (m : MeshShape) (g : Nat) : Nat × Nat :=
  let d := g / 256
  ((if d ≥ 2 then 10 + (m.getD d 0 - 1) else 0), tileCol g)

/-! ### Die-link bundles (R145, R146, R149) -/

/-- Bundles of a link set. -/
def bundles (k : Nat) : Nat := [10, 11, 1, 1].getD k 0

/-- The die at the other end of a crossing of die d: none for the engine and the hub bundle. -/
def linkPartner (d k : Nat) : Option Nat := if k = 0 then some (d ^^^ 1) else if k = 1 then some (d ^^^ 2) else none

/-- What RS(136,128) makes of a flit with an error pattern of its 136 bytes (R146). -/
inductive FlitFate where
  | clean
  | corrected
  | uncorrectable
deriving DecidableEq, Repr

/-- Byte-symbols of a flit's error pattern that are wrong. -/
def flitSymbols (e : Nat) : Nat := ((List.range 136).filter fun i => decide (e / 256 ^ i % 256 ≠ 0)).length

/-- The code corrects any four symbols (R146). DESIGN CHOICE (log entry 334): the spec gives no generator of this code, so a
pattern of five or more symbols is always uncorrectable here. -/
def flitFate (e : Nat) : FlitFate :=
  if flitSymbols e = 0 then .clean else if flitSymbols e ≤ 4 then .corrected else .uncorrectable

/-! ### Repair by row shift (R139-R142) -/

/-- Cut-out column of a physical row as MESH.REPAIR_A and REPAIR_B hold it, 0xF for none (R152). -/
def State.cut (s : State) (d r : Nat) : Nat :=
  if r < 8 then s.get (MESH_B d) ⟨0x44, 4 * r + 3, 4 * r⟩ else s.get (MESH_B d) ⟨0x48, 4 * (r - 8) + 3, 4 * (r - 8)⟩

def State.setCut (s : State) (d r x : Nat) : State :=
  if r < 8 then s.put (MESH_B d) ⟨0x44, 4 * r + 3, 4 * r⟩ x else s.put (MESH_B d) ⟨0x48, 4 * (r - 8) + 3, 4 * (r - 8)⟩ x

/-- Physical position of logical tile t of a die: row and column (R140). -/
def State.physOf (s : State) (d t : Nat) : Nat × Nat :=
  let lost := s.get (MESH_B d) MESH.SHAPE_LOST_ROW
  let pr := if lost ≤ t / 11 then t / 11 + 1 else t / 11
  let x := s.cut d pr
  (pr, if x ≤ t % 11 then t % 11 + 1 else t % 11)

/-- One repair map being merged: cut-outs by row (0xF none), lost row (0xF none), rows added by BIST, die failed. -/
structure RepairMap where
  cuts : List Nat
  lost : Nat
  added : Nat
  failed : Bool
deriving DecidableEq, Repr, Inhabited

/-- A tile that BIST finds failed (R142): the row's cut-out, or the lost row, or the die's failure. -/
def RepairMap.fail (m : RepairMap) (row col : Nat) : RepairMap :=
  if m.lost = row ∨ m.cuts.getD row 0xF = col then m
  else if m.cuts.getD row 0xF = 0xF then { m with cuts := m.cuts.set row col, added := m.added ||| 2 ^ row }
  else if m.lost = 0xF then { m with lost := row, added := m.added ||| 2 ^ row }
  else { m with failed := true }

/-- Spares in use: present rows that have a cut-out (R152). -/
def RepairMap.spares (m : RepairMap) : Nat :=
  ((List.range 10).filter fun r => m.cuts.getD r 0xF ≠ 0xF ∧ r ≠ m.lost).length

end Sys2Proof.Machine
end

