-- ==== Sys2Proof/Machine/Operands.lean ====
section
/-!
DEFINITION. The operand forms of the tile instructions: the fields of R99-R105, the address forms of R96, the layouts
of weights, activations, accumulator runs and vector elements (R84, R88-R92, R103).
-/
namespace Sys2Proof.Machine

/-! ### Instruction fields (R99-R105) -/

/-- Bits [hi:lo] of an instruction. -/
def bf (w hi lo : Nat) : Nat := w / 2 ^ lo % 2 ^ (hi + 1 - lo)

def iOp (w : Nat) : Nat := bf w 7 0
def iIdx (w : Nat) : Nat := bf w 10 8
def iAcb (w : Nat) : Nat := bf w 23 16
def acbExact (acb : Nat) : Bool := decide (acb % 2 = 1)
def acbRnd (acb : Nat) : Bool := decide (acb / 2 % 2 = 1)
def acbOvf (acb : Nat) : Bool := decide (acb / 4 % 2 = 1)

/-- The opcodes of R100. -/
def opcodes : List Nat :=
  [0x00, 0x01, 0x02, 0x03, 0x04, 0x05, 0x0F, 0x10, 0x11, 0x12, 0x13, 0x14, 0x20, 0x21, 0x22, 0x23, 0x24, 0x25,
   0x30, 0x31, 0x32, 0x33, 0x40, 0x41, 0x42, 0x43, 0x50, 0x60, 0x61]

/-- A word address with the index-register offset of the instruction (R96). -/
def waddr (o : Op) (hi lo : Nat) : Int := (bf o.word hi lo : Int) + o.off

/-- A byte address with the index-register offset, 32 bytes a word (R96). -/
def baddr (o : Op) (hi lo : Nat) : Int := (bf o.word hi lo : Int) + 32 * o.off

/-- Does the run of n words from a lie in a region of m words? -/
def inWords (a : Int) (n m : Nat) : Bool := decide (0 ≤ a ∧ a + n ≤ m)

/-- Words of data memory and staging buffer together (R77). -/
def tileWords : Nat := 0x48000

/-! ### Operand layout (R88) -/

/-- Chunk step L of a format code. -/
def chunkStep (code : Nat) : Nat := if isMx code then 32 else if isTlb code then 128 else 16

/-- Bytes of one chunk run: L stored elements, a whole record for TLB. -/
def runBytes (code : Nat) : Nat :=
  if code = 0x10 then 104 else if code = 0x11 then 72 else chunkStep code * fmtBits code / 8

/-- Bytes of a chunk for C channels or rows: runs, MX scales, sparsity metadata, before the padding. -/
def chunkBytes (sel C : Nat) : Nat :=
  let code := sel % 128
  C * runBytes code + (if isMx code then C else 0) + (if sel ≥ 128 then C * (chunkStep code / 4) else 0)

def ceilDiv (a b : Nat) : Nat := (a + b - 1) / b

def chunkWords (sel C : Nat) : Nat := ceilDiv (chunkBytes sel C) 32

/-- Header words of a slice (channel scales) or of an activation block (per-tensor scale). -/
def headWords (sel C : Nat) (weights : Bool) : Nat :=
  if isInt (sel % 128) then (if weights then ceilDiv (4 * C) 32 else 1) else 0

/-- Chunks that K groups of 16 stored elements take. -/
def chunkCount (sel K : Nat) : Nat := ceilDiv (16 * K) (chunkStep (sel % 128))

/-- Words of a weight slice or activation block: header and chunks (R89). -/
def sliceWords (sel C K : Nat) (weights : Bool) : Nat := headWords sel C weights + chunkCount sel K * chunkWords sel C

/-- Memory words joined into one little-endian number. -/
def joinWords (ws : List (Nat × Bool)) : Nat := packBits 256 (ws.map Prod.fst)

/-- n bytes from byte b of a joined number. -/
def byteField (d b n : Nat) : Nat := d / 256 ^ b % 256 ^ n

/-- Does a poisoned word overlap bytes b .. b + n - 1? -/
def anyPoison (ws : List (Nat × Bool)) (b n : Nat) : Bool :=
  ((ws.drop (b / 32)).take ((b + n - 1) / 32 + 1 - b / 32)).any Prod.snd

/-- The first address outside a region of m words that the run of n words from a takes, none when the run lies inside;
0 for a run that starts below the region (R96; log entry 284). -/
def outside (a : Int) (n m : Nat) : Option Nat :=
  if inWords a n m then none else some (if a < 0 then 0 else max a.toNat m)

/-- Bytes that element i of a packed run of w-bit elements reaches into: the first, and how many. -/
def elemSpan (w i : Nat) : Nat × Nat := (i * w / 8, (i * w + w - 1) / 8 - i * w / 8 + 1)

/-- The FP32 scale of channel or row c of an INT8 or INT4 operand from its header words, with its poison (R49, R88). -/
def headScale (sel c : Nat) (weights : Bool) (head : List (Nat × Bool)) : Option Nat × Bool :=
  let b := if weights then 4 * c else 0
  if isInt (sel % 128) then (some (byteField (joinWords head) b 4), anyPoison head b 4) else (none, false)

/-- The stored value of element i of a run at byte b0 of the joined data d (R40-R46, R49). -/
def storedElem (code d b0 X i : Nat) : Num :=
  if isTlb code then
    (tlbElems code (leBytes (runBytes code) (byteField d b0 (runBytes code)))).getD i .nan
  else if isMx code then mxElem code X (bitField (fmtBits code) i (byteField d b0 (runBytes code)))
  else if isInt code then Num.ofInt (signed (fmtBits code) (bitField (fmtBits code) i (byteField d b0 (runBytes code)))) 0 false
  else decodeScalar code (bitField (fmtBits code) i (byteField d b0 (runBytes code)))

/-- The L stored elements of channel or row c of a chunk, with their dense positions counted from the chunk's first
dense index, and the flags of invalid metadata (R50, R52). -/
def chunkRun (sel C c : Nat) (scale : Option Nat) (ws : List (Nat × Bool)) : List Elem × Flags :=
  let code := sel % 128
  let L := chunkStep code
  let d := joinWords ws
  let rb := runBytes code
  let X := if isMx code then byteField d (C * rb + c) 1 else 0
  let xp := isMx code && anyPoison ws (C * rb + c) 1
  let mb := C * rb + (if isMx code then C else 0) + c * (L / 4)
  let md := byteField d mb (L / 4)
  let elems := (List.range L).map fun i =>
    let nib := bitField 4 (i / 2) md
    let first := nib % 4
    let second := nib / 4
    let bad := decide (sel ≥ 128) && decide (second ≤ first)
    let mp := decide (sel ≥ 128) && anyPoison ws (mb + i / 4) 1
    let p := anyPoison ws (c * rb + (elemSpan (fmtBits code) i).1) (elemSpan (fmtBits code) i).2 || xp || mp || bad
      || (isTlb code && anyPoison ws (c * rb + 16 * fmtBits code) 5)
    let v := if bad then .zero false else storedElem code d (c * rb) X i
    let pos := if sel ≥ 128 then i / 2 * 4 + (if i % 2 = 0 then first else second) else i
    ({ pos := pos, val := v, scale := scale, poison := p } : Elem)
  let bad := decide (sel ≥ 128) && (List.range (L / 2)).any fun k => decide (bitField 4 k md / 4 ≤ bitField 4 k md % 4)
  (elems, if bad then fSPARSE_META else 0)

/-- All stored elements of channel or row c of a slice or block, with dense positions from 0, and flags. -/
def sliceRun (sel C K c : Nat) (weights : Bool) (ws : List (Nat × Bool)) : List Elem × Flags :=
  let h := headWords sel C weights
  let (sc, sp) := headScale sel c weights (ws.take h)
  let cw := chunkWords sel C
  let span := chunkStep (sel % 128) * (if sel ≥ 128 then 2 else 1)
  let rs := (List.range (chunkCount sel K)).map fun j =>
    let (es, f) := chunkRun sel C c sc ((ws.drop (h + j * cw)).take cw)
    (es.map fun e => { e with pos := e.pos + j * span, poison := e.poison || sp }, f)
  ((rs.map Prod.fst).flatten, orFs (rs.map Prod.snd))

/-- The product of a weight and an activation element: integer scales applied in fast mode, left out in exact mode
(R60, R64, R65). A NaN or infinite scale makes the element NaN or infinite in both modes (R49, R64 step 4). -/
def product (exact : Bool) (w x : Elem) : Num × Flags :=
  let scaled (e : Elem) : Num × Flags :=
    match e.scale with
    | none => (e.val, 0)
    | some sc =>
      let v := Num.mul e.val (ofFp32 sc)
      if exact && !v.1.isNan && !v.1.isInf then (e.val, 0) else v
  let (a, f) := scaled w
  let (b, f') := scaled x
  let (p, f'') := Num.mul a b
  (p, orF f (orF f' f''))

/-- The products of one group: 16 stored weight elements against the activations at their dense positions (R84). -/
def groupProducts (exact : Bool) (ws xs : List Elem) : List (Num × Flags) × Bool :=
  let l := ws.map fun w =>
    let x := xs.getD w.pos default
    (product exact w x, w.poison || x.poison)
  (l.map Prod.fst, l.any Prod.snd)

/-- Add one product group to an accumulator entry with anchor A (R60, R64). -/
def accGroup (exact : Bool) (A : Int) (e : AccEntry) (ps : List (Num × Flags)) (poison : Bool) : AccEntry × Flags :=
  let (v, f) :=
    if exact then ps.foldl (fun acc p => let r := xaAcc A acc.1 p; (r.1, orF acc.2 r.2)) (e.val, 0)
    else fastAcc e.val ps
  ({ e with val := v, poison := e.poison || poison, mode := if exact then 2 else 1 }, f)

/-- The scales an exact entry keeps for the final rounding: those of the integer operands of its last matrix instruction
(R65, R66), 1.0 where neither operand is an integer. DEDUCED (log entry 285): R66 names s_w and s_x, and no rule says
where ACC_OUT finds them; an entry that only ACC_ADD has filled keeps none, see partDesc. -/
def exactScales (w x : List Elem) : List Nat :=
  match (w.head?.bind Elem.scale).toList ++ (x.head?.bind Elem.scale).toList with
  | [] => [0x3F800000]
  | l => l

/-! ### Formats of a run of elements in memory -/

/-- Elements of a tensor. -/
def TDesc.elems (d : TDesc) : Nat := d.shape.foldl (· * ·) 1

/-- Does a descriptor name a scale array of more than one entry (R49: an array of length 1 is a per-tensor scale)? -/
def TDesc.perChannel (im : Image) (d : TDesc) : Bool :=
  decide (d.scale < 0xFFFE) && decide ((im.descs.getD d.scale default).elems ≠ 1)

/-- Bytes of n elements of a format as one run (R44, R46, R49, R63). -/
def elemBytes (code n : Nat) : Nat :=
  if isTlb code then n / 128 * runBytes code else ceilDiv (n * fmtBits code) 8

/-- Number of MX scale bytes of n elements. -/
def mxScales (code n : Nat) : Nat := if isMx code then n / 32 else 0

/-- The bytes of a run of elements with the poison of each element, the MX scale bytes, and the flags (R56-R59, R92,
R103). `scale` gives the integer output scale of each element. -/
def encodeRun (code : Nat) (ovf : Bool) (A : Int) (vs : List (Num × RMode × Bool × Nat)) :
    List (Byte × Bool) × List Byte × Flags :=
  let pad (bits : Nat) (cs : List (Nat × Bool)) : List (Byte × Bool) :=
    let by' := leBytes (ceilDiv (bits * cs.length) 8) (packBits bits (cs.map Prod.fst))
    by'.mapIdx fun j b =>
      (b, (cs.mapIdx fun i c => c.2 && decide (bits * i / 8 ≤ j ∧ j ≤ (bits * i + bits - 1) / 8)).any id)
  let pois := vs.map fun v => v.2.2.1
  if isMx code then
    let bl := (chunks 32 vs).map fun b => toMxBlock code ovf (b.map fun v => (v.1, v.2.1))
    (pad (fmtBits code) (((bl.map fun b => b.2.1).flatten).zip pois), bl.map fun b => BitVec.ofNat 8 b.1,
      orFs (bl.map fun b => b.2.2))
  else if isTlb code then
    let bl := (chunks 128 vs).map fun b =>
      let (X, os, cs, f) := toTlbBlock code ovf (b.map fun v => (v.1, v.2.1))
      let n := 16 * fmtBits code
      ((tlbRecord code X os cs).mapIdx fun j by' =>
        (by', decide (j < n) && (b.mapIdx fun i v => v.2.2.1 && decide (fmtBits code * i / 8 ≤ j
          ∧ j ≤ (fmtBits code * i + fmtBits code - 1) / 8)).any id), f)
    ((bl.map Prod.fst).flatten, [], orFs (bl.map Prod.snd))
  else
    let cs := vs.map fun v =>
      if isInt code then toIntCode (fmtBits code) v.2.1 v.2.2.2 v.1
      else if code = 0x1F then
        (match xaProduct A v.1 with
          | (none, f) => (xaNan, f)
          | (some i, f) => (twos 160 i, f))
      else encodeScalar code v.2.1 ovf v.1
    (pad (fmtBits code) ((cs.map Prod.fst).zip pois), [], orFs (cs.map Prod.snd))

/-- The exact values of n elements of a format from their bytes (VLD, R92): data bytes, MX scale bytes, per-tensor
integer scale, anchor. -/
def decodeRunVals (code n : Nat) (data sc : List (Byte × Bool)) (scale : Nat) (A : Int) : List (Num × Bool × Flags) :=
  let d := ofLe (data.map Prod.fst)
  (List.range n).map fun i =>
    if isTlb code then
      let rb := runBytes code
      let b0 := i / 128 * rb
      let sp := elemSpan (fmtBits code) (i % 128)
      (storedElem code d b0 0 (i % 128), ((data.drop (b0 + sp.1)).take sp.2).any Prod.snd
        || ((data.drop (b0 + 16 * fmtBits code)).take 5).any Prod.snd, 0)
    else
      let sp := elemSpan (fmtBits code) i
      let p := ((data.drop sp.1).take sp.2).any Prod.snd
      let c := bitField (fmtBits code) i d
      if isMx code then
        let x := sc.getD (i / 32) (0, false)
        (mxElem code x.1.toNat c, p || x.2, 0)
      else if isInt code then
        let (v, f) := intElem (fmtBits code) c scale
        (v, p, f)
      else if code = 0x1F then (xaNum A c, p, 0)
      else (decodeScalar code c, p, 0)

end Sys2Proof.Machine
end

