-- ==== Sys2Proof/Machine/TileOps.lean ====
section
/-!
DEFINITION. What an issued tile operation does when its unit performs it (R84-R94, R103, R105): reads, arithmetic,
writes, flags and the faults that depend on the accumulators and weight arrays.
-/
namespace Sys2Proof.Machine

/-- Read n tile words that an instruction consumes: every poisoned one is recorded (R91). -/
def State.consume (s : State) (g pc wa n : Nat) : List (Nat × Bool) × State :=
  (List.range n).foldl (fun acc i =>
    let (w, s') := acc.2.readTW g (wa + i)
    (acc.1 ++ [w], if w.2 then s'.poisonRead g pc (wa + i) else s')) ([], s)

/-- Read a tile byte range that a vector instruction consumes, with the poison of each byte. -/
def State.consumeBytes (s : State) (g pc b n : Nat) : List (Byte × Bool) × State :=
  if n = 0 then ([], s) else
  let w0 := b / 32
  let (ws, s') := s.consume g pc w0 ((b + n - 1) / 32 + 1 - w0)
  ((((ws.map fun w => withPoison w.2 (leBytes 32 w.1)).flatten).drop (b - 32 * w0)).take n, s')

/-! ### Accumulators -/

def accKey (g bank e : Nat) : Nat := (g * 32 + bank) * 512 + e
def State.acc (s : State) (g bank e : Nat) : AccEntry := zget s.tile.acc (accKey g bank e)
def State.setAcc (s : State) (g bank e : Nat) (v : AccEntry) : State :=
  { s with tile.acc := zset s.tile.acc (accKey g bank e) v }

/-- Base of the job registers (R208). -/
def jobB : Nat := DIE_B 0

/-- The current phase. -/
def State.phase (s : State) : Nat := s.get jobB DIE.JOB_STAT_PHASE

/-- A tensor descriptor of the loaded image. -/
def State.desc (s : State) (i : Nat) : TDesc := s.job.img.descs.getD i default

/-- The anchor of the descriptor an entry is bound to. -/
def State.anchorOf (s : State) (e : AccEntry) : Int := (s.desc (e.bind.getD 0)).anchor

/-- The fault of an accumulation into, or an output of, an entry (R86): unbound where a binding is needed, or a mode
tag that differs. -/
def accFault (exact needBind : Bool) (e : AccEntry) : Option Nat :=
  if needBind && e.bind.isNone then some 0x8003
  else if e.mode = (if exact then 1 else 2) then some 0x800A else none

/-- The first fault among entries base + i of the named bank engines. -/
def State.accFaults (s : State) (g bank0 banks base n : Nat) (exact needBind init : Bool) : Option (Nat × Nat) :=
  (List.range banks).findSome? fun k => (List.range n).findSome? fun i =>
    let e := s.acc g (bank0 + k) (base + i)
    (accFault exact needBind (if init then { e with mode := 0 } else e)).map (·, base + i)

/-- A zeroed entry that keeps its binding (R86, R87). -/
def AccEntry.zeroed (e : AccEntry) : AccEntry :=
  { val := 0, poison := false, mode := 0, bind := e.bind, scales := [], part := none }

/-- Store an accumulated entry: a poisoned entry's value is undefined, a free value (R91). -/
def State.storeAcc (s : State) (g bank e : Nat) (exact : Bool) (v : AccEntry) : State :=
  if v.poison then
    let (x, s) := s.freeVal
    s.setAcc g bank e { v with val := x % (if exact then 2 ^ 160 else 2 ^ 32) }
  else s.setAcc g bank e v

/-- Accumulate the groups of one channel and row into one entry, in ascending group order (R84). -/
def State.accChannel (s : State) (g bank e : Nat) (exact init sparse : Bool) (K : Nat) (ws xs : List Elem) :
    State × Flags :=
  let e0 := s.acc g bank e
  let e1 := if init then e0.zeroed else e0
  let A := s.anchorOf e0
  let r := (List.range K).foldl (fun (acc : AccEntry × Flags) j =>
    let span := if sparse then 32 else 16
    let grp := ((ws.drop (16 * j)).take 16).map fun w => { w with pos := w.pos - span * j }
    let (ps, p) := groupProducts exact grp ((xs.drop (span * j)).take span)
    let (v, f) := accGroup exact A acc.1 ps p
    (v, orF acc.2 f)) (e1, 0)
  let v := if exact then { r.1 with scales := exactScales ws xs } else r.1
  (s.storeAcc g bank e exact v, r.2)

/-! ### Matrix unit -/

/-- MMA_S (R89). -/
def opMmaS (g : Nat) (o : Op) (s : State) : State :=
  let w := o.word
  let exact := acbExact (iAcb w)
  let selW := bf w 31 24
  let selX := bf w 39 32
  let K := bf w 79 64
  let N := bf w 85 80
  let B := bf w 106 103 + 1
  let base := bf w 115 107
  let bank0 := bf w 57 53
  let banks := bf w 63 58
  let init := bf w 116 116 = 1
  match s.accFaults g bank0 banks base (N * B) exact exact init with
  | some (c, e) => s.tfault g o.pc c e
  | none =>
    let sparse := decide (selW ≥ 128)
    let KX := if sparse then 2 * K else K
    let (xw, s) := s.consume g o.pc (0x40000 + (waddr o 102 88).toNat) (sliceWords selX B KX false)
    let xs := (List.range B).map fun b => sliceRun selX B KX b false xw
    let r := (List.range banks).foldl (fun (acc : State × Flags) k =>
      let (ww, s) := acc.1.consume g o.pc ((bank0 + k) * 8192 + (waddr o 52 40).toNat) (sliceWords selW N K true)
      (List.range N).foldl (fun (acc : State × Flags) n =>
        let (ws, fw) := sliceRun selW N K n true ww
        (List.range B).foldl (fun (acc : State × Flags) b =>
          let (xr, fx) := xs.getD b ([], 0)
          let (s, f) := acc.1.accChannel g (bank0 + k) (base + n * B + b) exact init sparse K ws xr
          (s, orF acc.2 (orF f (orF fw fx)))) acc) (s, acc.2)) (s, 0)
    r.1.setFlags g o.pc r.2

/-- Channels of a weight register array by weight format (R90). -/
def warrChannels (sel : Nat) : Nat := if fmtBits (sel % 128) ≤ 6 then 32 else 16

def warrKey (g bank a : Nat) : Nat := (g * 32 + bank) * 2 + a

/-- n tile words as they stand in memory, with their poison. -/
def State.storedWords (s : State) (g wa n : Nat) : List (Nat × Bool) :=
  (List.range n).map fun i => (s.num (twAddr g (wa + i)) 32, zget s.poison (twAddr g (wa + i)))

/-- The chunk at bank offset `off` with the header words of its slice before it (R88, R90). The load pipe keeps the
chunk it read last: another group of it is taken from there, and nothing is read; DEDUCED (log entry 286): a chunk whose
words have been written since is read again. WLOAD does not name its slice: which chunk of the slice stands at `off` is an
open value, the same at every WLOAD (log entry 6). -/
def State.loadChunk (s : State) (g pc bank off sel N : Nat) : List (Nat × Bool) × State :=
  let kept := zget s.tile.chunk (g * 32 + bank)
  let h := headWords sel N true
  let cw := chunkWords sel N
  let head := bank * 8192 + (off - h - Config.wloadChunk off sel N * cw)
  let stored (s : State) : List (Nat × Bool) := s.storedWords g head h ++ s.storedWords g (bank * 8192 + off) cw
  if kept.words ≠ [] ∧ kept.off = off ∧ kept.sel = sel ∧ kept.chans = N ∧ kept.stored = stored s then (kept.words, s) else
  let (hw, s) := s.consume g pc head h
  let (ww, s) := s.consume g pc (bank * 8192 + off) cw
  (hw ++ ww, { s with tile.chunk := zset s.tile.chunk (g * 32 + bank) ⟨off, sel, N, hw ++ ww, stored s⟩ })

/-- WLOAD (R90): group GROUP_SEL of the chunk at W_OFF. DEDUCED (log entry 287): it reads the metadata of the whole
chunk, so an invalid nibble anywhere in the chunk sets SPARSE_META (R52). -/
def opWload (g : Nat) (o : Op) (s : State) : State :=
  let w := o.word
  let sel := bf w 31 24
  let a := bf w 86 86
  let N := bf w 85 80
  let gs := bf w 79 64
  let bank0 := bf w 57 53
  let span := if sel ≥ 128 then 32 else 16
  let h := headWords sel N true
  (List.range (bf w 63 58)).foldl (fun s k =>
    let (ww, s) := s.loadChunk g o.pc (bank0 + k) (waddr o 52 40).toNat sel N
    let r := (List.range N).map fun c =>
      let (sc, sp) := headScale sel c true (ww.take h)
      let (es, f) := chunkRun sel N c sc (ww.drop h)
      (((es.drop (16 * gs)).take 16).map fun e => { e with pos := e.pos - span * gs, poison := e.poison || sp }, f)
    let s := s.setFlags g o.pc (orFs (r.map Prod.snd))
    { s with tile.warr := zset s.tile.warr (warrKey g (bank0 + k) a) { fmt := some sel, chans := r.map Prod.fst } }) s

/-- The groups in weight register array a of a bank engine, one of each of the N channels. DEDUCED (log entry 288): an array
that no WLOAD has filled since the tile was wiped holds zero weights without scales, in whatever format MMA_W names. -/
def State.arrayGroups (s : State) (g bank a N : Nat) : List (List Elem) :=
  let arr := zget s.tile.warr (warrKey g bank a)
  match arr.fmt with
  | some _ => arr.chans
  | none => List.replicate N ((List.range 16).map fun i => { pos := i, val := .zero false, scale := none, poison := false })

/-- MMA_W (R90): M activation rows against the group in the array; each row is an activation block of one row
(log entry 7). -/
def opMmaW (g : Nat) (o : Op) (s : State) : State :=
  let w := o.word
  let exact := acbExact (iAcb w)
  let selW := bf w 31 24
  let selX := bf w 39 32
  let M := bf w 79 64
  let a := bf w 86 86
  let base := bf w 115 107
  let bank0 := bf w 57 53
  let banks := bf w 63 58
  let init := bf w 116 116 = 1
  let N := warrChannels selW
  let sparse := decide (selW ≥ 128)
  let KX := if sparse then 2 else 1
  let rowWords := sliceWords selX 1 KX false
  if (List.range banks).any fun k => decide ((zget s.tile.warr (warrKey g (bank0 + k) a)).fmt.getD selW ≠ selW) then
    s.tfault g o.pc 0x8008 0
  else match s.accFaults g bank0 banks base (N * M) exact exact init with
  | some (c, e) => s.tfault g o.pc c e
  | none =>
    let (xw, s) := s.consume g o.pc (0x40000 + (waddr o 102 88).toNat) (M * rowWords)
    let r := (List.range banks).foldl (fun (acc : State × Flags) k =>
      let groups := acc.1.arrayGroups g (bank0 + k) a N
      (List.range N).foldl (fun (acc : State × Flags) n =>
        (List.range M).foldl (fun (acc : State × Flags) m =>
          let (xr, fx) := sliceRun selX 1 KX 0 false ((xw.drop (m * rowWords)).take rowWords)
          let (s, f) := acc.1.accChannel g (bank0 + k) (base + n * M + m) exact init sparse 1 (groups.getD n []) xr
          (s, orF acc.2 (orF f fx))) acc) acc) (s, 0)
    r.1.setFlags g o.pc r.2

/-- ACC_BIND (R86). -/
def opAccBind (g : Nat) (o : Op) (s : State) : State :=
  let w := o.word
  (List.range (bf w 61 56)).foldl (fun s k =>
    (List.range (bf w 82 73)).foldl (fun s i =>
      s.setAcc g (bf w 55 51 + k) (bf w 72 64 + i)
        { val := 0, poison := false, mode := 0, bind := some (bf w 111 96), scales := [], part := none }) s) s

/-- The descriptor of the XA160 tensor that holds byte b of tile g in the current phase. -/
def State.xaTensor (s : State) (g b : Nat) : Option Nat :=
  (s.job.img.places.find? fun p => decide (p.tile = g) && p.mask.testBit s.phase && decide (p.addr ≤ b ∧ b < p.addr + p.bytes)
    && decide ((s.desc p.desc).fmt % 128 = 0x1F)).map Place.desc

/-- ACC_ADD (R103): FP32 partial sums under R60, XA160 words under R65. -/
def opAccAdd (g : Nat) (o : Op) (s : State) : State :=
  let w := o.word
  let exact := acbExact (iAcb w)
  let bank0 := bf w 55 51
  let banks := bf w 61 56
  let base := bf w 72 64
  let n := bf w 82 73
  let size := if exact then 20 else 4
  match s.accFaults g bank0 banks base n exact exact false with
  | some (c, e) => s.tfault g o.pc c e
  | none =>
    let r := (List.range banks).foldl (fun (acc : State × Flags) k =>
      let (ws, s) := acc.1.consume g o.pc ((waddr o 50 32).toNat + k * ceilDiv (n * size) 32) (ceilDiv (n * size) 32)
      let d := joinWords ws
      (List.range n).foldl (fun (acc : State × Flags) i =>
        let e := acc.1.acc g (bank0 + k) (base + i)
        let x := byteField d (i * size) size
        let (v, f) := if exact then xaAdd e.val x else add32 e.val x
        let from' := 32 * ((waddr o 50 32).toNat + k * ceilDiv (n * size) 32) + i * size
        let e := { e with val := v, poison := e.poison || anyPoison ws (i * size) size, mode := if exact then 2 else 1,
                          part := if exact then s.xaTensor g from' else none }
        (acc.1.storeAcc g (bank0 + k) (base + i) exact e, orF acc.2 f)) (s, acc.2)) (s, 0)
    r.1.setFlags g o.pc r.2

/-- Where the FP32 scale of an element stands in tile memory: the entry of the descriptor's scale array at the element's
index on the channel axis, the only entry of an array of length 1, in its placement on this tile in this phase; none where
the descriptor names no array (R49). -/
def State.scaleAddr (s : State) (g : Nat) (d : TDesc) (elem : Nat) : Option Nat :=
  if 0xFFFE ≤ d.scale then none else
  let inner := (d.shape.drop (d.caxis + 1)).foldl (· * ·) 1
  let c := if d.caxis = 0xFF ∨ (s.desc d.scale).elems = 1 then 0 else elem / inner % (d.shape.getD d.caxis 1)
  (s.job.img.places.find? fun p => decide (p.desc = d.scale) && decide (p.tile = g) && p.mask.testBit s.phase).map
    fun p => p.addr + 4 * c

/-- The scale of a descriptor that names no scale array: SCALE_VALUE or 1.0 (R49). DESIGN CHOICE (log entry 11): a scale
array without a placement on this tile gives 1.0. -/
def TDesc.scaleConst (d : TDesc) : Nat := if d.scale = 0xFFFE then d.scaleVal else 0x3F800000

/-- The FP32 scales that an instruction uses, with the poison of the words they come from: a request names a descriptor and
an element, none asks for 1.0. Each word of a scale array is read once, as data that the instruction consumes (R49, R91). -/
def State.readScales (s : State) (g pc : Nat) (req : List (Option (TDesc × Nat))) : List (Nat × Bool) × State :=
  let addr (q : TDesc × Nat) : Option Nat := s.scaleAddr g q.1 q.2
  let words := ((req.filterMap fun q => q.bind addr).map (· / 32)).eraseDups
  let r := words.foldl (fun (acc : List (Nat × Nat × Bool) × State) wa =>
    let x := acc.2.consume g pc wa 1
    (acc.1 ++ [(wa, x.1.headD (0, false))], x.2)) ([], s)
  (req.map fun q => match q with
    | none => (0x3F800000, false)
    | some q => match addr q with
      | none => (q.1.scaleConst, false)
      | some a =>
        let w := (r.1.lookup (a / 32)).getD (0, false)
        (byteField w.1 (a % 32) 4, w.2), r.2)

/-- The descriptor whose scale multiplies the value of an exact entry that no matrix instruction has filled: that of the
XA160 partial sum which ACC_ADD added last, else the bound one where its format is no integer's (R66, R68, R86; log entry
285). -/
def State.partDesc (s : State) (d : TDesc) (e : AccEntry) : Option TDesc :=
  if e.scales ≠ [] then none else
  match e.part with
  | some k => some (s.desc k)
  | none => if isInt (d.fmt % 128) then none else some d

/-- The rounding mode of element number i of an instruction (R55, R70, R98). -/
def State.rmode (s : State) (o : Op) (rnd : Bool) (id off i : Nat) : RMode :=
  if rnd then .sr (srBits s.job.seed id ((o.ebase + off + i) % 2 ^ 48)) else .rne

/-- ACC_OUT (R66, R86, R91, R103). Exact entries go out unrounded as code 0x1F, whether OUT_MODE or the descriptor asks for
it. Its extent depends on the bound descriptor, so its addresses are checked here, where the binding is known (log
entry 9). -/
def opAccOut (g : Nat) (o : Op) (s : State) : State :=
  let w := o.word
  let acb := iAcb w
  let bank0 := bf w 55 51
  let banks := bf w 61 56
  let base := bf w 72 64
  let N := bf w 29 24
  let B := bf w 76 73 + 1
  let mode := bf w 31 30
  let exact := acbExact acb
  let off := bf w 103 80
  match s.accFaults g bank0 banks base (N * B) exact true false with
  | some (c, e) => s.tfault g o.pc c e
  | none =>
    if (mode = 1 ∧ exact) ∨ (mode = 2 ∧ !exact) then s.tfault g o.pc 0x800A base else
    let e0 := s.acc g bank0 base
    let d := s.desc (e0.bind.getD 0)
    let code := if mode = 1 then 0x00 else if mode = 2 then 0x1F else d.fmt % 128
    let run := N * banks
    let rw := ceilDiv (elemBytes code run) 32
    let sw := ceilDiv (mxScales code run) 32
    match (outside (waddr o 50 32) (B * rw) tileWords).or
      (if isMx code then outside (waddr o 122 104) (B * sw) tileWords else none) with
    | some a => s.tfault g o.pc 0x8001 a
    | none =>
      let el (i : Nat) : Nat := (o.ebase + off + i) % 2 ^ 48
      let entry (i : Nat) : AccEntry := s.acc g (bank0 + i % run / N) (base + i % run % N * B + i / run)
      let raw := decide (mode ≠ 0) || (exact && decide (code = 0x1F))
      let req := if raw then [] else (List.range (B * run)).map fun i =>
        ((if isInt code then some (d, el i) else none : Option (TDesc × Nat)),
          if exact then (s.partDesc d (entry i)).map fun x => (x, el i) else none)
      let (outs, s) := s.readScales g o.pc (req.map Prod.fst)
      let (parts, s) := s.readScales g o.pc (req.map Prod.snd)
      (List.range B).foldl (fun s b =>
      let es := (List.range run).map fun j => entry (b * run + j)
      if raw then
        let by' := (es.map fun e => withPoison e.poison (leBytes (if exact then 20 else 4) e.val)).flatten
        s.writeRange (twAddr g ((waddr o 50 32).toNat + b * rw)) by'
      else
        let vs := es.mapIdx fun j e =>
          let i := b * run + j
          let out := outs.getD i (0x3F800000, false)
          let part := parts.getD i (0x3F800000, false)
          let (v, f) := if exact then
            (part.1 :: e.scales).foldl (fun acc sc => let r := Num.mul acc.1 (ofFp32 sc); (r.1, orF acc.2 r.2))
              (xaNum d.anchor e.val, 0)
            else (ofFp32 e.val, 0)
          ((v, s.rmode o (acbRnd acb) d.id off i, e.poison || out.2 || part.2, out.1), f)
        let (by', sc, f) := encodeRun code (acbOvf acb) d.anchor (vs.map Prod.fst)
        let s := s.writeRange (twAddr g ((waddr o 50 32).toNat + b * rw)) by'
        let s := if isMx code then s.writeRange (twAddr g ((waddr o 122 104).toNat + b * sw)) (withPoison false sc) else s
        s.setFlags g o.pc (orF f (orFs (vs.map Prod.snd)))) s

/-! ### Vector unit -/

def lanePoison : Nat := 2 ^ 32
def vKey (g v l : Nat) : Nat := (g * 32 + v) * 128 + l
/-- Lane l of register v: FP32 code and poison bit. -/
def State.lane (s : State) (g v l : Nat) : Nat × Bool :=
  (zget s.tile.vreg (vKey g v l) % lanePoison, decide (lanePoison ≤ zget s.tile.vreg (vKey g v l)))
def State.setLane (s : State) (g v l : Nat) (c : Nat × Bool) : State :=
  { s with tile.vreg := zset s.tile.vreg (vKey g v l) (if c.2 then 0x7FC00000 + lanePoison else c.1 % lanePoison) }
def State.setLanes (s : State) (g v : Nat) (cs : List (Nat × Bool)) : State :=
  (cs.zipIdx).foldl (fun s c => s.setLane g v c.2 c.1) s

/-- VLD (R92): a lane of a poisoned word is canonical NaN with its poison bit. An XA160 word is converted under R66, with
the scale of the named descriptor (log entry 285). -/
def opVld (g : Nat) (o : Op) (s : State) : State :=
  let w := o.word
  let code := bf w 31 24 % 128
  let d := s.desc (bf w 103 88)
  let (by', s) := s.consumeBytes g o.pc (baddr o 63 40).toNat (elemBytes code 128)
  let (sc, s) := if isMx code then s.consumeBytes g o.pc (baddr o 87 64).toNat 4 else ([], s)
  let off := bf w 127 104
  let (it, s) := s.readScales g o.pc [if isInt code then some (d, 0) else none]
  let (xa, s) := s.readScales g o.pc ((List.range 128).map fun i =>
    if code = 0x1F then some (d, (o.ebase + off + i) % 2 ^ 48) else none)
  let one := it.headD (0x3F800000, false)
  let rm := if code = 0x1F then s.rmode o (acbRnd (iAcb w)) d.id off else fun _ => RMode.rne
  let vs := (decodeRunVals code 128 by' sc one.1 d.anchor).mapIdx fun i v =>
    let k := xa.getD i (0x3F800000, false)
    let (x, f0) := if code = 0x1F then Num.mul v.1 (ofFp32 k.1) else (v.1, 0)
    let (c, f) := toIeee fp32F 0x7FC00000 (rm i) x
    let p := v.2.1 || one.2 || k.2
    ((c, p), if p then 0 else orF f (orF f0 v.2.2))
  (s.setLanes g (bf w 36 32) (vs.map Prod.fst)).setFlags g o.pc (orFs (vs.map Prod.snd))

/-- VST (R92). -/
def opVst (g : Nat) (o : Op) (s : State) : State :=
  let w := o.word
  let acb := iAcb w
  let code := bf w 31 24 % 128
  let d := s.desc (bf w 103 88)
  let (it, s) := s.readScales g o.pc [if isInt code then some (d, 0) else none]
  let one := it.headD (0x3F800000, false)
  let vs := (List.range 128).map fun i =>
    let (c, p) := s.lane g (bf w 36 32) i
    (ofFp32 c, s.rmode o (acbRnd acb) d.id (bf w 127 104) i, p || one.2, one.1)
  let (by', sc, f) := encodeRun code (acbOvf acb) d.anchor vs
  let s := s.writeRange (tileAddr g (baddr o 63 40).toNat) by'
  let s := if isMx code then s.writeRange (tileAddr g (baddr o 87 64).toNat) (withPoison false sc) else s
  s.setFlags g o.pc f

/-- The lane function of a VOP (R93): code and flags. -/
def vopLane (sub a b c : Nat) : Nat × Flags :=
  match sub with
  | 0x00 => (a, 0)
  | 0x01 => add32 a b
  | 0x02 => sub32 a b
  | 0x03 => mul32 a b
  | 0x04 => fma32 a b c
  | 0x05 => (min32 a b, 0)
  | 0x06 => (max32 a b, 0)
  | 0x07 => toFp32 (Num.abs (ofFp32 a))
  | 0x08 => (neg32 a, 0)
  | 0x10 => exp32 a
  | 0x11 => recip32 a
  | 0x12 => rsqrt32 a
  | 0x13 => tanh32 a
  | _ => (a, 0)

/-- Operands a VOP reads beside VA. -/
def vopArity (sub : Nat) : Nat := if sub = 4 then 3 else if sub ∈ [1, 2, 3, 5, 6] then 2 else 1

/-- VOP (R93): lane by lane, poison passing through (R92). -/
def opVop (g : Nat) (o : Op) (s : State) : State :=
  let w := o.word
  let sub := bf w 23 16
  let r := (List.range 128).map fun i =>
    let (a, pa) := s.lane g (bf w 33 29) (if sub = 0x20 then bf w 50 44 else i)
    let (b, pb) := s.lane g (bf w 38 34) i
    let (c, pc) := s.lane g (bf w 43 39) i
    let p := pa || (decide (2 ≤ vopArity sub) && pb) || (decide (vopArity sub = 3) && pc)
    let (v, f) := vopLane sub a b c
    ((v, p), if p then 0 else f)
  (s.setLanes g (bf w 28 24) (r.map Prod.fst)).setFlags g o.pc (orFs (r.map Prod.snd))

/-- One level of the reduction tree: adjacent pairs (R94). -/
def pairUp (f : Nat → Nat → Nat × Flags) : List Nat → List Nat × Flags
  | a :: b :: rest =>
    let r := f a b
    let t := pairUp f rest
    (r.1 :: t.1, orF r.2 t.2)
  | l => (l, 0)

/-- n levels of the tree. -/
def treeReduce (f : Nat → Nat → Nat × Flags) : Nat → List Nat → List Nat × Flags
  | 0, l => (l, 0)
  | n + 1, l =>
    let r := pairUp f l
    let t := treeReduce f n r.1
    (t.1, orF r.2 t.2)

/-- VRED (R94). -/
def opVred (g : Nat) (o : Op) (s : State) : State :=
  let w := o.word
  let sub := bf w 23 16
  let ls := (List.range 128).map (s.lane g (bf w 33 29))
  let f : Nat → Nat → Nat × Flags :=
    if sub = 0 then add32 else if sub = 1 then fun a b => (max32 a b, 0) else fun a b => (min32 a b, 0)
  let (r, fl) := treeReduce f 7 (ls.map Prod.fst)
  let p := ls.any Prod.snd
  (s.setLanes g (bf w 28 24) ((r.headD 0, p) :: List.replicate 127 (0, false))).setFlags g o.pc (if p then 0 else fl)

/-! ### Data mover -/

/-- COPY (R105): words with their poison. -/
def opCopy (g : Nat) (o : Op) (s : State) : State :=
  let (ws, s) := s.readTWs g (waddr o 50 32).toNat (bf o.word 119 104)
  s.writeTWs g (waddr o 82 64).toNat ws

/-- PREFETCH (R159, R171): both words of a poisoned block are written poisoned. -/
def opPrefetch (g : Nat) (o : Op) (s : State) : State :=
  let a := (baddr o 103 64).toNat
  (List.range (bf o.word 119 104 / 2)).foldl (fun s i =>
    let (ws, s) := s.readPair (a + 64 * i)
    s.writeTWs g ((waddr o 50 32).toNat + 2 * i) ws) s

/-- STORE (R159, R171): a poisoned word poisons its whole 64-byte block. -/
def opStore (g : Nat) (o : Op) (s : State) : State :=
  let a := (baddr o 103 64).toNat
  (List.range (bf o.word 119 104 / 2)).foldl (fun s i =>
    let (ws, s) := s.readTWs g ((waddr o 50 32).toNat + 2 * i) 2
    let p := ws.any Prod.snd
    s.writeRange (a + 64 * i) (withPoison p ((ws.map fun w => leBytes 32 w.1).flatten))) s

/-! ### Address checks at issue (R85, R96, R159) -/

/-- The first 64-byte block of a module range that no present memory holds, its address in 32 bits; the address itself
where it is not aligned or the range is no whole number of blocks (R159; log entry 284). -/
def State.absent (s : State) (a : Int) (n : Nat) : Option Nat :=
  if a < 0 then some 0
  else if a % 64 ≠ 0 ∨ n % 2 ≠ 0 then some (a.toNat % 2 ^ 32)
  else if s.presentRange a.toNat (32 * n) then none
  else some ((((List.range (n / 2)).map fun i => a.toNat + 64 * i).find? fun b => !s.presentRange b 64).getD a.toNat % 2 ^ 32)

/-- The fault of an instruction's addresses and entries, found before it has any effect: code and the first offending
address or entry (R121; log entry 284). -/
def State.issueFault (s : State) (o : Op) : Option (Nat × Nat) :=
  let w := o.word
  let bad (a : Int) (n m : Nat) : Option (Nat × Nat) := (outside a n m).map (0x8001, ·)
  match iOp w with
  | 0x20 => bad (waddr o 52 40) (chunkWords (bf w 31 24) (bf w 85 80)) 8192
  | 0x21 =>
    if bf w 115 107 + warrChannels (bf w 31 24) * bf w 79 64 > 512 then some (0x8002, 512)
    else bad (waddr o 102 88) (bf w 79 64 * sliceWords (bf w 39 32) 1 (if bf w 31 24 ≥ 128 then 2 else 1) false) 0x8000
  | 0x22 =>
    if bf w 115 107 + bf w 85 80 * (bf w 106 103 + 1) > 512 then some (0x8002, 512)
    else (bad (waddr o 52 40) (sliceWords (bf w 31 24) (bf w 85 80) (bf w 79 64) true) 8192).or
      (bad (waddr o 102 88) (sliceWords (bf w 39 32) (bf w 106 103 + 1) ((if bf w 31 24 ≥ 128 then 2 else 1) * bf w 79 64) false) 0x8000)
  | 0x23 => if bf w 72 64 + bf w 82 73 > 512 then some (0x8002, 512) else none
  | 0x24 =>
    if bf w 72 64 + bf w 82 73 > 512 then some (0x8002, 512)
    else bad (waddr o 50 32) (bf w 61 56 * ceilDiv (bf w 82 73 * (if acbExact (iAcb w) then 20 else 4)) 32) tileWords
  | 0x25 =>
    if bf w 72 64 + bf w 29 24 * (bf w 76 73 + 1) > 512 then some (0x8002, 512) else none
  | 0x30 | 0x31 =>
    let code := bf w 31 24 % 128
    (bad (baddr o 63 40) (elemBytes code 128) (32 * tileWords)).or
      (if isMx code then bad (baddr o 87 64) 4 (32 * tileWords) else none)
  | 0x40 => (bad (waddr o 50 32) (bf w 119 104) tileWords).or (bad (waddr o 82 64) (bf w 119 104) tileWords)
  | 0x41 | 0x42 =>
    (bad (waddr o 50 32) (bf w 119 104) tileWords).or
      ((s.absent (baddr o 103 64) (bf w 119 104)).map (0x8001, ·))
  | 0x43 => bad (waddr o 50 32) (512 * bf w 107 100) tileWords
  | 0x50 => (bad (waddr o 61 43) (bf w 79 64) tileWords).or (bad (waddr o 98 80) (bf w 79 64) tileWords)
  | 0x60 => bad (waddr o 50 32) (if bf w 80 80 = 1 then 8 else 2) tileWords
  | 0x61 => bad (waddr o 50 32) (bf w 111 96) tileWords
  | _ => none

end Sys2Proof.Machine
end

