-- ==== Sys2Proof/Machine/Loader.lean ====
section
/-!
DEFINITION. The program image (R194-R207) and the loader's checks in the order of R213. A refusal is a code, the
section type and the two argument words.
-/
namespace Sys2Proof.Machine

/-- A refusal: code, section type, REFUSE_ARG_LO, REFUSE_ARG_HI (R213). -/
abbrev Refuse := Nat × Nat × Nat × Nat

/-- n little-endian bytes at an offset of the image. -/
def le (img : List Byte) (off n : Nat) : Nat := ofLe ((img.drop off).take n)

/-- A signed field of n bytes. -/
def leS (img : List Byte) (off n : Nat) : Int := signed (8 * n) (le img off n)

/-! ### CRC-32C (R195) -/

def crcBits : Nat → Nat → Nat
  | 0, c => c
  | n + 1, c => crcBits n (if c % 2 = 1 then (c / 2) ^^^ 0x82F63B78 else c / 2)

def crcStep (c : Nat) (b : Byte) : Nat := crcBits 8 (c ^^^ b.toNat)

/-- CRC-32C: Castagnoli, reflected, initial value and final XOR 0xFFFF_FFFF. -/
def crc32c (bs : List Byte) : Nat := bs.foldl crcStep 0xFFFFFFFF ^^^ 0xFFFFFFFF

/-! ### Sections (R196) -/

/-- A section table entry: type, count, offset, length. -/
structure Sect where
  ty : Nat
  count : Nat
  off : Nat
  len : Nat
  rsv : Nat
deriving DecidableEq, Repr, Inhabited

def sectAt (img : List Byte) (i : Nat) : Sect :=
  let o := 128 + 24 * i
  ⟨le img o 2, le img (o + 4) 4, le img (o + 8) 8, le img (o + 16) 8, le img (o + 2) 2⟩

def sects (img : List Byte) : List Sect := (List.range (le img 26 2)).map (sectAt img)

/-- The section of a type, empty when absent. -/
def sectOf (img : List Byte) (ty : Nat) : Sect := ((sects img).find? fun x => x.ty = ty).getD ⟨ty, 0, 0, 0, 0⟩

/-- Record size by section type; 0 for DATA (R196). -/
def recSize (ty : Nat) : Nat := [0, 8, 48, 64, 16, 24, 16, 32, 16, 8, 64, 16, 8, 0].getD ty 0

/-- Byte offset of record i of a section. -/
def recOff (img : List Byte) (ty i : Nat) : Nat := (sectOf img ty).off + recSize ty * i

/-! ### Records -/

def streamOff (img : List Byte) (i : Nat) : Nat := recOff img 2 i
def streamTile (img : List Byte) (i : Nat) : Nat := tileAt (le img (streamOff img i) 1) (le img (streamOff img i + 1) 1)
def parseStream (img : List Byte) (i : Nat) : StreamRec :=
  let o := streamOff img i
  ⟨streamTile img i, le img (o + 4) 4, (List.range 16).map fun p => le img (o + 8 + 2 * p) 2⟩
/-- The instructions of stream i. -/
def streamCode (img : List Byte) (i : Nat) : List Nat :=
  let o := streamOff img i
  (List.range (le img (o + 4) 4)).map fun j => le img ((sectOf img 2).off + le img (o + 40) 8 + 16 * j) 16

def parseDesc (img : List Byte) (i : Nat) : TDesc :=
  let o := recOff img 3 i
  { id := le img o 4, fmt := le img (o + 4) 1, res := le img (o + 5) 1, anchor := leS img (o + 6) 2,
    rank := le img (o + 8) 1, baxis := le img (o + 9) 1, caxis := le img (o + 10) 1, role := le img (o + 11) 1,
    shape := (List.range 4).map fun k => le img (o + 12 + 4 * k) 4, mask := le img (o + 28) 2,
    scale := le img (o + 30) 2, metaIx := le img (o + 32) 2, scaleVal := le img (o + 36) 4, home := le img (o + 40) 8,
    placeFirst := le img (o + 48) 4, placeCount := le img (o + 52) 4 }

def parsePlace (img : List Byte) (i : Nat) : Place :=
  let o := recOff img 4 i
  { desc := le img o 2, kind := le img (o + 3) 1, tile := le img (o + 2) 1 * 256 + le img (o + 4) 2,
    mask := le img (o + 6) 2, addr := le img (o + 8) 4, bytes := le img (o + 12) 4 }

def parseDest (img : List Byte) (i : Nat) : Dest :=
  let o := recOff img 6 i
  { slice := le img o 2, x := le img (o + 2) 1, y := le img (o + 3) 1, z := le img (o + 4) 1, die := le img (o + 5) 1,
    kind := le img (o + 6) 1, target := le img (o + 8) 8 }

def parsePhase (img : List Byte) (i : Nat) : PhaseEnt :=
  let o := recOff img 7 i
  { flags := le img (o + 1) 1, succ := le img (o + 2) 1, slotFirst := le img (o + 4) 4, slotCount := le img (o + 8) 4,
    planEpoch := le img (o + 12) 4, duration := le img (o + 16) 8, rsFirst := le img (o + 24) 4, rsCount := le img (o + 28) 4 }

def parseSlot (img : List Byte) (i : Nat) : SlotEnt :=
  let o := recOff img 8 i
  { start := le img o 4, len := le img (o + 4) 2, rep := le img (o + 6) 2, period := le img (o + 8) 4,
    srcRow := le img (o + 12) 1, srcCol := le img (o + 13) 1, dstRow := le img (o + 14) 1, dstCol := le img (o + 15) 1 }

def parseBar (img : List Byte) (i : Nat) : BarRec :=
  let o := recOff img 9 i
  { id := le img o 1, kind := le img (o + 1) 1, trigger := le img (o + 2) 1, arrivals := le img (o + 4) 2, mask := le img (o + 6) 2 }

def parseReshard (img : List Byte) (i : Nat) : RsDesc :=
  let o := recOff img 10 i
  { kind := le img o 1, die := le img (o + 1) 1, dest := le img (o + 2) 2, tensor := le img (o + 4) 2,
    barrier := le img (o + 6) 1, src := le img (o + 8) 8, dst := le img (o + 16) 8, piece := le img (o + 24) 4,
    counts := (List.range 3).map fun k => le img (o + 28 + 4 * k) 4,
    sstr := (List.range 3).map fun k => leS img (o + 40 + 4 * k) 4,
    dstr := (List.range 3).map fun k => leS img (o + 52 + 4 * k) 4 }

/-- The whole image as the module keeps it. -/
def parseImage (img : List Byte) : Image :=
  { slice := le img 24 2 % 4096,
    streams := (List.range (sectOf img 2).count).map (parseStream img),
    descs := (List.range (sectOf img 3).count).map (parseDesc img),
    places := (List.range (sectOf img 4).count).map (parsePlace img),
    dests := (List.range (sectOf img 6).count).map (parseDest img),
    phases := (List.range (sectOf img 7).count).map (parsePhase img),
    slots := (List.range (sectOf img 8).count).map (parseSlot img),
    bars := (List.range (sectOf img 9).count).map (parseBar img),
    reshard := (List.range (sectOf img 10).count).map (parseReshard img) }

/-! ### The checks of R213 -/

/-- The first index whose check fails. -/
def firstBad {α : Type} (l : List α) (f : Nat → α → Option Refuse) : Option Refuse :=
  (l.zipIdx).findSome? fun p => f p.2 p.1

/-- The first byte offset among (bad, offset) pairs. -/
def badField (code sec idx : Nat) (l : List (Bool × Nat)) : Option Refuse :=
  (l.find? fun p => p.1).map fun p => (code, sec, idx, p.2)

/-- 0x0001 BAD_HEADER; the offset is that of the field's first byte, or of the nonzero reserved byte (log entry 50). -/
def chkHeader (present : Bool) (len : Nat) (img : List Byte) : Option Refuse :=
  let bad (o : Nat) : Option Refuse := some (1, 0, o, 0)
  if !present then bad 0
  else if le img 0 4 ≠ 0x474D494A then bad 0
  else if le img 6 2 ≠ 128 then bad 6
  else if le img 8 8 ≠ len ∨ len < 128 then bad 8
  else if le img 24 2 ≥ 4096 then bad 25
  else match (List.range 80).find? fun i => le img (48 + i) 1 ≠ 0 with
    | some i => bad (48 + i)
    | none => none

/-- 0x0002 BAD_CRC. -/
def chkCrc (img : List Byte) : Option Refuse :=
  let c := crc32c (img.take 28 ++ [0, 0, 0, 0] ++ img.drop 32)
  if c = le img 28 4 then none else some (2, 0, c, 0)

/-- 0x0003 CONTRACT: major 1, minor at most 0 (R189). -/
def chkContract (img : List Byte) : Option Refuse :=
  if le img 4 1 = 1 ∧ le img 5 1 ≤ 0 then none else some (3, 0, le img 4 1 * 256 + le img 5 1, 0)

/-- 0x0004 BAD_SECTIONS (R194, R196): a section holds its records; of two that overlap the later entry fails, and a
required section that is missing fails as entry SECTION_COUNT (log entry 50). DEDUCED (log entry 328): a SECTION_COUNT outside
the 1 to 16 of R195 fails as entry 0. -/
def chkSections (img : List Byte) : Option Refuse :=
  let n := le img 26 2
  let bad (i : Nat) : Option Refuse := some (4, 0, i, 0)
  if n < 1 ∨ n > 16 then bad 0 else
  let ss := sects img
  let tableEnd := 128 + 24 * n
  let e := ((ss.zipIdx).find? fun p =>
    let x := p.1
    decide (x.rsv ≠ 0 ∨ x.ty < 1 ∨ x.ty > 0xD ∨ x.off % 8 ≠ 0 ∨ x.off < tableEnd ∨ x.off + x.len > le img 8 8)
    || decide ((ss.take p.2).any fun y => y.ty = x.ty)
    || ((ss.take p.2).any fun y => decide (y.off < x.off + x.len ∧ x.off < y.off + y.len))
    || decide (x.len < recSize x.ty * x.count))
  match e with
  | some p => bad p.2
  | none => if [2, 3, 7].all fun t => ss.any fun x => x.ty = t then none else bad n

/-- Field ranges of requirement i (R197). DEDUCED (log entry 326): an OFFSET that is no multiple of 4 names no field. -/
def reqFields (img : List Byte) (i : Nat) : Option Refuse :=
  let o := recOff img 1 i
  badField 8 1 i [(decide (le img o 2 < 0x40 ∨ le img o 2 > 0xAB ∨ le img o 2 % 4 ≠ 0), 0), (decide (le img (o + 2) 1 > 31), 2),
    (decide (le img (o + 3) 1 < 1 ∨ le img (o + 3) 1 + le img (o + 2) 1 > 32), 3)]

/-- 0x0005 REQUIREMENT (R197): the field values of the size table. An entry out of its field ranges names no field and is
left to BAD_RECORD (log entry 50). -/
def chkRequire (sizeReg : Nat → Nat) (img : List Byte) : Option Refuse :=
  firstBad (List.range (sectOf img 1).count) fun i _ =>
    let o := recOff img 1 i
    let v := sizeReg (le img o 2) / 2 ^ le img (o + 2) 1 % 2 ^ le img (o + 3) 1
    if (reqFields img i).isSome ∨ le img (o + 4) 4 ≤ v then none else some (5, 1, i, v)

/-- 0x0006 DIE_UNAVAILABLE. -/
def chkDies (dieOk : Nat → Bool) (img : List Byte) (im : Image) : Option Refuse :=
  (firstBad im.streams fun _ x => if dieOk (x.tile / 256) then none else some (6, 2, x.tile / 256, 0)).or
  ((firstBad im.places fun i _ =>
    let d := le img (recOff img 4 i + 2) 1
    if dieOk d then none else some (6, 4, d, 0)).or
  (firstBad im.reshard fun _ x => if dieOk x.die then none else some (6, 10, x.die, 0)))

/-- The argument die and t in [25:24], [22:16] (R213). -/
def dt (g : Nat) : Nat := g / 256 * 2 ^ 24 + g % 128 * 2 ^ 16

/-- 0x0007 TILE_ABSENT: a position outside the module mesh and an index past the die are no tiles of the size table. -/
def chkTiles (tileOk : Nat → Bool) (img : List Byte) (im : Image) : Option Refuse :=
  (firstBad im.streams fun i x =>
    if tileOk x.tile ∧ le img (streamOff img i) 1 < 20 ∧ le img (streamOff img i + 1) 1 < 22 then none else some (7, 2, dt x.tile, 0)).or
  (firstBad im.places fun i x =>
    let n := le img (recOff img 4 i + 4) 2
    if tileOk x.tile ∧ n < 110 then none else some (7, 4, dt (le img (recOff img 4 i + 2) 1 * 256 + n % 128), 0))


/-- Bytes of a tensor's element array: a sparse tensor stores half of its positions (R44, R46, R50, R51). -/
def TDesc.bytes (d : TDesc) : Nat := elemBytes (d.fmt % 128) (if 128 ≤ d.fmt then d.elems / 2 else d.elems)

/-- The first dimension beyond RANK that is not 1 (R199). -/
def TDesc.badDim (d : TDesc) : Option Nat := (List.range 4).find? fun k => decide (d.rank ≤ k) && decide (d.shape.getD k 1 ≠ 1)

/-- 0x0008 BAD_RECORD: the field ranges of R197-R202, R204 and R207. -/
def chkRecords (img : List Byte) (im : Image) : Option Refuse :=
  let nd := im.descs.length
  let req := firstBad (List.range (sectOf img 1).count) fun i _ => reqFields img i
  let str := firstBad im.streams fun i x =>
    let o := streamOff img i
    badField 8 2 i [(decide ((im.streams.take i).any fun y => y.tile = x.tile), 0), (decide (le img (o + 2) 2 ≠ 0), 2),
      (decide (x.count = 0 ∨ 16384 < x.count), 4),
      (decide (le img (o + 40) 8 % 16 ≠ 0 ∨ le img (o + 40) 8 + 16 * x.count > (sectOf img 2).len), 40)]
  let ten := firstBad im.descs fun i d =>
    let o := recOff img 3 i
    badField 8 3 i [(decide (d.res > 2), 5), (decide (d.rank < 1 ∨ d.rank > 4), 8),
      ((if d.baxis = 0xFF then isMx (d.fmt % 128) || isTlb (d.fmt % 128) else decide (d.baxis ≥ d.rank)), 9),
      (decide (d.caxis ≠ 0xFF ∧ d.caxis ≥ d.rank), 10),
      (decide (d.role > 2), 11), (d.badDim.isSome, 12 + 4 * d.badDim.getD 0),
      (decide (d.scale < 0xFFFE ∧ d.scale ≥ nd), 30), (decide (d.metaIx ≠ 0xFFFF ∧ d.metaIx ≥ nd), 32),
      (decide (le img (o + 34) 2 ≠ 0), 34),
      (decide ((d.res = 0 ∧ d.home ≠ 0) ∨ d.home % 64 ≠ 0) || (decide (d.res ≠ 0) && !isHbm d.home), 40),
      (decide (d.placeFirst + d.placeCount > im.places.length), 48), (decide (le img (o + 56) 8 ≠ 0), 56)]
  let pla := firstBad im.places fun i p =>
    let d := im.descs.getD p.desc default
    badField 8 4 i [(decide (p.desc ≥ nd), 0),
      (decide (p.kind > 1 ∨ (p.kind = 0 ∧ d.res ≠ 0) ∨ (p.kind = 1 ∧ d.res = 0)), 3),
      (decide (p.mask &&& d.mask ≠ p.mask), 6), (decide (p.addr % 32 ≠ 0 ∨ p.addr ≥ 32 * tileWords), 8),
      (decide (p.bytes % 32 ≠ 0), 12)]
  let con := firstBad (List.range (sectOf img 5).count) fun i _ =>
    let o := recOff img 5 i
    let t := le img o 8
    let n := le img (o + 16) 8
    let inPlace := t % 32 = 0 ∧ im.places.any fun p => p.kind = 0 ∧ tileAddr p.tile p.addr ≤ t ∧ t + n ≤ tileAddr p.tile (p.addr + p.bytes)
    let inHome := t % 64 = 0 ∧ im.descs.any fun d => d.res ≠ 0 ∧ d.home ≤ t ∧ t + n ≤ d.home + d.bytes
    badField 8 5 i [(decide (¬ inPlace ∧ ¬ inHome), 0), (decide (le img (o + 8) 8 + n > (sectOf img 0xD).len), 8)]
  let des := firstBad im.dests fun i d =>
    let o := recOff img 6 i
    badField 8 6 i [(decide (d.slice ≥ 4096), 0), (decide (d.x > 63), 2), (decide (d.y > 63), 3), (decide (d.z > 63), 4),
      (decide (d.die > 3), 5), (decide (d.kind > 1), 6), (decide (le img (o + 7) 1 ≠ 0), 7),
      (decide (d.target ≥ 2 ^ (if d.kind = 0 then 18 else 40)), 8)]
  let bar := firstBad im.bars fun i b =>
    let o := recOff img 9 i
    badField 8 9 i [(decide (b.id > 63 ∨ (im.bars.take i).any fun c => c.id = b.id), 0), (decide (b.kind > 1), 1),
      (decide (b.kind = 1 ∧ b.trigger > 31), 2), (decide (le img (o + 3) 1 ≠ 0), 3), (decide (b.kind = 0 ∧ b.arrivals > 440), 4)]
  let spi := firstBad (List.range (sectOf img 12).count) fun i _ =>
    let o := recOff img 12 i
    badField 8 12 i [(decide (le img o 2 ≥ nd), 0), (decide (le img (o + 2) 1 ≠ 0), 2),
      (decide (le img (o + 3) 1 ≠ (im.descs.getD (le img o 2) default).res ∨ le img (o + 3) 1 = 0), 3)]
  req.or (str.or (ten.or (pla.or (con.or (des.or (bar.or spi))))))

/-! ### Checks over the instruction streams -/

/-- Argument "instruction" of R213: die, tile, index. -/
def insArg (g i : Nat) : Nat := dt g + i % 2 ^ 14

/-- The refusal that names the least of the instructions of tile g that fail (log entry 50). -/
def leastBad (code g : Nat) (l : List Nat) : Option Refuse := l.min?.map fun i => (code, 2, insArg g i, 0)

/-- The same with an address beside each: the least instruction, and the least of its addresses. -/
def leastAt (code g : Nat) (l : List (Nat × Nat)) : Option Refuse :=
  l.foldl (fun acc p => match acc with
    | none => some p
    | some q => if p.1 < q.1 ∨ (p.1 = q.1 ∧ p.2 < q.2) then some p else acc) (none : Option (Nat × Nat))
  |>.map fun p => (code, 2, insArg g p.1, p.2)

/-- Is a format selector one the module supports (R38, R39)? -/
def selOk (sel : Nat) : Bool := fmtKnown (sel % 128) && (decide (sel < 128) || sparseOk (sel % 128))

/-- The format selectors an instruction uses. -/
def selsOf (w : Nat) : List Nat :=
  match iOp w with
  | 0x20 => [bf w 31 24]
  | 0x21 | 0x22 => [bf w 31 24, bf w 39 32]
  | 0x30 | 0x31 => [bf w 31 24]
  | _ => []

/-- 0x0010 FORMAT: R39, and the block padding of R43. -/
def chkFormat (im : Image) (codes : List (List Nat)) : Option Refuse :=
  (firstBad im.descs fun i d =>
    let c := d.fmt % 128
    let blk := (if isTlb c then 128 else 32) * (if d.fmt ≥ 128 then 2 else 1)
    let padBad := d.role = 0 ∧ (isMx c || isTlb c) ∧ d.shape.getD d.baxis 1 % blk ≠ 0
    if selOk d.fmt ∧ ¬ padBad then none else some (0x10, 3, i, 0)).or
  (firstBad (im.streams.zip codes) fun _ x => firstBad x.2 fun j w =>
    if (selsOf w).all selOk then none else some (0x10, 2, insArg x.1.tile j, 0))

/-- Is a pair of operand formats allowed (R53)? -/
def pairOk (selW selX : Nat) : Bool :=
  let big (c : Nat) := decide (c = 1 ∨ c = 2)
  let small (c : Nat) := decide (fmtBits c ≤ 8)
  decide (selX < 128) && ((big (selW % 128) && big selX && decide (selW < 128)) || (small (selW % 128) && small selX))

/-- Is an arithmetic control byte allowed with operands of at most 8 bits or not (R55)? -/
def acbOk (acb : Nat) (small : Bool) : Bool := decide (acb < 8) && (!acbExact acb || small)

/-- The storage unit of a format whose unit is also an absolute alignment, else 1 (R92). -/
def scalarUnit (code : Nat) : Nat := if isMx code || isTlb code || isInt code || decide (code = 0x1F) then 1 else fmtBits code / 8

/-- The storage unit counted from a placement's ADDR: a block, a record, an XA160 word (R92). -/
def placeUnit (code : Nat) : Nat := if isMx code || isTlb code then runBytes code else if code = 0x1F then 20 else 1

/-- The part of 0x0011 OPERANDS that one instruction decides: R53, R55, R88, R92. ACC = 1 is a matter of the two operands of
a product (log entry 50). -/
def operandsOk (im : Image) (w : Nat) : Bool :=
  match iOp w with
  | 0x20 => decide (bf w 30 24 ≠ 0x00) && decide (bf w 30 24 ≠ 0x1F)
  | 0x21 => pairOk (bf w 31 24) (bf w 39 32) && acbOk (iAcb w) (decide (fmtBits (bf w 39 32) ≤ 8))
  | 0x22 =>
    let kx := (if bf w 31 24 ≥ 128 then 2 else 1) * bf w 79 64
    pairOk (bf w 31 24) (bf w 39 32) && acbOk (iAcb w) (decide (fmtBits (bf w 39 32) ≤ 8))
      && decide (16 * bf w 79 64 % chunkStep (bf w 31 24 % 128) = 0) && decide (16 * kx % chunkStep (bf w 39 32 % 128) = 0)
  | 0x24 | 0x25 => decide (iAcb w < 8)
  | 0x30 | 0x31 =>
    let c := bf w 31 24 % 128
    decide (iAcb w < 8) && decide (bf w 31 24 < 128) && decide (bf w 63 40 % scalarUnit c = 0)
      && (!isInt c || !(im.descs.getD (bf w 103 88) default).perChannel im || decide (im.descs.length ≤ bf w 103 88))
  | _ => true

/-- Field ranges and reserved bits of R99-R105. `allowed` is the mask of the bits that the encoding names. -/
def fieldMask (op : Nat) : Nat :=
  let m (l : List (Nat × Nat)) : Nat := l.foldl (fun acc p => acc ||| ((2 ^ (p.1 + 1 - p.2) - 1) * 2 ^ p.2)) 0x7FF
  match op with
  | 0x01 => m [(47, 32)]
  | 0x02 => m [(34, 32), (55, 36)]
  | 0x03 => m [(55, 32), (69, 56), (74, 72), (95, 76)]
  | 0x04 => m [(45, 32)]
  | 0x05 => m [(79, 32)]
  | 0x10 => m [(35, 32), (47, 40)]
  | 0x11 => m [(95, 32), (96, 96)]
  | 0x12 => m [(37, 32)]
  | 0x14 => m [(35, 32)]
  | 0x20 => m [(31, 24), (52, 40), (57, 53), (63, 58), (79, 64), (85, 80), (86, 86)]
  | 0x21 => m [(23, 16), (31, 24), (39, 32), (57, 53), (63, 58), (79, 64), (86, 86), (102, 88), (115, 107), (116, 116)]
  | 0x22 => m [(23, 16), (31, 24), (39, 32), (52, 40), (57, 53), (63, 58), (79, 64), (85, 80), (102, 88), (106, 103), (115, 107), (116, 116)]
  | 0x23 => m [(55, 51), (61, 56), (72, 64), (82, 73), (111, 96)]
  | 0x24 => m [(23, 16), (50, 32), (55, 51), (61, 56), (72, 64), (82, 73)]
  | 0x25 => m [(23, 16), (29, 24), (31, 30), (50, 32), (55, 51), (61, 56), (72, 64), (76, 73), (103, 80), (122, 104)]
  | 0x30 => m [(23, 16), (31, 24), (36, 32), (63, 40), (87, 64), (103, 88), (127, 104)]
  | 0x31 => m [(23, 16), (31, 24), (36, 32), (63, 40), (87, 64), (103, 88), (127, 104)]
  | 0x32 => m [(23, 16), (28, 24), (33, 29), (38, 34), (43, 39), (50, 44)]
  | 0x33 => m [(23, 16), (28, 24), (33, 29)]
  | 0x40 => m [(27, 24), (50, 32), (82, 64), (119, 104)]
  | 0x41 => m [(27, 24), (50, 32), (103, 64), (119, 104)]
  | 0x42 => m [(27, 24), (50, 32), (103, 64), (119, 104)]
  | 0x43 => m [(27, 24), (50, 32), (83, 64), (99, 84), (107, 100)]
  | 0x50 => m [(27, 24), (36, 32), (41, 37), (42, 42), (61, 43), (79, 64), (98, 80), (103, 100), (127, 108)]
  | 0x60 => m [(27, 24), (50, 32), (79, 64), (80, 80)]
  | 0x61 => m [(27, 24), (50, 32), (79, 64), (111, 96), (112, 112)]
  | _ => m []

def banksOk (first count : Nat) : Bool := decide (1 ≤ count ∧ first + count ≤ 32)

def rangesOk (w : Nat) : Bool :=
  match iOp w with
  | 0x01 => decide (1 ≤ bf w 47 32)
  | 0x02 => decide (1 ≤ bf w 34 32)
  | 0x03 => decide (1 ≤ bf w 55 32)
  | 0x10 => decide (1 ≤ bf w 47 40)
  | 0x20 => banksOk (bf w 57 53) (bf w 63 58) && decide (bf w 85 80 = warrChannels (bf w 31 24))
    && decide (bf w 79 64 < chunkStep (bf w 31 24 % 128) / 16)
  | 0x21 => banksOk (bf w 57 53) (bf w 63 58) && decide (1 ≤ bf w 79 64)
  | 0x22 => banksOk (bf w 57 53) (bf w 63 58) && decide (1 ≤ bf w 79 64 ∧ 1 ≤ bf w 85 80 ∧ bf w 85 80 ≤ 32)
  | 0x23 => banksOk (bf w 55 51) (bf w 61 56) && decide (1 ≤ bf w 82 73 ∧ bf w 82 73 ≤ 512)
  | 0x24 => banksOk (bf w 55 51) (bf w 61 56) && decide (1 ≤ bf w 82 73 ∧ bf w 82 73 ≤ 512) && decide (iAcb w < 2)
  | 0x25 => banksOk (bf w 55 51) (bf w 61 56) && decide (1 ≤ bf w 29 24 ∧ bf w 29 24 ≤ 32) && decide (bf w 31 30 < 3)
  | 0x32 => decide (bf w 23 16 ∈ [0, 1, 2, 3, 4, 5, 6, 7, 8, 0x10, 0x11, 0x12, 0x13, 0x20])
  | 0x33 => decide (bf w 23 16 ≤ 2)
  | 0x40 => decide (1 ≤ bf w 119 104)
  | 0x41 => decide (1 ≤ bf w 119 104) && decide (bf w 103 64 % 64 = 0)
  | 0x42 => decide (1 ≤ bf w 119 104) && decide (bf w 103 64 % 64 = 0)
  | 0x43 => decide (1 ≤ bf w 107 100)
  | 0x50 => decide (1 ≤ bf w 79 64)
  | 0x61 => decide (1 ≤ bf w 111 96)
  | _ => true

/-- The loops of a stream as (first, last) body ranges. -/
def loopRanges (code : List Nat) : List (Nat × Nat) :=
  (code.zipIdx).filterMap fun p => if iOp p.1 = 3 then some (p.2 + 1, bf p.1 69 56) else none

/-- Does a jump from i to t, itself in a loop body, leave a loop body or enter another one (R97)? -/
def jumpBad (code : List Nat) (i t : Nat) : Bool :=
  ((loopRanges code).any fun l => decide (l.1 ≤ i ∧ i ≤ l.2))
    && (loopRanges code).any fun l => decide ((l.1 ≤ i ∧ i ≤ l.2) ≠ (l.1 ≤ t ∧ t ≤ l.2))

/-- One position of the trace of a stream: instruction index, index registers 1-7, open loops. -/
structure TracePos where
  pc : Nat
  idx : List Int
  loops : List LoopFrame
deriving DecidableEq, Repr, Inhabited

/-- Wrap to a 20-bit signed word. -/
def wrap20 (i : Int) : Int := signed 20 (twos 20 i)

/-- Leave the loops that end at p: the next index, the registers and the loops (R97). -/
def endLoops (p : Nat) (idx : List Int) : List LoopFrame → Nat × List Int × List LoopFrame
  | [] => (p + 1, idx, [])
  | l :: ls =>
    if l.last = p then
      let idx := if l.stepIdx = 0 then idx else idx.set (l.stepIdx - 1) (wrap20 (idx.getD (l.stepIdx - 1) 0 + l.step))
      if 1 < l.left then (l.start, idx, { l with left := l.left - 1 } :: ls) else endLoops p idx ls
    else (p + 1, idx, l :: ls)

/-- The next position after the instruction at a position; none after HALT, PHASE_END and a fifth nested LOOP. -/
def traceStep (code : List Nat) (t : TracePos) : Option TracePos :=
  let w := code.getD t.pc 0
  if iOp w = 0x0F ∨ iOp w = 0x13 ∨ code.length ≤ t.pc then none
  else if iOp w = 4 then some { t with pc := bf w 45 32 }
  else if iOp w = 3 then
    if 4 ≤ t.loops.length then none else
    let l : LoopFrame := ⟨t.pc + 1, bf w 69 56, bf w 55 32, bf w 74 72, signed 20 (bf w 95 76)⟩
    some ⟨t.pc + 1, t.idx, l :: t.loops⟩
  else
    let idx := if iOp w = 2 then t.idx.set (bf w 34 32 - 1) (signed 20 (bf w 55 36)) else t.idx
    let (pc, idx, loops) := endLoops t.pc idx t.loops
    some ⟨pc, idx, loops⟩

/-- The positions a stream passes from an entry, within a bound of steps (R97, R213): the positions in order and
whether the stream stayed before its end. -/
def traceFrom (code : List Nat) : Nat → TracePos → List TracePos × Bool
  | 0, t => ([t], true)
  | n + 1, t =>
    match traceStep code t with
    | none => ([t], decide (t.pc < code.length))
    | some t' => let r := traceFrom code n t'; (t :: r.1, r.2)

/-- Bound on the steps the loader follows: four nested loops of at most 2^24 - 1 passes over 2^14 instructions. -/
def traceBound : Nat := 2 ^ 110

/-- The trace of a stream in a phase from its entry, with the index registers as they are when the phase starts. -/
def tracePhase (code : List Nat) (entry : Nat) (idx : List Int) : List TracePos × Bool :=
  if entry = 0xFFFF then ([], true) else traceFrom code traceBound ⟨entry, idx, []⟩

/-- The operation a traced instruction issues. -/
def traceOp (code : List Nat) (t : TracePos) : Op :=
  let w := code.getD t.pc 0
  ⟨t.pc, w, if iIdx w = 0 then 0 else t.idx.getD (iIdx w - 1) 0, 0, 0, 0, none⟩

/-- A run of accumulator entries bound to a descriptor: bank engines b0 up to b1, entries e0 up to e1 (R86). -/
structure BindRun where
  b0 : Nat
  b1 : Nat
  e0 : Nat
  e1 : Nat
  desc : Nat
deriving DecidableEq, Repr, Inhabited

/-- The entries a matrix instruction names: first bank engine, bank engines, first entry, entries of each (R85, R103). -/
def accSpan (w : Nat) : Nat × Nat × Nat × Nat :=
  match iOp w with
  | 0x21 => (bf w 57 53, bf w 63 58, bf w 115 107, warrChannels (bf w 31 24) * bf w 79 64)
  | 0x22 => (bf w 57 53, bf w 63 58, bf w 115 107, bf w 85 80 * (bf w 106 103 + 1))
  | 0x23 | 0x24 => (bf w 55 51, bf w 61 56, bf w 72 64, bf w 82 73)
  | 0x25 => (bf w 55 51, bf w 61 56, bf w 72 64, bf w 29 24 * (bf w 76 73 + 1))
  | _ => (0, 0, 0, 0)

/-- The bindings after an instruction, the newest first; a run that a new one covers goes. -/
def bindStep (w : Nat) (bs : List BindRun) : List BindRun :=
  if iOp w = 0x23 then
    let (b, n, e, m) := accSpan w
    let r : BindRun := ⟨b, b + n, e, e + m, bf w 111 96⟩
    r :: bs.filter fun x => !(decide (r.b0 ≤ x.b0 ∧ x.b1 ≤ r.b1 ∧ r.e0 ≤ x.e0 ∧ x.e1 ≤ r.e1))
  else bs

/-- The descriptors to which the entries an instruction names are bound, each once. -/
def boundTo (w : Nat) (bs : List BindRun) : List Nat :=
  let (b, n, e, m) := accSpan w
  ((List.range n).flatMap fun k => (List.range (min m (512 - e))).filterMap fun i =>
    (bs.find? fun r => decide (r.b0 ≤ b + k ∧ b + k < r.b1 ∧ r.e0 ≤ e + i ∧ e + i < r.e1)).map BindRun.desc).eraseDups

/-- One instruction of a stream as the loader meets it: its index, its operation, the descriptors its entries are bound to. -/
structure Visit where
  pc : Nat
  op : Op
  descs : List Nat
deriving DecidableEq, Repr, Inhabited

/-- The visits of a trace, and the bindings it leaves. -/
def visitsOf (code : List Nat) (bs : List BindRun) : List TracePos → List Visit × List BindRun
  | [] => ([], bs)
  | t :: ts =>
    let o := traceOp code t
    let r := visitsOf code (bindStep o.word bs) ts
    (⟨t.pc, o, boundTo o.word bs⟩ :: r.1, r.2)

/-- What a tile keeps from one phase to the next that the loader follows (R86, R111): index registers and bindings. -/
structure PhaseKeep where
  idx : List Int
  binds : List BindRun
deriving DecidableEq, Repr, Inhabited

/-- One run of a stream through a phase as the loader follows it: the phase, the positions with whether the stream stayed
before its end, and the instructions met. -/
structure PhaseRun where
  ph : Nat
  trace : List TracePos × Bool
  visits : List Visit
deriving DecidableEq, Repr, Inhabited

/-- A stream's run through phase p from what it keeps, and what it keeps then (R111: PHASE_END leaves the index registers). -/
def phaseRun (code : List Nat) (p entry : Nat) (k : PhaseKeep) : PhaseRun × PhaseKeep :=
  let tr := tracePhase code entry k.idx
  let r := visitsOf code k.binds tr.1
  (⟨p, tr, r.1⟩, ⟨(tr.1.getLast?.map TracePos.idx).getD k.idx, r.2⟩)

/-- The runs along the chain of successors from phase p, until a phase starts as one has started before; those starts. -/
def chainRuns (code entries succ : List Nat) :
    Nat → Nat → PhaseKeep → List (Nat × PhaseKeep) → List PhaseRun × List (Nat × PhaseKeep)
  | 0, _, _, seen => ([], seen)
  | n + 1, p, k, seen =>
    if succ.length ≤ p ∨ (p, k) ∈ seen then ([], seen) else
    let r := phaseRun code p (entries.getD p 0xFFFF) k
    let q := chainRuns code entries succ n (succ.getD p 0xFF) r.2 ((p, k) :: seen)
    (r.1 :: q.1, q.2)

/-- The runs of a stream that the loader follows: the phases in ascending order from index registers at zero and no
binding, each from what the one before left, then on from each along its successors (log entries 10 and 50). -/
def streamRuns (code entries succ : List Nat) : List PhaseRun :=
  let up := (List.range succ.length).foldl (fun (acc : List PhaseRun × List (Nat × PhaseKeep) × PhaseKeep) p =>
    let r := phaseRun code p (entries.getD p 0xFFFF) acc.2.2
    (acc.1 ++ [r.1], acc.2.1 ++ [(p, acc.2.2)], r.2)) ([], [], ⟨List.replicate 7 0, []⟩)
  let on := up.2.1.foldl (fun (acc : List PhaseRun × List (Nat × PhaseKeep)) x =>
    let q := chainRuns code entries succ traceBound (succ.getD x.1 0xFF) (phaseRun code x.1 (entries.getD x.1 0xFFFF) x.2).2 acc.2
    (acc.1 ++ q.1, q.2)) ([], up.2.1)
  up.1 ++ on.1

/-- Does a byte range of tile g meet a placement, held in a phase, of a descriptor with a property? -/
def meets (im : Image) (g ph : Nat) (r : Int × Nat) (f : TDesc → Bool) : Bool :=
  im.places.any fun p => decide (p.tile = g) && p.mask.testBit ph && decide ((p.addr : Int) < r.1 + r.2) && decide (r.1 < p.addr + p.bytes)
    && f (im.descs.getD p.desc default)

/-- The part of 0x0011 OPERANDS that an instruction's place in its stream decides: R63, R86, R88, R92. DESIGN CHOICE (log
entry 322): a VLD or VST whose address lies in no placement of the named descriptor has no start to count the alignment of
R92 from, and is accepted here. -/
def visitOk (im : Image) (g ph : Nat) (v : Visit) : Bool :=
  let w := v.op.word
  let anchors := v.descs.map fun k => (im.descs.getD k default).anchor
  let exact := acbExact (iAcb w)
  let perChannel (c : Nat) (r : Int × Nat) : Bool :=
    isInt c && meets im g ph r fun d => decide (d.fmt % 128 = c) && d.perChannel im
  match iOp w with
  | 0x21 => !(exact && anchors.contains (-32768))
    && !perChannel (bf w 39 32) (32 * (0x40000 + waddr v.op 102 88),
      32 * (bf w 79 64 * sliceWords (bf w 39 32) 1 (if bf w 31 24 ≥ 128 then 2 else 1) false))
  | 0x22 => !(exact && anchors.contains (-32768))
    && !perChannel (bf w 39 32) (32 * (0x40000 + waddr v.op 102 88),
      32 * sliceWords (bf w 39 32) (bf w 106 103 + 1) ((if bf w 31 24 ≥ 128 then 2 else 1) * bf w 79 64) false)
  | 0x24 => !exact || (!anchors.contains (-32768)
    && !(meets im g ph (32 * waddr v.op 50 32, 32 * (bf w 61 56 * ceilDiv (bf w 82 73 * 20) 32)) fun d =>
      decide (d.fmt % 128 = 0x1F) && anchors.any fun a => decide (a ≠ d.anchor)))
  | 0x25 => decide (v.descs.length ≤ 1)
  | 0x30 | 0x31 =>
    let u := placeUnit (bf w 31 24 % 128)
    let a := baddr v.op 63 40
    !(im.places.any fun p => decide (p.desc = bf w 103 88) && decide (p.tile = g) && p.mask.testBit ph
      && decide ((p.addr : Int) ≤ a) && decide (a < p.addr + p.bytes) && decide ((a - p.addr) % u ≠ 0))
  | _ => true

/-- 0x0011 OPERANDS. -/
def chkOperands (im : Image) (codes : List (List Nat)) (runs : List (List PhaseRun)) : Option Refuse :=
  firstBad ((im.streams.zip codes).zip runs) fun _ x =>
    let g := x.1.1.tile
    leastBad 0x11 g (((x.1.2.zipIdx).filterMap fun p => if operandsOk im p.1 then none else some p.2)
      ++ x.2.flatMap fun q => (q.visits.filter fun v => !visitOk im g q.ph v).map Visit.pc)

/-- Must an instruction's target be checked against a barrier record of the phase (R213)? -/
def barrierOk (im : Image) (ph w : Nat) : Bool :=
  decide (iOp w ≠ 0x12) || (im.bars.any fun b => decide (b.id = bf w 37 32) && decide (b.mask / 2 ^ ph % 2 = 1))

/-- Does one instruction break R97, R99 or R106: reserved bits, field ranges, descriptors that the image does not hold, jumps, loops,
destinations (log entry 50)? -/
def instrBad (m : MeshShape) (im : Image) (g : Nat) (code : List Nat) (j w : Nat) : Bool :=
  let op := iOp w
  decide (op ∉ opcodes) || decide (w &&& fieldMask op ≠ w) || !rangesOk w
    || (decide (op = 3) && decide (bf w 69 56 ≤ j ∨ code.length ≤ bf w 69 56))
    || (decide (op = 4) && (decide (code.length ≤ bf w 45 32) || jumpBad code j (bf w 45 32)))
    || (decide (op = 0x50) && (!m.has (bf w 36 32) (bf w 41 37) || (m.route (tileRow g) (tileCol g) (bf w 36 32) (bf w 41 37)).isNone))
    || (decide (op = 0x60 ∨ op = 0x61) && decide (im.dests.length ≤ bf w 79 64))
    || (decide (op = 0x23) && decide (im.descs.length ≤ bf w 111 96))
    || (decide (op = 0x30 ∨ op = 0x31) && decide (im.descs.length ≤ bf w 103 88))

/-- 0x0012 INSTRUCTION, with an ENTRY outside COUNT, a stream that runs past its end, a BARRIER without a record in its phase. -/
def chkInstr (m : MeshShape) (im : Image) (codes : List (List Nat)) (runs : List (List PhaseRun)) : Option Refuse :=
  firstBad ((im.streams.zip codes).zip runs) fun _ x =>
    let g := x.1.1.tile
    let code := x.1.2
    leastBad 0x12 g (((code.zipIdx).filterMap fun p => if instrBad m im g code p.2 p.1 then some p.2 else none)
      ++ (x.1.1.entries.filter fun e => decide (e ≠ 0xFFFF) && decide (code.length ≤ e))
      ++ x.2.flatMap fun q => (if q.trace.2 then [] else [code.length - 1])
        ++ (q.trace.1.filter fun t => !barrierOk im q.ph (code.getD t.pc 0)).map TracePos.pc)

/-- Tile byte ranges (address, length) an operation touches in its own tile's memory (R96, R213). -/
def footprint (o : Op) : List (Int × Nat) :=
  let w := o.word
  let words (a : Int) (n : Nat) : Int × Nat := (32 * a, 32 * n)
  match iOp w with
  | 0x20 => (List.range (bf w 63 58)).map fun k =>
      words (((bf w 57 53 + k) * 8192 : Nat) + waddr o 52 40) (chunkWords (bf w 31 24) (bf w 85 80))
  | 0x21 => [words (0x40000 + waddr o 102 88) (bf w 79 64 * sliceWords (bf w 39 32) 1 (if bf w 31 24 ≥ 128 then 2 else 1) false)]
  | 0x22 => ((List.range (bf w 63 58)).map fun k =>
      words (((bf w 57 53 + k) * 8192 : Nat) + waddr o 52 40) (sliceWords (bf w 31 24) (bf w 85 80) (bf w 79 64) true)) ++
      [words (0x40000 + waddr o 102 88) (sliceWords (bf w 39 32) (bf w 106 103 + 1) ((if bf w 31 24 ≥ 128 then 2 else 1) * bf w 79 64) false)]
  | 0x24 => [words (waddr o 50 32) (bf w 61 56 * ceilDiv (bf w 82 73 * (if acbExact (iAcb w) then 20 else 4)) 32)]
  | 0x30 | 0x31 => [(baddr o 63 40, elemBytes (bf w 31 24 % 128) 128)] ++ (if isMx (bf w 31 24 % 128) then [(baddr o 87 64, 4)] else [])
  | 0x40 => [words (waddr o 50 32) (bf w 119 104), words (waddr o 82 64) (bf w 119 104)]
  | 0x41 | 0x42 => [words (waddr o 50 32) (bf w 119 104)]
  | 0x43 => [words (waddr o 50 32) (512 * bf w 107 100)]
  | 0x50 => [words (waddr o 61 43) (bf w 79 64)]
  | 0x60 => [words (waddr o 50 32) (if bf w 80 80 = 1 then 8 else 2)]
  | 0x61 => [words (waddr o 50 32) (bf w 111 96)]
  | _ => []

/-- The byte ranges the loader checks for a visit: the tile, the range, and whether a matrix operand is read there. An
ACC_OUT writes rows in the format of the descriptor its entries are bound to (R86, R103), a SEND reaches the receiver's
memory (log entry 50). -/
def extents (im : Image) (g : Nat) (v : Visit) : List (Nat × (Int × Nat) × Bool) :=
  let w := v.op.word
  let own := (footprint v.op).map fun r => (g, r, decide (iOp w = 0x20 ∨ iOp w = 0x21 ∨ iOp w = 0x22))
  match iOp w with
  | 0x25 =>
    let codes := if bf w 31 30 = 1 then [0x00] else if bf w 31 30 = 2 then [0x1F]
      else (v.descs.take 1).map fun k => (im.descs.getD k default).fmt % 128
    codes.flatMap fun c =>
      let run := bf w 29 24 * bf w 61 56
      (List.range (bf w 76 73 + 1)).flatMap fun b =>
        (g, (32 * (waddr v.op 50 32 + (b * ceilDiv (elemBytes c run) 32 : Nat)), elemBytes c run), false)
          :: (if isMx c then [(g, (32 * (waddr v.op 122 104 + (b * ceilDiv (mxScales c run) 32 : Nat)), mxScales c run), false)] else [])
  | 0x50 => own ++ [(tileAt (bf w 36 32) (bf w 41 37), (32 * waddr v.op 98 80, 32 * bf w 79 64), false)]
  | _ => own

/-- The placements of a tile held in a phase, as byte ranges. -/
def heldRanges (im : Image) (g ph : Nat) : List (Nat × Nat) :=
  im.places.filterMap fun p => if p.tile = g ∧ p.mask / 2 ^ ph % 2 = 1 then some (p.addr, p.bytes) else none

/-- Those of them that do not hold an HBM-only tensor (R166). -/
def matrixRanges (im : Image) (g ph : Nat) : List (Nat × Nat) :=
  heldRanges { im with places := im.places.filter fun p => decide ((im.descs.getD p.desc default).res ≠ 2) } g ph

/-- The first byte of a range outside the union of the held ranges, walking from range to range. -/
def firstOutside (rs : List (Nat × Nat)) : Nat → Nat → Nat → Option Nat
  | 0, a, e => if a < e then some a else none
  | n + 1, a, e =>
    if e ≤ a then none else
    match rs.find? fun r => r.1 ≤ a ∧ a < r.1 + r.2 with
    | some r => firstOutside rs n (r.1 + r.2) e
    | none => some a

/-- The first byte of a checked range that no placement of its tile holds in the phase, as a tile byte address (R77). -/
def residencyBad (im : Image) (ph : Nat) (x : Nat × (Int × Nat) × Bool) : Option Nat :=
  let rs := if x.2.2 then matrixRanges im x.1 ph else heldRanges im x.1 ph
  if x.2.1.1 < 0 then some (x.2.1.1 % 2 ^ 24).toNat else firstOutside rs (rs.length + 1) x.2.1.1.toNat (x.2.1.1.toNat + x.2.1.2)

/-- 0x0013 RESIDENCY (R106, R166). -/
def chkResidency (im : Image) (runs : List (List PhaseRun)) : Option Refuse :=
  firstBad (im.streams.zip runs) fun _ x => leastAt 0x13 x.1.tile (x.2.flatMap fun q => q.visits.flatMap fun v =>
    (extents im x.1.tile v).filterMap fun r => (residencyBad im q.ph r).map fun a => (v.pc, a))

/-- Offsets of the pieces of a reshard descriptor along a list of strides (R220). -/
def rsOffsets (counts : List Nat) (str : List Int) : List Int :=
  (List.range (counts.getD 0 1)).flatMap fun i => (List.range (counts.getD 1 1)).flatMap fun j =>
    (List.range (counts.getD 2 1)).map fun k => (Int.ofNat i) * str.getD 0 0 + (Int.ofNat j) * str.getD 1 0 + (Int.ofNat k) * str.getD 2 0

/-- Source and destination byte ranges of a descriptor in this module (R220, R222). -/
def rsSrcs (d : RsDesc) : List (Int × Nat) := if d.kind = 2 then [] else (rsOffsets d.counts d.sstr).map fun x => (d.src + x, d.piece)
def rsDsts (d : RsDesc) : List (Int × Nat) := if d.kind = 1 then [] else (rsOffsets d.counts d.dstr).map fun x => (d.dst + x, d.piece)

/-- Where the mesh leads to a module address from a tile: the tile itself, or the edge tile of the stack's die (R138). -/
def meshEnd (m : MeshShape) (g a : Nat) : Nat × Nat :=
  if isHbm a then m.outerEdge g (stackOf a) else (tileRow (tileOfAddr a), tileCol (tileOfAddr a))

/-- Does some route lead between the optical edge of die d and a module address of another die (R127, R138)? R138 names a column
for the traffic of tiles alone; DEDUCED (log entry 323): here a route from any of the 11 columns will do. -/
def engineRoute (m : MeshShape) (d a : Nat) : Bool :=
  decide ((if isHbm a then stackOf a / 2 else tileOfAddr a / 256) = d) || (List.range 11).any fun c =>
    let g := d * 256 + c
    let e := m.opticalEdge g
    let f := meshEnd m (tileAt e.1 e.2) a
    (m.route e.1 e.2 f.1 f.2).isSome

/-- May a data mover instruction of tile g use WORDS words at a module address (R127, R159)? -/
def moverOk (present : Nat → Nat → Bool) (m : MeshShape) (g : Nat) (a : Int) (words : Nat) : Bool :=
  decide (0 ≤ a) && decide (a % 64 = 0) && decide (words % 2 = 0) && present a.toNat (32 * words)
    && (m.route (tileRow g) (tileCol g) (meshEnd m g a.toNat).1 (meshEnd m g a.toNat).2).isSome

/-- Has a message operation of tile g a route to its own die's units (R127, R138)? Those of other instructions are not asked. -/
def messageOk (m : MeshShape) (g opc : Nat) : Bool :=
  decide (opc ≠ 0x43 ∧ opc ≠ 0x60 ∧ opc ≠ 0x61)
    || (m.route (tileRow g) (tileCol g) (m.opticalEdge g).1 (m.opticalEdge g).2).isSome

/-- 0x0014 ADDRESS: homes, contents, memory destinations, reshard pieces, then PREFETCH, STORE and message operations (R127,
R159); of a message operation without a route the module address is 0. -/
def chkAddress (present : Nat → Nat → Bool) (m : MeshShape) (img : List Byte) (im : Image) (runs : List (List PhaseRun)) :
    Option Refuse :=
  (firstBad im.descs fun i d => if d.res = 0 ∨ present d.home d.bytes then none else some (0x14, 3, i, d.home)).or
  ((firstBad (List.range (sectOf img 5).count) fun i _ =>
    let o := recOff img 5 i
    if present (le img o 8) (le img (o + 16) 8) then none else some (0x14, 5, i, le img o 8)).or
  ((firstBad im.dests fun i d => if d.kind = 0 ∨ present d.target 1 then none else some (0x14, 6, i, d.target)).or
  ((firstBad im.reshard fun i d => ((rsSrcs d ++ rsDsts d).find? fun r =>
      !(decide (0 ≤ r.1) && present r.1.toNat r.2 && engineRoute m d.die r.1.toNat)).map fun r => (0x14, 10, i, (r.1 % 2 ^ 64).toNat)).or
  (firstBad (im.streams.zip runs) fun _ x => leastAt 0x14 x.1.tile ((x.2.flatMap PhaseRun.visits).filterMap fun v =>
    let a := baddr v.op 103 64
    if (iOp v.op.word = 0x41 ∨ iOp v.op.word = 0x42) ∧ !moverOk present m x.1.tile a (bf v.op.word 119 104)
    then some (v.pc, (a % 2 ^ 64).toNat)
    else if messageOk m x.1.tile (iOp v.op.word) then none else some (v.pc, 0))))))

/-- The reserved ranges of a slot: (link, first cycle, length) for each occurrence (R131). -/
def slotCycles (m : MeshShape) (e : SlotEnt) : List (((Nat × Nat) × (Nat × Nat)) × Nat × Nat) :=
  match m.route e.srcRow e.srcCol e.dstRow e.dstCol with
  | none => []
  | some p => (List.range e.rep).flatMap fun k =>
      (hopOffsets 0 p).map fun h => ((h.1, h.2.1), e.start + k * e.period + h.2.2, e.len)

/-- Cycles of reservations of one link that fall into the window w .. w + 1023. -/
def windowLoad (rs : List (Nat × Nat)) (w : Nat) : Nat :=
  (rs.map fun r => min (r.1 + r.2) (w + 1024) - max r.1 w).sum

/-- 0x0015 SLOTS (R130, R132). -/
def chkSlots (m : MeshShape) (im : Image) (codes : List (List Nat)) (runs : List (List PhaseRun)) : Option Refuse :=
  firstBad im.phases fun ph p =>
    let es := (im.slots.drop p.slotFirst).take p.slotCount
    let bad (i : Nat) : Option Refuse := some (0x15, 8, ph, i)
    (firstBad es fun i e =>
      if e.len < 1 ∨ e.len > 16384 ∨ e.rep < 1 ∨ (e.rep = 1 ∧ e.period ≠ 0) ∨ (1 < e.rep ∧ e.period < e.len)
        ∨ !m.has e.srcRow e.srcCol ∨ !m.has e.dstRow e.dstCol ∨ (e.srcRow = e.dstRow ∧ e.srcCol = e.dstCol)
        ∨ (m.route e.srcRow e.srcCol e.dstRow e.dstCol).isNone then bad i
      else if (slotCycles m e).any fun c => decide (c.2.1 + c.2.2 > 2 ^ 32) then bad i
      else
        let mine := slotCycles m e
        let before := (es.take i).flatMap (slotCycles m)
        if mine.any fun c => before.any fun b => decide (b.1 = c.1 ∧ b.2.1 < c.2.1 + c.2.2 ∧ c.2.1 < b.2.1 + b.2.2) then bad i
        else if mine.any fun c =>
            let rs := (before ++ mine).filterMap fun b => if b.1 = c.1 then some b.2 else none
            (List.range (c.2.2 / 1024 + 2)).any fun j => decide (1008 < windowLoad rs ((c.2.1 / 1024 + j) * 1024)) then bad i
        else none).or
    (firstBad ((im.streams.zip codes).zip runs) fun _ x =>
      let g := x.1.1.tile
      let sends := ((x.2.getD ph default).trace.1.map fun t => code2 x.1.2 t).filter fun w => iOp w = 0x50 ∧ bf w 42 42 = 0
      firstBad sends fun k w =>
        let sl := bf w 127 108
        let e := es.getD sl default
        if es.length ≤ sl ∨ e.srcRow ≠ tileRow g ∨ e.srcCol ≠ tileCol g ∨ e.dstRow ≠ bf w 36 32 ∨ e.dstCol ≠ bf w 41 37
          ∨ e.len < ceilDiv (bf w 79 64) 4 ∨ e.rep < ((sends.take (k + 1)).filter fun v => bf v 127 108 = sl).length
        then bad sl else none)
where code2 (code : List Nat) (t : TracePos) : Nat := code.getD t.pc 0

/-- 0x0020 SRAM_OVERFLOW and 0x0021 STAGING_OVERFLOW: placements held in one phase exceed the region or overlap. -/
def chkOverflow (im : Image) (tiles : List Nat) (code lo hi : Nat) : Option Refuse :=
  tiles.findSome? fun g => (List.range (im.phases.length)).findSome? fun ph =>
    let rs := (heldRanges im g ph).filter fun r => decide (lo ≤ r.1 ∧ r.1 < hi)
    let tot := (rs.map Prod.snd).sum
    let excess := (rs.map fun r => r.1 + r.2 - hi).sum
    let clash := ((rs.zipIdx).map fun p => ((rs.take p.2).map fun q => min (q.1 + q.2) (p.1.1 + p.1.2) - max q.1 p.1.1).sum).sum
    if tot > hi - lo then some (code, 4, dt g + ph, tot - (hi - lo))
    else if 0 < excess + clash then some (code, 4, dt g + ph, excess + clash) else none

/-- 0x0022 INSTR_OVERFLOW. -/
def chkCount (im : Image) : Option Refuse :=
  firstBad im.streams fun _ x => if x.count ≤ 16384 then none else some (0x22, 2, dt x.tile, x.count)

/-- 0x0023 HBM_OVERLAP. -/
def chkHomes (im : Image) (imgAddr imgLen : Nat) : Option Refuse :=
  firstBad im.descs fun i d =>
    let n := d.bytes
    if d.res = 0 ∨ n = 0 then none
    else if d.home < imgAddr + imgLen ∧ imgAddr < d.home + n then some (0x23, 3, i, max d.home imgAddr)
    else (im.descs.take i).findSome? fun e =>
      let k := e.bytes
      if e.res ≠ 0 ∧ k ≠ 0 ∧ d.home < e.home + k ∧ e.home < d.home + n then some (0x23, 3, i, max d.home e.home) else none

/-- 0x0030 PHASES (R203). DEDUCED (log entry 329): a section with no phase fails as phase 0, byte 0. -/
def chkPhases (img : List Byte) (im : Image) : Option Refuse :=
  if im.phases.length > 16 ∨ im.phases.length = 0 then some (0x30, 7, min im.phases.length 16, 0) else
  firstBad im.phases fun i p =>
    let o := recOff img 7 i
    badField 0x30 7 i [(decide (le img o 1 ≠ i), 0), (decide (p.flags ≥ 8), 1),
      (decide (p.succ ≠ 0xFF ∧ p.succ ≥ im.phases.length), 2), (decide (p.flags % 2 = 1 ∧ p.succ = 0xFF), 2),
      (decide (le img (o + 3) 1 ≠ 0), 3), (decide (p.slotFirst + p.slotCount > im.slots.length), 4),
      (decide (p.slotCount > 1048576), 8), (decide (p.rsFirst + p.rsCount > im.reshard.length), 24)]

def overlaps (a b : Int × Nat) : Bool := decide (a.1 < b.1 + b.2 ∧ b.1 < a.1 + a.2)

/-- 0x0031 RESHARD (R205, R222). Of two descriptors whose ranges overlap the later one fails. -/
def chkReshard (img : List Byte) (im : Image) : Option Refuse :=
  (firstBad im.reshard fun i d =>
    let toTile := decide ((im.dests.getD d.dest ⟨0, 0, 0, 0, 0, 0, 0⟩).kind ≠ 1)
    let bad := decide (d.kind > 2) || decide (d.die > 3) || decide (im.descs.length ≤ d.tensor)
      || (decide (d.barrier > 63) && decide (d.barrier ≠ 0xFF)) || decide (le img (recOff img 10 i + 7) 1 ≠ 0)
      || decide (d.piece % 4 ≠ 0) || decide (d.piece < 4) || decide (65536 < d.piece) || (d.counts.any fun c => decide (c = 0))
      || (decide (d.kind = 1) && toTile)
    if bad then some (0x31, 10, i, 0) else none).or
  (firstBad im.phases fun _ p =>
    let ds := (im.reshard.drop p.rsFirst).take p.rsCount
    firstBad ds fun i d =>
      let before := ds.take i
      let own := rsDsts d
      if ((ds.take (i + 1)).filter fun e => e.die = d.die).length > 16384
        ∨ (List.range own.length).any (fun k => (own.take k).any (overlaps (own.getD k (0, 0))))
        ∨ own.any (fun x => ((rsSrcs d).any (overlaps x)) || before.any fun e => (rsSrcs e ++ rsDsts e).any (overlaps x))
        ∨ (rsSrcs d).any (fun x => before.any fun e => (rsDsts e).any (overlaps x))
      then some (0x31, 10, p.rsFirst + i, 0) else none)

end Sys2Proof.Machine
end

