-- ==== Sys2Proof/Machine/Plan.lean ====
section
/-!
DEFINITION. Route plans (R342-R364): how the bytes of a plan bank are read, the plan checker, the free-line masks, the
receive shares and the rings that a switch affects.
-/
namespace Sys2Proof.Machine

/-- A plan bank: its bytes by offset; unwritten bytes are zero (R354). -/
abbrev Bank := SMap Byte

/-- The little-endian number of n bytes at offset o. -/
def Bank.num (b : Bank) (o n : Nat) : Nat := ofLe ((List.range n).map fun i => zget b (o + i))

/-! ### Header, ports, lanes (R345-R347) -/

def Bank.epoch (b : Bank) : Nat := b.num 4 4
def Bank.length (b : Bank) : Nat := b.num 8 4
/-- Coordinate and axis sizes; i is 0, 1, 2 for X, Y, Z. -/
def Bank.coord (b : Bank) (i : Nat) : Nat := b.num (20 + i) 1
def Bank.dim (b : Bank) (i : Nat) : Nat := b.num (24 + i) 1

/-- Variable sections in the order of the header: 0 express, 1 path, 2 steering, 3 destination, 4 filter; their
counts, offsets, entry sizes and count limits. -/
def Bank.count (b : Bank) (k : Nat) : Nat := b.num (28 + 2 * k) 2
def Bank.off (b : Bank) (k : Nat) : Nat := b.num (40 + 4 * k) 4
def secSize (k : Nat) : Nat := [4, 24, 16, 8, 512].getD k 0
def secLimit (k : Nat) : Nat := [576, 2048, 288, 4096, 16].getD k 0

/-- n bytes at byte o of entry i of section k. -/
def Bank.ent (b : Bank) (k i o n : Nat) : Nat := b.num (b.off k + secSize k * i + o) n

def Bank.mode (b : Bank) (p : Nat) : Nat := b.num (64 + 8 * p) 1
def Bank.filter (b : Bank) (p : Nat) : Nat := b.num (65 + 8 * p) 1
/-- Port modes. -/
def mdOFF : Nat := 0
def mdNORMAL : Nat := 1
def mdDISCOVER : Nat := 2
def mdLOOPBACK : Nat := 3

/-- Lane entry i (the ring index, R306): byte o of it, n bytes. -/
def Bank.lane (b : Bank) (i o n : Nat) : Nat := b.num (352 + 8 * i + o) n
def Bank.role (b : Bank) (i : Nat) : Nat := b.lane i 0 1
def Bank.line (b : Bank) (i : Nat) : Nat := b.lane i 1 1
def Bank.lanePath (b : Bank) (i : Nat) : Nat := b.lane i 2 2
def Bank.laneSteer (b : Bank) (i : Nat) : Nat := b.lane i 4 2
def Bank.laneOut (b : Bank) (i : Nat) : Nat := b.lane i 6 1
def Bank.laneHops (b : Bank) (i : Nat) : Nat := b.lane i 4 1 % 4
/-- LAUNCH, signed tenths of dBm. -/
def Bank.launch (b : Bank) (i : Nat) : Int := signed 8 (b.lane i 7 1)
/-- Is transmit lane i steered? -/
def Bank.steered (b : Bank) (i : Nat) : Bool :=
  decide (b.role i = 1) && decide (b.laneSteer i ≠ 0xFFFF)

/-- Ring indices of the receive and transmit rings of port p, lane l (R306). -/
def txRing (p l : Nat) : Nat := 9 * p + l
def rxRing (p l : Nat) : Nat := 324 + 9 * p + l
/-- Port and lane of a ring index. -/
def ringPort (i : Nat) : Nat := i % 324 / 9
def ringLane (i : Nat) : Nat := i % 9

/-- The port that tree output o (0-2) of a lane of port p leads to (R300). -/
def treePort (p o : Nat) : Nat := p / 3 * 3 + o

/-! ### Paths (R349) -/

/-- A path entry. -/
structure PathEnt where
  id : Nat
  inbound : Bool
  port : Nat
  lanes : Nat
  hops : Nat
  peerPort : Nat
  peerSerial : Nat
  ret : Nat
  far : Nat
  burst : Bool
deriving DecidableEq, Repr

def Bank.pathAt (b : Bank) (i : Nat) : PathEnt :=
  { id := b.ent 1 i 0 2, inbound := decide (b.ent 1 i 2 1 ≠ 0), port := b.ent 1 i 3 1, lanes := b.ent 1 i 4 2,
    hops := b.ent 1 i 6 1, peerPort := b.ent 1 i 7 1, peerSerial := b.ent 1 i 8 8, ret := b.ent 1 i 16 2,
    far := b.ent 1 i 18 2, burst := decide (b.ent 1 i 20 1 % 2 = 1) }

def Bank.paths (b : Bank) : List PathEnt := (List.range (b.count 1)).map b.pathAt

/-- The outbound or inbound path with an id. -/
def Bank.path (b : Bank) (inb : Bool) (id : Nat) : Option PathEnt := b.paths.find? fun e => e.id = id ∧ e.inbound = inb

/-- Does a path's LANES hold lane l? -/
def PathEnt.has (e : PathEnt) (l : Nat) : Bool := e.lanes.testBit l

/-- Data lanes of a path. -/
def PathEnt.dataLanes (e : PathEnt) : List Nat := (List.range 8).filter e.has

/-- Path on output o of steering set j. -/
def Bank.steerPath (b : Bank) (j o : Nat) : Nat := if o < 3 then b.ent 2 j (4 + 2 * o) 2 else 0xFFFF

/-! ### Destinations and filters (R351, R352) -/

def destKey (slice x y z : Nat) : Nat := slice * 2 ^ 18 + x * 2 ^ 12 + y * 2 ^ 6 + z
def Bank.destKeyAt (b : Bank) (i : Nat) : Nat := destKey (b.ent 3 i 0 2 % 4096) (b.ent 3 i 2 1) (b.ent 3 i 3 1) (b.ent 3 i 4 1)

/-- The lookup of R224: the outbound path toward a coordinate of a slice. -/
def Bank.lookup (b : Bank) (slice x y z : Nat) : Option Nat :=
  ((List.range (b.count 3)).find? fun i => b.destKeyAt i = destKey slice x y z).map fun i => b.ent 3 i 6 2

/-- Does port p admit a slice (R352, R369)? -/
def Bank.admits (b : Bank) (p slice : Nat) : Bool :=
  decide (b.filter p < b.count 4) && decide (b.filter p ≠ 0xFF)
    && (b.num (b.off 4 + 512 * b.filter p + slice / 8) 1).testBit (slice % 8)

/-! ### Lines on a fibre (R362) -/

/-- Contributions to the transmit fibre of port q: line and planned power in tenths of a dBm (R363). -/
def Bank.txFibre (b : Bank) (q : Nat) : List (Nat × Int) :=
  let grp := (List.range 3).flatMap fun k => (List.range 9).map fun l => txRing (q / 3 * 3 + k) l
  let adds := (grp.filter fun i => decide (b.role i = 1)).filterMap fun i =>
    let o := q % 3
    if b.steered i then
      (if b.steerPath (b.laneSteer i) o ≠ 0xFFFF then some (b.line i, b.launch i - 30) else none)
    else if b.laneOut i = o then some (b.line i, b.launch i - 30) else none
  let ex := ((List.range (b.count 0)).filter fun e => decide (b.ent 0 e 0 1 = q ^^^ 1)).map fun e =>
    (b.ent 0 e 1 1, signed 8 (b.ent 0 e 3 1))
  adds ++ ex

/-- Lines on the transmit and receive fibres of a port, the discovery lane's L02 among them. -/
def Bank.txLines (b : Bank) (q : Nat) : List Nat :=
  (b.txFibre q).map Prod.fst ++ (if b.mode q = mdDISCOVER then [2] else [])
def Bank.rxLines (b : Bank) (p : Nat) : List Nat :=
  (((List.range 9).map (rxRing p)).filter fun i => decide (b.role i = 1)).map b.line
    ++ ((List.range (b.count 0)).filter fun e => decide (b.ent 0 e 0 1 = p)).map (fun e => b.ent 0 e 1 1)
    ++ (if b.mode p = mdDISCOVER then [2] else [])

/-- A free-line mask: bit k is set when line k is absent (R364). -/
def freeMask (used : List Nat) : Nat :=
  ((List.range 16).filter fun k => !used.contains k).foldl (fun m k => m + 2 ^ k) 0

/-- The FREE word of port p. -/
def Bank.free (b : Bank) (p : Nat) : Nat := freeMask (b.txLines p) + freeMask (b.rxLines p) * 2 ^ 16

/-- The least line that a list of lines repeats (log entry 49). -/
def firstDup (l : List Nat) : Option Nat := (List.range 16).find? fun k => decide (1 < l.count k)

/-- 10^(n / 100) in units of 2^-96, for n at least -200: by 2^128-scaled steps of 10^(1/100), rounded down. -/
def tenth (n : Int) : Nat :=
  let k := (n + 200).toNat
  (List.range k).foldl (fun x _ => x * 348208561466904627933354545133527679424 / 2 ^ 128) (2 ^ 96 / 100)

/-- Planned power of a transmit fibre, units of 2^-96 mW (R363). -/
def Bank.power (b : Bank) (q : Nat) : Nat :=
  ((b.txFibre q).map fun e => tenth e.2).foldl (· + ·) 0 + (if b.mode q = mdDISCOVER then 631 * 2 ^ 96 / 1000 else 0)

/-! ### The checker (R361) -/

/-- A failure: code, section, line, index (the layout of CHK_RESULT). -/
structure PlanFail where
  code : Nat
  sec : Nat
  line : Nat
  index : Nat
deriving DecidableEq, Repr

/-- CHK_RESULT of a failure. -/
def PlanFail.word (f : PlanFail) : Nat := f.code + f.sec * 2 ^ 8 + f.line * 2 ^ 12 + f.index % 2 ^ 16 * 2 ^ 16

/-- The first entry of n that a test rejects. -/
def planBad (code sec n : Nat) (bad : Nat → Bool) : Option PlanFail :=
  ((List.range n).find? bad).map fun i => ⟨code, sec, 0, i⟩

/-- One failure when a test fails. -/
def planIf (code sec : Nat) (bad : Bool) : Option PlanFail := if bad then some ⟨code, sec, 0, 0⟩ else none

/-- The first failure of a list of checks. -/
def planFirst (l : List (Option PlanFail)) : Option PlanFail := l.findSome? id

/-- CRC-32C over LENGTH bytes with bytes 12-15 as zero (R345). -/
def Bank.crc (b : Bank) : Nat :=
  crc32c ((List.range b.length).map fun i => if 12 ≤ i ∧ i < 16 then 0 else zget b i)

/-- 0x01 HEADER. -/
def planHeader (b : Bank) (fin active : Nat) : Option PlanFail :=
  planIf 1 0 (decide (b.num 0 4 ≠ 0x4C505243) || decide (b.num 16 1 ≠ 1) || decide (131072 < b.length)
    || decide (fin < b.length) || decide (b.num 12 4 ≠ b.crc) || decide (b.epoch = 0) || decide (b.epoch = active))

/-- Byte extents of the sections and of the fixed part. -/
def Bank.extent (b : Bank) (k : Nat) : Nat × Nat := (b.off k, b.off k + secSize k * b.count k)

/-- 0x02 LAYOUT; the port table starts at byte 64, the lane table at byte 352, and the fixed tables end at byte 5,536. Of two
sections that overlap the later one fails (log entry 49). -/
def planLayout (b : Bank) : Option PlanFail :=
  planFirst (planIf 2 (if b.length < 64 then 0 else if b.length < 352 then 1 else 2) (decide (b.length < 5536)) :: (List.range 5).map fun k =>
    let (lo, hi) := b.extent k
    let clash := (List.range k).any fun j => decide (0 < b.count j) && decide (lo < (b.extent j).2) && decide ((b.extent j).1 < hi)
    planIf 2 (k + 3) (decide (secLimit k < b.count k) || decide (lo % 8 ≠ 0) || decide (b.length < hi)
      || (decide (0 < b.count k) && (decide (lo < 5536) || clash))))

/-- A reserved run of bytes is nonzero. -/
def Bank.dirty (b : Bank) (o n : Nat) : Bool := decide (b.num o n ≠ 0)

/-- Fields of a transmit lane entry out of range. PATH, STEER and OUT of an OFF entry name nothing (log entry 49). -/
def badTxLane (b : Bank) (i : Nat) : Bool :=
  decide (1 < b.role i) || decide (15 < b.line i) || decide (b.launch i < -40) || decide (40 < b.launch i)
    || (decide (b.role i = 1) && (if b.steered i then decide (b.lanePath i ≠ 0xFFFF) || decide (b.count 2 ≤ b.laneSteer i)
      else decide (0xFFFD < b.lanePath i) || decide (2 < b.laneOut i)))

/-- Fields of a receive lane entry out of range. -/
def badRxLane (b : Bank) (i : Nat) : Bool :=
  decide (1 < b.role i) || decide (15 < b.line i) || (decide (b.role i = 1) && decide (0xFFFD < b.lanePath i))
    || decide (3 < b.lane i 4 2) || decide (b.lane i 6 2 ≠ 0)

def badPathFields (b : Bank) (i : Nat) : Bool :=
  decide (0xFFFD < b.ent 1 i 0 2) || decide (1 < b.ent 1 i 2 1) || decide (35 < b.ent 1 i 3 1) || decide (511 < b.ent 1 i 4 2)
    || decide (35 < b.ent 1 i 7 1) || decide (0xFFFD < b.ent 1 i 16 2) || decide (1 < b.ent 1 i 20 1)
    || decide (b.ent 1 i 21 3 ≠ 0)

def badSteerFields (b : Bank) (i : Nat) : Bool :=
  decide (35 < b.ent 2 i 0 1) || decide (7 < b.ent 2 i 1 1) || decide (b.ent 2 i 10 6 ≠ 0)
    || (List.range 3).any fun o => decide (b.steerPath i o = 0xFFFE)

def badDestFields (b : Bank) (i : Nat) : Bool :=
  decide (4095 < b.ent 3 i 0 2) || decide (63 < b.ent 3 i 2 1) || decide (63 < b.ent 3 i 3 1) || decide (63 < b.ent 3 i 4 1)
    || decide (b.ent 3 i 5 1 ≠ 0) || decide (0xFFFD < b.ent 3 i 6 2)

/-- 0x03 FIELD. -/
def planField (b : Bank) : Option PlanFail :=
  planFirst [
    planIf 3 0 (b.dirty 18 2 || b.dirty 23 1 || b.dirty 27 1 || b.dirty 38 2 || b.dirty 60 4),
    planBad 3 1 36 fun p => decide (3 < b.mode p) || (decide (15 < b.filter p) && decide (b.filter p ≠ 0xFF)) || b.dirty (66 + 8 * p) 6,
    planBad 3 2 648 fun i => if i < 324 then badTxLane b i else badRxLane b i,
    planBad 3 3 (b.count 0) fun i => decide (35 < b.ent 0 i 0 1) || decide (15 < b.ent 0 i 1 1),
    planBad 3 4 (b.count 1) (badPathFields b),
    planBad 3 5 (b.count 2) (badSteerFields b),
    planBad 3 6 (b.count 3) (badDestFields b)]

/-- 0x04 COORD. -/
def planCoord (b : Bank) : Option PlanFail :=
  planIf 4 0 ((List.range 3).any fun k => decide (b.dim k = 0) || decide (64 < b.dim k) || decide (b.dim k ≤ b.coord k))

/-- The OUT values of an outbound path's unsteered lanes: the ADD entries whose PATH names it, lane S included (R347; log entry 49). -/
def pathOuts (b : Bank) (e : PathEnt) : List Nat :=
  ((List.range 324).filter fun i => decide (b.role i = 1) && !b.steered i && decide (b.lanePath i = e.id)).map b.laneOut

/-- A path entry that rule 0x05 rejects. -/
def badPath (b : Bank) (i : Nat) : Bool :=
  let e := b.pathAt i
  let earlier := (List.range i).map b.pathAt
  let dup := earlier.any fun f => decide (f.id = e.id) && (decide (f.inbound = e.inbound)
    || !(decide (b.mode e.port = mdLOOPBACK) && decide (f.port = e.port)))
  let spare := e.has 8 && earlier.any fun f => decide (f.inbound = e.inbound) && decide (f.port = e.port) && f.has 8
  let outs := pathOuts b e
  dup || decide (e.lanes % 256 = 0) || spare || (b.path (!e.inbound) e.ret).isNone
    || (!e.inbound && outs.any fun o => decide (o ≠ outs.headD 0))

/-- 0x05 PATH. -/
def planPath (b : Bank) : Option PlanFail := planBad 5 4 (b.count 1) (badPath b)

/-- A lane entry that rule 0x06 rejects. -/
def badLane (b : Bank) (i : Nat) : Bool :=
  decide (b.role i = 1) && (if decide (i < 324) && b.steered i then false else
    match b.path (decide (324 ≤ i)) (b.lanePath i) with
    | none => true
    | some e => decide (e.port ≠ ringPort i) || (decide (ringLane i = 8) && !e.has 8))

/-- 0x06 LANE. -/
def planLane (b : Bank) : Option PlanFail :=
  planFirst [planBad 6 2 648 (badLane b),
    planBad 6 4 (b.count 1) fun k =>
      let e := b.pathAt k
      ((List.range 9).filter e.has).any fun l => decide (b.role (if e.inbound then rxRing e.port l else txRing e.port l) = 0)]

/-- Is a line within the reach of a lane (R305)? -/
def inReach (l line : Nat) : Bool := decide (homeLine l ≤ line + 2) && decide (line ≤ homeLine l + 2)

/-- 0x07 REACH. -/
def planReach (b : Bank) : Option PlanFail :=
  planBad 7 2 648 fun i => decide (b.role i = 1) && !inReach (ringLane i) (b.line i)

/-- 0x08 LINE_REUSE: the port and the line. -/
def planReuse (b : Bank) : Option PlanFail :=
  (List.range 36).findSome? fun p =>
    (Option.orElse (firstDup (b.txLines p)) fun _ => firstDup (b.rxLines p)).map fun k => ⟨8, 1, k, p⟩

/-- 0x09 CHAIN. -/
def planChain (b : Bank) : Option PlanFail :=
  planFirst [planBad 9 3 (b.count 0) fun i => decide (b.ent 0 i 2 1 = 0) || decide (3 < b.ent 0 i 2 1),
    planBad 9 4 (b.count 1) fun i => decide (3 < b.ent 1 i 6 1)]

/-- 0x0A SERVICE_EXPRESS, with the ports' roles at the command. -/
def planService (b : Bank) (roles : List Nat) : Option PlanFail :=
  planBad 10 3 (b.count 0) fun i => decide (roles.getD (b.ent 0 i 0 1) 0 = 1) || decide (roles.getD (b.ent 0 i 0 1 ^^^ 1) 0 = 1)

/-- A steering set that rule 0x0B rejects. -/
def badSteer (b : Bank) (j : Nat) : Bool :=
  let p := b.ent 2 j 0 1
  let l := b.ent 2 j 1 1
  decide (b.role (txRing p l) ≠ 1) || decide (b.laneSteer (txRing p l) ≠ j) || decide (3 < b.ent 2 j 2 1)
    || (List.range 3).any fun o => decide (b.steerPath j o ≠ 0xFFFF) && (match b.path false (b.steerPath j o) with
      | some e => decide (e.port ≠ p) || !e.burst
      | none => true)

/-- 0x0B STEER_GROUP. -/
def planSteer (b : Bank) : Option PlanFail :=
  planFirst [planBad 11 2 324 fun i => decide (ringLane i = 8) && decide (b.role i = 1) && b.steered i,
    planBad 11 5 (b.count 2) (badSteer b)]

/-- 0x0C STEER_UNRESERVED: the steered lanes in their order. -/
def planUnreserved (b : Bank) : Option PlanFail :=
  planBad 12 2 324 fun i => decide (b.role i = 1) && b.steered i && (List.range 3).any fun o =>
    match b.path false (b.steerPath (b.laneSteer i) o) with
    | some e => !e.far.testBit (b.line i)
    | none => false

/-- 0x0D LAUNCH: above 15.849 mW. -/
def planLaunch (b : Bank) : Option PlanFail :=
  ((List.range 36).find? fun q => decide (15849 * 2 ^ 96 < b.power q * 1000)).map fun q => ⟨13, 1, 0, q⟩

/-- 0x0E DEST. -/
def planDest (b : Bank) : Option PlanFail :=
  planBad 14 6 (b.count 3) fun i => (b.path false (b.ent 3 i 6 2)).isNone
    || (decide (0 < i) && decide (b.destKeyAt i ≤ b.destKeyAt (i - 1)))

/-- 0x0F FILTER. -/
def planFilter (b : Bank) : Option PlanFail :=
  planBad 15 1 36 fun p => decide (b.filter p ≠ 0xFF) && decide (b.count 4 ≤ b.filter p)

/-- The checker: STAGED with its last byte written, ACTIVE's epoch, the roles. The first failure of the rules in their
order. -/
def checkPlan (b : Bank) (fin active : Nat) (roles : List Nat) : Option PlanFail :=
  Option.orElse (planHeader b fin active) fun _ => Option.orElse (planLayout b) fun _ =>
  planFirst [planField b, planCoord b, planPath b, planLane b, planReach b, planReuse b, planChain b, planService b roles,
    planSteer b, planUnreserved b, planLaunch b, planDest b, planFilter b]

/-! ### Shares (R353) -/

/-- The receive buffers of each inbound path of port p out of n, in ascending path order. -/
def Bank.shares (b : Bank) (p n : Nat) : List (Nat × Nat) :=
  let es := sortBy PathEnt.id (b.paths.filter fun e => e.inbound && decide (e.port = p))
  let d := (es.map fun e => e.dataLanes.length).foldl (· + ·) 0
  let base := es.map fun e => (e.id, if d = 0 then 0 else n * e.dataLanes.length / d)
  let left := n - (base.map Prod.snd).foldl (· + ·) 0
  base.mapIdx fun i x => (x.1, x.2 + (if i < left ∧ d ≠ 0 then 1 else 0))

/-- The share of one path on a virtual channel (0 or 1): R257 gives 1,024 and 512 buffers. -/
def Bank.share (b : Bank) (id vc : Nat) : Nat :=
  match b.path true id with
  | some e => (((b.shares e.port (if vc = 0 then 1024 else 512)).find? fun x => x.1 = id).map Prod.snd).getD 0
  | none => 0

/-! ### Affected rings (R359) -/

/-- The paths of a ring's lane entry: its path, or those its steering set names. -/
def Bank.ringPaths (b : Bank) (i : Nat) : List Nat :=
  if b.role i = 0 then []
  else if decide (i < 324) && b.steered i then
    ((List.range 3).map (b.steerPath (b.laneSteer i))).filter (· ≠ 0xFFFF)
  else [b.lanePath i]

/-- Is ring i affected by a switch from plan a to plan b? A port whose MODE differs affects its rings (log entry 40). -/
def ringAffected (a b : Bank) (i : Nat) : Bool :=
  let inb := decide (324 ≤ i)
  decide (a.lane i 0 8 ≠ b.lane i 0 8) || decide (a.mode (ringPort i) ≠ b.mode (ringPort i))
    || (a.ringPaths i).any (fun p => decide (a.path inb p ≠ b.path inb p))
    || (decide (i < 324) && a.steered i && decide (a.role i = 1)
        && decide (a.ent 2 (a.laneSteer i) 0 16 ≠ b.ent 2 (b.laneSteer i) 0 16))

/-- The affected rings, and the paths with an affected lane under either plan (R425). -/
def affectedRings (a b : Bank) : List Nat := (List.range 648).filter (ringAffected a b)
def retunedPaths (a b : Bank) (rings : List Nat) : List Nat := (rings.flatMap fun i => a.ringPaths i ++ b.ringPaths i).eraseDups

end Sys2Proof.Machine
end

