-- ==== Sys2Proof/Machine/Slots.lean ====
section
/-!
DEFINITION. Millrace loop slots (R383-R388, R395, R402-R404): descriptors, the conditions under which a slot runs, start
points, flags and trace channels.
-/
namespace Sys2Proof.Machine

/-! ### Combs, engines and roles -/

/-- STAT.STATE of a comb (R304). -/
def State.combSt (s : State) (e : Nat) : Nat := s.get (COMB_B e) COMB.STAT_STATE
def cbOFF : Nat := 0
def cbWAIT_ARM : Nat := 1
def cbWARMING : Nat := 2
def cbLOCKING : Nat := 3
def cbLOCKED : Nat := 4
def cbHOLDOVER : Nat := 5
def cbFAULT : Nat := 6

/-- Is a comb LOCKED or in HOLDOVER? Is it armed? -/
def State.combGood (s : State) (e : Nat) : Bool := decide (s.combSt e = cbLOCKED) || decide (s.combSt e = cbHOLDOVER)
def State.combArmed (s : State) (e : Nat) : Bool := decide (cbWARMING ≤ s.combSt e) && decide (s.combSt e ≤ cbHOLDOVER)

/-- Engine of a port; does the engine work, and the port on it (R335, R336, R339)? -/
def portEngine (p : Nat) : Nat := p / 18
def State.engineOk (s : State) (e : Nat) : Bool := s.on (ENGINE_B e) && !s.bit (ENGINE_B e) hSTAT_FAULT
def State.portOn (s : State) (p : Nat) : Bool :=
  decide (p < 36) && s.on (PORT_B p) && s.engineOk (portEngine p) && !s.bit POWER_B POWER.STATE_HOLD

/-- Under the boot ROM every port whose CFG.ROLE is 0 is in DISCOVER mode, whatever ACTIVE holds (R580). -/
def State.romPlan (s : State) : Bank :=
  (List.range 36).foldl (fun (b : Bank) p => if s.get (PORT_B p) PORT.CFG_ROLE = 0 then zset b (64 + 8 * p) 2 else b) []

/-- The two plan banks (R355): the plan that the optics follow, and STAGED. -/
def State.plan (s : State) : Bank := if s.upd.romPorts then s.romPlan else s.xrds.active

def State.stagedPlan (s : State) : Bank := s.xrds.staged

/-- The line on which bank b uses ring i: none without a role; L02 on a discovery lane (R373). -/
def Bank.ringLine (b : Bank) (i : Nat) : Option Nat :=
  let m := b.mode (ringPort i)
  if m = mdOFF then none
  else if m = mdDISCOVER then (if ringLane i = 0 then some 2 else none)
  else if b.role i = 1 then some (b.line i) else none

/-- The line of ring i under ACTIVE, with its port enabled. -/
def State.ringLine (s : State) (i : Nat) : Option Nat := if s.portOn (ringPort i) then s.plan.ringLine i else none

/-! ### Descriptors (R384-R388) -/

/-- Bits hi:lo of the descriptor word at byte `off` of slot s. -/
def State.dsc (s : State) (i off hi lo : Nat) : Nat := fget (s.rd (DESC_B + 64 * i + off)) ⟨0, hi, lo⟩
def State.dscS (s : State) (i off hi lo : Nat) : Int := signed (hi + 1 - lo) (s.dsc i off hi lo)

def State.dRun (s : State) (i : Nat) : Bool := decide (s.dsc i 0 0 0 = 1)
def State.dHold (s : State) (i : Nat) : Bool := decide (s.dsc i 0 2 2 = 1)
def State.dFf (s : State) (i : Nat) : Bool := decide (s.dsc i 0 3 3 = 1)
def State.dPlaus (s : State) (i : Nat) : Bool := decide (s.dsc i 0 4 4 = 1)
def State.dDither (s : State) (i : Nat) : Bool := decide (s.dsc i 0 5 5 = 1)
def State.dTrim (s : State) (i : Nat) : Bool := decide (s.dsc i 0 6 6 = 1)
def State.dTrig (s : State) (i : Nat) : Bool := decide (s.dsc i 0 7 7 = 1)

/-- Kinds of slot (R383). -/
inductive SlotKind where
  | ring | mzi | comb | free
deriving DecidableEq, Repr

def slotKind (i : Nat) : SlotKind :=
  if i < 648 then .ring else if i < 1620 then .mzi else if i < 1628 then .comb else .free

/-- The transmit ring of an MZI slot, and the comb of a comb slot. -/
def mziRing (i : Nat) : Nat := (i - 648) / 3
def slotComb (i : Nat) : Nat := (i - 1620) / 4

/-- A line power slot, which keeps separate state for each of its 16 lines (R418), and where it keeps that of line k. -/
def isLinePower (i : Nat) : Bool := decide (i = 1622) || decide (i = 1626)
def lineKey (i k : Nat) : Nat := i + 2048 * (k + 1)
def slotKeys (i : Nat) : List Nat := if isLinePower i then i :: (List.range 16).map (lineKey i) else [i]

/-- Does a slot run (R402, R417, R418)? -/
def State.slotRuns (s : State) (i : Nat) : Bool :=
  s.dRun i && s.on MILLRACE_B && (match slotKind i with
    | .ring => (s.ringLine i).isSome
    | .mzi => (s.ringLine (mziRing i)).isSome
    | .comb => s.combArmed (slotComb i)
    | .free => true)

/-- Rounds to nearest, ties to even. -/
def rneDiv (n : Int) (d : Nat) : Int :=
  let q := n / Int.ofNat d
  let r := n % Int.ofNat d
  if 2 * r < Int.ofNat d then q else if Int.ofNat d < 2 * r then q + 1 else if q % 2 = 0 then q else q + 1

/-- Clamp to a range. -/
def clampI (lo hi v : Int) : Int := if v < lo then lo else if hi < v then hi else v

/-! ### State memory -/

def State.slot (s : State) (i : Nat) : Slot := zget s.mill.slots i
def State.setSlot (s : State) (i : Nat) (x : Slot) : State := { s with mill.slots := zset s.mill.slots i x }
def State.modSlot (s : State) (i : Nat) (f : Slot → Slot) : State := s.setSlot i (f (s.slot i))

/-- Change a slot, each line of a line power slot with it. -/
def State.modLines (s : State) (i : Nat) (f : Slot → Slot) : State := (slotKeys i).foldl (fun s k => s.modSlot k f) s

/-- Slot states (R403). -/
def slIDLE : Nat := 0
def slSETTLE : Nat := 1
def slACQUIRE : Nat := 2
def slLOCKED : Nat := 3
def slHELD : Nat := 4
def slGAP : Nat := 5
def slFROZEN : Nat := 6
def slCAL : Nat := 7

/-- P_pred of a ring slot for a line at the port's temperature (R404), rounded. -/
def State.predFor (s : State) (i line : Nat) : Int :=
  let t := zget s.mill.portT (ringPort i)
  let v := 16 * (Int.ofNat (s.dsc i 0x38 15 0) - Int.ofNat (s.dsc i 0x38 31 16) * (Int.ofNat line - Int.ofNat (homeLine (ringLane i))))
    - Int.ofNat (s.dsc i 0x3C 23 8) * (Int.ofNat t - 16 * Int.ofNat (s.dsc i 0x3C 7 0))
  rneDiv v 16

/-- Output limits (R394): a ring's upper limit is also the engine's heater limit. -/
def State.outLo (s : State) (i : Nat) : Int := Int.ofNat (s.dsc i 0x0C 15 0)
def State.heatLim (s : State) (i : Nat) : Nat := 200 * min 320 (s.get (ENGINE_B (portEngine (ringPort i))) ENGINE.HEATER_LIMIT_LIMIT)
def State.outHi (s : State) (i : Nat) : Int :=
  let m := s.dsc i 0x0C 31 16
  Int.ofNat (if i < 648 then min m (s.heatLim i) else m)

/-- The filtered powers of the west and east dies of a ring's engine (R387, R414). -/
def State.filtW (s : State) (i : Nat) : Int := zget s.mill.filt (2 * portEngine (ringPort i))
def State.filtE (s : State) (i : Nat) : Int := zget s.mill.filt (2 * portEngine (ringPort i) + 1)

/-- A slot's state with the histories of a fresh acquisition. -/
def Slot.cleared (x : Slot) : Slot :=
  { x with es := [], ys := [], y := 0, inRun := 0, outRun := 0, devRun := 0, missRun := 0, liveRun := 0, hist := [],
           odd := false, trimN := 0, sum := 0, sumEven := 0, evenN := 0, mPrev := none, resettle := false }

/-- The loop closes on fresh histories. -/
def Slot.closed (x : Slot) : Slot := { x.cleared with st := slACQUIRE }

/-- A ring slot enters SETTLE from a start point (R404, R406). -/
def State.settleFrom (s : State) (i : Nat) (p : Int) : State :=
  let x := (s.slot i).cleared
  s.setSlot i { x with st := slSETTLE, base := 256 * p, pred := p, refW := s.filtW i, refE := s.filtE i, ff := 0,
                       code := (clampI (s.outLo i) (s.outHi i) p).toNat }

/-- A ring slot re-acquires: SETTLE from its planned line's start point. -/
def State.slotSettle (s : State) (i : Nat) : State :=
  match s.ringLine i with
  | some k => s.settleFrom i (s.predFor i k)
  | none => s

/-- A slot other than a ring's closes its loop. -/
def State.slotAcquire (s : State) (i : Nat) : State :=
  s.modLines i Slot.closed

/-- A slot stops: no drive. -/
def State.slotIdle (s : State) (i : Nat) : State := s.modLines i fun x => { x.cleared with st := slIDLE, code := 0 }

/-- A slot re-enters SETTLE at its next frame (R407). -/
def State.slotResettle (s : State) (i : Nat) : State :=
  if s.slotRuns i then s.modSlot i fun x => { x with resettle := true } else s

/-- Start or stop a slot as its conditions now say. -/
def State.slotRefresh (s : State) (i : Nat) : State :=
  let x := s.slot i
  if s.slotRuns i && !x.dead then
    (if x.st = slIDLE then (if i < 648 then s.slotSettle i else s.slotAcquire i) else s)
  else if x.st = slIDLE then s else s.slotIdle i

/-- The slots that the rings and stages of a port use. -/
def portSlots (p : Nat) : List Nat :=
  (List.range 9).flatMap fun l => [txRing p l, rxRing p l] ++ (List.range 3).map fun k => 648 + 3 * txRing p l + k

/-- Refresh many slots. -/
def State.slotsRefresh (s : State) (l : List Nat) : State := l.foldl State.slotRefresh s

/-! ### Trace channels (R419) -/

/-- Freeze a channel. -/
def State.traceStop (s : State) (c : Nat) : State :=
  let s := { s with mill.freeze := zset s.mill.freeze c none }
  let s := s.put MILLRACE_B (MILLRACE.TRACE_STAT_FROZEN.at c 8) 1
  (s.put MILLRACE_B ⟨0x0D0, 16 + c, 16 + c⟩ 1).raise MILLRACE_B 5

/-- A flag that a channel freezes on starts its count of samples; without samples to come the channel stops at once. -/
def State.traceFlag (s : State) (i code : Nat) : State :=
  (List.range 16).foldl (fun s c =>
    let a := MILLRACE_B
    let f := s.get a (MILLRACE.TRACE_SEL_FREEZE_ON.at c 8)
    if s.get a (MILLRACE.TRACE_SEL_NODE.at c 8) < 10 ∧ s.get a (MILLRACE.TRACE_SEL_SOURCE.at c 8) = i ∧ (f = code ∨ f = 9)
        ∧ zget s.mill.freeze c = none ∧ s.get a (MILLRACE.TRACE_STAT_FROZEN.at c 8) = 0 then
      let n := s.get a (MILLRACE.TRACE_SEL_POST.at c 8)
      if n = 0 then s.traceStop c else { s with mill.freeze := zset s.mill.freeze c (some (16 * n)) }
    else s) s

/-- One sample of channel c: the value saturates to 24 bits, with the frame count. -/
def State.tracePut (s : State) (c : Nat) (v : Int) (n : Nat) : State :=
  let a := MILLRACE_B
  if s.get a (MILLRACE.TRACE_STAT_FROZEN.at c 8) = 1 then s
  else
    let k := s.get a (MILLRACE.TRACE_STAT_NEXT.at c 8)
    let w := twos 24 (clampI (-8388608) 8388607 v) + n % 256 * 2 ^ 24
    let s := s.wr (TRACE_B + 0x4000 * c + 4 * k) (BitVec.ofNat 32 w)
    let s := s.put a (MILLRACE.TRACE_STAT_NEXT.at c 8) (k + 1)
    let s := if 4096 ≤ s.get a (MILLRACE.TRACE_STAT_SAMPLES.at c 8) then s.put a (MILLRACE.TRACE_STAT_WRAPPED.at c 8) 1 else s
    let s := s.inc a (MILLRACE.TRACE_STAT_SAMPLES.at c 8)
    match zget s.mill.freeze c with
    | some (r + 1) =>
      if r = 0 then s.traceStop c else { s with mill.freeze := zset s.mill.freeze c (some r) }
    | _ => s

/-- Sample every channel whose source is `src` with the nodes of a table. -/
def State.traceAll (s : State) (src n : Nat) (nodes : List (Nat × Int)) : State :=
  (List.range 16).foldl (fun s c =>
    if s.get MILLRACE_B (MILLRACE.TRACE_SEL_SOURCE.at c 8) = src then
      match nodes.find? fun x => x.1 = s.get MILLRACE_B (MILLRACE.TRACE_SEL_NODE.at c 8) with
      | some x => s.tracePut c x.2 n
      | none => s
    else s) s

/-- A write of TRACE_CTRL.ARM restarts channels at index 0. -/
def State.traceArm (s : State) (v : Nat) : State :=
  (List.range 16).foldl (fun s c =>
    if v.testBit c then
      let s := s.wr (MILLRACE_B + 0x104 + 8 * c) 0
      { s.put MILLRACE_B ⟨0x0D0, 16 + c, 16 + c⟩ 0 with mill.freeze := zset s.mill.freeze c none }
    else s) s

/-! ### Flags (R395, R424) -/

def fgSAT_NUM : Nat := 1
def fgSAT_DEN : Nat := 2
def fgSAT_OUT : Nat := 3
def fgDEADLINE_MISS : Nat := 4
def fgFEEDBACK_LOST : Nat := 5
def fgSUSPECT_MISLOCK : Nat := 6
def fgUNLOCK : Nat := 7
def fgHW : Nat := 8

/-- Set a sticky flag of slot i: the first setting pushes a record, sets ATTN and raises FLAG. -/
def State.slotFlag (s : State) (i code : Nat) : State :=
  if (s.slot i).flags.testBit (code - 1) then s
  else
    let s := s.modSlot i fun x => { x with flags := x.flags ||| 2 ^ (code - 1) }
    let s := s.put MILLRACE_B ⟨0x180 + i / 32 * 4, i % 32, i % 32⟩ 1
    let s := if s.mill.flagQ.length < 64
      then { s with mill.flagQ := s.mill.flagQ ++ [(i, code)] }.raise MILLRACE_B 0
      else { s with mill.flagLost := true }
    s.traceFlag i code

/-- A write of SLOT_STAT clears the flags written 1; ATTN follows. -/
def State.slotFlagClear (s : State) (i v : Nat) : State :=
  let s := s.modSlot i fun x => { x with flags := x.flags &&& (255 ^^^ (v / 256 % 256)) }
  if (s.slot i).flags = 0 then s.put MILLRACE_B ⟨0x180 + i / 32 * 4, i % 32, i % 32⟩ 0 else s

/-- A read of FLAG_FIFO (R423). -/
def State.flagRead (s : State) : Nat × State :=
  let o := if s.mill.flagLost then 2 ^ 30 else 0
  let s := { s with mill.flagLost := false }
  match s.mill.flagQ with
  | [] => (o, s)
  | x :: q => (x.1 + x.2 * 2 ^ 12 + o + 2 ^ 31, { s with mill.flagQ := q })

/-! ### Words of the descriptor table (R387) -/

/-- The bits of a descriptor word that exist (R387). -/
def descMask (off : Nat) : Nat :=
  match off with
  | 0x04 => 0x0FFFF7FF
  | 0x08 => 0x1FFFFFFF
  | 0x10 => 0xFFFFFF | 0x18 => 0xFFFFFF | 0x28 => 0xFFFFFF | 0x3C => 0xFFFFFF
  | 0x1C => 0x3FFFF | 0x20 => 0x3FFFF | 0x24 => 0x3FFFF | 0x2C => 0x3FFFF | 0x30 => 0x3FFFF
  | _ => 0xFFFFFFFF

/-- A word of the table at byte offset o without its reserved bits, which read as zero whoever writes it (R1). -/
def descBits (o : Nat) (v : Word) : Word := v &&& BitVec.ofNat 32 (descMask (o % 64))

/-- The 32-byte word of the descriptor table that holds byte offset o is used: a single symbol in error is corrected,
written back and counted (R175). More than one is for CRIT_ECC to report (R176; log entry 294). -/
def State.descUse (s : State) (o : Nat) : State :=
  let e := zget s.mill.descUpset (o / 32)
  if ((List.range 35).filter fun i => e / 256 ^ i % 256 ≠ 0).length = 1 then
    { s.inc MILLRACE_B MILLRACE.DESC_CORR_COUNT with mill.descUpset := zset s.mill.descUpset (o / 32) 0 }
  else s

end Sys2Proof.Machine
end

