-- ==== Sys2Proof/Machine/Time.lean ====
section
/-!
DEFINITION. The time base (08_time.md): the tick of the local clock and the uptime, trims and steps, the servo, PPS,
PTP on the management ports and the capture units. Instants and offsets are in units of 2^-32 ns.
-/
namespace Sys2Proof.Machine

/-! ### Clock and increment (R271, R275) -/

/-- One nanosecond, and the modulus of the clock. -/
def nsU : Nat := 2 ^ 32
def clockMod : Nat := 2 ^ 96

/-- The limits of INC (R275). -/
def incLo : Nat := 2 * nsU + 0x7FAE147B
def incHi : Nat := 2 * nsU + 0x8051EB85

/-- The increment. -/
def State.inc400 (s : State) : Nat := s.get TIME_B TIME.INC_NS * nsU + s.get TIME_B TIME.INC_FRAC

/-- Store an increment. -/
def State.setInc (s : State) (v : Nat) : State :=
  (s.put TIME_B TIME.INC_NS (v / nsU)).put TIME_B TIME.INC_FRAC (v % nsU)

/-- A write of INC_NS with the low half (R275): clamped to 2.5 ns ± 500 ppm with event INC_CLAMP. The event is raised
whatever ENABLE is (R293). -/
def State.incWrite (s : State) (ns frac : Nat) : State :=
  let v := ns % 256 * nsU + frac % nsU
  if v < incLo then (s.setInc incLo).raiseAlways TIME_B 6
  else if incHi < v then (s.setInc incHi).raiseAlways TIME_B 6
  else s.setInc v

/-- The signed step in the STEP registers, units of 2^-32 ns (R276). -/
def State.stepVal (s : State) : Int :=
  signed 64 (s.get64 TIME_B TIME.STEP_LO) * Int.ofNat nsU + Int.ofNat (s.get TIME_B TIME.STEP_FRAC)

/-- Add to a 64-bit counter; nothing is added while a count is 0. -/
def State.count64 (s : State) (a : Nat) (f : Fld) (n : Nat) : State := if n = 0 then s else s.add64 a f n

/-- Tiles count tile cycles, four to a time tick of which k are stall cycles (R15, R117, R119): those in RUNNING or
WAITING, those with a wait (in a stall cycle WAIT_KIND is 6), and stall cycles. -/
def State.cycleCounts (s : State) (k : Nat) : State :=
  s.tiles.foldl (fun s g =>
    let b := TILE_B g
    let w := decide (s.tstate g = tsWAITING)
    let s := if w || decide (s.tstate g = tsRUNNING) then s.add64 b TILE.RUN_CYC_LO 4 else s
    (s.count64 b TILE.WAIT_CYC_LO (if w then 4 - k else 0)).count64 b TILE.GOV_CYC_LO k) s

/-- The schedule cycle counters, the same in every die, count the cycles that are no stall cycles (R129); the dies count
stall cycles (R117). -/
def State.schedCounts (s : State) (k : Nat) : State :=
  (List.range 4).foldl (fun s d => if s.diePresent d then
    (s.count64 (MESH_B d) MESH.SCHED_CYC_LO (4 - k)).count64 (DIE_B d) DIE.GOV_CYC_LO k else s) s

/-- Apply a step at this tick (R276, R278): GO clears, STEP is raised and the record is written. -/
def State.stepped (s : State) : State :=
  let before := s.time.clock
  let d := s.stepVal
  let after := ((Int.ofNat (before + s.inc400) + d) % Int.ofNat clockMod).toNat
  let s := { s with time.clock := after }
  let s := (s.put TIME_B TIME.STEP_CTRL_GO 0).raiseAlways TIME_B 4
  let s := if d < 0 then s.raiseAlways TIME_B 5 else s
  let b := before / nsU
  let a := after / nsU
  s.record TIME_B 0x0020 [b % nsU, b / nsU, a % nsU, a / nsU, if d < 0 then 1 else 0]

/-- A write of the STEP registers or of GO while a step is requested records STEP_BUSY (R276, R295). -/
def State.stepBusy (s : State) (path : Nat) : State := s.recErrX TIME_B 16 0x8501 path

/-- A write of STEP_CTRL (R276): 1 to GO schedules the step, 0 has no effect. -/
def State.stepGo (s : State) (v : Word) : State := if v.getLsbD 0 then s.put TIME_B TIME.STEP_CTRL_GO 1 else s

/-! ### The servo's state (R279, R280) -/

/-- The source, 5-7 acting as FREE. -/
def State.timeSrc (s : State) : Nat := if s.get TIME_B TIME.CTRL_SRC ≤ 4 then s.get TIME_B TIME.CTRL_SRC else 0

def svFREE : Nat := 0
def svACQUIRING : Nat := 1
def svLOCKED : Nat := 2
def svHOLDOVER : Nat := 3

/-- The servo's state. -/
def State.servo (s : State) : Nat := s.get TIME_B TIME.STAT_STATE

/-- Set the servo's state, with HOLDOVER and LOCKED (R295). -/
def State.setServo (s : State) (v : Nat) : State :=
  let e := decide (s.servo ≠ v)
  let s := s.put TIME_B TIME.STAT_STATE v
  if e && decide (v = svHOLDOVER) then s.raiseAlways TIME_B 2
  else if e && decide (v = svLOCKED) then s.raiseAlways TIME_B 3 else s

/-- Does the servo run: the page enabled (R293), and the Reeve serving (R280)? -/
def State.servoRuns (s : State) : Bool :=
  s.on TIME_B && !s.reeve.down && decide (s.get UPDATE_B UPDATE.STAT_STATE ≠ 6)

/-- A running servo whose source is lost is in HOLDOVER (R280), INC held at the mean of the last 16 servo values (rounded
down; those there are, when they are fewer: log entry 33). One that was stopped enters it as it resumes. -/
def State.servoHold (s : State) : State :=
  if s.servoRuns = false ∨ s.time.srcLost = false ∨ s.servo = svFREE ∨ s.servo = svHOLDOVER then s else
  let s := { s.setServo svHOLDOVER with time.good := 0 }
  let l := s.time.incs
  if l.isEmpty then s else s.setInc (l.foldl (· + ·) 0 / l.length)

/-- One time tick of 400 MHz (R271, R272, R276): the clock adds INC and a requested step, the uptime 2.5 ns. -/
def State.tick (s : State) : State :=
  let s := s.servoHold
  let k := s.stallCycles
  let s := { s with time.up := s.time.up + 5 }
  let s := if s.bit TIME_B TIME.STEP_CTRL_GO then s.stepped
           else { s with time.clock := (s.time.clock + s.inc400) % clockMod }
  (s.cycleCounts k).schedCounts k

/-! ### Corrections (R282) -/

/-- Picoseconds in units of 2^-32 ns. -/
def psU (n : Nat) : Nat := n * nsU / 1000

/-- Ingress and egress timestamps of port p (36 and 37 are MGMT0 and MGMT1) for the present instant. -/
def State.tsIn (s : State) (p : Nat) : Nat := (s.time.clock + clockMod - psU (s.get TIME_B (TIME.CORR_IN_PS.at p 8))) % clockMod
def State.tsOut (s : State) (p : Nat) : Nat := (s.time.clock + psU (s.get TIME_B (TIME.CORR_OUT_PS.at p 8))) % clockMod

/-- Signed difference of two clock values. -/
def clockDiff (a b : Nat) : Int := signed 96 ((a + clockMod - b % clockMod) % clockMod)

/-! ### The servo (R279, R280) -/

/-- An increment that the servo writes. -/
def State.servoInc (s : State) (v : Nat) : State :=
  { s.setInc v with time.incs := (v :: s.time.incs).take 16 }

/-- A trim: the spec gives no trim law, so the new increment is a free value between the limits (log entry 30). -/
def State.servoTrim (s : State) : State :=
  let (f, s) := s.freeVal
  s.servoInc (incLo + f % (incHi - incLo + 1))

/-- The servo requests a step (R280), through the STEP registers; the path is Reeve core 0 (log entry 31). -/
def State.servoStep (s : State) (d : Int) : State :=
  if s.bit TIME_B TIME.STEP_CTRL_GO then s.stepBusy 3
  else
    let s := s.put TIME_B TIME.STEP_FRAC (d % Int.ofNat nsU).toNat
    let s := s.put64 TIME_B TIME.STEP_LO (twos 64 (d / Int.ofNat nsU))
    s.put TIME_B TIME.STEP_CTRL_GO 1

/-- The offset in ns, toward zero, saturating at ±(2^31 - 1) (R294; log entry 32). -/
def offsetNs (off : Int) : Nat :=
  let m := min (off.natAbs / nsU) (2 ^ 31 - 1)
  if off < 0 then (2 ^ 32 - m) % 2 ^ 32 else m

/-- Is the size of an offset at least n + 1 ns, or above n ns? -/
def beyond (off : Int) (n : Nat) : Bool := decide ((n + 1) * nsU ≤ off.natAbs)
def beyondStrict (off : Int) (n : Nat) : Bool := decide (n * nsU < off.natAbs)

/-- The source is back: HOLDOVER ends (R280), once the servo runs. -/
def State.sourceBack (s : State) : State :=
  let s := { s with time.srcLost := false }
  if s.servo = svHOLDOVER ∧ s.servoRuns = true then { s.setServo svACQUIRING with time.good := 0 } else s

/-- Count consecutive samples below 100 ns (R280). -/
def State.countGood (s : State) (off : Int) : State :=
  { s with time.good := if beyond off 99 then 0 else s.time.good + 1 }

/-- The servo's state after a sample (R280). -/
def State.servoNext (s : State) (off : Int) : State :=
  if decide (s.servo = svLOCKED) && beyondStrict off 1000 then s.setServo svACQUIRING
  else if decide (s.servo = svACQUIRING) && decide (8 ≤ s.time.good) then s.setServo svLOCKED else s

/-- The servo takes an offset sample (R280); a stopped servo takes none, but its source is back. -/
def State.servoSample (s : State) (off : Int) : State :=
  if s.servoRuns = false then s.sourceBack else
  let s := (s.put TIME_B TIME.OFFSET_NS (offsetNs off)).sourceBack
  let s := (s.countGood off).servoNext off
  if beyondStrict off (s.get TIME_B TIME.STEP_THRESH_NS) then
    if s.bit TIME_B TIME.CTRL_NO_BACK && decide (0 < off) then s.servoInc incLo else s.servoStep (-off)
  else s.servoTrim

/-- The selected source is lost (R279, R280): HOLDOVER; of a PTP source the port then takes the next master it hears (R286). -/
def State.sourceLost (s : State) : State :=
  let s := { s with time.srcLost := true }
  (if s.timeSrc = 2 ∨ s.timeSrc = 3 then { s with time.ptpMaster := zset s.time.ptpMaster (s.timeSrc - 2) none } else s).servoHold

/-- A write of TIME.CTRL (R279): a write to SRC returns the servo to ACQUIRING, or to FREE. -/
def State.srcWrite (s : State) (v : Word) : State :=
  let s := s.wr (TIME_B + 0x40) (v &&& 0x10007#32)
  let s := { s with time.good := 0, time.incs := [], time.srcLost := false, time.ztSync := none, time.ptpMaster := [], time.ptpSync := [] }
  s.setServo (if s.timeSrc = 0 then svFREE else svACQUIRING)

/-! ### Capture units (R281, R287, R288) -/

/-- Does capture unit c take an edge of a kind? -/
def State.capTakes (s : State) (c : Nat) (rising : Bool) : Bool :=
  match s.get TIME_B (TIME.CAP_CTRL_EDGE.at c 0x20) with
  | 1 => rising
  | 2 => !rising
  | 3 => true
  | _ => false

/-- The stamp of an edge seen at the present tick, or half a tick later (R287: 800 MHz samples). -/
def State.stamp (s : State) (half : Nat) : Nat :=
  (s.time.clock + (if half = 0 then 0 else s.inc400 / 2) + clockMod - psU (s.get TIME_B TIME.PIN_DELAY_IN)) % clockMod

/-- Enter a stamp into capture FIFO c, or lose it (R287). -/
def State.capture (s : State) (c half : Nat) (rising merged : Bool) : State :=
  let q := zget s.time.caps c
  if 16 ≤ q.length then s.put TIME_B (TIME.CAP_STAT_FIFO_OVF.at c 0x20) 1
  else
    let s := { s with time.caps := zset s.time.caps c (q ++ [Stamp.mk (s.stamp half) rising merged]) }
    (s.put TIME_B (TIME.CAP_STAT_DEPTH.at c 0x20) (q.length + 1)).raiseAlways TIME_B 7

/-- A read of CAP_TS_LO_c (R294): the oldest stamp leaves the FIFO, HI and INFO are loaded; an empty FIFO leaves
VALID 0. -/
def State.capRead (s : State) (c : Nat) : Nat × State :=
  let o := 0x20 * c
  match zget s.time.caps c with
  | [] => (0, (s.wr (TIME_B + 0x28C + o) 0).wr (TIME_B + 0x290 + o) 0)
  | t :: q =>
    let ns := t.clock / nsU
    let s := { s with time.caps := zset s.time.caps c q }
    let s := s.put TIME_B (TIME.CAP_STAT_DEPTH.at c 0x20) q.length
    let s := s.put TIME_B (TIME.CAP_TS_HI.at c 0x20) (ns / nsU)
    let info := t.clock % nsU / 2 ^ 16 + (if t.rising then 2 ^ 16 else 0) + (if t.overrun then 2 ^ 17 else 0) + 2 ^ 31
    (ns % nsU, s.wr (TIME_B + 0x290 + o) (BitVec.ofNat 32 info))

/-- An edge on PPS_IN of the kind that unit 0 takes (R281): accepted or ignored. -/
def State.ppsPulse (s : State) (rising merged : Bool) (half : Nat) : State :=
  if s.capTakes 0 rising = false then s else
  let at' := 2 * s.time.up + (if half = 0 then 0 else 5)
  let ok := match s.time.lastPps with
    | some t => decide (t + 3600000000 ≤ at')
    | none => true
  if ok then
    let t := s.stamp half / nsU
    let fr := s.stamp half % nsU
    let s := { s.capture 0 half rising merged with time.lastPps := some at' }
    let s := s.put TIME_B TIME.STAT_PPS_OK 1
    let s := if s.time.ppsLost then { s.raiseAlways TIME_B 1 with time.ppsLost := false } else s
    if s.timeSrc = 1 then
      s.servoSample ((Int.ofNat ((t + 500000000) % 1000000000) - 500000000) * Int.ofNat nsU + Int.ofNat fr)
    else s
  else s.inc TIME_B TIME.PPS_IGNORED_COUNT

/-- PPS is lost after 1.5 s without an accepted pulse (R281); the command vouches for the time (log entry 36). -/
def State.ppsGone (s : State) : State :=
  if s.time.ppsLost then s
  else
    let s := { s with time.ppsLost := true }
    let s := ((s.put TIME_B TIME.STAT_PPS_OK 0).inc TIME_B TIME.PPS_LOSSES_COUNT).raiseAlways TIME_B 0
    if s.timeSrc = 1 then s.sourceLost else s

/-! ### Frames on the management ports (R468, R474) -/

/-- Is a port's link up, so that frames pass? -/
def State.mgmtUp (s : State) (n : Nat) : Bool :=
  decide (n < 2) && s.on (MGMT_B n) && s.bit (MGMT_B n) MGMT.STAT_LINK_UP

/-- Send a frame from a port. -/
def State.mgmtSend (s : State) (n : Nat) (k : OutKind) (l : List Nat) : State :=
  (s.inc (MGMT_B n) MGMT.TX_FRAMES).emit k (n :: l)

/-- A frame arrives whole at a port whose link is up: it is counted, and `f` is what it does. -/
def State.mgmtFrame (s : State) (n : Nat) (f : State → State) : State :=
  if s.mgmtUp n then f (s.inc (MGMT_B n) MGMT.RX_FRAMES) else s

/-! ### PTP on the management ports (R286) -/

/-- The role of management port n: 0 disabled, 1 slave, 2 master. -/
def State.ptpRole (s : State) (n : Nat) : Nat :=
  if 2 ≤ n ∨ s.servoRuns = false then 0 else s.get TIME_B TIME.PTP_CTRL / 4 ^ n % 4

/-- The one's complement sum of 16-bit words, by which an insertion changes the UDP checksum of its frame (R283). -/
def onesSum (l : List Nat) : Nat := l.foldl (fun a x => (a + x) % 65536 + (a + x) / 65536) 0

/-- The 16-bit words of a number of n words, the first the most significant. -/
def words16 (n v : Nat) : List Nat := (List.range n).map fun i => v / 65536 ^ (n - 1 - i) % 65536

/-- A PTP frame leaves port n: message type, domain, sequence or identity; the instant as seconds and nanoseconds, its fraction
as correctionField in units of 2^-16 ns, and the sum by which the inserted words change the UDP checksum (R283). -/
def State.ptpOut (s : State) (n ty id t : Nat) : State :=
  let sec := t / nsU / 1000000000
  let ns := t / nsU % 1000000000
  let corr := t % nsU / 65536
  if s.mgmtUp n then
    s.mgmtSend n .ptpFrame [ty, s.get TIME_B TIME.PTP_CTRL_DOMAIN, id, sec, ns, corr,
      onesSum (words16 3 sec ++ words16 2 ns ++ words16 4 corr)]
  else s

/-- A slave port takes a Sync with its origin timestamp (that of its Follow_Up when it is two-step), and sends a
Delay_Req (R286; log entry 34: at once). -/
def State.ptpSyncIn (s : State) (n dom master t1 : Nat) : State :=
  if s.ptpRole n = 1 ∧ dom = s.get TIME_B TIME.PTP_CTRL_DOMAIN
      ∧ (zget s.time.ptpMaster n = none ∨ zget s.time.ptpMaster n = some master) then
    let t3 := s.tsOut (36 + n)
    let s := { s with time.ptpMaster := zset s.time.ptpMaster n (some master),
                      time.ptpSync := zset s.time.ptpSync n (some (t1 % clockMod, s.tsIn (36 + n), t3)) }
    (if s.timeSrc = 2 + n then s.sourceBack else s).ptpOut n 1 master t3
  else s

/-- A slave port takes a Delay_Resp with t4: one sample for a Sync and Delay_Resp pair (R279, R286). -/
def State.ptpRespIn (s : State) (n dom master t4 : Nat) : State :=
  if s.ptpRole n = 1 ∧ dom = s.get TIME_B TIME.PTP_CTRL_DOMAIN ∧ zget s.time.ptpMaster n = some master then
    match zget s.time.ptpSync n with
    | some (t1, t2, t3) =>
      let s := { s with time.ptpSync := zset s.time.ptpSync n none }
      if s.timeSrc = 2 + n then s.servoSample ((clockDiff t2 t1 - clockDiff (t4 % clockMod) t3) / 2) else s
    | none => s
  else s

end Sys2Proof.Machine
end

