-- ==== Sys2Proof/Machine/Link.lean ====
section
/-!
DEFINITION. The transmitting side of a Zynen lane (R313-R317, R325): lane registers, the code RS(240,224), the scrambler,
link headers and bodies, codewords with their control words, burst preambles, and frames that wait at their source.
-/
namespace Sys2Proof.Machine

/-! ### Lane registers (R321, R340) -/

def laneF (f : Fld) (l : Nat) : Fld := f.at l 0x20
def State.txSt (s : State) (p l : Nat) : Nat := s.get (PORT_B p) (laneF PORT.LSTAT_TX_STATE l)
def State.rxSt (s : State) (p l : Nat) : Nat := s.get (PORT_B p) (laneF PORT.LSTAT_RX_STATE l)

def lnOFF : Nat := 0
def lnPARKED : Nat := 1
def lnACQUIRING : Nat := 2
def lnCHECKING : Nat := 3
def lnIN_SERVICE : Nat := 4
def lnSTANDBY : Nat := 5
def lnRELOCK : Nat := 6
def lnFAILED : Nat := 7

/-- Is a lane state in service (IN_SERVICE or STANDBY)? Is a transmit lane in it launched, and so carries codewords? -/
def serving (st : Nat) : Bool := decide (st = lnIN_SERVICE) || decide (st = lnSTANDBY)
def lit (st : Nat) : Bool := decide (st = lnCHECKING) || serving st

/-- The tree output in force (R300): 3 is park. Switching to another output makes a burst preamble due (R325). -/
def State.txOut (s : State) (p l : Nat) : Nat := s.get (PORT_B p) (laneF PORT.LCFG_TX_OUT l)
def State.setOut (s : State) (p l o : Nat) : State :=
  let due := decide (o < 3) && decide (s.txOut p l ≠ o)
  { s.put (PORT_B p) (laneF PORT.LCFG_TX_OUT l) o with opt.burst := zset s.opt.burst (9 * p + l) due }

/-- Lanes that carry frames of an outbound path: in service, with RX_OK (R320); the spare lane while it stands in. -/
def State.lanesUp (s : State) (e : PathEnt) : List Nat :=
  ((List.range 9).filter e.has).filter fun l =>
    decide (s.txSt e.port l = lnIN_SERVICE) && s.bit (PORT_B e.port) (laneF PORT.LSTAT_RX_OK_FAR l)

/-- PATH of the link header on a transmit lane (R370, R581). -/
def State.linkPath (s : State) (p l : Nat) : Nat :=
  let b := s.plan
  let i := txRing p l
  if b.mode p = mdDISCOVER then 0xFFFE
  else if b.steered i then b.steerPath (b.laneSteer i) (s.txOut p l) else b.lanePath i

/-! ### GF(2^10) and the code RS(240,224) (R313) -/

/-- Product modulo x^10 + x^3 + 1, by n doublings. -/
def cwMulN : Nat → Nat → Nat → Nat
  | 0, _, _ => 0
  | n + 1, a, b =>
    (if b % 2 = 1 then a else 0) ^^^ cwMulN n (if a * 2 < 1024 then a * 2 else (a * 2) ^^^ 0x409) (b / 2)
def cwMul (a b : Nat) : Nat := cwMulN 10 a b

def cwPowN : Nat → Nat → Nat → Nat
  | 0, _, _ => 1
  | n + 1, a, k => cwMul (if k % 2 = 1 then a else 1) (cwPowN n (cwMul a a) (k / 2))

/-- Powers of alpha = 2, whose order is 1,023, and the inverse a^1022. -/
def cwAlpha (k : Nat) : Nat := cwPowN 10 2 (k % 1023)
def cwInv (a : Nat) : Nat := cwPowN 10 a 1022

/-- The generator polynomial: the product of x + alpha^i for i = 0-15, highest power first. -/
def cwGen : List Nat :=
  (List.range 16).foldl (fun g i => List.zipWith (· ^^^ ·) (g ++ [0]) (0 :: g.map (cwMul (cwAlpha i)))) [1]

/-- The remainder of the data polynomial times x^16 divided by the generator: the check symbols in their order. -/
def cwCheck (d : List Nat) : List Nat :=
  d.foldl (fun r x =>
    let q := x ^^^ r.headD 0
    List.zipWith (fun a g => a ^^^ cwMul q g) (r.drop 1 ++ [0]) (cwGen.drop 1)) (List.replicate 16 0)

/-! ### Scrambler and words (R313-R315) -/

/-- n bits of the PRBS31 sequence, least significant first, with the generator's last 31 bits in st, newest first. -/
def prbs31 : Nat → Nat → Nat
  | 0, _ => 0
  | n + 1, st =>
    let b := (st / 2 ^ 30 + st / 2 ^ 27) % 2
    b + 2 * prbs31 n ((st * 2 + b) % 2 ^ 31)

/-- The scrambler's sequence over a data section: it starts at bit 16. -/
def cwMask : Nat := prbs31 2224 (2 ^ 31 - 1) * 2 ^ 16

/-- Word k of the data, 0 the control word. -/
def cwWord (d k : Nat) : Nat := d / 2 ^ (64 * k) % 2 ^ 64

/-- Bits lo to hi of a word. -/
def bitsOf (w lo hi : Nat) : Nat := w / 2 ^ lo % 2 ^ (hi + 1 - lo)

/-- SYNC (R315). -/
def cwSYNC : Nat := 0x4E9B

/-- The control word (R315): CW_SEQ, FRAME_OFF, PATH, VC, CREDITS, RX_OK. -/
def cwControl (seq off path vc credits rxok : Nat) : Nat :=
  cwSYNC + seq % 16 * 2 ^ 16 + off % 64 * 2 ^ 20 + path % 2 ^ 16 * 2 ^ 26 + vc % 2 * 2 ^ 42 + credits % 4096 * 2 ^ 43
    + rxok % 512 * 2 ^ 55

/-- The 240 symbols of a codeword with control word c and the words ws of the frame stream, idle words after them. -/
def cwEncode (c : Nat) (ws : List Nat) : List Nat :=
  let d := ((List.range 34).foldl (fun acc k => acc + ws.getD k 0 % 2 ^ 64 * 2 ^ (64 * (k + 1))) c) ^^^ cwMask
  let x := (List.range 224).map fun i => d / 2 ^ (10 * i) % 1024
  x ++ cwCheck x

/-! ### The burst preamble (R325) -/

/-- n levels of the PRBS13Q sequence with the generator's last 13 bits in st, newest first: two bits a symbol in the Gray
code of R310. PRESUMED (log entry 300): the generator of PRBS13 is x^13 + x^12 + x^2 + x + 1, as IEEE 802.3 has it. -/
def prbs13q : Nat → Nat → List Nat
  | 0, _ => []
  | n + 1, st =>
    let bit (t : Nat) : Nat := (t + t / 2 + t / 2 ^ 11 + t / 2 ^ 12) % 2
    let t := (st * 2 + bit st) % 2 ^ 13
    let u := (t * 2 + bit t) % 2 ^ 13
    [0, 1, 3, 2].getD (t % 2 + 2 * (u % 2)) 0 :: prbs13q n u

/-- The 2,572 symbols of the preamble. -/
def burstLevels : List Nat := prbs13q 2548 (2 ^ 13 - 1) ++ (List.replicate 12 [3, 0]).flatten

/-! ### Frames as words (R316, R228, R229, R284, R370, R437, R539, R581) -/

/-- Fields of the given sizes in bytes. -/
def sized (ns vs : List Nat) : List Byte := (ns.zip vs).flatMap fun e => leBytes e.1 e.2
def zeros (n : Nat) : List Byte := List.replicate n 0

/-- The body of a bucket-chain frame from byte 16 on (R581). -/
def chainBody (ty : Nat) (v : List Nat) : List Byte :=
  match ty with
  | 0x20 => sized [4, 4, 8] v
  | 0x21 => sized [4, 2] v ++ zeros 10
  | 0x22 => sized [4, 2] v ++ zeros 10 ++ (v.drop 2).map (BitVec.ofNat 8)
  | _ => sized [1] v ++ zeros 15

/-- The body of a frame, from the numbers that its sender gives. -/
def linkBody (k : OutKind) (v : List Nat) : List Byte :=
  match k with
  | .frame => sized [1, 1, 2, 4, 4, 1, 1, 1, 1, 1, 1, 1] (v.drop 3) ++ zeros 1
      ++ sized [2, 2, 4, 2, 2, 8, 4, 2, 2] (v.drop 15) ++ (v.drop 24).map (BitVec.ofNat 8)
  | .control => sized [1, 1, 2, 4, 4, 1, 1, 2] v
  | .ztFrame => sized [1, 1, 2, 4, 4, 1, 1, 1, 1, 8, 4, 2] v ++ zeros 2
  | .switchNote => sized [1, 1] [0x50, 0] ++ sized [2, 4, 4, 4, 8, 1, 1, 1] (v.drop 1) ++ zeros 1 ++ sized [4] (v.drop 9)
  | .beacon => sized [1, 1, 2, 8, 1, 1, 1, 1, 4, 4, 4, 1, 1, 1]
      ([0x01, v.getD 3 0, v.getD 2 0, v.getD 4 0, v.getD 0 0, v.getD 1 0] ++ v.drop 5) ++ zeros 1
  | .calNote => sized [1, 1, 2, 4, 4] v ++ zeros 4
  | .chain => sized [1, 1, 2, 8, 4] [v.getD 0 0, 0, v.getD 2 0, v.getD 3 0, v.getD 4 0] ++ chainBody (v.getD 0 0) (v.drop 5)
  | _ => []

/-- The virtual channel of a frame. -/
def TxFrame.vc (f : TxFrame) : Nat :=
  match f.kind with
  | .frame => f.args.getD 2 0 % 2
  | .beacon | .chain => 3
  | _ => 2

/-- The link header. -/
def linkHeader (vc len path slice : Nat) : Nat := vc % 4 + len % 2048 * 2 ^ 4 + path % 2 ^ 16 * 2 ^ 16 + slice % 4096 * 2 ^ 32

/-- Bytes as words, zeros to the end of the last. -/
def toWords (bs : List Byte) : List Nat := (List.range ((bs.length + 7) / 8)).map fun i => ofLe ((bs.drop (8 * i)).take 8)

/-- The words of a frame: link header, body, CRC, zeros to the next word. -/
def TxFrame.words (f : TxFrame) : List Nat :=
  let body := linkBody f.kind f.args
  let bs := leBytes 8 (linkHeader f.vc body.length f.path f.slice) ++ body
  toWords (bs ++ leBytes 4 (crc32c bs))

/-! ### Codewords (R313-R315, R319, R325) -/

/-- Lane l of port p sends a codeword with these words of its frame stream, a frame header at word `off`, and credits and
RX_OK of a path (0xFFFF: none), after the burst preamble that is due. Out go the preamble as port, lane, output and levels, and
the codeword as port, lane and symbols. -/
def State.sendCodeword (s : State) (p l off : Nat) (ws : List Nat) (path vc credits rxok : Nat) : State :=
  let k := 9 * p + l
  let s := if zget s.opt.burst k then s.emit .burst ([p, l, s.txOut p l] ++ burstLevels) else s
  let n := zget s.opt.cwSeq k
  { s with opt.burst := zset s.opt.burst k false, opt.cwSeq := zset s.opt.cwSeq k ((n + 1) % 16) }.emit .codeword
    ([p, l] ++ cwEncode (cwControl n off path vc credits rxok) ws)

/-- The codewords that carry words from word 1 of the first one on. -/
def State.sendWords (s : State) (p l : Nat) (ws : List Nat) : State :=
  (List.range ((ws.length + 33) / 34)).foldl (fun (s : State) i =>
    s.sendCodeword p l (if i = 0 then 1 else 0) ((ws.drop (34 * i)).take 34) 0xFFFF 0 0 0) s

/-- n codewords of idle words on a lane. -/
def State.sendIdle (s : State) (p l n : Nat) : State :=
  (List.range n).foldl (fun (s : State) _ => s.sendCodeword p l 0 [] 0xFFFF 0 0 0) s

/-! ### Frames leave, or wait at their source (R317, R339, R340, R365) -/

/-- Does a lane's output lead to a path (R365)? A discovery lane keeps to its own fibre (R373). -/
def State.leadsTo (s : State) (p l path : Nat) : Bool :=
  let i := txRing p l
  decide (s.plan.mode p = mdDISCOVER) || !s.plan.steered i || decide (s.plan.steerPath (s.plan.laneSteer i) (s.txOut p l) = path)

/-- Does a transmit lane take frames: in service, with the RX_OK bit it last received at 1 (R320)? Frames of VC3 go on every lane
that is launched (R370, R373). -/
def State.takesFrames (s : State) (p l vc : Nat) : Bool :=
  if vc = 3 then lit (s.txSt p l)
  else decide (s.txSt p l = lnIN_SERVICE) && s.bit (PORT_B p) (laneF PORT.LSTAT_RX_OK_FAR l)

/-- May a frame start on its lane: no quiesce of the port (R339), a lane that takes it (R320), and a steered lane's output leads to
its path (R365)? -/
def State.mayStart (s : State) (f : TxFrame) : Bool :=
  !s.bit (PORT_B f.port) hCTRL_QUIESCE && s.takesFrames f.port f.lane f.vc && s.leadsTo f.port f.lane f.path

/-- Is a frame a SYNC or a DREQ, into which its egress timestamp is inserted (R283, R284)? -/
def TxFrame.stamped (f : TxFrame) : Bool := decide (f.kind = .ztFrame) && decide (f.args.headD 0 ≠ 0x42)

/-- The frame with the egress timestamp of this instant, its start-of-frame (R282, R283). -/
def State.stampOut (s : State) (f : TxFrame) : TxFrame :=
  if f.stamped then { f with args := (f.args.set 9 (s.tsOut f.port / nsU)).set 10 (s.tsOut f.port % nsU) } else f

/-- The slave's t3 is the timestamp with which its DREQ departs (R285). -/
def State.noteT3 (s : State) (f : TxFrame) : State :=
  match s.time.ztSync with
  | some (seq, t1, t2, some _) =>
    if f.stamped ∧ f.args.headD 0 = 0x41 ∧ f.args.getD 4 0 = seq then { s with time.ztSync := some (seq, t1, t2, some (s.tsOut f.port)) }
    else s
  | _ => s

/-- A frame starts: it is counted in FRAMES_OUT (R340) and stamped; its numbers go out, then the codewords that carry it. -/
def State.startFrame (s : State) (f : TxFrame) : State :=
  let g := s.stampOut f
  (((if g.port < 36 then s.add64 (PORT_B g.port) PORT.FRAMES_OUT_LO 1 else s).noteT3 g).emit g.kind g.args).sendWords g.port g.lane g.words

/-- Send a frame; one that may not start yet waits. -/
def State.sendOn (s : State) (f : TxFrame) : State :=
  if s.mayStart f then s.startFrame f else { s with opt.wait := s.opt.wait ++ [f] }

/-- The lane that takes a control or time frame of an outbound path: one whose output leads to it where there is one. -/
def State.lanePick (s : State) (e : PathEnt) : Option Nat :=
  let l := s.lanesUp e
  Option.orElse (l.find? fun x => s.leadsTo e.port x e.id) fun _ => l.head?

/-- Is a frame about one lane, which another cannot carry for it: a frame of VC3, or the RESYNC_REQ of a lane (R259)? -/
def TxFrame.ofLane (f : TxFrame) : Bool :=
  decide (f.vc = 3) || (decide (f.kind = .control) && decide (f.args.headD 0 = 0x20))

/-- A waiting frame whose lane takes no frames goes on another lane of its path, lane S among them (R320, R324). -/
def State.relane (s : State) (f : TxFrame) : TxFrame :=
  if f.ofLane || s.takesFrames f.port f.lane f.vc then f
  else match s.plan.path false f.path with
  | some e => (s.lanePick e).elim f fun l => { f with port := e.port, lane := l }
  | none => f

/-- The next waiting frame to start: VC2 before VC3 (R317). -/
def State.nextWaiting (s : State) : Option TxFrame :=
  let l := s.opt.wait.filter fun f => s.mayStart (s.relane f)
  Option.orElse (l.find? fun f => decide (f.vc = 2)) fun _ => l.head?

/-- Start the waiting frames that may start, n at most. -/
def State.serveWaitN : Nat → State → State
  | 0, s => s
  | n + 1, s => match s.nextWaiting with
    | some f => ({ s with opt.wait := s.opt.wait.erase f }.startFrame (s.relane f)).serveWaitN n
    | none => s
def State.serveWait (s : State) : State := s.serveWaitN s.opt.wait.length

/-- A transmit lane that is dark loses the frames that wait for it and that no other lane of their path can take; their protocols
recover them (R231, R317, R324). -/
def State.dropWait (s : State) (p l : Nat) : State :=
  if lit (s.txSt p l) then s
  else { s with opt.wait := s.opt.wait.filter fun f => !decide (f.port = p ∧ f.lane = l)
    || (!f.ofLane && (s.plan.path false f.path).elim false fun e => (s.lanePick e).isSome) }

/-- A frame on an outbound path that has a lane in service; without one none can leave (R320). -/
def State.sendPath (s : State) (path : Nat) (k : OutKind) (args : List Nat) : State :=
  match s.plan.path false path with
  | none => s
  | some e => (s.lanePick e).elim s fun l => s.sendOn ⟨e.port, l, path, 0, k, args⟩

/-- A frame has been received on port p and passed to processing, counted in FRAMES_IN (R340). -/
def State.countIn (s : State) (p : Nat) : State := if p < 36 then s.add64 (PORT_B p) PORT.FRAMES_IN_LO 1 else s

/-- A frame has been received on an inbound path, or about an outbound one on its return path (R229). -/
def State.countPath (s : State) (path : Nat) : State := s.countIn ((s.plan.path true path).elim 36 fun e => e.port)
def State.countReturn (s : State) (path : Nat) : State :=
  match s.plan.path false path with
  | some e => s.countPath e.ret
  | none => s

/-- The path that carries a frame about a path: itself where it is outbound, else its return path. -/
def State.carrier (s : State) (path : Nat) : Nat :=
  if (s.plan.path false path).isSome then path else (s.plan.path true path).elim path fun e => e.ret

/-- A frame arrives on VC3 (R317): one that finds all 32 buffers of the port full is discarded. -/
def State.vc3Held (s : State) (p : Nat) : Nat :=
  (s.msg.offers.filter fun x => match x with
    | .chain q _ _ _ => decide (q = p)
    | _ => false).length
def State.vc3Drop (s : State) (p : Nat) : State := (s.inc (PORT_B p) PORT.VC3_DROP_COUNT).raise (PORT_B p) 9

end Sys2Proof.Machine
end

