-- ==== Sys2Proof/Machine/CalBase.lean ====
section
/-!
DEFINITION. What lanes and combs share with calibration and ageing (16_calibration.md): advisories (R548), lanes under
calibration (R541), and the start and stop of a power-up calibration (R531, R536).
-/
namespace Sys2Proof.Machine

/-! ### Advisories (R547, R548) -/

/-- ADV_STAT.COUNT follows the list. -/
def State.setAdv (s : State) (l : List Advis) : State :=
  { s.put AGEING_B AGEING.ADV_STAT_COUNT l.length with cal.adv := l }

/-- A condition is met: its entry takes the new VALUE and LAST time, or a new entry is made. -/
def State.advise (s : State) (kind sev obj : Nat) (v : Int) : State :=
  if s.cal.adv.any fun a => decide (a.kind = kind ∧ a.object = obj) then
    s.setAdv (s.cal.adv.map fun a => if a.kind = kind ∧ a.object = obj then { a with value := v, last := s.nowNs } else a)
  else if s.on AGEING_B = false then s
  else if 64 ≤ s.cal.adv.length then
    (s.put AGEING_B AGEING.ADV_STAT_OVERFLOW 1).raise AGEING_B 3
  else
    let s := s.setAdv (s.cal.adv ++ [⟨kind, sev, obj, v, s.nowNs, s.nowNs⟩])
    (s.raise AGEING_B 0).record AGEING_B 0x0070 [kind + sev * 2 ^ 8 + obj * 2 ^ 16, twos 32 v]

/-! ### Curves (R529, R534) -/

/-- The factory curve of a ring where the record has none of its own: the spec's worked example (log entry 82). -/
def curve0 : RingCurve := ⟨30000, 8800, 55, 620, 0, 0⟩
def State.facEntry (s : State) (i : Nat) : RingCurve := if (zget s.cal.fac i).step = 0 then curve0 else zget s.cal.fac i

/-- The three words of a ring's corrections. -/
def State.writeCurve (s : State) (i : Nat) (c : RingCurve) : State :=
  let a := DESC_B + 64 * i
  let top := (s.rd (a + 0x3C)).toNat / 2 ^ 24
  let s := s.wr (a + 0x38) (BitVec.ofNat 32 (twos 16 c.home + twos 16 c.step * 2 ^ 16))
  let s := s.wr (a + 0x3C) (BitVec.ofNat 32 (twos 8 c.tcal + twos 16 c.hper * 2 ^ 8 + top * 2 ^ 24))
  s.wr (a + 0x34) (BitVec.ofNat 32 (twos 16 c.kw + twos 16 c.ke * 2 ^ 16))

/-! ### Lanes under calibration (R540-R542) -/

/-- Is ring i under a lane calibration? -/
def State.inCal (s : State) (i : Nat) : Bool := s.cal.lanes.any fun c => decide (c.ring = i)

/-- Replace the calibrations in progress: CAL.STAT follows. -/
def State.setCals (s : State) (l : List LaneCal) : State :=
  let st := s.get CAL_B CAL.STAT_STATE
  let s := { s.put CAL_B CAL.STAT_ACTIVE l.length with cal.lanes := l }
  if st = 1 ∨ st = 3 then s else s.put CAL_B CAL.STAT_STATE (if l.isEmpty then 0 else 2)
def State.endCal (s : State) (i : Nat) : State := s.setCals (s.cal.lanes.filter fun c => !decide (c.ring = i))

/-- Send a calibration note on a path (R539): TYPE, LANE, PATH, SRC_EPOCH, SEQ. -/
def State.calNote (s : State) (ty lane path seq : Nat) : State :=
  s.sendPath (s.carrier path) .calNote [ty, lane, path, s.get BACKUP_B BACKUP.EPOCH_VALUE, seq]

/-- The leader's lane launches: CAL_END. -/
def State.calLaunched (s : State) (i : Nat) : State :=
  match s.cal.lanes.find? fun c => decide (c.ring = i) && c.lead with
  | some c => s.calNote 0x61 c.lane c.path c.seq
  | none => s

/-- A lane under calibration is back in service: the leader counts it. -/
def State.calReturn (s : State) (i : Nat) : State :=
  match s.cal.lanes.find? fun c => decide (c.ring = i) with
  | some c => if c.lead then (s.endCal i).inc CAL_B CAL.LANES_COUNT else s.endCal i
  | none => s

/-- A calibration is abandoned at this end (R542): the note, the counts, and the ring acquires from its start point. -/
def State.calAbandon (s : State) (c : LaneCal) : State :=
  let s := ((s.endCal c.ring).calNote 0x62 c.lane c.path c.seq).inc CAL_B CAL.ABANDONED_COUNT
  let s := { s with cal.rings := zmod s.cal.rings c.ring fun r => { r with result := 3 } }.raise CAL_B 2
  if c.swept then s else if s.slotRuns c.ring then s.slotSettle c.ring else s.slotIdle c.ring

/-! ### Power-up calibration (R531, R536) -/

/-- The slots of rings, MZI stages and combs (R403, R531). -/
def calSlots : List Nat := List.range 1628
def slotEngine (i : Nat) : Nat := if 1620 ≤ i then slotComb i else portEngine (ringPort (if i < 648 then i else mziRing i))

/-- A power-up (1) or full (3) calibration begins: the slots of engines with light are in CAL. -/
def State.calBegin (s : State) (kind : Nat) : State :=
  (calSlots.filter fun i => s.combGood (slotEngine i)).foldl (fun s i => s.modLines i fun x => { x.cleared with st := slCAL })
    (s.put CAL_B CAL.STAT_STATE kind)

/-- Every slot leaves CAL for IDLE. -/
def State.calSlotsIdle (s : State) : State :=
  (calSlots.filter fun i => decide ((s.slot i).st = slCAL)).foldl State.slotIdle s

/-- A drop of LASER_EN stops a power-up or full calibration; a power-up calibration is owed under R518. -/
def State.calStop (s : State) : State :=
  let k := s.get CAL_B CAL.STAT_STATE
  if k = 1 then { (s.put CAL_B CAL.STAT_STATE 0).calSlotsIdle with power.deferred := true }
  else if k = 3 then (s.put CAL_B CAL.STAT_STATE 0).calSlotsIdle
  else s

/-- The deferred calibration begins once every comb that has not failed is locked (R518). -/
def State.deferredCal (s : State) : State :=
  let ok (e : Nat) : Bool := s.combGood e || decide (s.combSt e = cbFAULT)
  if s.power.deferred && decide (2 ≤ s.get POWER_B POWER.STATE_STATE) && decide (s.get CAL_B CAL.STAT_STATE = 0)
      && ok 0 && ok 1 && (s.combGood 0 || s.combGood 1) then s.calBegin 1
  else s

end Sys2Proof.Machine
end

