-- ==== Sys2Proof/Machine/Optics.lean ====
section
/-!
DEFINITION. Ports, lanes and combs (09_optics.md) and the identity of lanes (R370-R376): lane states, launches, laser
safety, service, the spare lane, beacons and discovery.
-/
namespace Sys2Proof.Machine

/-! ### Changes of a lane's state (R321, R341) -/

/-- FAIL_CAUSE codes. -/
def fcLOCK : Nat := 1
def fcLINE_MISMATCH : Nat := 2
def fcIDENTITY : Nat := 3
def fcBER : Nat := 4
def fcLOW_MARGIN : Nat := 5
def fcFEEDBACK_LOST : Nat := 6
def fcHEATER_LIMIT : Nat := 7
def fcHARDWARE : Nat := 8
def fcOPEN_FIBRE : Nat := 9


/-- The events and the count of a lane direction's change of state (R341). -/
def State.laneMoved (s : State) (p l old new : Nat) : State :=
  if !serving old && serving new then s.raise (PORT_B p) 0
  else if serving old && !serving new then (s.inc (PORT_B p) (laneF PORT.OUT_COUNT_COUNT l)).raise (PORT_B p) 1
  else s

/-- The microseconds from T to the last affected lane entering service before the report are kept (R433). -/
def State.markUp (s : State) (i old new : Nat) : State :=
  if !serving old && serving new && s.xrds.toReport && s.xrds.affected.contains i
  then s.put CLAIM_B CLAIM.SW_LAST_UP_US ((s.nowNs + 2 ^ 64 - s.get64 CLAIM_B CLAIM.SW_T_LO) % 2 ^ 64 / 1000) else s

/-- A transmit lane takes on the port's DAC_RES, of which 5-7 act as 4, as it enters CHECKING (R310). -/
def State.takeDac (s : State) (p l : Nat) : State :=
  { s with opt.dac := zset s.opt.dac (9 * p + l) (some (min 4 (s.get (PORT_B p) PORT.CFG_DAC_RES))) }

/-- The bring-up of a transmit lane sets the FIR taps PRE and POST, for which no rule gives values: a free value (R310; log
entry 1). -/
def State.laneSetup (s : State) (p l : Nat) : State :=
  let (x, s) := s.freeVal
  { s with opt.eq := zset s.opt.eq (9 * p + l) (x % 2 ^ 14 &&& 0x3F3F) }

/-- Change a transmit lane's state; a lane under calibration raises and counts nothing (R541). -/
def State.setTx (s : State) (p l st : Nat) : State :=
  let t := s.put (PORT_B p) (laneF PORT.LSTAT_TX_STATE l) st
  let t := (if s.inCal (txRing p l) then t else t.laneMoved p l (s.txSt p l) st).markUp (txRing p l) (s.txSt p l) st
  let t := if st = lnCHECKING ∧ s.txSt p l ≠ lnCHECKING then t.takeDac p l else t
  if st = lnCHECKING ∧ lit (s.txSt p l) = false then t.laneSetup p l else t

def State.setCause (s : State) (p l c : Nat) : State := s.put (PORT_B p) (laneF PORT.LSTAT_FAIL_CAUSE l) c

/-! ### Discovery (R375) -/

/-- Does path e of the plan have a receive lane in service? -/
def State.pathUp (s : State) (e : PathEnt) : Bool := ((List.range 9).filter e.has).any fun l => serving (s.rxSt e.port l)

/-- A bit of a _LO, _HI pair of port masks. -/
def maskF (off p : Nat) : Fld := bitF (off + p / 32 * 4) (p % 32)

/-- Set a bit of a pair of port masks of the control page, with the event of its becoming 1 (R382). -/
def State.markPort (s : State) (off p ev : Nat) : State :=
  if s.bit XRDS_B (maskF off p) then s else (s.put XRDS_B (maskF off p) 1).raise XRDS_B ev

/-- The maintenance-only state of a port (R374): a lane of another major, and none in service. -/
def State.maintPort (s : State) (p : Nat) : Bool :=
  ((List.range 9).any fun l =>
    let i := 9 * p + l
    decide (s.get (XRDS_B + 0x1000 * (1 + i / 126) + 32 * (i % 126)) XRDS_ID.ID_PATH_STATE = 3) && decide (s.rxSt p l = lnCHECKING))
  && !(List.range 9).any fun l => serving (s.rxSt p l)

/-- DISC_STAT and the masks that follow the lanes (R375, R378): FORMED needs an inbound path (log entry 41). -/
def State.discUpdate (s : State) : State :=
  let ins := s.plan.paths.filter fun e => e.inbound
  let up := (ins.filter s.pathUp).length
  let formed := decide (0 < ins.length) && decide (up = ins.length)
  let was := s.bit XRDS_B XRDS.DISC_STAT_FORMED
  let s := (s.put XRDS_B XRDS.DISC_STAT_IN_PATHS ins.length).put XRDS_B XRDS.DISC_STAT_IN_UP up
  let s := s.put XRDS_B XRDS.DISC_STAT_FORMED (if formed then 1 else 0)
  let s := if formed && !was then s.raise XRDS_B 4 else s
  (List.range 36).foldl (fun s p =>
    let s := if (ins.filter fun e => decide (e.port = p)).all s.pathUp then s.put XRDS_B (maskF 0x90 p) 0 else s
    if s.maintPort p then s.markPort 0xA8 p 8 else s.put XRDS_B (maskF 0xA8 p) 0) s

/-- MISSING (R375): DISC_WAIT is over and an inbound path of the port has no lane in service. -/
def State.missing (s : State) (p : Nat) : State :=
  if s.plan.paths.any (fun e => e.inbound && decide (e.port = p) && !s.pathUp e) then
    (if s.bit XRDS_B (maskF 0x90 p) then s else s.raise (PORT_B p) 19).markPort 0x90 p 5
  else s

/-- Is a port extra under the plan when its receive side has seen light (R375)? -/
def State.extraPort (s : State) (p : Nat) : Bool :=
  let b := s.plan
  s.bit (PORT_B p) PORT.STAT_RX_LIGHT && (decide (b.mode p = mdOFF)
    || (!((List.range 9).any fun l => decide (b.role (rxRing p l) = 1))
        && !((List.range (b.count 0)).any fun e => decide (b.ent 0 e 0 1 = p))))

def State.extraUpdate (s : State) (p : Nat) : State :=
  if s.extraPort p then (if s.bit XRDS_B (maskF 0x98 p) then s else s.raise (PORT_B p) 20).markPort 0x98 p 6
  else s.put XRDS_B (maskF 0x98 p) 0

/-- Change a receive lane's state, and with the discovery that follows it. -/
def State.moveRx (s : State) (p l st : Nat) : State :=
  let t := s.put (PORT_B p) (laneF PORT.LSTAT_RX_STATE l) st
  (if s.inCal (rxRing p l) then t else t.laneMoved p l (s.rxSt p l) st).markUp (rxRing p l) (s.rxSt p l) st
def State.setRx (s : State) (p l st : Nat) : State := (s.moveRx p l st).discUpdate

/-! ### Beacons sent (R370) -/

/-- Key of an output of a transmit lane. -/
def outKey (p l o : Nat) : Nat := (9 * p + l) * 4 + o

/-- A transmit lane sends its beacon: port, lane, path of the header, FLAGS, serial, protocol major and minor, firmware,
plan epoch, incarnation epoch, coordinate. -/
def State.sendBeacon (s : State) (p l : Nat) : State :=
  let b := s.plan
  { s with opt.beaconAt := zset s.opt.beaconAt (outKey p l (s.txOut p l)) (some s.time.up) }.sendOn ⟨p, l, s.linkPath p l, 0, .beacon,
    [p, l, s.linkPath p l, if s.txSt p l = lnCHECKING then 1 else 0, s.get64 MODULE_B MODULE.SERIAL_LO_VALUE,
    s.get XRDS_B XRDS.PROTO_MAJOR, s.get XRDS_B XRDS.PROTO_MINOR, s.get UPDATE_B UPDATE.RUN_VER_VERSION,
    s.get XRDS_B XRDS.ACTIVE_EPOCH_VALUE, s.get BACKUP_B BACKUP.EPOCH_VALUE, b.coord 0, b.coord 1, b.coord 2]⟩

/-! ### Launch and park (R321, R328-R331, R429) -/

/-- The output that a lane launches on: its OUT; of a steered lane its DEFAULT, or its first output with a path when
DEFAULT is park (log entry 42); a discovery lane its own fibre. -/
def Bank.aim (b : Bank) (i : Nat) : Nat :=
  if b.mode (ringPort i) = mdDISCOVER then ringPort i % 3
  else if b.steered i then
    let j := b.laneSteer i
    let d := b.ent 2 j 2 1
    if d < 3 then d else ((List.range 3).find? fun o => b.steerPath j o ≠ 0xFFFF).getD 3
  else b.laneOut i

/-- May light be launched on port q's fibre (R328-R331, R429)? After a loopback trip not before the plan is applied again. -/
def State.canLaunch (s : State) (q : Nat) : Bool :=
  s.portOn q && !s.bit (PORT_B q) PORT.STAT_LAUNCH_LIMIT
    && !(decide (s.plan.mode q = mdLOOPBACK) && zget s.opt.loopTrip q)
    && (s.bit (PORT_B q) PORT.STAT_RX_LIGHT || s.xrds.lit.contains q || decide (s.plan.mode q = mdLOOPBACK))

/-- A parked lane whose own line's tone shows launches when its port allows it, and sends a beacon as it enters
CHECKING (R321, R370). -/
def State.tryLaunch (s : State) (p l : Nat) : State :=
  let i := txRing p l
  let o := s.plan.aim i
  if s.txSt p l = lnPARKED ∧ zget s.opt.txTone i = true ∧ s.combGood (portEngine p) = true ∧ o < 3 ∧ s.canLaunch (treePort p o) = true
      ∧ zget s.opt.tripped (9 * p + l) = 0 then
    (((s.setOut p l o).setTx p l lnCHECKING).sendBeacon p l).calLaunched i
  else s

/-- Transmit lanes of q's steering group whose output is q, lane S of each port first: as a port goes dark as a whole, lane S takes
no other lane's traffic (R324). -/
def State.aimedAt (s : State) (q : Nat) : List (Nat × Nat) :=
  ((List.range 27).map fun k => (q / 3 * 3 + k / 9, 8 - k % 9)).filter fun x => decide (s.txOut x.1 x.2 = q % 3)

/-- A lane that went to park with its ring locked is ready again (R321, R329). -/
def State.reparked (s : State) (p l : Nat) : State :=
  if s.txSt p l = lnACQUIRING ∧ (s.slot (txRing p l)).st = slLOCKED ∧ (s.slot (txRing p l)).resettle = false then s.setTx p l lnPARKED else s

/-- Parked lanes of q's group that would launch on q. -/
def State.launchAll (s : State) (q : Nat) : State :=
  (List.range 27).foldl (fun s k =>
    let p := q / 3 * 3 + k / 9
    if s.plan.aim (txRing p (k % 9)) = q % 3 then (s.reparked p (k % 9)).tryLaunch p (k % 9) else s) s

/-! ### The spare lane (R324) -/

/-- The path to which the plan attaches lane S of a port: the outbound one, else the inbound one (log entry 43). -/
def State.sparePath (s : State) (p : Nat) : Option PathEnt :=
  Option.orElse (s.plan.paths.find? fun e => !e.inbound && decide (e.port = p) && e.has 8) fun _ =>
    s.plan.paths.find? fun e => decide (e.port = p) && e.has 8

/-- Are the tones on, without which no lane enters service (R303)? -/
def State.toneEn (s : State) (p : Nat) : Bool := s.bit (COMB_B (portEngine p)) COMB.CTRL_TONE_EN

/-- Lane S takes the traffic of data lane l, which has left service or has not come up by the release. -/
def State.spareTake (s : State) (p l : Nat) : State :=
  match s.plan.paths.find? fun e => !e.inbound && decide (e.port = p) && e.has 8 && e.has l with
  | some _ =>
    if l < 8 ∧ s.get (PORT_B p) PORT.SPARE_FOR = 0xF ∧ s.txSt p 8 = lnSTANDBY
        ∧ s.bit (PORT_B p) (laneF PORT.LSTAT_RX_OK_FAR 8) = true ∧ s.toneEn p = true then
      (((s.put (PORT_B p) PORT.SPARE_FOR l).setTx p 8 lnIN_SERVICE)).raise (PORT_B p) 2
    else s
  | none => s

/-- Lane S gives a data lane's traffic back. -/
def State.spareEnd (s : State) (p : Nat) : State :=
  let s := s.put (PORT_B p) PORT.SPARE_FOR 0xF
  if s.txSt p 8 = lnIN_SERVICE then s.setTx p 8 lnSTANDBY else s

/-- Lane S, free, takes a data lane of its path that has left service and not come back (R324, R430, R542). -/
def State.spareNext (s : State) (p : Nat) : State :=
  match (s.plan.paths.find? fun e => !e.inbound && decide (e.port = p) && e.has 8).bind fun e =>
      e.dataLanes.find? fun l => zget s.opt.away (9 * p + l) && !serving (s.txSt p l) with
  | some l => s.spareTake p l
  | none => s

/-- A transmit lane enters service when the far receiver reports RX_OK (R320), an affected one not before the release (R430). -/
def State.tryTxService (s : State) (p l : Nat) : State :=
  if s.txSt p l = lnCHECKING ∧ s.bit (PORT_B p) (laneF PORT.LSTAT_RX_OK_FAR l) = true ∧ s.plan.mode p ≠ mdDISCOVER ∧ s.toneEn p = true
      ∧ (s.xrds.toRelease && s.xrds.affected.contains (txRing p l)) = false then
    let s := s.setTx p l (if l = 8 then lnSTANDBY else lnIN_SERVICE)
    let s := { s with opt.acqFails := zset s.opt.acqFails (txRing p l) 0, opt.away := zset s.opt.away (9 * p + l) false }
    let s := s.calReturn (txRing p l)
    if l = 8 then s.spareNext p
    else if l < 8 ∧ s.get (PORT_B p) PORT.SPARE_FOR = l then (s.spareEnd p).spareNext p else s
  else s

/-- A transmit lane leaves for a state, parked or not, with lane S standing in when it was in service; the frames that wait for it
go with its traffic. -/
def State.txLeave (s : State) (p l st : Nat) (park : Bool) : State :=
  let was := s.txSt p l
  let s := if park then s.setOut p l 3 else s
  let s := (s.setTx p l st)
  (if l = 8 then (if s.get (PORT_B p) PORT.SPARE_FOR ≠ 0xF then s.put (PORT_B p) PORT.SPARE_FOR 0xF else s)
  else if serving was && !serving st then { s with opt.away := zset s.opt.away (9 * p + l) true }.spareTake p l else s).dropWait p l

/-! ### Receive lanes (R322, R323) -/

/-- The checks that a lane has to pass again (R322): the identity check fails until a matching beacon comes; TONE_OK and BER_OK
go on reporting the last check of each (R340). -/
def State.dropChecks (s : State) (p l : Nat) : State :=
  { s.put (PORT_B p) (laneF PORT.LSTAT_ID_OK l) 0 with opt.checks := zset s.opt.checks (9 * p + l) 0 }

/-- The outcome of a receive lane's tone (0) or error (1) check (R303, R322). -/
def State.checked (s : State) (p l which : Nat) (ok : Bool) : State :=
  let s := s.put (PORT_B p) (laneF (if which = 0 then PORT.LSTAT_TONE_OK else PORT.LSTAT_BER_OK) l) (if ok then 1 else 0)
  let c := zget s.opt.checks (9 * p + l)
  { s with opt.checks := zset s.opt.checks (9 * p + l) (if ok then c ||| 2 ^ which else c &&& (3 ^^^ 2 ^ which)) }

/-- Is a ring locked: LOCKED, or driven on from LOCKED under HOLD or in a gap (R322, R398, R403), and not to settle again (R407)? -/
def State.ringHeld (s : State) (i : Nat) : Bool :=
  let x := s.slot i
  !x.resettle && (decide (x.st = slLOCKED) || (decide (x.st = slHELD ∨ x.st = slGAP) && decide (x.left = slLOCKED)))

/-- A receive lane that has passed every check enters service, an affected one not before the release (R322, R430). -/
def State.tryRxService (s : State) (p l : Nat) : State :=
  let b := PORT_B p
  if s.rxSt p l = lnCHECKING ∧ s.ringHeld (rxRing p l) = true ∧ zget s.opt.checks (9 * p + l) = 3
      ∧ s.bit b (laneF PORT.LSTAT_ID_OK l) = true
      ∧ s.bit (COMB_B (portEngine p)) COMB.CTRL_TONE_EN = true ∧ s.plan.mode p ≠ mdDISCOVER
      ∧ (s.xrds.toRelease && s.xrds.affected.contains (rxRing p l)) = false then
    let s := (s.setCause p l 0).setRx p l (if l = 8 then lnSTANDBY else lnIN_SERVICE)
    { s with opt.acqFails := zset s.opt.acqFails (rxRing p l) 0 }.calReturn (rxRing p l)
  else s

/-- A receive lane leaves for a state with a cause. -/
def State.rxLeave (s : State) (p l st cause : Nat) : State := ((s.dropChecks p l).setCause p l cause).setRx p l st

/-- A lane of either direction, by its ring, becomes FAILED, with its advisory (R547). -/
def State.laneFail (s : State) (i cause : Nat) : State :=
  let p := ringPort i
  let l := ringLane i
  let s := { s.advise 0x14 2 i (Int.ofNat cause) with opt.failed := zset s.opt.failed i cause }
  if i < 324 then (s.txLeave p l lnFAILED true).setCause p l cause else s.rxLeave p l lnFAILED cause

/-- A lane of either direction goes to RELOCK with a cause; lanes OFF or FAILED stay. -/
def State.laneRelock (s : State) (i cause : Nat) : State :=
  let p := ringPort i
  let l := ringLane i
  if s.inCal i then s
  else if i < 324 then
    (if s.txSt p l = lnOFF ∨ s.txSt p l = lnFAILED then s
     else { (s.txLeave p l lnRELOCK true).setCause p l cause with opt.txTone := zset s.opt.txTone i false })
  else if s.rxSt p l = lnOFF ∨ s.rxSt p l = lnFAILED then s
  else s.rxLeave p l lnRELOCK cause

/-- A ring's loop is locked: a transmit lane is PARKED, a receive lane CHECKING (R321). -/
def State.ringLocked (s : State) (i : Nat) : State :=
  let p := ringPort i
  let l := ringLane i
  if i < 324 then (if s.txSt p l = lnACQUIRING ∨ s.txSt p l = lnRELOCK then s.setTx p l lnPARKED else s)
  else if s.rxSt p l = lnACQUIRING ∨ s.rxSt p l = lnRELOCK then (s.dropChecks p l).setRx p l lnCHECKING
  else s

/-- The port counts an acquisition failure of a ring or of a stage of its lane; the third in a row fails the lane (R323, R405,
R417). -/
def State.acqFailed (s : State) (i : Nat) : State :=
  let r := if i < 648 then i else mziRing i
  if s.inCal r then s else
  let n := zget s.opt.acqFails i + 1
  let s := { s with opt.acqFails := zset s.opt.acqFails i n }
  if n < 3 then s else (s.laneFail r fcLOCK).slotIdle i

/-- The slot has locked: its failures are no longer in a row. -/
def State.acqDone (s : State) (i : Nat) : State := { s with opt.acqFails := zset s.opt.acqFails i 0 }

/-- Every lane whose output is q goes to park in a state; their rings keep their lines. -/
def State.parkPort (s : State) (q st cause : Nat) : State :=
  (s.aimedAt q).foldl (fun s x =>
    let s := s.txLeave x.1 x.2 st true
    let s := s.put (PORT_B x.1) (laneF PORT.LSTAT_RX_OK_FAR x.2) 0
    if cause = 0 then s else s.setCause x.1 x.2 cause) s

/-! ### Following the plan (R306, R339) -/

/-- A transmit lane parks in a state as the plan is applied: lane S takes nothing over for it. -/
def State.txDown (s : State) (p l st : Nat) : State :=
  let s := (s.setOut p l 3).setTx p l st
  (if l = 8 then s.put (PORT_B p) PORT.SPARE_FOR 0xF else s).dropWait p l

/-- Bring ring i's lane and slot in line with the plan: OFF without a role, FAILED while its failure stands (R321), else acquiring
afresh. Discovery follows when every lane of the change has. -/
def State.laneApply (s : State) (i : Nat) : State :=
  let p := ringPort i
  let l := ringLane i
  let on := (s.ringLine i).isSome
  let f := if on then zget s.opt.failed i else 0
  let st := if !on then lnOFF else if f = 0 then lnACQUIRING else lnFAILED
  let s : State := if i < 324 then { s.txDown p l st with opt.txTone := zset s.opt.txTone i false, opt.away := zset s.opt.away i false }
    else (s.dropChecks p l).moveRx p l st
  let s : State := { s.setCause p l f with
    opt.acqFails := s.opt.acqFails.filter fun e => decide (e.1 ≠ i ∧ (648 ≤ e.1 → mziRing e.1 ≠ i)) }
  let s := s.modSlot i fun x => { x with dead := decide (f ≠ 0) }
  if st = lnACQUIRING ∧ s.slotRuns i = true then s.slotSettle i else s.slotIdle i

/-- Every ring and stage of a port. -/
def State.portApply (s : State) (p : Nat) : State :=
  let s := ((List.range 9).foldl (fun s l => (s.laneApply (txRing p l)).laneApply (rxRing p l)) s).discUpdate
  let s := (s.put (PORT_B p) PORT.SPARE_FOR 0xF).put (PORT_B p) PORT.CFG_LOOPBACK
    (if s.on (PORT_B p) && decide (s.plan.mode p = mdLOOPBACK) then 1 else 0)
  s.slotsRefresh (portSlots p)

/-- ENABLE of a PORT page changed (R339): rings and stages that failed the last calibration stay FAILED (R323, R535). -/
def State.portEnable (s : State) (p : Nat) : State :=
  let s := s.portApply p
  -- no lane of the group lights the fibre of a port that is off (R339)
  if s.portOn p = false then s.parkPort p lnPARKED 0
  else ((s.cal.failed.filter fun i => decide (ringPort (if i < 648 then i else mziRing i) = p)).foldl (fun s i =>
    (((s.modSlot i fun x => { x with dead := true }).slotIdle i).laneFail (if i < 648 then i else mziRing i) fcHARDWARE)) s).launchAll p

/-- A block reset of a port, or a new plan for a ring, forgets failures (R321). -/
def State.failForget (s : State) (f : Nat → Bool) : State :=
  { s with cal.failed := s.cal.failed.filter fun i => !f (if i < 648 then i else mziRing i)
           opt.failed := s.opt.failed.filter fun e => !f e.1 }

/-- Everything of an engine (R334). -/
def enginePorts (e : Nat) : List Nat := (List.range 18).map (18 * e + ·)
def State.engineApply (s : State) (e : Nat) : State := (enginePorts e).foldl State.portApply s

/-! ### Combs (R304, R332) -/

/-- The light of a comb goes out, or its lock with it: its engine's lanes leave, and their slots wait in SETTLE (R332,
R402). -/
def State.combDark (s : State) (e : Nat) : State :=
  (enginePorts e).foldl (fun s p => (List.range 9).reverse.foldl (fun s l =>
    let t := s.txSt p l
    let r := s.rxSt p l
    let s := if t = lnOFF ∨ t = lnFAILED then s
      else { s.txLeave p l lnACQUIRING true with opt.txTone := zset s.opt.txTone (txRing p l) false }
    let s := if r = lnOFF ∨ r = lnFAILED ∨ r = lnACQUIRING then s else s.rxLeave p l lnRELOCK fcLOCK
    let s := if s.slotRuns (txRing p l) then s.slotSettle (txRing p l) else s
    if s.slotRuns (rxRing p l) then s.slotSettle (rxRing p l) else s) s) s

/-- WEAK of a line of comb c, on its own page register and in STAT (R337), with the event of its becoming weak (R338) and
the advisory of a weak line (R544, R547). -/
def State.setWeak (s : State) (c k : Nat) (w : Bool) : State :=
  let b := COMB_B c
  let was := s.bit b (COMB.LINE_WEAK.at k 4)
  let s := (s.put b (COMB.LINE_WEAK.at k 4) (if w then 1 else 0)).put b (bitF 0x44 (16 + k)) (if w then 1 else 0)
  let s := if w && !was then s.raise b 3 else s
  if w then s.advise 0x01 1 (16 * c + k)
    (signed 16 (s.get b (COMB.LINE_POWER.at k 4)) - signed 16 (s.get b COMB.LINE_TARGET_POWER))
  else s

/-- The power of line k of comb c in 0.01 dBm, and whether it is more than 3 dB below LINE_TARGET (R337). -/
def State.linePower (s : State) (c k : Nat) (p : Int) : State :=
  let s := s.put (COMB_B c) (COMB.LINE_POWER.at k 4) (twos 16 p)
  s.setWeak c k (decide (signed 16 (twos 16 p) + 300 < signed 16 (s.get (COMB_B c) COMB.LINE_TARGET_POWER)))

/-- Every line of a comb falls below -30 dBm (R332): how far is not stated, a free value. -/
def State.linesDark (s : State) (c : Nat) : State :=
  (List.range 16).foldl (fun s k =>
    let (x, s) := s.freeVal
    s.linePower c k (-3001 - Int.ofNat (x % 29768))) s

/-- Change a comb's state; a comb that stops being armed darkens its engine, and its loops follow. -/
def State.setComb (s : State) (e st : Nat) : State :=
  let was := s.combArmed e
  let s := s.put (COMB_B e) COMB.STAT_STATE st
  let s := if was && !s.combArmed e then
      ((((s.put (COMB_B e) COMB.STAT_SPACING_LOCK 0).put (COMB_B e) COMB.STAT_OFFSET_LOCK 0).put (COMB_B e) COMB.STAT_TEC_OK 0).linesDark
        e).combDark e
    else s
  -- the reference path carries the comb's own light (R428)
  let s := if s.combGood e then s else { s with xrds.refLit := s.xrds.refLit.filter fun i => decide (portEngine (ringPort i) ≠ e) }
  s.slotsRefresh ((List.range 4).map (1620 + 4 * e + ·))

/-- ENABLE of a COMB page changed (R304); only a module reset leaves FAULT (log entry 44). -/
def State.combEnable (s : State) (e : Nat) (on : Bool) : State :=
  if s.combSt e = cbFAULT then s
  else if on then (if s.combSt e = cbOFF then s.setComb e cbWAIT_ARM else s) else s.setComb e cbOFF

/-- STAT of a COMB page (R337): LASER_EN is the present level of the pin. -/
def State.combStat (s : State) (v : Nat) : Nat :=
  v / 2 ^ 5 * 2 ^ 5 + (if s.pinLevel 147 then 2 ^ 4 else 0) + v % 2 ^ 4

/-- ARM (R332, R338). In the hold state the lasers stay off (R521; log entry 341). -/
def State.combArm (s : State) (e path : Nat) : State :=
  let b := COMB_B e
  if s.bit b COMB.STAT_EN_STABLE && s.on b && !s.bit POWER_B POWER.STATE_HOLD then
    (if s.combSt e = cbWAIT_ARM then s.setComb e cbWARMING else s)
  else s.recErrX b 17 0x8902 path

/-- LASER_EN is seen low (R332): both combs, with the count and the event on both pages; a comb in FAULT stays there
(log entry 44). -/
def State.laserDrop (s : State) : State :=
  (List.range 2).foldl (fun s e =>
    let b := COMB_B e
    let s := (s.put b COMB.STAT_EN_STABLE 0).inc b COMB.DROPS_LASER_EN
    let s := s.raise b 2
    if s.on b && decide (s.combSt e ≠ cbFAULT) then s.setComb e cbWAIT_ARM else s) (s.setPin 147 false).calStop

/-- LASER_EN has been high for 100 ms. -/
def State.laserStable (s : State) : State :=
  (List.range 2).foldl (fun s e => s.put (COMB_B e) COMB.STAT_EN_STABLE 1) (s.setPin 147 true)

/-- The comb's loops lock: LOCKED from LOCKING or HOLDOVER (R304). -/
def State.combLocked (s : State) (e : Nat) : State :=
  if s.combSt e = cbLOCKING ∨ s.combSt e = cbHOLDOVER then
    let b := COMB_B e
    let s := (s.put b COMB.STAT_SPACING_LOCK 1).put b COMB.STAT_OFFSET_LOCK 1
    ((s.setComb e cbLOCKED).raise b 0)
  else s

/-- A spacing (0) or offset (1) loop loses lock: HOLDOVER (R304, R418). -/
def State.combUnlock (s : State) (e which : Nat) : State :=
  let b := COMB_B e
  let s := if which = 0 then s.put b COMB.STAT_SPACING_LOCK 0 else s.put b COMB.STAT_OFFSET_LOCK 0
  if s.combSt e = cbLOCKED then ((s.setComb e cbHOLDOVER).inc b COMB.DROPS_LOCK_LOSSES).raise b 1 else s

/-- A laser, cooler or attenuator check fails (R304, R338). -/
def State.combFail (s : State) (e : Nat) : State :=
  let b := COMB_B e
  ((s.setComb e cbFAULT).put b hSTAT_FAULT 1).recErrX b 16 0x8901 pathHw

/-! ### Light at a port (R328-R331) -/

/-- The receive side sees light. -/
def State.lightSeen (s : State) (p : Nat) : State :=
  let b := PORT_B p
  let was := s.bit b PORT.STAT_RX_LIGHT
  let s := (s.put b PORT.STAT_RX_LIGHT 1).put b PORT.STAT_OPEN_FIBRE 0
  let s := if was then s else s.raise b 4
  (s.extraUpdate p).launchAll p


/-- OPEN_FIBRE is declared on q (R329): its lanes park, become ACQUIRING and stay out of service. -/
def State.openFibre (s : State) (q : Nat) : State :=
  let b := PORT_B q
  let s := ((s.put b PORT.STAT_RX_LIGHT 0).put b PORT.STAT_OPEN_FIBRE 1).inc b PORT.OPEN_FIBRE_CNT_COUNT
  (s.raise b 3).parkPort q lnACQUIRING fcOPEN_FIBRE

/-- The launch limit of q's fibre trips (R331). -/
def State.launchLimit (s : State) (q : Nat) : State :=
  let b := PORT_B q
  let s := ((s.put b PORT.STAT_LAUNCH_LIMIT 1).inc b PORT.LAUNCH_LIMIT_CNT_COUNT).raise b 5
  let l := s.aimedAt q
  let s := s.parkPort q lnPARKED 0
  { s with opt.tripped := l.foldl (fun m x => zset m (9 * x.1 + x.2) (q + 1)) s.opt.tripped }

/-- A write of RELAUNCH clears the trip: its lanes come up again. -/
def State.relaunch (s : State) (q : Nat) : State :=
  let l := (s.opt.tripped.filter fun e => decide (e.2 = q + 1)).map Prod.fst
  let s := { s.put (PORT_B q) PORT.STAT_LAUNCH_LIMIT 0 with opt.tripped := s.opt.tripped.filter fun e => decide (e.2 ≠ q + 1) }
  l.foldl (fun s k => s.tryLaunch (k / 9) (k % 9)) (s.launchAll q)

/-! ### Checks (R303, R322, R327) -/

/-- A tone integration of a receive lane finds line k (16: none). -/
def State.toneRx (s : State) (p l k : Nat) : State :=
  let i := rxRing p l
  let b := PORT_B p
  if s.ringLine i = some k ∧ s.bit (COMB_B (portEngine p)) COMB.CTRL_TONE_EN = true then
    (s.checked p l 0 true).tryRxService p l
  else
    let s := ((s.checked p l 0 false).setCause p l fcLINE_MISMATCH).raise b 7
    let s := if serving (s.rxSt p l) then s.rxLeave p l lnRELOCK fcLINE_MISMATCH
      else if s.rxSt p l = lnCHECKING then s.rxLeave p l lnACQUIRING fcLINE_MISMATCH else s
    s.slotResettle i

/-- A tone integration of a modulator monitor finds line k. -/
def State.toneTx (s : State) (p l k : Nat) : State :=
  let i := txRing p l
  let b := PORT_B p
  if s.ringLine i = some k ∧ s.bit (COMB_B (portEngine p)) COMB.CTRL_TONE_EN = true then
    ({ s.put b (laneF PORT.LSTAT_TONE_OK l) 1 with opt.txTone := zset s.opt.txTone i true }.reparked p l).tryLaunch p l
  else
    (((s.put b (laneF PORT.LSTAT_TONE_OK l) 0).raise b 7).laneRelock i fcLINE_MISMATCH).slotResettle i

/-- The measured bit error ratio and power of a receive lane (R327, R340). -/
def State.measured (s : State) (p l ber : Nat) (power : Int) : State :=
  let b := PORT_B p
  let s := (s.put b (laneF PORT.RX_POWER_POWER l) (twos 16 power)).put b (laneF PORT.RX_POWER_MARGIN l) (twos 16 (power + 1100))
  s.put b (laneF PORT.BER_EST_VALUE l) (min ber (2 ^ 32 - 1))

/-- The last 1 ms of a lane in service (R323): four uncorrectable codewords or a bit error ratio above BER_OUT take it out. -/
def State.serviceCheck (s : State) (p l uncorr ber : Nat) (power : Int) : State :=
  let s := s.measured p l ber power
  if uncorr < 4 ∧ ber ≤ s.get (PORT_B p) PORT.BER_OUT_LIMIT then s
  else
    let s := s.rxLeave p l lnRELOCK fcBER
    if s.slotRuns (rxRing p l) then s.slotSettle (rxRing p l) else s

/-- The error check of a receive lane ends with its uncorrectable codewords, bit error ratio (10^-12) and received power
(signed 0.01 dBm). -/
def State.errorCheck (s : State) (p l uncorr ber : Nat) (power : Int) : State :=
  let b := PORT_B p
  let margin := power + 1100
  let s := s.measured p l ber power
  let s := if margin < Int.ofNat (s.get AGEING_B AGEING.THRESH_OPT_MARGIN_CDB) then s.advise 0x12 1 (rxRing p l) margin else s
  let hops := match s.plan.path true (s.plan.lanePath (rxRing p l)) with
    | some e => e.hops
    | none => 0
  if uncorr = 0 ∧ ber ≤ s.get b PORT.BER_IN_LIMIT then
    let s := s.checked p l 1 true
    if hops = 3 ∧ margin < 50 then (s.laneFail (rxRing p l) fcLOW_MARGIN).raise b 8
    else s.tryRxService p l
  else (s.checked p l 1 false).setCause p l fcBER

/-! ### Beacons received (R371-R374, R380) -/

/-- Base of the identity record of receive lane i = 9 p + l; XRDS_ID fields are relative to it. -/
def idBase (i : Nat) : Nat := XRDS_B + 0x1000 * (1 + i / 126) + 32 * (i % 126)

/-- Record what a beacon shows. -/
def State.recordBeacon (s : State) (i : Nat) (x : Beacon) : State :=
  let a := idBase i
  let s := s.put64 a XRDS_ID.ID_SERIAL_LO x.serial
  let s := s.wr (a + 0x48) (BitVec.ofNat 32 (x.port % 64 + x.lane % 16 * 2 ^ 8 + x.major % 256 * 2 ^ 16 + x.minor % 256 * 2 ^ 24))
  let s := ((s.put a XRDS_ID.ID_FW_VERSION x.fw).put a XRDS_ID.ID_EPOCH_PLAN x.plan).put a XRDS_ID.ID_INC_EPOCH x.inc
  let s := (s.put a XRDS_ID.ID_PATH_PATH x.path).inc a XRDS_ID.ID_SEEN_COUNT
  { s with opt.seen := zset s.opt.seen i s.time.up }

/-- A beacon on a port in DISCOVER mode (R373). -/
def State.discoverBeacon (s : State) (p i : Nat) (x : Beacon) : State :=
  let a := idBase i
  let new := decide (s.get64 a XRDS_ID.ID_SERIAL_LO ≠ x.serial) || decide (s.get a XRDS_ID.ID_INFO_PORT ≠ x.port)
  let s := (s.recordBeacon i x).put a XRDS_ID.ID_PATH_STATE 4
  if new then s.raise (PORT_B p) 23 else s

/-- A beacon that fails the serial, port, path or lane test (R372). -/
def State.mismatchBeacon (s : State) (p l i : Nat) (x : Beacon) : State :=
  let s := (s.recordBeacon i x).put (idBase i) XRDS_ID.ID_PATH_STATE 2
  let s := (s.raise (PORT_B p) 17).markPort 0xA0 p 7
  let s := s.put (PORT_B p) (laneF PORT.LSTAT_ID_OK l) 0
  if serving (s.rxSt p l) then
    let s := s.rxLeave p l lnRELOCK fcIDENTITY
    if s.slotRuns (rxRing p l) then s.slotSettle (rxRing p l) else s
  else s.setCause p l fcIDENTITY

/-- A beacon of another major version (R374). -/
def State.majorBeacon (s : State) (p l i : Nat) (x : Beacon) : State :=
  let s := ((s.recordBeacon i x).put (idBase i) XRDS_ID.ID_PATH_STATE 3).raise (PORT_B p) 18
  let s := s.put (PORT_B p) (laneF PORT.LSTAT_ID_OK l) 0
  (if serving (s.rxSt p l) then s.rxLeave p l lnCHECKING fcIDENTITY else s).discUpdate

/-- A matching beacon (R371): the mismatch mark of a port goes when no lane of it mismatches (log entry 45). -/
def State.matchBeacon (s : State) (p l i : Nat) (x : Beacon) : State :=
  let s := ((s.recordBeacon i x).put (idBase i) XRDS_ID.ID_PATH_STATE 1).put (idBase i) XRDS_ID.ID_PATH_OP_MINOR
    (min (s.get XRDS_B XRDS.PROTO_MINOR) x.minor)
  let s := (s.put (PORT_B p) (laneF PORT.LSTAT_ID_OK l) 1).raise (PORT_B p) 16
  let s := if (List.range 9).any fun k => decide (s.get (idBase (9 * p + k)) XRDS_ID.ID_PATH_STATE = 2) then s
    else s.put XRDS_B (maskF 0xA0 p) 0
  s.tryRxService p l

/-- A beacon of the module's own major version with a higher minor (R374). -/
def State.minorCheck (s : State) (p : Nat) (x : Beacon) : State :=
  if x.major = s.get XRDS_B XRDS.PROTO_MAJOR ∧ s.get XRDS_B XRDS.PROTO_MINOR < x.minor then s.raise (PORT_B p) 22 else s

/-- A beacon on a lane of an inbound path (R371-R374). DESIGN CHOICE (log entry 336): a beacon of another major that fails a test
of R372 too is a cabling mismatch and makes the lane maintenance-only; the record's STATE then reads VERSION_MAJOR. -/
def State.pathBeacon (s : State) (p l i : Nat) (e : PathEnt) (x : Beacon) : State :=
  let ok := decide (x.path = e.id ∧ x.serial = e.peerSerial ∧ x.port = e.peerPort ∧ x.lane = l)
  let s := if ok then s else s.mismatchBeacon p l i x
  if x.major ≠ s.get XRDS_B XRDS.PROTO_MAJOR then s.majorBeacon p l i x
  else if ok then s.matchBeacon p l i x else s

/-- Lane l of port p receives a beacon. -/
def State.beaconIn (s : State) (p l : Nat) (x : Beacon) : State :=
  let i := 9 * p + l
  let b := s.plan
  if s.portOn p = false then s
  else if b.mode p = mdDISCOVER then (if l = 0 then (s.minorCheck p x).discoverBeacon p i x else s)
  else if (s.ringLine (rxRing p l)).isNone then s
  else match b.path true (b.lanePath (rxRing p l)) with
  | none => s
  | some e => (s.minorCheck p x).pathBeacon p l i e x

end Sys2Proof.Machine
end

