-- ==== Sys2Proof/Machine/TileCtl.lean ====
section
/-!
DEFINITION. The sequencer's shared operations (R95-R97, R108-R112, R122, R123): fetch, issue, waits, stops, completion of
a unit's operation; the job's end, failure and stop (R211, R217, R219), and the wipe of a tile (R123).
-/
namespace Sys2Proof.Machine

/-! ### The job's state -/


/-- The page on which job events and errors appear (R208, R210). -/
def State.jobPage (s : State) : Nat := DIE_B s.firstDie

def State.jobState (s : State) : Nat := s.get jobB DIE.JOB_STAT_STATE
def jsEMPTY : Nat := 0
def jsLOADING : Nat := 1
def jsLOADED : Nat := 2
def jsREFUSED : Nat := 3
def jsRUNNING : Nat := 4
def jsDONE : Nat := 5
def jsSTOPPED : Nat := 6
def jsFAILED : Nat := 7

/-- The entry of a phase. -/
def State.phaseEnt (s : State) (p : Nat) : PhaseEnt := s.job.img.phases.getD p default

/-- Move POWER.STATE between READY (2) and RUN (3), with event STATE_CHANGE (R502). -/
def State.powerTo (s : State) (old new : Nat) : State :=
  if s.get POWER_B POWER.STATE_STATE = old then (s.put POWER_B POWER.STATE_STATE new).raise POWER_B 0 else s

/-- Cancel an armed phase change, with one that waits for late tiles or for the schedule. -/
def State.disarm (s : State) : State :=
  let s := (s.put jobB DIE.JOB_STAT_ARMED 0).put jobB DIE.JOB_STAT_AUTO 0
  { s with job.late := none, job.starting := false }

/-- The job ends in DONE, STOPPED or FAILED (R502): no change stays armed (log entry 20). -/
def State.jobEnds (s : State) (st : Nat) : State := ((s.disarm).put jobB DIE.JOB_STAT_STATE st).powerTo 3 2

/-- The job fails with a cause (R210, R217-R221). -/
def State.jobFails (s : State) (cause : Nat) : State :=
  ((s.jobEnds jsFAILED).put jobB DIE.JOB_STAT_FAIL_CAUSE cause).raise s.jobPage 4

/-- Is every tile with a stream at its end (R217)? A tile with no entry that is still LOADED has nothing to do. -/
def State.jobOver (s : State) : Bool :=
  s.job.img.streams.all fun x =>
    decide (s.tstate x.tile = tsHALTED) ||
    (decide (s.tstate x.tile = tsPHASE_END ∨ (s.tstate x.tile = tsLOADED ∧ x.entries.getD s.phase 0xFFFF = 0xFFFF))
      && decide ((s.phaseEnt s.phase).succ = 0xFF))

/-- DONE once every tile is at its end (R217). -/
def State.settleJob (s : State) : State :=
  if s.jobState = jsRUNNING ∧ s.job.starting = false ∧ s.job.late = none ∧ s.jobOver = true then
    (s.jobEnds jsDONE).raise s.jobPage 3
  else s

/-! ### Stops (R112, R122, R143, R150) -/

def State.stopCode (s : State) (g : Nat) : Nat := zget s.tile.stop g
def State.setStop (s : State) (g c : Nat) : State := { s with tile.stop := zset s.tile.stop g c }

/-- Is the mesh stopped until the next module reset (R143, R150)? -/
def State.meshDown (s : State) : Bool := (List.range 4).any fun d => s.diePresent d && s.bit (MESH_B d) hSTAT_FAULT

/-- The instruction word that the tile's PC names, as stored (R82). -/
def State.curWord (s : State) (g : Nat) : Nat :=
  let u := instrAddr g (32 * (s.pc g / 2))
  (s.readUnit u).1 / 2 ^ (128 * (s.pc g % 2)) % 2 ^ 128

/-- The compute barrier at which a tile waits. -/
def State.waitsAt (s : State) (g : Nat) : Option Nat :=
  if s.tstate g = tsWAITING ∧ s.get (TILE_B g) TILE.STATUS_WAIT_KIND = 3 then some (bf (s.curWord g) 37 32) else none

/-- BARRIER_WAIT after a tile begins or ends a wait at barrier b (R210). -/
def State.barrierMask (s : State) (b : Nat) : State :=
  let w := if s.tiles.any fun g => decide (s.waitsAt g = some b) then 1 else 0
  s.put jobB ⟨0x78 + b / 32 * 4, b % 32, b % 32⟩ w

/-- The barrier record with a number in the current phase (R204). -/
def State.barrier (s : State) (b : Nat) : Option BarRec :=
  s.job.img.bars.find? fun r => r.id = b ∧ r.mask / 2 ^ s.phase % 2 = 1

/-- Abandon a wait in progress: the instruction has not taken effect (R112, R123), so an arrival is taken back. -/
def State.abandonWait (s : State) (g : Nat) : State :=
  match s.waitsAt g with
  | some b =>
    let n := zget s.job.arrivals b
    ({ s.setT g tsRUNNING 0 with job.arrivals := zset s.job.arrivals b (n - 1) }).barrierMask b
  | none => if s.tstate g = tsWAITING then s.setT g tsRUNNING 0 else s

/-- Stop a tile as a write of TILE.CTRL.HALT_REQ does (R112). DESIGN CHOICE (log entry 291): a tile that still drains
after HALT ends as HALT says, with event HALTED alone; one that drains after PHASE_END stops on the request, with
HALT_REQ_DONE and no PHASE_END. -/
def State.haltTile (s : State) (g : Nat) : State :=
  let st := s.tstate g
  if st = tsRUNNING ∨ st = tsWAITING then
    let s := (s.abandonWait g).put (TILE_B g) TILE.CTRL_HALT_REQ 1
    if s.stopCode g = 1 ∨ s.stopCode g = 3 then s else s.setStop g 2
  else if st = tsLOADED ∨ st = tsPHASE_END then
    ((s.setT g tsHALTED 0).put (TILE_B g) TILE.CTRL_HALT_REQ 0).raise (TILE_B g) 5
  else s.put (TILE_B g) TILE.CTRL_HALT_REQ 0

/-- Stop every tile of the module. -/
def State.haltAll (s : State) : State := s.tiles.foldl (fun s g => s.haltTile g) s

/-- The reshard engines abandon their descriptors (R211, R221). -/
def State.reshardStop (s : State) : State :=
  (List.range 4).foldl (fun s d => s.put (RESHARD_B d) RESHARD.STAT_ACTIVE 0) { s with job.rsRun := false }

/-- A mesh failure that stops the tiles ends the job (R219). -/
def State.meshFails (s : State) : State :=
  let s := s.haltAll
  if s.jobState = jsLOADING ∨ s.jobState = jsLOADED ∨ s.jobState = jsRUNNING then s.jobFails 5 else s

/-- A tile whose in-flight operations are done ends what it was ending: PHASE_END (R111, R217). -/
def State.settleTile (s : State) (g : Nat) : State :=
  if s.stopCode g = 4 ∧ s.inflight g = false then
    ((((s.setT g tsPHASE_END 0).setStop g 0).raise (TILE_B g) 1)).settleJob
  else s

/-! ### Issue (R95, R96, R99, R123) -/

/-- May the tile issue an instruction? -/
def State.canIssue (s : State) (g : Nat) : Bool :=
  s.tilePresent g && decide (s.tstate g = tsRUNNING) && decide (s.stopCode g = 0) && s.on (TILE_B g)
    && !s.bit (TILE_B g) hCTRL_QUIESCE && !s.bit (TILE_B g) hCTRL_BLOCK_RESET && !s.meshDown && !s.stalled

/-- Fetch the instruction at the PC: its word, whether it was uncorrectable, and the counts of the read (R79, R82). -/
def State.fetch (s : State) (g : Nat) : (Nat × Bool) × State :=
  let ((d, p), s') := s.readTileUnit g (instrAddr g (32 * (s.pc g / 2)))
  ((d / 2 ^ (128 * (s.pc g % 2)) % 2 ^ 128, p), s')

/-- The fetched instruction as an operation of its unit, with the index register's offset (R96). -/
def State.mkOp (s : State) (g w : Nat) : Op :=
  ⟨s.pc g, w, s.idx g (iIdx w), s.ebase g, 0, zget s.tile.issued g, none⟩

/-- The tile issues an instruction of a given opcode: nothing when it cannot issue or its instruction is another; an
uncorrectable fetch faults (R82). -/
def State.issue (s : State) (g opc : Nat) (k : Op → State → State) : State :=
  if s.canIssue g then
    let ((w, bad), s') := s.fetch g
    if bad then s'.tfault g (s.pc g) 0x8007 0
    else if iOp w = opc then k (s.mkOp g w) s' else s
  else s

/-- Store index register k. -/
def State.setIdx (s : State) (g k : Nat) (v : Int) : State := s.put (TILE_B g) (idxF k) (twos 20 v)

/-- Set the open loops, with STATUS.LOOP_DEPTH (R119). -/
def State.setLoops (s : State) (g : Nat) (l : List LoopFrame) : State :=
  { s.put (TILE_B g) TILE.STATUS_LOOP_DEPTH l.length with tile.loops := zset s.tile.loops g l }

/-- Go on after the instruction at the PC, ending the loop passes that end there (R97). -/
def State.advance (s : State) (g : Nat) : State :=
  let ix := (List.range 7).map fun k => s.idx g (k + 1)
  let (pc, ix', ls) := endLoops (s.pc g) ix (zget s.tile.loops g)
  let s := (List.range 7).foldl (fun s k => if ix'.getD k 0 = ix.getD k 0 then s else s.setIdx g (k + 1) (ix'.getD k 0)) s
  (s.setLoops g ls).setPc g pc

/-- The tile waits at its instruction. -/
def State.hold (s : State) (g kind : Nat) : State := s.setT g tsWAITING kind

/-- A wait of a kind ends and issue goes on after the waiting instruction. -/
def State.release (s : State) (g : Nat) : State := (s.setT g tsRUNNING 0).advance g

/-- Is the tile in a wait of a kind that can end now? -/
def State.waiting (s : State) (g kind : Nat) : Bool :=
  s.tilePresent g && decide (s.tstate g = tsWAITING) && decide (s.get (TILE_B g) TILE.STATUS_WAIT_KIND = kind)
    && decide (s.stopCode g = 0) && s.on (TILE_B g) && !s.meshDown

/-! ### Schedule audit (R113, R114) -/

/-- Does an operation have to wait for an earlier one of the other matrix pipe (R90)? Arrays of one number on
bank engines that both name. -/
def interlocked (o p : Op) : Bool :=
  let ban (x : Op) : Nat × Nat := (bf x.word 57 53, bf x.word 57 53 + bf x.word 63 58)
  decide (p.seq < o.seq) && decide (bf o.word 86 86 = bf p.word 86 86)
    && decide ((ban o).1 < (ban p).2 ∧ (ban p).1 < (ban o).2)
    && ((decide (iOp o.word = 0x20) && decide (iOp p.word = 0x21)) || (decide (iOp o.word = 0x21) && decide (iOp p.word = 0x20)))

/-- Is operation o, behind the operations `mine` of its matrix pipe, ordered after operation p of the other pipe's queue
`q`? An operation at or before o waits (R90) for one at or after p, and each pipe is in order (R95). -/
def ordered (mine q : List Op) (p : Op) : Bool :=
  mine.any fun x => (q.filter fun r => decide (p.seq ≤ r.seq)).any fun r => interlocked x r

/-- The descriptor that an accumulator entry is bound to when operation o is performed: the last ACC_BIND before it in the
compute pipe's queue names it, else the entry's binding (R86, R95). -/
def State.bindAhead (s : State) (g : Nat) (o : Op) (bank e : Nat) : Nat :=
  let b := (s.queue g 1).reverse.find? fun x => decide (iOp x.word = 0x23 ∧ x.seq < o.seq
    ∧ bf x.word 55 51 ≤ bank ∧ bank < bf x.word 55 51 + bf x.word 61 56
    ∧ bf x.word 72 64 ≤ e ∧ e < bf x.word 72 64 + bf x.word 82 73)
  (b.map fun x => bf x.word 111 96).getD ((s.acc g bank e).bind.getD 0)

/-- The words of its own tile that an operation names by module address (R159). -/
def ownRange (g : Nat) (o : Op) : List (Int × Nat) :=
  let a := (baddr o 103 64).toNat
  if isHbm a ∨ tileOfAddr a ≠ g then [] else [((a % 0x1000000 / 32 : Nat), bf o.word 119 104)]

/-- The scale array words that an operation reads for the elements it asks scales for (R49, R113). -/
def State.scaleReads (s : State) (g : Nat) (req : List (TDesc × Nat)) : List (Bool × Int × Nat) :=
  (((req.filterMap fun q => s.scaleAddr g q.1 (q.2 % 2 ^ 48)).map (fun a => a / 32)).eraseDups).map fun a => (false, Int.ofNat a, 1)

/-- The reads and writes of an operation in its own tile's memory: write?, first word, words. -/
def State.accesses (s : State) (g : Nat) (o : Op) : List (Bool × Int × Nat) :=
  let w := o.word
  let rng (r : Int × Nat) : Int × Nat := (r.1 / 32, ((r.1 + r.2 + 31) / 32 - r.1 / 32).toNat)
  match iOp w with
  | 0x25 =>
    let d := s.desc (s.bindAhead g o (bf w 55 51) (bf w 72 64))
    let code := if bf w 31 30 = 1 then 0x00 else if bf w 31 30 = 2 then 0x1F else d.fmt % 128
    let run := bf w 29 24 * bf w 61 56
    [(true, waddr o 50 32, (bf w 76 73 + 1) * ceilDiv (elemBytes code run) 32)]
      ++ (if isMx code then [(true, waddr o 122 104, (bf w 76 73 + 1) * ceilDiv (mxScales code run) 32)] else [])
      ++ s.scaleReads g (if code = 0x1F ∨ bf w 31 30 ≠ 0 then [] else (List.range ((bf w 76 73 + 1) * run)).flatMap fun i =>
        let B := bf w 76 73 + 1
        let e := s.acc g (bf w 55 51 + i % run / bf w 29 24) (bf w 72 64 + i % run % bf w 29 24 * B + i / run)
        ((if isInt code then [d] else []) ++ (if acbExact (iAcb w) then (s.partDesc d e).toList else [])).map
          fun x => (x, o.ebase + bf w 103 80 + i))
  | 0x30 | 0x31 =>
    let d := s.desc (bf w 103 88)
    let code := bf w 31 24 % 128
    ((footprint o).map fun r => (decide (iOp w = 0x31), rng r))
      ++ s.scaleReads g (if isInt code then [(d, 0)] else if code = 0x1F ∧ iOp w = 0x30 then
        (List.range 128).map fun i => (d, o.ebase + bf w 127 104 + i) else [])
  | 0x40 => [(false, waddr o 50 32, bf w 119 104), (true, waddr o 82 64, bf w 119 104)]
  | 0x41 => ((footprint o).map fun r => (true, rng r)) ++ (ownRange g o).map (false, ·)
  | 0x42 => ((footprint o).map fun r => (false, rng r)) ++ (ownRange g o).map (true, ·)
  | 0x43 => (footprint o).map fun r => (true, rng r)
  | _ => (footprint o).map fun r => (false, rng r)

/-- Record an audit event (R113): counted, and the first since AUDIT_STAT was read is captured. -/
def State.auditRec (s : State) (g kind pcA pcB twa : Nat) : State :=
  let b := TILE_B g
  let first := decide (s.get b TILE.AUDIT_STAT_COUNT = 0)
  let s := s.inc b TILE.AUDIT_STAT_COUNT
  if first then
    let s := (s.put b TILE.AUDIT_STAT_KIND kind).put b TILE.AUDIT_PC_PC_A pcA
    ((s.put b TILE.AUDIT_PC_PC_B pcB).put b TILE.AUDIT_ADDR_TWA twa).raise b 3
  else s

/-- A scheduled SEND of tile g is late (R113, R134, R153). -/
def State.lateSend (s : State) (g pc : Nat) : State :=
  let m := MESH_B (g / 256)
  let s := (s.inc m MESH.LATE_SENDS_COUNT).raise m 3
  if s.bit (TILE_B g) TILE.CTRL_AUDIT then s.auditRec g 5 pc 0 0 else s

/-- Compare an operation that issues to unit u with those in flight in the other units that nothing orders before it: one
record for each overlapping pair of accesses of which one writes (R113, R114; log entry 21). -/
def State.audit (s : State) (g u : Nat) (o : Op) : State :=
  if s.bit (TILE_B g) TILE.CTRL_AUDIT then
    let mine := s.accesses g o
    let free (v : Nat) (p : Op) : Bool := !(decide (u < 2 ∧ v < 2) && ordered (s.queue g u ++ [o]) (s.queue g v) p)
    let others := ((List.range 5).filter fun v => decide (v ≠ u)).flatMap fun v =>
      ((s.queue g v).filter (free v)).map fun p => (p.pc, s.accesses g p)
    let meet (a b : Bool × Int × Nat) : Bool :=
      (a.1 || b.1) && decide (a.2.1 < b.2.1 + Int.ofNat b.2.2 ∧ b.2.1 < a.2.1 + Int.ofNat a.2.2)
    others.foldl (fun s p => p.2.foldl (fun s b => mine.foldl (fun s a =>
      if meet a b then
        s.auditRec g (if a.1 && b.1 then 3 else if a.1 then 2 else 1) o.pc p.1 (max a.2.1 b.2.1).toNat
      else s) s) s) s
  else s

/-! ### Unit queues (R95) -/

/-- Entries of a unit's queue. -/
def queueCap (u : Nat) : Nat := [4, 4, 8, 16, 8].getD u 0

/-- Issue an instruction to a unit: its addresses are checked first (R96), a full queue holds issue. -/
def State.issueUnit (s : State) (g opc u : Nat) : State :=
  s.issue g opc fun o s =>
    match s.issueFault o with
    | some (c, a) => s.tfault g o.pc c a
    | none =>
      if queueCap u ≤ (s.queue g u).length then s.hold g 5
      else
        let s := s.audit g u o
        let s := s.setQueue g u (s.queue g u ++ [o])
        ({ s with tile.issued := zset s.tile.issued g (o.seq + 1) }).advance g

/-- Take operation k out of a unit's queue, wake an issue that waited for room, and finish a tile that was ending. -/
def State.dequeue (s : State) (g u k : Nat) : State :=
  let s := s.setQueue g u ((s.queue g u).eraseIdx k)
  let s := if s.tstate g = tsWAITING ∧ s.get (TILE_B g) TILE.STATUS_WAIT_KIND = 5 then s.setT g tsRUNNING 0 else s
  s.settleTile g

/-- Take operation k out and increment its local token (R105, R108). -/
def State.completeOp (s : State) (g u k : Nat) (o : Op) : State :=
  (s.bumpToken g (bf o.word 27 24) o.pc).dequeue g u k

/-! ### A tile's own hardware (R122, R143) -/

/-- The tile at a physical position of die d has failed in service: it is recorded in PENDING, once since the module
reset (R143). Fault reporting goes on whatever ENABLE is (R151). -/
def State.tilePending (s : State) (d row col : Nat) : State :=
  let m := MESH_B d
  let k := 256 * d + 16 * row + col
  if zget s.tile.failed k then s
  else
    let s := { s with tile.failed := zset s.tile.failed k true }
    let s := (((s.inc m MESH.PENDING_COUNT).put m MESH.PENDING_ROW row).put m MESH.PENDING_COLUMN col).put m MESH.PENDING_VALID 1
    (s.raiseAlways m 0).record m 0x0030 [(s.rd (m + 0x4C)).toNat]

/-- Tile g's own hardware check fails: PENDING, PAGE_STAT.FAULT, and a fault of the tile (R122, R143). -/
def State.tileHwFail (s : State) (g : Nat) : State :=
  let p := s.physOf (g / 256) (g % 256)
  ((s.tilePending (g / 256) p.1 p.2).put (TILE_B g) hSTAT_FAULT 1).tfault g (s.pc g) 0x800B 0

/-! ### Routes of traffic (R127, R138, R151) -/

def tilePos (g : Nat) : Nat × Nat := (tileRow g, tileCol g)

/-- The dies that the route between two mesh positions crosses, both ends included. -/
def State.crossed (s : State) (a b : Nat × Nat) : List Nat :=
  match s.shape.route a.1 a.2 b.1 b.2 with
  | some l => (l.map fun p => dieAt p.1 p.2).eraseDups
  | none => [dieAt a.1 a.2, dieAt b.1 b.2]

/-- The dies between tile g and a module address: its tile, or the edge tile of its stack's controller (R138). -/
def State.memDies (s : State) (g a : Nat) : List Nat :=
  s.crossed (tilePos g) (if isHbm a then s.shape.outerEdge g (stackOf a) else tilePos (tileOfAddr a))

/-- Do the meshes of dies carry traffic (R151)? -/
def State.carried (s : State) (ds : List Nat) : Bool := ds.all fun d => s.on (MESH_B d)

/-- The dies between an engine of die d at the optical edge and a module address (R138; log entry 323, DEDUCED: in the tile's column, in
column 0 for a stack). -/
def State.engineDies (s : State) (d a : Nat) : List Nat :=
  let e := s.shape.opticalEdge (256 * d + (if isHbm a then 0 else tileOfAddr a % 256 % 11))
  s.crossed e (if isHbm a then s.shape.outerEdge (tileAt e.1 e.2) (stackOf a) else tilePos (tileOfAddr a))

/-- Is the mesh of a die asked to quiesce (R155)? -/
def State.meshQuiet (s : State) (d : Nat) : Bool := s.bit (MESH_B d) hCTRL_QUIESCE

/-- Is dynamic traffic between the edge units of die d and a module address held at its source: a mesh on the way that carries
none, or one at either end that quiesces (R151, R155)? -/
def State.engineHeld (s : State) (d a : Nat) : Bool :=
  !s.carried (s.engineDies d a) || s.meshQuiet d || s.meshQuiet (if isHbm a then stackOf a / 2 else tileOfAddr a / 256)

/-- Must a message engine of die d wait to reach a module address: a stack that holds back requests (R187), or the mesh between
it and a tile (R136, R151, R155)? -/
def State.msgHeld (s : State) (d a : Nat) : Bool := s.memHeld a || (!isHbm a && s.engineHeld d a)

/-- Must a GATHER of tile g wait to read at a module address (R151, R155, R187)? -/
def State.gatherHeld (s : State) (g a : Nat) : Bool :=
  s.memHeld a || !s.carried (s.memDies g a) || s.meshQuiet (g / 256) || s.meshQuiet (stackOf a / 2)

/-! ### Wipes (R123, R177) -/

/-- Drop the entries of a map whose keys lie in [lo, hi). -/
def mdrop {α : Type} (lo hi : Nat) (m : SMap α) : SMap α := m.filter fun e => !(decide (lo ≤ e.1) && decide (e.1 < hi))

/-- Zero a range of cell addresses with its errors and poison. -/
def State.wipeMem (s : State) (lo hi : Nat) : State :=
  { s with mem := mdrop lo hi s.mem, upset := mdrop lo hi s.upset, poison := mdrop lo hi s.poison }

/-- Wipe tile g's memories, accumulators and weight arrays, and drop what it was doing (R123). -/
def State.wipeTile (s : State) (g : Nat) : State :=
  let s := (s.wipeMem (tileAddr g 0) (tileAddr (g + 1) 0)).wipeMem (instrAddr g 0) (instrAddr (g + 1) 0)
  { s with
    tile.acc := mdrop (g * 16384) ((g + 1) * 16384) s.tile.acc
    tile.warr := mdrop (g * 64) ((g + 1) * 64) s.tile.warr
    tile.chunk := mdrop (g * 32) ((g + 1) * 32) s.tile.chunk
    tile.loops := mdrop g (g + 1) s.tile.loops
    tile.queue := mdrop (g * 8) ((g + 1) * 8) s.tile.queue
    tile.stop := mdrop g (g + 1) s.tile.stop
    tile.issued := mdrop g (g + 1) s.tile.issued
    tile.urgent := s.tile.urgent.filter fun a => !decide (tileOfAddr a = g) || isHbm a }

/-! ### Resetting registers (R6, R31) -/

/-- The register row of a BAR0 address. -/
def rowAt (a : Nat) : Option RegRow :=
  match pageAt (a / 4096) with
  | some (ty, inst) => if a % 4096 < 0x40 ∨ hasHeader ty = false then none else (rowIn ty inst (a % 4096)).map Prod.fst
  | none => none

/-- Return the stored registers of the pages that `sel` names to their reset values, but for the bits of `keep`. -/
def State.resetRegs (s : State) (sel : Nat → Bool) (keep : Nat → Nat) : State :=
  { s with regs := s.regs.filterMap fun e =>
      if sel (e.1 / 4096) then
        let k := BitVec.ofNat 32 (keep e.1)
        let v := (e.2 &&& k) ||| (regReset e.1 &&& ~~~k)
        if v = regReset e.1 then none else some (e.1, v)
      else some e }

/-- Bits that a block reset keeps (R31). -/
def keepBlock (a : Nat) : Nat := ((rowAt a).map RegRow.keepBlock).getD 0

/-- A block reset of one page's registers. -/
def State.blockResetRegs (s : State) (page : Nat) : State := s.resetRegs (fun p => decide (p = page)) keepBlock

/-- The whole block reset of a TILE page (R119, R123). -/
def State.tileReset (s : State) (g : Nat) : State := (s.blockResetRegs (TILE_B g / 4096)).wipeTile g

end Sys2Proof.Machine
end

