-- ==== Sys2Proof/Machine/Host.lean ====
section
/-!
DEFINITION. The host window (13_host_mgmt.md): MSI-X, segments, slot ownership and handoff, accesses through BAR2, the
mailbox's submission, hot reset and link changes.
-/
namespace Sys2Proof.Machine


/-! ### MSI-X (R454, R457, R487) -/

/-- Is vector v masked? In D3hot vector 0 counts as masked (R487). -/
def State.msixMasked (s : State) (v : Nat) : Bool := !(zget s.host.unmasked v) || (s.host.d3 && decide (v = 0))

/-- The message write of vector v: its address and data as the table holds them. -/
def State.msixSend (s : State) (v : Nat) : State := s.emit .msix (v :: (List.range 3).map fun w => zget s.host.msixTab (4 * v + w))

/-- Send vector v, or set its pending bit while it is masked. While PERST_N is low the function is in reset (R455). -/
def State.msix (s : State) (v : Nat) : State :=
  if s.bit POWER_B POWER.STATE_PERST_HOLD then s
  else if s.msixMasked v then { s with host.msixPend := zset s.host.msixPend v true } else s.msixSend v

/-- Send vector v once if it is pending and no longer masked. -/
def State.msixFlush (s : State) (v : Nat) : State :=
  if zget s.host.msixPend v && !s.msixMasked v
  then { s with host.msixPend := zset s.host.msixPend v false }.msixSend v else s

/-- The mask bit of vector v is written; a pending vector is sent as it is unmasked. -/
def State.msixMask (s : State) (v : Nat) (masked : Bool) : State :=
  { s with host.unmasked := zset s.host.unmasked v (!masked) }.msixFlush v

/-- A word of BAR4: the MSI-X table at 0x0000, 16 bytes a vector with the mask bit in its last word, and the pending-bit array
at 0x2000 (R454). -/
def State.bar4Read (s : State) (o : Nat) : Nat :=
  if o < 16 * pcieFn.vectors then
    if o / 4 % 4 = 3 then (if zget s.host.unmasked (o / 16) then 0 else 1) else zget s.host.msixTab (o / 4)
  else if o = 0x2000 ∨ o = 0x2004 then
    ((List.range 32).map fun b => if zget s.host.msixPend (32 * ((o - 0x2000) / 4) + b) then 2 ^ b else 0).foldl (· + ·) 0
  else 0

/-- A write of a word of BAR4; the pending-bit array is read-only. A message address has no bits [1:0]. -/
def State.bar4Write (s : State) (o : Nat) (v : Word) : State :=
  if o < 16 * pcieFn.vectors then
    if o / 4 % 4 = 3 then s.msixMask (o / 16) (v.getLsbD 0)
    else { s with host.msixTab := zset s.host.msixTab (o / 4) (if o / 4 % 4 = 0 then v.toNat / 4 * 4 else v.toNat) }
  else s

/-! ### Slots and segments (R458-R460) -/

/-- The ownership flag of slot i, which OWN reports: true is MODULE (R460). -/
def ownF (i : Nat) : Fld := bitF (0x800 + 4 * (i / 32)) (i % 32)
def State.owned (s : State) (i : Nat) : Bool := s.bit HOSTWIN_B (ownF i)

/-- The flags of the slots first .. first + n - 1, and the counts of WIN_STAT. -/
def State.setOwn (s : State) (first n v : Nat) : State :=
  let was := (List.range n).countP fun i => s.owned (first + i)
  let m := s.get HOSTWIN_B HOSTWIN.WIN_STAT_MODULE - was + n * v
  let s : State := (List.range n).foldl (fun s i => s.put HOSTWIN_B (ownF (first + i)) v) s
  (s.put HOSTWIN_B HOSTWIN.WIN_STAT_MODULE m).put HOSTWIN_B HOSTWIN.WIN_STAT_HOST (16384 - m)

/-- The module address of SEG_BASE_k, and whether the segment is mapped. -/
def segAddr (lo hi : Nat) : Nat := lo / 2 ^ 26 % 64 * 2 ^ 26 + hi % 256 * 2 ^ 32
def State.segBase (s : State) (k : Nat) : Nat :=
  segAddr (s.rd (HOSTWIN_B + 0x80 + 8 * k)).toNat (s.rd (HOSTWIN_B + 0x84 + 8 * k)).toNat
def State.segValid (s : State) (k : Nat) : Bool := s.bit HOSTWIN_B (HOSTWIN.SEG_BASE_LO_VALID.at k 8)

/-- A write of the SEG_BASE_k pair, as it takes effect on its high half (R459). -/
def State.segWrite (s : State) (path k lo hi : Nat) : State :=
  if (List.range 1024).any fun i => s.owned (1024 * k + i) then s.recErr HOSTWIN_B 16 0x8D01 path k
  else if lo % 2 = 1 && !s.presentRange (segAddr lo hi) (2 ^ 26) then s.recErr HOSTWIN_B 17 0x8D02 path k
  else (s.wr (HOSTWIN_B + 0x80 + 8 * k) (BitVec.ofNat 32 (lo / 2 ^ 26 * 2 ^ 26 + lo % 2))).wr
    (HOSTWIN_B + 0x84 + 8 * k) (BitVec.ofNat 32 (hi % 256))

/-- Push the notify FIFO, and send vector 1 whether or not it had room (R457, R462). -/
def State.notifyPush (s : State) (slot count : Nat) : State :=
  if s.host.notify.length < 64 then { s with host.notify := s.host.notify ++ [(slot, count)] }.msix 1
  else { s with host.notifyLost := true }.msix 1

/-- The slots slot .. slot + count, all of owner `from`, pass to the other owner (R460, R466). -/
def State.passSlots (s : State) (slot count owner : Nat) (notify : Bool) : State :=
  let s := s.setOwn slot (count + 1) (1 - owner)
  let s := { s with host.dropped := mdrop slot (slot + count + 1) s.host.dropped }
  if owner = 0 then s.raise HOSTWIN_B 0
  else
    let s := s.raise HOSTWIN_B 1
    if notify then s.notifyPush slot count else s

/-- A write of HANDOFF from a path (R460). -/
def State.handoff (s : State) (path : Nat) (v : Word) : State :=
  let slot := fget v HOSTWIN.HANDOFF_SLOT
  let count := fget v HOSTWIN.HANDOFF_COUNT
  let owner := fget v HOSTWIN.HANDOFF_FROM
  if 16383 < slot + count then (s.pwr path (HOSTWIN_B + 0x48) 2)
  else match (List.range (count + 1)).find? fun i => decide (s.owned (slot + i) ≠ decide (owner = 1)) with
    | some i => s.pwr path (HOSTWIN_B + 0x48) (BitVec.ofNat 32 (1 + (slot + i) * 2 ^ 16))
    | none => (s.pwr path (HOSTWIN_B + 0x48) 0).passSlots slot count owner (decide (fget v HOSTWIN.HANDOFF_NOTIFY = 1))

/-- The maximal runs of an ascending list of slots: first slot and slots less one. -/
def ascRuns : List Nat → List (Nat × Nat)
  | [] => []
  | x :: xs => match ascRuns xs with
    | [] => [(x, 0)]
    | (f, c) :: rs => if f = x + 1 then (x, c + 1) :: rs else (x, 0) :: (f, c) :: rs

/-- The slots of a MODULE owner whose segment maps a byte of the range (R463). -/
def State.slotsOver (s : State) (addr n : Nat) : List Nat :=
  (List.range 16384).filter fun i =>
    decide (0 < n) && s.owned i && s.segValid (i / 1024) && decide (s.segBase (i / 1024) < addr + n ∧ addr < s.segBase (i / 1024) + 2 ^ 26)

/-- The loader hands the image area's slots back to the host at the end of a load (R463). -/
def State.handBack (s : State) (addr n : Nat) : State :=
  (ascRuns (s.slotsOver addr n)).foldl (fun s r => s.passSlots r.1 r.2 1 true) s

/-- A read of NOTIFY_FIFO: the oldest entry and the overflow bit, both removed (R462, R465). -/
def State.notifyRead (s : State) : Nat × State :=
  let o := if s.host.notifyLost then 2 ^ 30 else 0
  match s.host.notify with
  | (f, c) :: l => (f + c * 2 ^ 14 + o + 2 ^ 31, { s with host.notify := l, host.notifyLost := false })
  | [] => (o, { s with host.notifyLost := false })

/-! ### Accesses through BAR2 (R458, R461) -/

/-- What a byte of an access meets: 0 unmapped, 1 a MODULE slot, 2 the byte at its module address. In STANDBY the whole window
is unmapped (R455). -/
def State.bar2At (s : State) (o : Nat) : Nat × Nat :=
  let k := o / 2 ^ 26 % 16
  let a := s.segBase k + o % 2 ^ 26
  if decide (2 ≤ s.get POWER_B POWER.STATE_STATE) && s.segValid k && s.on HOSTWIN_B && s.presentRange a 1
    && s.bit (HBM_B (stackOf a)) hSTAT_READY then
    if s.owned (o / 2 ^ 16 % 16384) then (1, a) else (2, a)
  else (0, a)

/-- The first drop in a slot since its last handoff (R461). -/
def State.firstDrop (s : State) (o : Nat) : State :=
  let slot := o / 2 ^ 16 % 16384
  if zget s.host.dropped slot then s
  else
    let s := { s with host.dropped := zset s.host.dropped slot true }
    let s := s.put HOSTWIN_B HOSTWIN.LAST_DROP (slot + o % 2 ^ 16 * 2 ^ 14 + 2 ^ 31)
    (s.raise HOSTWIN_B 2).record HOSTWIN_B 0x0060 [(s.rd (HOSTWIN_B + 0x5C)).toNat]

/-- Write scattered bytes into the unit at base u: all of it replaces it, a part keeps its poison (R171). -/
def State.writeScatter (s : State) (u : Nat) (bs : List (Nat × Byte)) : State :=
  let pick (i : Nat) (old : Byte) : Byte := ((bs.reverse.find? fun e => decide (e.1 = u + i)).map Prod.snd).getD old
  if (List.range (unitOf u)).all fun i => bs.any fun e => decide (e.1 = u + i) then
    s.writeMemUnit u (ofLe ((List.range (unitOf u)).map fun i => pick i 0)) false
  else
    let ((d, q), s') := s.readMemUnit u
    s'.writeMemUnit u (ofLe ((List.range (unitOf u)).map fun i => pick i ((leBytes (unitOf u) d).getD i 0))) q

/-- The bytes of an access with their offsets; an element above 255 is a byte whose enable is 0. -/
def bar2Bytes (o : Nat) (l : List Nat) : List (Nat × Nat) :=
  ((List.range l.length).map fun i => ((o + i) % 2 ^ 30, l.getD i 256)).filter fun e => decide (e.2 < 256)

/-- The bytes of a window access that go to memory wait while their stack holds back requests, or behind an earlier one that
waits (R160, R187). -/
def Offer.host : Offer → Bool
  | .hostWrite _ | .hostRead _ | .handoff _ => true
  | _ => false
def State.hostHeld (s : State) (as : List Nat) : Bool := s.msg.offers.any Offer.host || as.any s.memHeld

/-- Bytes that a window access has written reach memory. -/
def State.hostWrite (s : State) (ok : List (Nat × Byte)) : State :=
  if ok.isEmpty then s
  else if s.hostHeld (ok.map Prod.fst) then s.offer (.hostWrite ok)
  else (ok.map fun e => unitBase e.1).eraseDups.foldl (fun s u => s.writeScatter u (ok.filter fun e => decide (unitBase e.1 = u))) s

/-- A window access reads: each byte as it met the window (2: memory), with its module address. The completion goes out. -/
def State.hostRead (s : State) (bs : List (Nat × Nat)) : State :=
  let mem := (bs.filter fun e => decide (e.1 = 2)).map Prod.snd
  if s.hostHeld mem then s.offer (.hostRead bs)
  else
    let (rs, s) := ((mem.map unitBase).eraseDups).foldl (fun (acc : List (Nat × Nat × Bool) × State) u =>
      let ((d, p), s') := acc.2.readMemUnit u
      (acc.1 ++ [(u, d, p)], s')) ([], s)
    let val (e : Nat × Nat) : Nat := match rs.find? fun r => decide (r.1 = unitBase e.2) with
      | some (u, d, p) => if e.1 = 2 ∧ p = false then d / 256 ^ (e.2 - u) % 256 else 255
      | none => 255
    s.emit .bar2 (bs.map fun e => if e.1 = 2 then val e else 255)

/-- A handoff over PCIe takes effect after every window write posted before it (R462). -/
def State.handoffIn (s : State) (path : Nat) (v : Word) : State :=
  if path = 0 ∧ s.msg.offers.any Offer.host then s.offer (.handoff v) else s.handoff path v

/-- A host write through the window: the flags count as they stand when it reaches the window (R461). -/
def State.bar2Write (s : State) (o : Nat) (l : List Nat) : State :=
  let bs := (bar2Bytes o l).map fun e => (e.1, e.2, s.bar2At e.1)
  let s := if bs.any fun e => decide (e.2.2.1 = 0) then s.inc HOSTWIN_B HOSTWIN.UNMAPPED_COUNT else s
  let dr := (bs.filter fun e => decide (e.2.2.1 = 1)).map Prod.fst
  let s := if dr.isEmpty then s else s.inc HOSTWIN_B HOSTWIN.WRITE_DROP_COUNT
  let s : State := dr.foldl State.firstDrop s
  s.hostWrite ((bs.filter fun e => decide (e.2.2.1 = 2)).map fun e => (e.2.2.2, BitVec.ofNat 8 e.2.1))

/-- A host read of n bytes through the window; the bytes leave as its completion. -/
def State.bar2Read (s : State) (o n : Nat) : State :=
  let bs := (List.range n).map fun i => s.bar2At ((o + i) % 2 ^ 30)
  let s := if bs.any fun e => decide (e.1 = 0) then s.inc HOSTWIN_B HOSTWIN.UNMAPPED_COUNT else s
  let s := if bs.any fun e => decide (e.1 = 1) then s.inc HOSTWIN_B HOSTWIN.READ_DENIED_COUNT else s
  s.hostRead bs

/-! ### The mailbox's submission, the link and the function (R455, R464, R466, R487) -/

/-- The 896 bytes of a mailbox buffer at an offset. -/
def State.mboxBytes (s : State) (off : Nat) : List Nat :=
  (List.range 224).flatMap fun i => (leBytes 4 (s.rd (HOSTWIN_B + off + 4 * i)).toNat).map BitVec.toNat

/-- A write of 1 to MBOX_CTRL.GO from a path (R464). -/
def State.mboxGo (s : State) (path : Nat) : State :=
  if s.bit HOSTWIN_B HOSTWIN.MBOX_STAT_BUSY then s.recErrX HOSTWIN_B 18 0x8D03 path
  else { (s.put HOSTWIN_B HOSTWIN.MBOX_STAT_BUSY 1).raise HOSTWIN_B 3 with host.mbox := s.mboxBytes 0x100 }

/-- The LINK register of a trained link: downtrained below 16 lanes at 64 GT/s (R465). -/
def State.linkSet (s : State) (rate width flit : Nat) : State :=
  let s := (s.put HOSTWIN_B HOSTWIN.LINK_RATE rate).put HOSTWIN_B HOSTWIN.LINK_WIDTH width
  (s.put HOSTWIN_B HOSTWIN.LINK_FLIT flit).put HOSTWIN_B HOSTWIN.LINK_DOWNTRAINED
    (if rate % 8 = 6 ∧ width % 32 = 16 then 0 else 1)

/-- LINK after a change of the link, with LINK_CHANGE where the rate or the width has changed (R465, R466). -/
def State.linkTo (s : State) (rate width flit : Nat) : State :=
  let was := (s.get HOSTWIN_B HOSTWIN.LINK_RATE, s.get HOSTWIN_B HOSTWIN.LINK_WIDTH)
  let s := s.linkSet rate width flit
  if was = (rate % 8, width % 32) then s else s.raise HOSTWIN_B 5

/-- The HOSTWIN page, the MSI-X table, the configuration space and the function's power state after a hot reset or a
link-down; LINK stays, and the page is READY as before (R455, R465). -/
def State.hostReset (s : State) : State :=
  let hw (a : Nat) : Bool := decide (a / 4096 = HOSTWIN_B / 4096)
  let s := s.resetRegs (fun p => decide (p = HOSTWIN_B / 4096)) fun a =>
    if a = HOSTWIN_B + 0x68 then 2 ^ 32 - 1 else if a = HOSTWIN_B + hSTAT_READY.off then 2 ^ hSTAT_READY.lo else 0
  { s with
    pregs := s.pregs.filter fun e => !hw (e.1 % 2 ^ 26)
    shadow := s.shadow.filter fun e => !hw (e.1 % 2 ^ 26)
    held := s.held.filter fun e => !hw (e.1 % 2 ^ 26)
    msg.offers := s.msg.offers.filter fun x => !x.host
    host.notify := [], host.notifyLost := false, host.dropped := [], host.unmasked := [], host.msixPend := [], host.msixTab := []
    host.d3 := false, host.mbox := [], host.fn := pcieFn }

/-! ### Configuration space (R453, R456) -/

/-- The words of the configuration header that the spec gives: the identity, and the class code above a revision that it leaves
open. -/
def State.cfgWord (s : State) (off : Nat) : Option Nat :=
  match off with
  | 0x00 => some (s.host.fn.vendor + s.host.fn.device * 2 ^ 16)
  | 0x08 => some (s.host.fn.classCode * 2 ^ 8 + Config.pcieRevision % 2 ^ 8)
  | _ => none

/-- What the configuration space reads at an offset of the binding capability. The offset of the next capability is free. -/
def State.bindingWord (s : State) (off : Nat) : Nat :=
  match off / 4 with
  | 0 => 0x000B + 1 * 2 ^ 16 + Config.nextCapability % 2 ^ 12 * 2 ^ 20
  | 1 => 0xD880 + 1 * 2 ^ 16 + 0x030 * 2 ^ 20
  | 2 => 0x4E535244
  | 3 => s.get MODULE_B MODULE.PART_NUMBER + s.get MODULE_B MODULE.PART_STEP % 2 ^ 8 * 2 ^ 16
  | 4 => 1 * 2 ^ 8 + s.get SIZE_TABLE_B SIZE_TABLE.CONTRACT_MINOR * 2 ^ 16 + s.get SIZE_TABLE_B SIZE_TABLE.CONTRACT_MAJOR * 2 ^ 24
  | 6 => HOSTWIN_B
  | 7 => 2
  | 8 => 16384 + 16 * 2 ^ 16
  | 9 => 64 + 0 * 2 ^ 8 + 1 * 2 ^ 16 + 2 * 2 ^ 24
  | 10 => s.get MODULE_B MODULE.SERIAL_LO_VALUE
  | 11 => s.get MODULE_B MODULE.SERIAL_HI_VALUE
  | _ => 0

end Sys2Proof.Machine
end

