-- ==== Sys2Proof/Machine/Belfry.lean ====
section
/-!
DEFINITION. Belfry (14_belfry.md): sources and their inputs, sampling, eligibility, claim and completion, configuration
changes and resets. SRC_CFG_i holds source i's configuration and its pending, claim, level and overrun state; the
bitmaps, TOP, RUN, LINE and GSTAT are computed from it.
-/
namespace Sys2Proof.Machine

/-! ### The source map (R492) -/

/-- The pages whose conditions source i takes. -/
def srcPages (i : Nat) : List Nat :=
  if 1 ≤ i ∧ i ≤ 9 then [DIRECTORY_B, MODULE_B, SIZE_TABLE_B, RESET_B, POWER_B, BACKUP_B, SELFTEST_B, TIME_B, TRIGGERS_B].drop (i - 1) |>.take 1
  else if i = 10 then (List.range 8).map fun k => BELFRY_B + k * 4096
  else if 11 ≤ i ∧ i ≤ 19 then [LOG_B, UPDATE_B, CAL_B, AGEING_B, HOSTWIN_B, MGMT_B 0, MGMT_B 1, CLAIM_B, MSG_B].drop (i - 11) |>.take 1
  else if i = 20 then (List.range 5).map fun k => XRDS_B + k * 4096
  else if i = 21 then [MILLRACE_B]
  else if i = 22 ∨ i = 23 then [ENGINE_B (i - 22)]
  else if i = 24 ∨ i = 25 then [COMB_B (i - 24)]
  else if 32 ≤ i ∧ i < 68 then [PORT_B (i - 32)]
  else if 96 ≤ i ∧ i < 128 then
    let d := (i - 96) / 8
    [DIE_B d, MESH_B d, HBM_B (2 * d), HBM_B (2 * d + 1), RESHARD_B d, MENG_B d].drop ((i - 96) % 8) |>.take 1
  else if 256 ≤ i ∧ i < 768 ∧ (i - 256) % 128 < 110 then [TILE_B ((i - 256) / 128 * 256 + (i - 256) % 128)]
  else []

/-- Does source i take the condition of a compute-die page? -/
def dieSrc (i : Nat) : Bool := (srcPages i).any fun b => decide (0x200 ≤ b / 4096)

/-- Has the directory its final form: is bring-up past the end of step 4 (R21, R492)? -/
def State.dirFinal (s : State) : Bool :=
  decide (s.get POWER_B POWER.STATE_STATE ≠ 1) || decide (5 ≤ s.get POWER_B POWER.STATE_STEP)
    || (s.bit POWER_B POWER.STATE_HOLD && decide (s.get POWER_B POWER.STATE_STEP = 4))

/-- Is source i one that can be pending: a software source, a pin, or a page that the directory lists? Until the end of step 4
the sources of compute-die pages keep what they have, but for those that were absent (R492; DEDUCED, log entry 345). -/
def State.srcListed (s : State) (i : Nat) : Bool :=
  (decide (128 ≤ i) && decide (i ≤ 148))
    || if dieSrc i && !s.dirFinal then !(zget s.host.gone i) else (srcPages i).any fun b => s.listed (b / 4096)

/-- The condition of a page (R26). -/
def State.pageCond (s : State) (b : Nat) : Bool :=
  decide (s.get b hEVT_STAT &&& s.get b hEVT_EN ≠ 0) || decide (s.get b hERR_STAT ≠ 0)


/-- The input of source i now; a compute-die page's is inactive until the end of step 4 (R492). -/
def State.srcInput (s : State) (i : Nat) : Bool :=
  if 128 ≤ i ∧ i < 144 then s.bit BELFRY_B (bitF 0x48 (i - 128))
  else if 144 ≤ i ∧ i ≤ 148 then s.pinLevel i
  else if dieSrc i && !s.dirFinal then false
  else (srcPages i).any fun b => s.listed (b / 4096) && s.pageCond b

/-! ### Source state (R495) -/

/-- A field of SRC_CFG_i. -/
def srcF (i : Nat) (f : Fld) : Fld := ⟨f.off + 4 * (i % 512), f.hi, f.lo⟩
def srcBase (i : Nat) : Nat := BELFRY_B + 4096 * (1 + i / 512)
def State.src (s : State) (i : Nat) (f : Fld) : Nat := s.get (srcBase i) (srcF i f)
def State.setSrc (s : State) (i : Nat) (f : Fld) (v : Nat) : State := s.put (srcBase i) (srcF i f) v

/-- The sense mode: 0 level high, 1 level low, 2 rising, 3 falling, 4 both; 5-7 act as 0. -/
def State.sense (s : State) (i : Nat) : Nat :=
  let v := s.src i BELFRY_SRC.SRC_CFG_SENSE
  if v ≤ 4 then v else 0

/-- The target: 0-4, or 7 for none. -/
def State.target (s : State) (i : Nat) : Nat :=
  let v := s.src i BELFRY_SRC.SRC_CFG_TARGET
  if v ≤ 4 then v else 7

def State.pend (s : State) (i : Nat) : Bool := decide (s.src i BELFRY_SRC.SRC_CFG_PEND = 1)
def State.claimed (s : State) (i : Nat) : Bool := decide (s.src i BELFRY_SRC.SRC_CFG_CLAIMED = 1)
def State.claimant (s : State) (i : Nat) : Nat := s.src i BELFRY_SRC.SRC_CFG_CLAIMANT

/-- The sources whose SRC_CFG differs from its reset value, ascending: every pending or claimed source is one. -/
def State.sources (s : State) : List Nat :=
  s.regs.filterMap fun e =>
    let p := e.1 / 4096
    let o := e.1 % 4096
    if (p = BELFRY_B / 4096 + 1 ∨ p = BELFRY_B / 4096 + 2) ∧ 0x40 ≤ o ∧ o < 0x840
    then some ((p - BELFRY_B / 4096 - 1) * 512 + (o - 0x40) / 4) else none

/-- The fire counter of source i (R490). -/
def fireF (i : Nat) : Fld := ⟨0x840 + 4 * (i % 512 / 2), if i % 2 = 0 then 15 else 31, if i % 2 = 0 then 0 else 16⟩

/-- Count one fire; a counter that reaches 65,535 raises FIRE_SAT (R490, R497). -/
def State.fire (s : State) (i : Nat) : State :=
  let n := s.get (srcBase i) (fireF i)
  let s := s.inc (srcBase i) (fireF i)
  if n = 65534 then s.raise BELFRY_B 1 else s

/-- Set the pending bit, which counts as a fire when it was clear (R490). -/
def State.setPend (s : State) (i : Nat) : State :=
  if s.pend i then s else (s.setSrc i BELFRY_SRC.SRC_CFG_PEND 1).fire i

/-- A merged group of edges (R478, R497). -/
def State.overrun (s : State) (i : Nat) : State :=
  if s.src i BELFRY_SRC.SRC_CFG_OVERRUN = 1 then s else (s.setSrc i BELFRY_SRC.SRC_CFG_OVERRUN 1).raise BELFRY_B 0

/-! ### Sampling (R478, R479) -/

/-- The edges that a sense mode selects among n pulses and the change from the last sample to this one. -/
def selectedEdges (sense : Nat) (was now : Bool) (n : Nat) : Nat :=
  let up := n + (if !was && now then 1 else 0)
  let down := n + (if was && !now then 1 else 0)
  if sense = 2 then up else if sense = 3 then down else up + down

/-- A level source that is not claimed follows its input. -/
def State.levelSample (s : State) (i : Nat) (v : Bool) : State :=
  if s.claimed i then s
  else if v = decide (s.sense i = 0) then s.setPend i else s.setSrc i BELFRY_SRC.SRC_CFG_PEND 0

/-- The sample of source i at level v, n pulses having come and gone since the last sample. -/
def State.sampleSrc (s : State) (i : Nat) (v : Bool) (n : Nat) : State :=
  let was := decide (s.src i BELFRY_SRC.SRC_CFG_LEVEL = 1)
  let s := s.setSrc i BELFRY_SRC.SRC_CFG_LEVEL (if v then 1 else 0)
  if s.sense i < 2 then s.levelSample i v
  else
    let e := selectedEdges (s.sense i) was v n
    let s := if e = 0 then s else if s.pend i then s.fire i else s.setPend i
    if 2 ≤ e then s.overrun i else s

/-- The sample of source i's input, when Belfry samples at all (R493). -/
def State.sampleNow (s : State) (i n : Nat) : State :=
  if s.on BELFRY_B && s.srcListed i then s.sampleSrc i (s.srcInput i) n else s

/-- A sample afresh: an edge source takes its level as a reference only (R493). -/
def State.sampleFresh (s : State) (i : Nat) : State :=
  if s.srcListed i then
    let v := s.srcInput i
    let s := s.setSrc i BELFRY_SRC.SRC_CFG_LEVEL (if v then 1 else 0)
    if s.sense i < 2 then s.levelSample i v else s
  else s

/-- The first sample after ENABLE returns to 1 (R493). -/
def State.belfryOn (s : State) : State := (List.range 1024).foldl (fun s i => s.sampleFresh i) s

/-! ### Eligibility (R480, R481, R484, R486) -/

def State.thresh (s : State) (k : Nat) : Nat := s.get BELFRY_B (BELFRY.THRESH_THRESH.at k 0x20)

/-- The sources that target k has claimed and not completed. -/
def State.claimsOf (s : State) (k : Nat) : List Nat := s.sources.filter fun i => s.claimed i && decide (s.claimant i = k)

/-- RUN_k.PRIO. -/
def State.runPrio (s : State) (k : Nat) : Nat := ((s.claimsOf k).map fun i => s.src i BELFRY_SRC.SRC_CFG_CLAIM_PRIO).foldl max 0

/-- Is source i pending, enabled and not claimed, with target k (R477, R480)? -/
def State.wanted (s : State) (k i : Nat) : Bool :=
  s.pend i && !s.claimed i && decide (s.target i = k) && decide (s.src i BELFRY_SRC.SRC_CFG_MASK = 0)
    && decide (s.src i BELFRY_SRC.SRC_CFG_PRIO ≠ 0)

/-- Does Belfry deliver (R480, R485)? -/
def State.delivers (s : State) : Bool := s.on BELFRY_B && !s.bit BELFRY_B BELFRY.GCTRL_DISABLE

/-- The sources eligible for target k. -/
def State.eligible (s : State) (k : Nat) : List Nat :=
  if s.delivers then s.sources.filter fun i =>
    s.wanted k i && decide (max (s.thresh k) (s.runPrio k) < s.src i BELFRY_SRC.SRC_CFG_PRIO)
  else []

/-- The winner of target k, 0 for none: the highest priority, then the lowest number. -/
def State.winner (s : State) (k : Nat) : Nat :=
  (s.eligible k).foldl (fun best i =>
    if best = 0 ∨ s.src best BELFRY_SRC.SRC_CFG_PRIO < s.src i BELFRY_SRC.SRC_CFG_PRIO
      ∨ (s.src best BELFRY_SRC.SRC_CFG_PRIO = s.src i BELFRY_SRC.SRC_CFG_PRIO ∧ i < best) then i else best) 0

/-- Target k's request line (R481). -/
def State.line (s : State) (k : Nat) : Bool := !(s.eligible k).isEmpty

/-- The wake condition of core k (R486). -/
def State.wake (s : State) (k : Nat) : Bool :=
  decide (k < 4) && s.on BELFRY_B && s.sources.any fun i =>
    s.pend i && decide (s.target i = k) && decide (s.src i BELFRY_SRC.SRC_CFG_MASK = 0) && decide (s.src i BELFRY_SRC.SRC_CFG_PRIO ≠ 0)

/-- The sleeping cores whose wake condition holds wake (R486). -/
def State.wakeCores (s : State) : State :=
  if s.reeve.sleep.isEmpty then s
  else { s with reeve.sleep := (List.range 4).foldl (fun m k => if zget m k = 1 && s.wake k then zset m k 2 else m) s.reeve.sleep }

/-- Core k has read 0 from CLAIM_k: one that the wake condition has woken goes back to sleep (R486); whether another goes to sleep
is its firmware's to say, a free value (log entry 134). -/
def State.coreIdle (s : State) (k : Nat) : State :=
  let (z, s) := if zget s.reeve.sleep k = 0 then (let (x, s) := s.freeVal; (decide (x % 2 = 1), s)) else (true, s)
  if z then { s with reeve.sleep := zset s.reeve.sleep k 1 }.wakeCores else s

/-- What follows a change since state `old`: cores wake (R486), and vector 0 is sent when target 4's line has risen (R457, R487). -/
def State.line4 (s old : State) : State :=
  let s := s.wakeCores
  if !old.line 4 && s.line 4 then s.msix 0 else s

/-! ### Claim and completion (R482, R483) -/

/-- A read of CLAIM_k: the winner, claimed. -/
def State.claimRead (s : State) (k : Nat) : Nat × State :=
  let w := s.winner k
  if w = 0 then (0, s)
  else
    let p := s.src w BELFRY_SRC.SRC_CFG_PRIO
    let s := s.setSrc w BELFRY_SRC.SRC_CFG_PEND 0
    let s := (s.setSrc w BELFRY_SRC.SRC_CFG_CLAIMED 1).setSrc w BELFRY_SRC.SRC_CFG_CLAIMANT k
    (w, s.setSrc w BELFRY_SRC.SRC_CFG_CLAIM_PRIO p)

/-- CLAIM_k as its own target reads it: a core that finds a source runs, one that finds none may sleep (R486). -/
def State.claimOwn (s : State) (k : Nat) : Nat × State :=
  let (w, s) := s.claimRead k
  if 4 ≤ k then (w, s)
  else if w = 0 then (0, s.coreIdle k) else (w, { s with reeve.sleep := zset s.reeve.sleep k 0 })

/-- The end of a claim: CLAIMED clears and a level source is sampled again. -/
def State.endClaim (s : State) (i : Nat) : State :=
  let s := s.setSrc i BELFRY_SRC.SRC_CFG_CLAIMED 0
  if s.sense i < 2 then s.sampleNow i 0 else s

/-- A write of n to COMPLETE_k from a path; at target 4 vector 0 is sent again while the line is up (R457). -/
def State.complete (s : State) (path k n : Nat) : State :=
  if s.claimed n && decide (s.claimant n = k) && decide (n ≠ 0) then
    let old := s
    let s := s.endClaim n
    if k = 4 then (if s.line 4 then s.msix 0 else s) else s.line4 old
  else s.recErr BELFRY_B 16 0x8E01 path (k % 8 + n % 1024 * 2 ^ 16)

/-- Release the claims of the targets that `sel` names, each as a COMPLETE ends it (R491). -/
def State.releaseClaims (s : State) (sel : Nat → Bool) : State :=
  (s.sources.filter fun i => s.claimed i && sel (s.claimant i)).foldl State.endClaim s

/-! ### Changes (R485, R489, R494, R495) -/

/-- A write of SRC_CFG_i (R489, R495): a changed sense mode clears the edge latch and OVERRUN and samples a level source
again. -/
def State.srcCfgWrite (s : State) (i : Nat) (v : Word) : State :=
  if s.srcListed i then
    let was := s.sense i
    let s := s.wr (srcBase i + 0x40 + 4 * (i % 512))
      (((s.rd (srcBase i + 0x40 + 4 * (i % 512))) &&& 0xFFFFF800#32) ||| (v &&& 0x7FF#32))
    let s := if v.getLsbD 22 then s.setSrc i BELFRY_SRC.SRC_CFG_OVERRUN 0 else s
    if s.sense i = was then s
    else
      let s := (s.setSrc i BELFRY_SRC.SRC_CFG_PEND 0).setSrc i BELFRY_SRC.SRC_CFG_OVERRUN 0
      if s.sense i < 2 then s.sampleNow i 0 else s
  else s

/-- A write of SW_SET or SW_CLR: the latches change, and their sources are sampled (R488, R494). -/
def State.swLatch (s : State) (v : Word) (set : Bool) : State :=
  let m := v &&& 0xFFFF#32
  let w := s.rd (BELFRY_B + 0x48)
  let s := s.wr (BELFRY_B + 0x48) (if set then w ||| m else w &&& ~~~m)
  (List.range 16).foldl (fun s b => if m.getLsbD b then s.sampleNow (128 + b) 0 else s) s

/-- A write of an OVERRUN bitmap word (R496). -/
def State.overrunClear (s : State) (w : Nat) (v : Word) : State :=
  (List.range 32).foldl (fun s b => if v.getLsbD b then s.setSrc (32 * w + b) BELFRY_SRC.SRC_CFG_OVERRUN 0 else s) s

/-! ### Resets (R491, R492) -/

/-- The sources of compute-die pages are settled when the directory takes its final form (R492). -/
def State.belfrySettle (s : State) : State :=
  let old := s
  let s : State := (List.range 1024).foldl (fun s i =>
    if dieSrc i then
      let s := { s with host.gone := zset s.host.gone i (!s.srcListed i) }
      if s.srcListed i then (if s.on BELFRY_B then s.sampleFresh i else s) else s.wr (srcBase i + 0x40 + 4 * (i % 512)) 0
    else s) s
  s.line4 old

/-- Belfry at a module reset: claims of target 4 are released and every source is sampled again (R491). -/
def State.belfryModule (s : State) : State :=
  let s := s.releaseClaims fun k => decide (k = 4)
  if s.on BELFRY_B then s.belfryOn else s

/-- A block reset of the eight pages (R491). -/
def State.belfryBlock (s : State) : State :=
  (s.resetRegs (fun p => decide (BELFRY_B / 4096 ≤ p ∧ p < BELFRY_B / 4096 + 8)) fun _ => 0).belfryOn

/-! ### Views (R494, R496) -/

/-- A word of a bitmap over sources. -/
def bitmapWord (w : Nat) (p : Nat → Bool) : Nat := ((List.range 32).map fun b => if p (32 * w + b) then 2 ^ b else 0).foldl (· + ·) 0

/-- TOP_k, RUN_k and LINE_k. -/
def State.topView (s : State) (k : Nat) : Nat :=
  let w := s.winner k
  if w = 0 then 0 else w + s.src w BELFRY_SRC.SRC_CFG_PRIO * 2 ^ 16
def State.runView (s : State) (k : Nat) : Nat := s.runPrio k + (s.claimsOf k).length * 2 ^ 8
def State.lineView (s : State) (k : Nat) : Nat :=
  let asleep := if k = 4 then s.host.d3 else decide (zget s.reeve.sleep k = 1) && !s.wake k
  (if s.line k then 1 else 0) + (if asleep then 2 else 0) + (if s.wake k then 4 else 0)

end Sys2Proof.Machine
end

