-- ==== Sys2Proof/Machine/Verify.lean ====
section
/-!
DEFINITION. Verification of a package (R565-R568, R572): SHA-384 and ECDSA P-384 as FIPS 180-4 and FIPS 186-5 define
them, the layout of a package and its checks. A package is a function from byte offsets.
-/
namespace Sys2Proof.Machine

/-! ### SHA-384 -/

/-- Largest x below 2^n with x^k at most m. -/
def rootOf (k m : Nat) : Nat → Nat → Nat
  | 0, x => x
  | n + 1, x => rootOf k m n (if (x + 2 ^ n) ^ k ≤ m then x + 2 ^ n else x)

/-- The first primes: up to 409 there are 80. -/
def primes : List Nat := (List.range 410).filter fun p => decide (2 ≤ p) && (List.range 21).all fun d => decide (d < 2 ∨ p % d ≠ 0 ∨ p = d)

/-- The first 64 bits of the fraction of a k-th root of p. -/
def rootFrac (k p : Nat) : Nat := rootOf k (p * 2 ^ (64 * k)) 72 0 % 2 ^ 64
def shaK : List Nat := primes.map (rootFrac 3)
def shaIv : List Nat := ((primes.drop 8).take 8).map (rootFrac 2)

def rotr64 (x n : Nat) : Nat := x / 2 ^ n + x % 2 ^ n * 2 ^ (64 - n)
def shaXor (x a b c : Nat) : Nat := rotr64 x a ^^^ rotr64 x b ^^^ rotr64 x c
def sigma0 (x : Nat) : Nat := rotr64 x 1 ^^^ rotr64 x 8 ^^^ x / 2 ^ 7
def sigma1 (x : Nat) : Nat := rotr64 x 19 ^^^ rotr64 x 61 ^^^ x / 2 ^ 6

/-- The message schedule, newest word first. -/
def shaWords (blk : List Nat) : List Nat :=
  (List.range 64).foldl (fun w _ =>
    (sigma1 (w.getD 1 0) + w.getD 6 0 + sigma0 (w.getD 14 0) + w.getD 15 0) % 2 ^ 64 :: w) blk.reverse

/-- One round on a, b, c, d, e, f, g, h. -/
def shaRound (v : List Nat) (x : Nat × Nat) : List Nat :=
  match v with
  | [a, b, c, d, e, f, g, h] =>
    let t1 := h + shaXor e 14 18 41 + ((e &&& f) ^^^ ((2 ^ 64 - 1 - e) &&& g)) + x.1 + x.2
    let t2 := shaXor a 28 34 39 + ((a &&& b) ^^^ (a &&& c) ^^^ (b &&& c))
    [(t1 + t2) % 2 ^ 64, a, b, c, (d + t1) % 2 ^ 64, e, f, g]
  | _ => v

def shaBlock (h blk : List Nat) : List Nat :=
  (h.zip ((shaK.zip (shaWords blk).reverse).foldl shaRound h)).map fun x => (x.1 + x.2) % 2 ^ 64

/-- The big-endian number of a list of bytes. -/
def ofBe (l : List Nat) : Nat := l.foldl (fun a b => a * 256 + b) 0

/-- The n bytes of a number, most significant first. -/
def beBytes (n v : Nat) : List Nat := ((List.range n).map fun i => v / 256 ^ i % 256).reverse

/-- SHA-384 of n bytes of a function, as a number (its first byte most significant). -/
def sha384 (rd : Nat → Nat) (n : Nat) : Nat :=
  let blocks := (n + 17 + 127) / 128
  let at' (i : Nat) : Nat := if i < n then rd i else if i = n then 128 else
    if 128 * blocks ≤ i + 16 then 8 * n / 256 ^ (128 * blocks - 1 - i) % 256 else 0
  let h := (List.range blocks).foldl (fun h k =>
    shaBlock h ((List.range 16).map fun j => ofBe ((List.range 8).map fun b => at' (128 * k + 8 * j + b)))) shaIv
  (h.take 6).foldl (fun a w => a * 2 ^ 64 + w) 0

/-! ### ECDSA P-384 -/

def ecP : Nat := 2 ^ 384 - 2 ^ 128 - 2 ^ 96 + 2 ^ 32 - 1
def ecN : Nat := 0xffffffffffffffffffffffffffffffffffffffffffffffffc7634d81f4372ddf581a0db248b0a77aecec196accc52973
def ecG : Nat × Nat :=
  (0xaa87ca22be8b05378eb1c71ef320ad746e1d3b628ba79b9859f741e082542a385502f25dbf55296c3a545e3872760ab7,
   0x3617de4a96262c6f5d9e98bf9292dc29f8f41dbd289a147ce9da3113b5f0b8c00a60b1ce1d7e819d7a431d7c90ea0e5f)

/-- b^e modulo m, for e below 2^n. -/
def powMod (b e m : Nat) : Nat → Nat
  | 0 => 1
  | n + 1 =>
    let r := powMod b (e / 2) m n
    if e % 2 = 1 then r * r % m * b % m else r * r % m

/-- Inverse modulo a prime. -/
def invMod (a m : Nat) : Nat := powMod (a % m) (m - 2) m 384

/-- Addition of affine points; none is the point at infinity. -/
def ecAdd (x y : Option (Nat × Nat)) : Option (Nat × Nat) :=
  match x, y with
  | none, q => q
  | p, none => p
  | some (x1, y1), some (x2, y2) =>
    if x1 = x2 ∧ (y1 + y2) % ecP = 0 then none
    else
      let l := if x1 = x2 then (3 * x1 * x1 + ecP - 3) * invMod (2 * y1) ecP % ecP
        else (y2 + ecP - y1) * invMod (x2 + ecP - x1) ecP % ecP
      let x3 := (l * l + 2 * ecP - x1 - x2) % ecP
      some (x3, (l * (x1 + ecP - x3) + ecP - y1) % ecP)

/-- k times a point, for k below 2^n. -/
def ecMul (k : Nat) (q : Option (Nat × Nat)) : Nat → Option (Nat × Nat)
  | 0 => none
  | n + 1 =>
    let h := ecMul (k / 2) q n
    let d := ecAdd h h
    if k % 2 = 1 then ecAdd d q else d

/-- Does a signature r, s of a digest verify under a public key? -/
def ecdsaOk (key : Nat × Nat) (e r s : Nat) : Bool :=
  decide (1 ≤ r) && decide (r < ecN) && decide (1 ≤ s) && decide (s < ecN) &&
    (let w := invMod s ecN
     match ecAdd (ecMul (e * w % ecN) (some ecG) 384) (ecMul (r * w % ecN) (some key) 384) with
     | some (x, _) => decide (x % ecN = r)
     | none => false)

/-! ### Packages (R565-R567) -/

/-- The little-endian number of n bytes at offset o. -/
def pkNum (rd : Nat → Nat) (o n : Nat) : Nat := ((List.range n).map fun i => rd (o + i) * 256 ^ i).foldl (· + ·) 0

/-- Fields of manifest entry i. -/
def pkType (rd : Nat → Nat) (i : Nat) : Nat := rd (64 + 64 * i)
def pkSvn (rd : Nat → Nat) (i : Nat) : Nat := rd (65 + 64 * i)
def pkVer (rd : Nat → Nat) (i : Nat) : Nat := pkNum rd (68 + 64 * i) 4
def pkOff (rd : Nat → Nat) (i : Nat) : Nat := pkNum rd (72 + 64 * i) 4
def pkSize (rd : Nat → Nat) (i : Nat) : Nat := pkNum rd (76 + 64 * i) 4
def pkDigest (rd : Nat → Nat) (i : Nat) : Nat := ofBe ((List.range 48).map fun k => rd (80 + 64 * i + k))
def pkZero (rd : Nat → Nat) (o n : Nat) : Bool := (List.range n).all fun k => decide (rd (o + k) = 0)

/-- A part's place is in order: aligned, inside the package before the signature (R565). -/
def partPlaced (rd : Nat → Nat) (len i : Nat) : Bool :=
  decide (pkOff rd i % 64 = 0) && decide (640 ≤ pkOff rd i) && decide (1 ≤ pkSize rd i) && decide (pkOff rd i + pkSize rd i + 96 ≤ len)

/-- Do two parts overlap? -/
def partsMeet (rd : Nat → Nat) (i j : Nat) : Bool :=
  decide (pkOff rd i < pkOff rd j + pkSize rd j) && decide (pkOff rd j < pkOff rd i + pkSize rd i)

/-- FORMAT of R572. -/
def pkFormat (rd : Nat → Nat) (len : Nat) : Bool :=
  decide (pkNum rd 0 4 = 0x474B504A) && decide (rd 4 = 1) && decide (pkNum rd 6 2 = 9) && decide (pkNum rd 8 4 = len) && pkZero rd 18 46
    && ((List.range 9).all fun i => pkZero rd (66 + 64 * i) 2 && partPlaced rd len i)
    && ((List.range 9).all fun i => (List.range i).all fun j => !partsMeet rd i j)

/-- The signature over all bytes before it (R568). -/
def pkSigned (rd : Nat → Nat) (len : Nat) : Bool :=
  let o := len - 96
  ecdsaOk (Config.romKey (rd 5)) (sha384 rd o) (ofBe ((List.range 48).map fun k => rd (o + k))) (ofBe ((List.range 48).map fun k => rd (o + 48 + k)))

/-- Each type 1 to 9 once, and the size of TYPE 1 (R572 PARTS). -/
def pkParts (rd : Nat → Nat) : Bool :=
  ((List.range 9).all fun t => decide (((List.range 9).filter fun i => decide (pkType rd i = t + 1)).length = 1))
    && (List.range 9).all fun i => decide (pkType rd i ≠ 1 ∨ pkSize rd i ≤ 4194304)

/-- Does part i match its digest? -/
def pkDigestOk (rd : Nat → Nat) (i : Nat) : Bool := decide (sha384 (fun k => rd (pkOff rd i + k)) (pkSize rd i) = pkDigest rd i)

/-- The manifest entry of a part type. -/
def pkEntry (rd : Nat → Nat) (t : Nat) : Nat := ((List.range 9).find? fun i => decide (pkType rd i = t)).getD 0

/-- The tag (R568), as the number of its 8 bytes in little-endian order. -/
def pkTag (rd : Nat → Nat) : Nat := ((beBytes 48 (sha384 rd 640)).take 8).foldr (fun b a => b + 256 * a) 0

/-- What the module keeps of a package; `tables` is what its part 2 spells. -/
def pkInfo (rd : Nat → Nat) (tables : SMap Word) : PkgInfo :=
  { tag := pkTag rd, fmt := pkNum rd 16 2, svns := (List.range 9).map fun t => pkSvn rd (pkEntry rd (t + 1)),
    vers := (List.range 9).map fun t => pkVer rd (pkEntry rd (t + 1)), tables := tables }

/-- The checks of R572 in order: the code and, for 6 to 8, the part type. `conf` is the manifest that VERSION is compared
with, if it is. -/
def pkCheck (rd : Nat → Nat) (len step otp : Nat) (conf : Option PkgInfo) : Nat × Nat :=
  let low (k : PkgInfo) (i : Nat) : Bool := decide (pkVer rd i < k.vers.getD (pkType rd i - 1) 0)
  if pkFormat rd len = false then (1, 0)
  else if pkNum rd 12 2 ≠ 0x880 ∨ step < rd 14 ∨ rd 15 < step then (2, 0)
  else if 3 < rd 5 then (3, 0)
  else if pkSigned rd len = false then (4, 0)
  else if pkParts rd = false then (5, 0)
  else
    match (List.range 9).find? fun i => !pkDigestOk rd i with
    | some i => (6, pkType rd i)
    | none =>
      match (List.range 9).find? fun i => decide (pkSvn rd i < otp) with
      | some i => (7, pkType rd i)
      | none =>
        match conf with
        | none => (0, 0)
        | some k => match (List.range 9).find? (low k) with
          | some i => (8, pkType rd i)
          | none => (0, 0)

end Sys2Proof.Machine
end

