-- ==== Sys2Proof/Machine/Update.lean ====
section
/-!
DEFINITION. Firmware update (18_update.md): staging, the states and commands of the UPDATE page, activation, handover and
confirmation, the boot ROM's optics (R580), and the bucket chain (R581-R583).
-/
namespace Sys2Proof.Machine

/-! ### States and results (R569, R572) -/

def State.updSt (s : State) : Nat := s.get UPDATE_B UPDATE.STAT_STATE
def State.setUpd (s : State) (v : Nat) : State := s.put UPDATE_B UPDATE.STAT_STATE v
def upIDLE : Nat := 0
def upDOWNLOADING : Nat := 1
def upVERIFYING : Nat := 2
def upVERIFIED : Nat := 3
def upREJECTED : Nat := 4
def upACTIVATING : Nat := 5
def upHANDOVER : Nat := 6

def State.setResult (s : State) (code part : Nat) : State :=
  (s.put UPDATE_B UPDATE.STAT_RESULT code).put UPDATE_B UPDATE.STAT_RESULT_PART part

/-- The state in which nothing is under way: IDLE, or the boot ROM's wait. -/
def State.updIdle (s : State) : State := s.setUpd s.upd.rom

/-- A check or an activation step fails (R569): event and record. -/
def State.updReject (s : State) (code part : Nat) : State :=
  (((s.setResult code part).setUpd upREJECTED).raise UPDATE_B 1).record UPDATE_B 0x0603 [code, part]

/-- Does the ROM, or an enabled page, take packages (R580, R584)? -/
def State.updOn (s : State) : Bool := decide (s.upd.rom ≠ 0) || s.on UPDATE_B

/-! ### Staging (R571) -/

def State.stageBase (s : State) : Nat := s.get UPDATE_B UPDATE.STAGE_LO + s.get UPDATE_B UPDATE.STAGE_HI * 2 ^ 32
def State.pkgLen (s : State) : Nat := s.get UPDATE_B UPDATE.PKG_LEN_BYTES

/-- Byte i of the staging area, in HBM or under the boot ROM in hub SRAM; byte i of the copy in hub SRAM. -/
def State.hubByte (s : State) (i : Nat) : Nat := (s.byte (hubAddr i)).toNat
def State.hbmByte (s : State) (i : Nat) : Nat := (s.byte (s.stageBase + i)).toNat
def State.stageByte (s : State) (i : Nat) : Nat := if s.upd.rom = 0 then s.hbmByte i else s.hubByte i

/-- Does a stack of the staging area hold back requests (R187)? -/
def State.stageHeld (s : State) : Bool :=
  decide (s.upd.rom = 0) && (s.memHeld s.stageBase || s.memHeld (s.stageBase + 0xFFFFFF))

/-- Bytes of the staging area are written; a stack that holds back requests leaves them at their source (R187). -/
def State.stagePut (s : State) (o : Nat) (l : List Nat) : State :=
  if s.upd.rom ≠ 0 then s.setBytes (hubAddr o) (l.map (BitVec.ofNat 8))
  else if s.stageHeld then s.offer (.stage o l)
  else s.writeRange (s.stageBase + o) (withPoison false (l.map (BitVec.ofNat 8)))

/-- Bytes arrive at an offset: WRITTEN counts them. -/
def State.stageBytes (s : State) (o : Nat) (l : List Nat) : State :=
  let s := s.stagePut o l
  s.put UPDATE_B UPDATE.WRITTEN_BYTES (s.get UPDATE_B UPDATE.WRITTEN_BYTES + l.length)

/-- The controllers read n bytes of the staging area in HBM, which corrects, counts and poisons what they hold (R172). -/
def State.pkgRead (s : State) (o n : Nat) : State :=
  if s.upd.rom ≠ 0 then s else (unitsOf (s.stageBase + o) n).foldl (fun s u => (s.readMemUnit u).2) s

/-- Discard the package in staging, with any transfer. -/
def State.updDiscard (s : State) : State :=
  let s := { s with upd.pkg := none, upd.staged := false, upd.inc := none }
  (s.put UPDATE_B UPDATE.BC_STAT_ACTIVE 0).put UPDATE_B UPDATE.STAGED_VER_VERSION 0

/-- Staging starts afresh from a source, with the record. -/
def State.updStart (s : State) (src len : Nat) : State :=
  let s := { s.updDiscard.setUpd upDOWNLOADING with upd.ended := none }
  let s := ((s.put UPDATE_B UPDATE.WRITTEN_BYTES 0).put UPDATE_B UPDATE.STAT_SOURCE src).put UPDATE_B UPDATE.PKG_LEN_BYTES len
  s.record UPDATE_B 0x0601 [src, len]

/-- The bytes of the staging area (R571): 16 MiB of HBM, or 12 MiB of hub SRAM for the boot ROM. -/
def State.stageSize (s : State) : Nat := if s.upd.rom = 0 then 2 ^ 24 else 12582912

/-- An UPDATE_DATA message (R471, R472, R571) on source 1 to 3: whether it is accepted, and the state after it. -/
def State.updData (s : State) (src o : Nat) (l : List Nat) : Bool × State :=
  if s.updSt = upDOWNLOADING ∧ o + l.length ≤ min s.pkgLen s.stageSize then
    let s := if s.get UPDATE_B UPDATE.STAT_SOURCE = 0 then s.put UPDATE_B UPDATE.STAT_SOURCE src else s
    (true, s.stageBytes o l)
  else (false, s)

/-! ### Images (R575, R576, R579, R585) -/

/-- Show a running image on the UPDATE page (R585), with some of its parts. -/
def State.showRun (s : State) (k : PkgInfo) (parts : List Nat) : State :=
  let s := { s with upd.run := k }
  let s : State := parts.foldl (fun s i => s.put UPDATE_B (UPDATE.PART_RUN_VERSION.at i 4) (k.vers.getD i 0)) s
  (s.put UPDATE_B UPDATE.RUN_VER_VERSION (k.vers.getD 0 0)).put UPDATE_B UPDATE.SETTINGS_RUN_FMT k.fmt

/-- All parts of an image serve the bring-up. -/
def State.bootImage (s : State) (k : PkgInfo) : State :=
  (List.range 2).foldl (fun s e => s.put (ENGINE_B e) ENGINE.FW_VER_VERSION (k.vers.getD (e + 2) 0)) (s.showRun k (List.range 9))

/-- The other settings format kept: the confirmed image's, when it differs (R576). -/
def State.otherFmt (s : State) (k : PkgInfo) : Nat :=
  match s.upd.conf with
  | some c => if c.fmt = k.fmt then 0 else c.fmt
  | none => 0

/-- Calibration fields that the tables leave as they stand (R534, R575). -/
def calField (i o : Nat) : Bool :=
  if i < 648 then decide (o = 0x34 ∨ o = 0x38 ∨ o = 0x3C) else decide (i < 1628 ∧ o = 0x10)

/-- The word at byte offset o of the descriptor table with the fields of an image's tables: HOLD and TRIM_DIV are none
of theirs (R387) and stay as in `old`. -/
def PkgInfo.word (k : PkgInfo) (o : Nat) (old : Word) : Word :=
  let m : Word := if o % 64 = 0 then 0x70004 else 0
  (old &&& m) ||| (descBits o (mget tableReset k.tables o) &&& ~~~m)

/-- Offsets of the words of slot i that differ from an image's tables. -/
def State.tableDiff (s : State) (k : PkgInfo) (i : Nat) : List Nat :=
  ((List.range 16).map (4 * ·)).filter fun o => !calField i o && decide (k.word (64 * i + o) (s.rd (DESC_B + 64 * i + o)) ≠ s.rd (DESC_B + 64 * i + o))

/-- The new Reeve firmware runs (R575, R576): unconfirmed, with the tables due slot by slot and parts 3-9 at the next
reset. -/
def State.newRun (s : State) (k : PkgInfo) : State :=
  let s := (s.showRun k [0]).put UPDATE_B UPDATE.SETTINGS_OTHER_FMT (s.otherFmt k)
  let s := ((s.put UPDATE_B UPDATE.STAT_UNCONFIRMED 1).put UPDATE_B UPDATE.STAT_PENDING_RESET 1).setUpd upIDLE
  let due := (List.range 2048).filter fun i => !(s.tableDiff k i).isEmpty
  let s := if due.isEmpty then s.put UPDATE_B (UPDATE.PART_RUN_VERSION.at 1 4) (k.vers.getD 1 0) else s
  { s with upd.pending := some k, upd.due := due }

/-- A closed loop goes under HOLD for a change of its descriptor; it releases at its next frame (R398, R420). -/
def Slot.onHold (x : Slot) : Slot := if x.st = slACQUIRE ∨ x.st = slLOCKED then { x with st := slHELD, left := x.st } else x

/-- One slot's descriptor takes the tables' values, under HOLD (R420, R575). -/
def State.tableApply (s : State) (i : Nat) : State :=
  let k := s.upd.run
  if s.upd.due.contains i then
    let s := s.modLines i Slot.onHold
    let s : State := (s.tableDiff k i).foldl (fun s o => s.wr (DESC_B + 64 * i + o) (k.word (64 * i + o) (s.rd (DESC_B + 64 * i + o)))) s
    let s := { s with upd.due := s.upd.due.filter (· ≠ i) }.slotRefresh i
    if s.upd.due.isEmpty then s.put UPDATE_B (UPDATE.PART_RUN_VERSION.at 1 4) (k.vers.getD 1 0) else s
  else s

/-! ### The boot ROM's optics (R580) -/

/-- The descriptor table without any entry. -/
def State.clearDesc (s : State) : State :=
  { s with regs := s.regs.filter fun e => !(decide (0x100 ≤ e.1 / 4096) && decide (e.1 / 4096 < 0x120)) }

/-- Lane 0's rings of a port run with the factory curve. -/
def State.romRings (s : State) (p : Nat) : State :=
  [txRing p 0, rxRing p 0].foldl (fun s i =>
    ((s.wr (DESC_B + 64 * i) 1).wr (DESC_B + 64 * i + 0x0C) 0xFFFF0000).writeCurve i (s.facEntry i)) s

/-- The ROM brings up the engines and combs, with every port of CFG.ROLE 0 in DISCOVER mode. -/
def State.romOptics (s : State) : State :=
  let s := { s with upd.romPorts := true }.put MILLRACE_B hCTRL_ENABLE 1
  let s : State := (List.range 2).foldl (fun s e =>
    ((s.put (ENGINE_B e) hCTRL_ENABLE 1).put (COMB_B e) hCTRL_ENABLE 1).combEnable e true) s
  ((List.range 36).filter fun p => decide (s.get (PORT_B p) PORT.CFG_ROLE = 0)).foldl (fun (s : State) p =>
    ((s.romRings p).put (PORT_B p) hCTRL_ENABLE 1).portApply p) s

/-- The ROM's optics end: bring-up goes on. -/
def State.romLeave (s : State) : State :=
  if s.upd.romPorts then
    let s := { s with upd.romPorts := false }
    let s := (List.range 2).foldl (fun s e => ((s.combEnable e false).put (COMB_B e) hCTRL_ENABLE 0).put (ENGINE_B e) hCTRL_ENABLE 0) s
    let s := (List.range 36).foldl (fun s p => (s.put (PORT_B p) hCTRL_ENABLE 0).portApply p) s
    (s.put MILLRACE_B hCTRL_ENABLE 0).clearDesc
  else s

/-- The boot ROM waits for a package (R579, R580): 8 RECOVERY, 9 ROM_BOOT. -/
def State.romWait (s : State) (st : Nat) : State :=
  let s := { s.setUpd st with upd.rom := st }
  if st = 8 ∨ (st = 9 ∧ s.get MODULE_B MODULE.STRAPS_BOOTSEL = 2) then s.romOptics else s

/-! ### Activation (R573) -/

/-- ACTIVATE is accepted. -/
def State.activate (s : State) : State :=
  let tag := (s.upd.pkg.map PkgInfo.tag).getD 0
  let s := s.record UPDATE_B 0x0604 [tag % 2 ^ 32, tag / 2 ^ 32, s.get UPDATE_B UPDATE.RUN_VER_VERSION]
  { s.setUpd upACTIVATING with upd.actAt := s.upNs, upd.erased := false }

/-- The package goes into hub SRAM, every digest and the signature are checked again on the copy, then the header block is
erased. A stack that holds back requests holds back the copy (R187). -/
def State.copyStep (s : State) : State :=
  if s.updSt = upACTIVATING ∧ s.upd.erased = false ∧ s.stageHeld = false then
    let s := s.pkgRead 0 s.pkgLen
    let s := if s.upd.rom = 0 then s.setBytes (hubAddr 0) (s.bytes s.stageBase s.pkgLen) else s
    if pkSigned s.hubByte s.pkgLen && (List.range 9).all (pkDigestOk s.hubByte) then { s with upd.erased := true, upd.torn := true }
    else s.updReject 0x10 0
  else s

/-- The copy step's 100 ms are over. -/
def State.copyDue (s : State) : State := if s.upd.actAt + 100000000 ≤ s.upNs then s.copyStep else s

/-- The recovered image starts (R579): bring-up goes on with it, unconfirmed. -/
def State.romStart (s : State) (k : PkgInfo) (diskless : Bool) : State :=
  let s := (s.romLeave.bootImage k).put UPDATE_B UPDATE.STAT_DISKLESS (if diskless then 1 else 0)
  let s := if diskless then s
    else (s.put UPDATE_B UPDATE.STAT_UNCONFIRMED 1).put UPDATE_B UPDATE.SETTINGS_OTHER_FMT (s.otherFmt k)
  { s.setUpd upIDLE with upd.rom := 0 }

/-- The write ends, after `n` blocks were rewritten: with the image complete, or with block fail - 1 failing a fourth
time. In HANDOVER the Reeve does not serve (R467, R574). -/
def State.flashWritten (s : State) (n fail : Nat) : State :=
  let s := s.copyStep
  if s.updSt ≠ upACTIVATING ∨ s.upd.erased = false then s
  else if fail ≠ 0 then (s.updReject 0x11 0).recErr UPDATE_B 18 0x9303 pathHw (fail - 1)
  else match s.upd.pkg with
    | none => s
    | some k =>
      let s := { s with upd.flash := k, upd.torn := false }.record UPDATE_B 0x0605 [n]
      if s.upd.rom ≠ 0 then s.romStart k false
      else { s.setUpd upHANDOVER with reeve.down := true }

/-! ### Verification (R572) -/

/-- The chunks of a transfer (R581). -/
def State.chunks (s : State) : Nat := (s.pkgLen + 511) / 512

/-- A bucket-chain frame goes out on a port, on a lane that sends beacons: TYPE, port, PATH, SERIAL, XFER, body (R581). -/
def State.chainSend (s : State) (ty p xfer : Nat) (body : List Nat) : State :=
  match (List.range 9).find? fun l => decide (s.txSt p l = lnCHECKING) || serving (s.txSt p l) with
  | some l => s.sendOn ⟨p, l, s.linkPath p l, 0, .chain,
      [ty, p, s.linkPath p l, s.get64 MODULE_B MODULE.SERIAL_LO_VALUE, xfer] ++ body⟩
  | none => s

/-- The receiver answers END. -/
def State.endSend (s : State) (p xfer code : Nat) : State := s.chainSend 0x23 p xfer [code]

/-- A transfer has been verified: END with the code, repeated until offers stop. -/
def State.endXfer (s : State) (code : Nat) : State :=
  match s.upd.inc with
  | none => s
  | some x =>
    let s := { s with upd.inc := none, upd.ended := some (x.port, x.xfer, code) }.put UPDATE_B UPDATE.BC_STAT_ACTIVE 0
    s.endSend x.port x.xfer code

/-- A verified package: its registers, event and record, and a fresh relay of it. -/
def State.verified (s : State) (k : PkgInfo) : State :=
  let v := k.vers.getD 0 0
  let s := (((s.setResult 0 0).setUpd upVERIFIED).put UPDATE_B UPDATE.STAGED_VER_VERSION v).raise UPDATE_B 0
  let s := s.record UPDATE_B 0x0602 [k.tag % 2 ^ 32, k.tag / 2 ^ 32, v]
  { s with upd.pkg := some k, upd.staged := true, upd.stopped := []
           upd.xfers := (List.range 36).foldl (fun (m : SMap Nat) p => zset m p ((zget m p + 1) % 2 ^ 32)) s.upd.xfers }

/-- Verification ends. -/
def State.verifyDone (s : State) (tables : List (Nat × Word)) : State :=
  if s.updSt ≠ upVERIFYING ∨ s.stageHeld = true then s
  else
    let s := s.pkgRead 0 s.pkgLen
    let conf := if s.upd.rom = 9 then none else s.upd.conf
    let (code, part) := pkCheck s.stageByte s.pkgLen (s.get MODULE_B MODULE.PART_STEP) (s.get UPDATE_B UPDATE.OTP_COUNT) conf
    let k := pkInfo s.stageByte (tables.foldl (fun (m : SMap Word) e => mset tableReset m e.1 e.2) [])
    let bc := decide (s.get UPDATE_B UPDATE.STAT_SOURCE = 5) && s.bit UPDATE_B UPDATE.BC_CTRL_AUTO_ACTIVATE
    let s := s.endXfer code
    if code ≠ 0 then s.updReject code part
    else
      let s := s.verified k
      if s.upd.rom = 9 then s.romStart k true
      else if s.upd.rom = 8 ∨ (bc = true ∧ s.bit UPDATE_B UPDATE.STAT_DISKLESS = false) then s.activate else s

/-! ### Commands (R570, R577) -/

/-- CONFIRM (R577). -/
def State.confirm (s : State) : State :=
  let k := s.upd.run
  let low := k.svns.foldl min 64
  let s := { s with upd.conf := some k }.put UPDATE_B UPDATE.CONF_VER_VERSION (k.vers.getD 0 0)
  let s := s.put UPDATE_B UPDATE.OTP_COUNT (max (s.get UPDATE_B UPDATE.OTP_COUNT) low)
  let s := (s.put UPDATE_B UPDATE.SETTINGS_OTHER_FMT 0).put UPDATE_B UPDATE.STAT_UNCONFIRMED 0
  let s := (s.put UPDATE_B UPDATE.TIMES_UNCONF_BOOTS 0).raise UPDATE_B 3
  s.record UPDATE_B 0x0607 [k.vers.getD 0 0, s.get UPDATE_B UPDATE.OTP_COUNT]

/-- Is a command accepted? -/
def State.updAccepts (s : State) (bits : Nat) : Bool :=
  let st := s.updSt
  let disk := !s.bit UPDATE_B UPDATE.STAT_DISKLESS
  match bits with
  | 1 => (decide (st = upIDLE ∨ st = upVERIFIED ∨ st = upREJECTED) || decide (s.upd.rom ≠ 0 ∧ st = s.upd.rom))
      && decide (736 ≤ s.pkgLen) && decide (s.pkgLen ≤ 12582912)
  | 2 => decide (st = upDOWNLOADING) && decide (s.get UPDATE_B UPDATE.STAT_SOURCE ≠ 5)
  | 4 => decide (st = upVERIFIED) && disk
  | 8 => decide (st = upIDLE) && s.bit UPDATE_B UPDATE.STAT_UNCONFIRMED && disk
  | 16 => decide (st = upDOWNLOADING ∨ st = upVERIFIED ∨ st = upREJECTED)
  | _ => false

/-- The effect of an accepted command. -/
def State.updCmd (s : State) (bits : Nat) : State :=
  match bits with
  | 1 => s.updStart 0 s.pkgLen
  | 2 => s.setUpd upVERIFYING
  | 4 => s.activate
  | 8 => s.confirm
  | _ => s.updDiscard.updIdle

/-- A write of UPDATE.CTRL from a path (R570, R586). -/
def State.updCtrl (s : State) (path v : Nat) : State :=
  let bits := v % 32
  if v / 2 ^ 16 % 2 ^ 16 = 0x5550 ∧ s.updOn = true ∧ s.updAccepts bits = true then s.updCmd bits
  else s.recErr UPDATE_B 16 0x9301 path (bits + s.updSt * 2 ^ 8)

/-- A write of the STAGE pair (R585, R586). -/
def State.stageWrite (s : State) (path lo hi : Nat) : State :=
  let a := lo % 2 ^ 32 + hi % 256 * 2 ^ 32
  if (s.updSt = upIDLE ∨ s.updSt = upREJECTED) ∧ a % 65536 = 0 ∧ isHbm a = true ∧ s.presentRange a (2 ^ 24) = true then
    (s.put UPDATE_B UPDATE.STAGE_LO lo).put UPDATE_B UPDATE.STAGE_HI hi
  else s.recErrX UPDATE_B 17 0x9302 path

/-! ### The bucket chain (R582, R583) -/

/-- Does this module relay a package? -/
def State.relays (s : State) : Bool :=
  s.on UPDATE_B && decide (s.upd.rom = 0) && s.upd.staged && (match s.upd.pkg with
    | some k => decide (s.updSt = upVERIFIED) || (decide (s.updSt = upIDLE) && decide (k.tag = s.upd.run.tag))
    | none => false)

/-- Are offers made on port p? -/
def State.offers (s : State) (p : Nat) : Bool :=
  s.relays && s.bit UPDATE_B (bitF (0x74 + p / 32 * 4) (p % 32)) && !zget s.upd.stopped p

/-- The OFFERs of 10 ms (R582): LENGTH, VERSION, tag. -/
def State.offerSend (s : State) : State :=
  match s.upd.pkg with
  | none => s
  | some k => ((List.range 36).filter s.offers).foldl (fun s p =>
      s.chainSend 0x20 p (zget s.upd.xfers p) [s.pkgLen, k.vers.getD 0 0, k.tag]) s

/-- Ask for the first missing chunks, at most 64 in a row, when nothing asked is outstanding: FIRST, COUNT. -/
def State.ask (s : State) : State :=
  match s.upd.inc with
  | none => s
  | some x =>
    if x.asked.isEmpty then
      match (List.range s.chunks).find? fun c => !x.got.contains c with
      | none => s
      | some f =>
        let l := ((List.range 64).map (f + ·)).takeWhile fun c => decide (c < s.chunks) && !x.got.contains c
        { s with upd.inc := some { x with asked := l } }.chainSend 0x21 x.port x.xfer [f, l.length]
    else s

/-- Does a receiver accept an offer (R582)? -/
def State.takesOffer (s : State) (len : Nat) : Bool :=
  let st := s.updSt
  (if s.upd.rom = 0 then decide (st = upIDLE ∨ st = upREJECTED) && s.bit UPDATE_B UPDATE.BC_CTRL_ACCEPT
   else s.upd.romPorts && decide (st = s.upd.rom ∨ st = upREJECTED)) && decide (736 ≤ len) && decide (len ≤ 12582912)

/-- Has a transfer been answered with END? -/
def State.hasEnded (s : State) (p xfer : Nat) : Bool := s.upd.ended.any fun e => decide (e.1 = p ∧ e.2.1 = xfer)

/-- An OFFER arrives. -/
def State.offerIn (s : State) (p xfer len tag : Nat) : State :=
  if s.updOn = false ∨ s.upd.inc.isSome = true ∨ s.hasEnded p xfer = true then s
  else if s.upd.rom = 0 ∧ tag = s.upd.run.tag then s.endSend p xfer 0x21
  else if s.takesOffer len then
    let s := { s.updStart 5 len with upd.inc := some ⟨p, xfer, [], []⟩ }
    (((s.put UPDATE_B UPDATE.BC_STAT_ACTIVE 1).put UPDATE_B UPDATE.BC_STAT_PORT p).put UPDATE_B UPDATE.BC_STAT_CHUNKS 0).ask
  else if s.bit UPDATE_B UPDATE.BC_CTRL_ACCEPT = false ∧ s.upd.offered.contains (p, xfer) = false then
    { s with upd.offered := s.upd.offered ++ [(p, xfer)] }.raise UPDATE_B 4
  else s

/-- Bytes of chunk c. -/
def State.chunkLen (s : State) (c : Nat) : Nat := min 512 (s.pkgLen - 512 * c)

/-- A REQ arrives: DATA for the chunks named that lie within LENGTH. -/
def State.reqIn (s : State) (p xfer first count : Nat) : State :=
  if s.offers p ∧ zget s.upd.xfers p = xfer then
    (((List.range (min 64 count)).map (first + ·)).filter fun c => decide (c < s.chunks)).foldl (fun s c =>
      let s := s.pkgRead (512 * c) (s.chunkLen c)
      s.chainSend 0x22 p xfer ([c, s.chunkLen c] ++ (List.range (s.chunkLen c)).map fun i => s.stageByte (512 * c + i))) s
  else s

/-- A DATA arrives. -/
def State.dataIn (s : State) (p xfer c : Nat) (l : List Nat) : State :=
  match s.upd.inc with
  | none => s
  | some x =>
    if s.updSt = upDOWNLOADING ∧ x.port = p ∧ x.xfer = xfer ∧ c < s.chunks ∧ l.length = s.chunkLen c then
      let got := if x.got.contains c then x.got else c :: x.got
      let s := { s.stageBytes (512 * c) l with upd.inc := some { x with got := got, asked := x.asked.filter (· ≠ c) } }
      let s := s.put UPDATE_B UPDATE.BC_STAT_CHUNKS got.length
      if got.length = s.chunks then s.setUpd upVERIFYING else s.ask
    else s

/-- A chunk is asked for again. -/
def State.askAgain (s : State) (c : Nat) : State :=
  match s.upd.inc with
  | some x => if x.asked.contains c then s.chainSend 0x21 x.port x.xfer [c, 1] else s
  | none => s

/-- An END arrives at the sender: RELAY_DONE, the event and the record. -/
def State.endIn (s : State) (p xfer code : Nat) : State :=
  if p < 36 ∧ s.offers p = true ∧ zget s.upd.xfers p = xfer then
    let s := { s with upd.stopped := zset s.upd.stopped p true }
    let s := if code = 0 ∨ code = 0x21 then (s.put UPDATE_B (bitF (0x7C + p / 32 * 4) (p % 32)) 1).raise UPDATE_B 5 else s
    s.record UPDATE_B 0x060A [p, code]
  else s

/-- A transfer is abandoned (R583, R584). -/
def State.bcTimeout (s : State) : State :=
  match s.upd.inc with
  | some x =>
    if s.updSt = upDOWNLOADING then
      let s := (s.setResult 0x20 0).record UPDATE_B 0x060B [x.port, s.get UPDATE_B UPDATE.BC_STAT_CHUNKS]
      s.updDiscard.updIdle
    else s
  | none => s

/-- What a bucket-chain frame does: TYPE, XFER and its fields. -/
def State.chainRun (s : State) (p ty xfer : Nat) (args : List Nat) : State :=
  let a (i : Nat) : Nat := args.getD i 0
  match ty with
  | 0x20 => s.offerIn p xfer (a 0) (a 1)
  | 0x21 => s.reqIn p xfer (a 0) (a 1)
  | 0x22 => s.dataIn p xfer (a 0) (args.drop 1)
  | _ => s.endIn p xfer (a 0)

/-- A bucket-chain frame arrives (R317, R582, R583): the Reeve takes it; while it does not serve, the frame keeps one of the port's
32 VC3 buffers (log entry 301), and one that finds them full is discarded. -/
def State.chainIn (s : State) (p ty xfer : Nat) (args : List Nat) : State :=
  if 32 ≤ s.vc3Held p then s.vc3Drop p
  else if (s.reeve.down && decide (s.upd.rom = 0)) || (decide (ty = 0x21) && s.stageHeld) then s.offer (.chain p ty xfer args)
  else (s.countIn p).chainRun p ty xfer args

/-- The receiver repeats its END. -/
def State.endRepeat (s : State) : State :=
  match s.upd.ended with
  | some e => s.endSend e.1 e.2.1 e.2.2
  | none => s

/-! ### Reeve warm reset (R578) -/

/-- The update machine at a Reeve warm reset. In ACTIVATING after the header erase the ROM verifies the package in HBM
again; in HANDOVER the image in flash starts (R578). DEDUCED (log entry 344): a package that its stack holds back does not
verify. -/
def State.warmUpdate (s : State) : State :=
  let st := s.updSt
  if s.upd.rom ≠ 0 then s
  else if st = upHANDOVER then s.newRun s.upd.flash
  else if st = upACTIVATING ∧ s.upd.erased = true then
    let s := s.pkgRead 0 s.pkgLen
    if s.stageHeld = false ∧ (pkCheck s.hbmByte s.pkgLen (s.get MODULE_B MODULE.PART_STEP) (s.get UPDATE_B UPDATE.OTP_COUNT) s.upd.conf).1 = 0 then s
    else { s.updDiscard.setUpd 8 with upd.rom := 8 }.record UPDATE_B 0x0608 [2]
  else if 1 ≤ st ∧ st ≤ 5 then { s.updDiscard with upd.ended := none, upd.stopped := [] }.setUpd upIDLE
  else s

end Sys2Proof.Machine
end

