-- ==== Sys2Proof/Machine/HostCmd.lean ====
section
/-!
DEFINITION. Meanings of the host-window, PCIe and Belfry commands (13_host_mgmt.md, 14_belfry.md).
-/
namespace Sys2Proof.Machine

/-! ### The shared window (R458-R463) -/

/-- A window write into the staging area of a download sets SOURCE to 4 when no other path has (R571). -/
def State.windowSource (s : State) (o : Nat) (l : List Nat) : State :=
  let hit (e : Nat × Nat) : Bool :=
    let (k, a) := s.bar2At e.1
    decide (k = 2) && decide (s.stageBase ≤ a) && decide (a < s.stageBase + 2 ^ 24)
  if s.updSt = upDOWNLOADING ∧ s.upd.rom = 0 ∧ s.get UPDATE_B UPDATE.STAT_SOURCE = 0 ∧ (bar2Bytes o l).any hit = true then
    s.put UPDATE_B UPDATE.STAT_SOURCE 4 else s

/-- BAR2_WRITE (R461): offset, bytes; a byte above 255 is not enabled. In D3hot the function answers configuration
requests only (R454). -/
def execBar2Write (o : Nat) (bytes : List Nat) (s : State) : Res := s.live (if s.host.d3 then s else (s.windowSource o bytes).bar2Write o bytes)

/-- BAR2_READ (R461): offset, length. The bytes returned leave as a completion. -/
def execBar2Read (o n : Nat) (s : State) : Res :=
  s.live (if s.host.d3 then s else s.bar2Read o n)

/-- SEG_BASE_WRITE (R459): path, segment, the pair committed by the write of its high half. -/
def execSegBaseWrite (path k lo hi : Nat) (s : State) : Res := s.heard path (if k < 16 then s.segWrite path k lo hi else s)

/-- HANDOFF (R460, R462): path, the word written. -/
def execHandoff (path : Nat) (v : Word) (s : State) : Res := s.heard path (s.handoffIn path v)

/-- NOTIFY_FIFO_READ (R462, R465). -/
def execNotifyFifoRead (s : State) : Res := s.live (let (v, s) := s.notifyRead; s.emit .read [v])

/-- MBOX_GO (R464): the path of the write. -/
def execMboxGo (path : Nat) (s : State) : Res := s.heard path (s.mboxGo path)

/-! ### The PCIe function (R455, R457, R466, R487) -/

/-- MSIX_UNMASK (R454, R457): the vector whose mask bit the host clears in the MSI-X table; 64 + v names one whose mask bit it
sets. In D3hot the table does not answer. -/
def execMsixUnmask (v : Nat) (s : State) : Res :=
  s.heard 0 (if v < 64 then s.msixMask v false else if v < 128 then s.msixMask (v - 64) true else s)

/-- A hot reset or link-down of the interface, which also releases the host's claims (R455, R491). -/
def State.pcieReset (s : State) : State :=
  let old := s
  (s.hostReset.releaseClaims fun k => decide (k = 4)).line4 old

/-- PCIE_HOT_RESET (R455). -/
def execPcieHotReset (s : State) : Res := s.live s.pcieReset

/-- LINK_CHANGE (R455, R465, R466): rate, width and Flit mode after it; rate 0 is a link that has gone down. While PERST_N is low
the link stays in electrical idle: it trains to nothing. -/
def execLinkChange (rate width flit : Nat) (s : State) : Res :=
  let t := if rate = 0 then s.pcieReset
    else if s.get HOSTWIN_B HOSTWIN.LINK_RATE = 0 then s else s.inc HOSTWIN_B HOSTWIN.LINK_RETRAINS
  s.live (if rate ≠ 0 ∧ s.pinLevel 148 = false then s else t.linkTo rate width flit)

/-- PCIE_D3HOT (R487): 1 enters D3hot, 0 returns to D0, where a pending vector 0 is sent. -/
def execPcieD3hot (enter : Nat) (s : State) : Res :=
  s.live (if enter = 1 then { s with host.d3 := true } else { s with host.d3 := false }.msixFlush 0)

/-! ### Belfry (R477-R497) -/

/-- SOURCE_EDGE (R478, R479): source, level at this sample, pulses that came and went since the last. The level of a
page or software source is its condition. -/
def execSourceEdge (i v n : Nat) (s : State) : Res :=
  let t := if 144 ≤ i ∧ i ≤ 148 then s.setPin i (decide (v = 1)) else s
  s.live (if i < 1024 && decide (t.srcInput i = decide (v = 1)) then (t.sampleNow i n).line4 s else t)

/-- CLAIM (R482): target, which reads its own register. The source number is read. -/
def execClaim (k : Nat) (s : State) : Res :=
  let path := if k = 4 then 0 else 3 + k
  s.heard path (if k < 5 then let (v, s) := s.claimOwn k; s.emit .read [v] else s)

/-- COMPLETE (R483): path, target, source. -/
def execComplete (path k n : Nat) (s : State) : Res := s.heard path (if k < 5 then s.complete path k (n % 1024) else s)

/-- SW_SET (R494): the word written. -/
def execSwSet (v : Word) (s : State) : Res := s.live ((s.swLatch v true).line4 s)

/-- SW_CLR (R494): the word written. -/
def execSwClr (v : Word) (s : State) : Res := s.live ((s.swLatch v false).line4 s)

/-- GLOBAL_DISABLE (R485): the word written to GCTRL. -/
def execGlobalDisable (v : Word) (s : State) : Res := s.live ((s.put BELFRY_B BELFRY.GCTRL_DISABLE (v.toNat % 2)).line4 s)

/-- SRC_CFG_WRITE (R489, R495): source, the word written. -/
def execSrcCfgWrite (i : Nat) (v : Word) (s : State) : Res := s.live (if i < 1024 then (s.srcCfgWrite i v).line4 s else s)

/-- FIRE_CLEAR (R495): the FIRE word, 0-511, of sources 2w and 2w + 1. -/
def execFireClear (w : Nat) (s : State) : Res :=
  s.live (if w < 512 then s.wr (srcBase (2 * w) + 0x840 + 4 * (w % 256)) 0 else s)

end Sys2Proof.Machine
end

