-- ==== Sys2Proof/Machine/ImageCheck.lean ====
section
/-!
DEFINITION. The loader's checks of a whole image (R213): the route plans it embeds, and every check in its order.
-/
namespace Sys2Proof.Machine

/-- The bytes of the embedded plan that ROUTE_PLANS entry i of an image names, as a plan bank holds them (R206). -/
def planBytes (img : List Byte) (i : Nat) : List Byte :=
  let o := recOff img 11 i
  (img.drop ((sectOf img 0xD).off + le img (o + 8) 4)).take (le img (o + 12) 4)
def asBank (bs : List Byte) : Bank := (bs.mapIdx fun i b => (i, b)).filter fun e => decide (e.2 ≠ 0)

/-- Has an embedded plan the format of a plan (R206, R345-R352): header, layout and fields (log entry 295)? -/
def planFormat (bs : List Byte) : Bool :=
  let b := asBank bs
  (Option.orElse (planHeader b bs.length 0) fun _ => Option.orElse (planLayout b) fun _ => planField b).isNone

/-- 0x0032 PLANS (R206). DEDUCED (log entry 327): a PLAN_EPOCH that no entry lists is refused where PLAN_CHECK is 1, for R203 gives
it no meaning otherwise. -/
def chkPlans (img : List Byte) (im : Image) : Option Refuse :=
  let n := (sectOf img 11).count
  (firstBad (List.range n) fun i _ =>
    let o := recOff img 11 i
    let data := (sectOf img 0xD).off + le img (o + 8) 4
    if le img (o + 4) 1 > 1 ∨ le img (o + 5) 3 ≠ 0
      ∨ (le img (o + 4) 1 = 1 ∧ (le img (o + 12) 4 < 8 ∨ le img (o + 8) 4 + le img (o + 12) 4 > (sectOf img 0xD).len
        ∨ le img (data + 4) 4 ≠ le img o 4 ∨ planFormat (planBytes img i) = false))
    then some (0x32, 11, i, 0) else none).or
  (firstBad im.phases fun i p =>
    if p.flags / 4 % 2 = 1 ∧ !((List.range n).any fun j => le img (recOff img 11 j) 4 = p.planEpoch)
    then some (0x32, 7, i, 0) else none)

/-- The checks of R213 over the streams and what follows them (0x0010 on), in order. -/
def checkStreams (s : State) (addr len : Nat) (img : List Byte) (im : Image) (codes : List (List Nat))
    (runs : List (List PhaseRun)) : Option Refuse :=
  Option.orElse (chkFormat im codes) fun _ =>
  Option.orElse (chkOperands im codes runs) fun _ =>
  Option.orElse (chkInstr s.shape im codes runs) fun _ =>
  Option.orElse (chkResidency im runs) fun _ =>
  Option.orElse (chkAddress s.presentRange s.shape img im runs) fun _ =>
  Option.orElse (chkSlots s.shape im codes runs) fun _ =>
  Option.orElse (chkOverflow im s.tiles 0x20 0 0x800000) fun _ =>
  Option.orElse (chkOverflow im s.tiles 0x21 0x800000 0x900000) fun _ =>
  Option.orElse (chkCount im) fun _ =>
  Option.orElse (chkHomes im addr len) fun _ =>
  Option.orElse (chkPhases img im) fun _ =>
  Option.orElse (chkReshard img im) fun _ => chkPlans img im

/-- The streams and their instructions in ascending die and tile, the order in which R213 goes through them. -/
def Image.inTileOrder (im : Image) (codes : List (List Nat)) : Image × List (List Nat) :=
  let l := sortBy (fun x => x.1.tile) (im.streams.zip codes)
  ({ im with streams := l.map Prod.fst }, l.map Prod.snd)

/-- The checks of R213 on the records (0x0006 to 0x0008), in order. -/
def checkRecords (s : State) (img : List Byte) (im : Image) : Option Refuse :=
  let dieOk (d : Nat) : Bool := s.diePresent d && decide (s.get SIZE_TABLE_B (SIZE_TABLE.DIE_SHAPE_LINK_OK.at d 4) = 0xF)
  Option.orElse (chkDies dieOk img im) fun _ =>
  Option.orElse (chkTiles s.tilePresent img im) fun _ => chkRecords img im

/-- The checks of R213 on the image as bytes (0x0001 to 0x0005), in order. -/
def checkBytes (s : State) (addr len : Nat) (img : List Byte) : Option Refuse :=
  Option.orElse (chkHeader (s.presentRange addr len) len img) fun _ =>
  Option.orElse (chkCrc img) fun _ =>
  Option.orElse (chkContract img) fun _ =>
  Option.orElse (chkSections img) fun _ => chkRequire (fun o => (s.rd (SIZE_TABLE_B + o)).toNat) img

/-- The streams' instructions. -/
def imageCodes (img : List Byte) (im : Image) : List (List Nat) := (List.range im.streams.length).map (streamCode img)

/-- The runs of every stream through the phases. -/
def imageRuns (im : Image) (codes : List (List Nat)) : List (List PhaseRun) :=
  (im.streams.zip codes).map fun x => streamRuns x.2 x.1.entries (im.phases.map PhaseEnt.succ)

/-- The checks over the streams in tile order. -/
def checkOrdered (s : State) (addr len : Nat) (img : List Byte) (x : Image × List (List Nat)) : Option Refuse :=
  checkStreams s addr len img x.1 x.2 (imageRuns x.1 x.2)

/-- The checks of R213 in order; none when the image is accepted. -/
def checkImage (s : State) (addr len : Nat) (img : List Byte) : Option Refuse :=
  Option.orElse (checkBytes s addr len img) fun _ =>
  Option.orElse (checkRecords s img (parseImage img)) fun _ =>
  checkOrdered s addr len img ((parseImage img).inTileOrder (imageCodes img (parseImage img)))

end Sys2Proof.Machine
end

