-- ==== Sys2Proof/Machine/Log.lean ====
section
/-!
DEFINITION. The parish register (17_parish_register.md): page programs, the reading window, clears, posts and trace
snapshots.
-/
namespace Sys2Proof.Machine

/-! ### Records as bytes (R555) -/

/-- Little-endian bytes of a 64-bit number given as two words. -/
def w2 (n : Nat) : List Nat := [n % 2 ^ 32, n / 2 ^ 32 % 2 ^ 32]

/-- The first fifteen words of a record. -/
def Rec.words15 (r : Rec) : List Nat :=
  w2 r.seq ++ w2 r.uptime ++ w2 r.wall ++ [r.source % 2 ^ 32, r.epoch % 2 ^ 32, r.code % 2 ^ 16 + r.flags % 2 ^ 16 * 2 ^ 16]
    ++ (List.range 6).map fun i => r.w.getD i 0

/-- The sixteen words of a record: its CRC-32C last. -/
def Rec.words (r : Rec) : List Nat :=
  r.words15 ++ [(crc32c (r.words15.flatMap (leBytes 4)) ^^^ r.crcErr) % 2 ^ 32]

/-! ### Reading (R559) -/

/-- Write consecutive registers of an access path. -/
def State.pwrs (s : State) (path : Nat) : Nat → List Nat → State
  | _, [] => s
  | a, w :: ws => (s.pwr path a (BitVec.ofNat 32 w)).pwrs path (a + 4) ws

/-- READ_STAT for a SEQ that is presented as `r`, or not presented. -/
def State.readStat (s : State) (seq : Nat) (r : Option Rec) : Nat :=
  match r with
  | some x => 1 + (if seq ≤ 512 then 0 else 2) + (if s.log.fifo.any fun y => decide (y.seq = seq) then 4 else 0)
      + (if x.crcErr = 0 then 0 else 32)
  | none => if s.get64 LOG_B LOG.NEWEST_LO < seq then 16 else if seq = 0 then 0 else 8

/-- The presented record with a SEQ. -/
def State.presented (s : State) (seq : Nat) : Option Rec :=
  if seq ≤ 512 ∨ (s.logOldest ≠ 0 ∧ s.logOldest ≤ seq) then s.logRecs.find? fun r => r.seq = seq else none

/-- Load WINDOW and READ_STAT of a path from its cursor. -/
def State.loadWindow (s : State) (path : Nat) : State :=
  let seq := s.pget64 path LOG_B LOG.CURSOR_LO
  let r := s.presented seq
  let s := s.pwr path (LOG_B + 0x70) (BitVec.ofNat 32 (s.readStat seq r))
  s.pwrs path (LOG_B + 0x100) ((r.map Rec.words).getD (List.replicate 16 0))

/-- A write of CURSOR_HI, which commits the pair. -/
def State.cursorWrite (s : State) (path v : Nat) : State := (s.pput64 path LOG_B LOG.CURSOR_LO v).loadWindow path

/-- A read of WINDOW word 15: its value, and the next record. -/
def State.windowAdvance (s : State) (path : Nat) : Nat × State :=
  ((s.prd path (LOG_B + 0x13C)).toNat,
   (s.pput64 path LOG_B LOG.CURSOR_LO ((s.pget64 path LOG_B LOG.CURSOR_LO + 1) % 2 ^ 64)).loadWindow path)

/-! ### Clears (R560) -/

/-- The LOG_CLEARED record of a path enters: it clears what is before it and is the oldest presented. -/
def State.enterClear (s : State) (path : Nat) : State :=
  let l := if s.logOldest = 0 then [] else (s.logRecs.map Rec.seq).filter fun q => decide (s.logOldest ≤ q)
  let newest := l.foldl max 0
  let seq := s.get64 LOG_B LOG.NEWEST_LO + 1
  let s := s.enterRec LOG_B 0x0001 0 (w2 newest ++ [l.length, path])
  let o := if seq ≤ 512 then 0 else seq
  (s.put64 LOG_B LOG.OLDEST_LO o).logDrop (seq + 1)

/-- A write of CLEAR: the key clears, any other records CLEAR_BAD_KEY. -/
def State.logClear (s : State) (path : Nat) (v : Word) : State :=
  if v.toNat % 2 ^ 16 = 0x434C then
    let s := (s.inc LOG_B LOG.CLEARS_COUNT).raise LOG_B 2
    if s.log.fifo.length < 64 ∧ s.log.dead = false then s.enterClear path
    else if s.log.dead then s.loseRec
    else { s with log.clearWait := s.log.clearWait ++ [path] }
  else s.recErrX LOG_B 16 0x9201 path

/-! ### Posts (R561) -/

/-- A write of POST_CODE. -/
def State.postCode (s : State) (path : Nat) (v : Word) : State :=
  let code := v.toNat % 2 ^ 16
  if 0xF000 ≤ code then
    s.pushRec LOG_B code (8 + path * 16) ((List.range 6).map fun i => (s.prd path (LOG_B + 0x78 + 4 * i)).toNat)
  else s.recErrX LOG_B 18 0x9203 path

/-! ### Trace snapshots (R551, R562, R563) -/

/-- The four words of a trace entry. -/
def TraceEnt.words (t : TraceEnt) : List Nat :=
  w2 t.uptime ++ [t.kind + t.bit * 2 ^ 8 + t.code % 2 ^ 16 * 2 ^ 16, t.arg % 2 ^ 32]

/-- A write of TRACE_SEL takes the snapshot of the selected page. -/
def State.traceSel (s : State) (path : Nat) (v : Word) : State :=
  let s := s.pwr path (LOG_B + 0x90) v
  match s.pageOf (v.toNat / 2 ^ 16) (v.toNat % 2 ^ 16) with
  | some p =>
    let l := zget s.log.trace p
    let s := s.pwr path (LOG_B + 0x94) (BitVec.ofNat 32 (l.length + 2 ^ 31))
    s.pwrs path (LOG_B + 0x200) ((l.flatMap TraceEnt.words) ++ List.replicate (64 - 4 * l.length) 0)
  | none => (s.pwr path (LOG_B + 0x94) 0).pwrs path (LOG_B + 0x200) (List.replicate 64 0)

/-! ### Page programs (R554) -/

/-- Fill freed slots: waiting clears first, then a LOST_EVENTS record (R558, R560). -/
def State.logRefill (s : State) : State :=
  let n := 64 - s.log.fifo.length
  let now := s.log.clearWait.take n
  let s : State := now.foldl (fun s p => s.enterClear p) { s with log.clearWait := s.log.clearWait.drop n }
  if s.log.fifo.length < 64 ∧ s.get LOG_B LOG.LOST_UNRECORDED ≠ 0 then
    let w := [s.get LOG_B LOG.LOST_UNRECORDED] ++ w2 s.log.firstLost ++ w2 s.log.lastLost
    (s.put LOG_B LOG.LOST_UNRECORDED 0).enterRec LOG_B 0x0002 0 w
  else s

/-- A record reaches flash. -/
def State.toFlash (s : State) (r : Rec) : State :=
  let s := if r.seq ≤ 512 ∨ (s.logOldest ≠ 0 ∧ s.logOldest ≤ r.seq)
    then { s with log.flash := zset s.log.flash r.seq (some r) } else s
  let s := (s.put64 LOG_B LOG.WRITTEN_LO r.seq).raise LOG_B 0
  let s := if r.seq ≤ 512 then s.put LOG_B LOG.STAT_HEAD_COUNT (s.get LOG_B LOG.STAT_HEAD_COUNT + 1) else s
  if r.seq = 512 then s.raise LOG_B 3 else s

/-- The page under program completes. -/
def State.pageDone (s : State) : State :=
  let n := s.log.prog
  let s : State := (s.log.fifo.take n).foldl State.toFlash s
  let s := { s with log.fifo := s.log.fifo.drop n, log.prog := 0, log.fails := 0 }
  let s := (s.put LOG_B LOG.STAT_WRITING 0).logRefill
  (s.put LOG_B LOG.STAT_PENDING s.log.fifo.length).logProgram

/-- The page under program fails; the sixteenth in a row stops the controller. -/
def State.pageFailed (s : State) : State :=
  let s := { s.inc LOG_B LOG.PAGE_FAILS_COUNT with log.fails := s.log.fails + 1 }
  if s.log.fails < 16 then s
  else
    let q := ((s.log.fifo.map Rec.seq).headD 0)
    let s := { s.put LOG_B LOG.STAT_WRITING 0 with log.dead := true, log.prog := 0 }
    (s.put LOG_B hSTAT_FAULT 1).recErr LOG_B 17 0x9202 pathHw q

/-- Pause writing while the flash controller is reset (R510, R554): the page under program is programmed again later. -/
def State.logPause (s : State) : State :=
  { (s.put LOG_B LOG.STAT_PAUSED 1).put LOG_B LOG.STAT_WRITING 0 with log.prog := 0 }
def State.logResume (s : State) : State := (s.put LOG_B LOG.STAT_PAUSED 0).logProgram

/-- Write every pending record at once (R500, R554). -/
def State.logFlush (s : State) : State :=
  if s.log.dead then s
  else
    let s : State := s.log.fifo.foldl State.toFlash s
    ({ s with log.fifo := [], log.prog := 0 }.put LOG_B LOG.STAT_WRITING 0).put LOG_B LOG.STAT_PENDING 0

/-- A cold reset or power-on of the controller (R553, R554, R563): pending records are lost, the numbering skips 65,
and the flash registers are read again. The registers have been reset. -/
def State.logCold (s : State) : State :=
  let recs := s.log.flash.filterMap Prod.snd
  let clr := (recs.filter fun r => decide (r.code = 1)).foldl (fun m r => max m r.seq) 0
  let s := { s with log.fifo := [], log.clearWait := [], log.prog := 0, log.fails := 0, log.dead := false,
                    log.firstLost := 0, log.lastLost := 0, log.trace := [] }
  let s := s.logDrop clr
  let seqs := (s.log.flash.filterMap Prod.snd).map Rec.seq
  let top := seqs.foldl max 0
  let roll := seqs.filter fun q => decide (512 < q)
  let s := s.put64 LOG_B LOG.WRITTEN_LO top
  let s := s.put64 LOG_B LOG.NEWEST_LO (if top = 0 then 0 else top + 64)
  let s := s.put64 LOG_B LOG.OLDEST_LO (roll.foldl min (roll.headD 0))
  s.put LOG_B LOG.STAT_HEAD_COUNT (seqs.filter fun q => decide (q ≤ 512)).length

end Sys2Proof.Machine
end

