-- ==== Sys2Proof/Machine/Millrace.lean ====
section
/-!
DEFINITION. Millrace (11_millrace.md): a frame of a loop slot with its compensator, supervision and trim, losses and
failures, telemetry, the slew governor and descriptor writes.
-/
namespace Sys2Proof.Machine

/-! ### Numbers of the compensator (R393, R394) -/

/-- Clamp to a signed n-bit range. -/
def satN (n : Nat) (v : Int) : Int := clampI (-(2 ^ (n - 1) : Nat)) ((2 ^ (n - 1) : Nat) - 1) v

/-- A sum of products scaled by 2^(e - 48), rounded to nearest even. -/
def blockSum (ms xs : List Int) (e : Nat) : Int :=
  rneDiv ((List.zipWith (· * ·) ms xs).foldl (· + ·) 0 * Int.ofNat (2 ^ e)) (2 ^ 48)

/-- Numerator and denominator mantissas (b0-b3, a1-a3) and exponents of slot i. -/
def State.bMants (s : State) (i : Nat) : List Int := [s.dscS i 0x18 17 0, s.dscS i 0x1C 17 0, s.dscS i 0x20 17 0, s.dscS i 0x24 17 0]
def State.aMants (s : State) (i : Nat) : List Int := [s.dscS i 0x28 17 0, s.dscS i 0x2C 17 0, s.dscS i 0x30 17 0]
def State.lawK (s : State) (i : Nat) : Nat := if s.dsc i 0 1 1 = 1 then 3 else 2

/-- The base of the output: the start point of a ring slot, BIAS of another (R394). -/
def State.slotBase (s : State) (i : Nat) : Int := if i < 648 then (s.slot i).base else Int.ofNat (s.dsc i 0x10 23 0)

/-- Feedforward now (R414). -/
def State.ffNow (s : State) (i : Nat) (x : Slot) : Int :=
  if s.dFf i && decide (i < 648) then
    rneDiv (s.dscS i 0x34 15 0 * (s.filtW i - x.refW) + s.dscS i 0x34 31 16 * (s.filtE i - x.refE)) 256
  else 0

/-- The dither of the frame. -/
def State.ditherNow (s : State) (i : Nat) (x : Slot) : Int :=
  if s.dDither i then (if x.neg then -1 else 1) * Int.ofNat (s.dsc i 0x14 15 0) * 256 else 0

/-- Does the trim stage run (R401)? -/
def State.trimOn (s : State) (i : Nat) (x : Slot) : Bool :=
  decide (i < 648) && s.dTrim i && decide (x.st = slLOCKED) && !s.dHold i
    && serving (if i < 324 then s.txSt (ringPort i) (ringLane i) else s.rxSt (ringPort i) (ringLane i))


/-- The effective set-point (R400, R401): a line power loop holds each line at COMB.LINE_TARGET (R302, R418), for which no rule gives
the converter units: a constant of Config (log entry 302). -/
def State.spEff (s : State) (i : Nat) (x : Slot) : Int :=
  let par := s.dsc i 0 31 21
  let own := if isLinePower i then Config.lineSetpoint (s.get (COMB_B (slotComb i)) COMB.LINE_TARGET_POWER) else s.dscS i 0x08 17 0
  let sp := if s.dsc i 0 20 19 = 1 ∧ (s.slot par).st ≠ slIDLE then Int.ofNat (s.slot par).code - 32768 else own
  let d := Int.ofNat (s.dsc i 0x08 25 18)
  sp + x.trim + (if s.trimOn i x then (if x.odd then -d else d) else 0)

/-- The demodulated sample; none when there is no earlier sample to demodulate against (R391, R394). -/
def State.sample (s : State) (i m : Nat) (x : Slot) : Option Int :=
  if s.dDither i then
    x.mPrev.map fun q => (Int.ofNat m - Int.ofNat q) * (if x.negPrev then -1 else 1)
  else some (Int.ofNat m)

/-- The end of a frame's output: code, y after back-calculation, and whether it was clamped low or high. -/
def State.compose (s : State) (i : Nat) (x : Slot) (y : Int) : Int × Int × Bool × Bool :=
  let u := s.slotBase i + y + x.ff + s.ditherNow i x
  let c := rneDiv u 256
  let lo := s.outLo i
  let hi := s.outHi i
  if c < lo then (lo, satN 24 (lo * 256 - s.slotBase i - x.ff - s.ditherNow i x), true, false)
  else if hi < c then (hi, satN 24 (hi * 256 - s.slotBase i - x.ff - s.ditherNow i x), false, true)
  else (c, y, false, false)

/-- Set the flags of a list of (condition, code). -/
def State.flagsIf (s : State) (i : Nat) (l : List (Bool × Nat)) : State :=
  l.foldl (fun s f => if f.1 then s.slotFlag i f.2 else s) s

/-- Apply an output: the code, the clamp flags and the engine's HEATER_CLAMP (R307, R394). -/
def State.output (s : State) (i : Nat) (code : Int) (low high : Bool) : State :=
  let heat := high && decide (i < 648) && decide (s.heatLim i ≤ s.dsc i 0x0C 31 16)
  let s := s.modSlot i fun x => { x with code := code.toNat }
  let s := s.flagsIf i [(low || high, fgSAT_OUT)]
  if heat then s.raise (ENGINE_B (portEngine (ringPort i))) 1 else s

/-- The closed loop's step of R394, with its sample. -/
def State.closedStep (s : State) (i : Nat) (v : Int) : State :=
  let x := s.slot i
  let k := s.lawK i
  let e0 := v - s.spEff i x
  let e := satN 18 e0
  let n0 := blockSum ((s.bMants i).take (k + 1)) (e :: x.es) (s.dsc i 0x18 23 18)
  let d0 := blockSum ((s.aMants i).take k) x.ys (s.dsc i 0x28 23 18)
  let num := satN 32 n0
  let den := satN 32 d0
  let y := satN 24 (num - den)
  let (code, y', low, high) := s.compose i x y
  let s := s.setSlot i { x with e := e, num := num, den := den, y := y', es := (e :: x.es).take 3, ys := (y' :: x.ys).take 3 }
  let s := s.flagsIf i [(decide (e ≠ e0) || decide (num ≠ n0), fgSAT_NUM), (decide (den ≠ d0), fgSAT_DEN),
    (decide (y ≠ num - den), fgSAT_OUT)]
  s.output i code low high

/-- The held output of HELD, GAP and FROZEN (R398, R408, R409): y stays, feedforward and dither go on. -/
def State.heldStep (s : State) (i : Nat) : State :=
  let x := s.slot i
  let (code, _, low, high) := s.compose i x x.y
  s.output i code low high

/-- The open output of SETTLE (R403, R404): start point and feedforward. -/
def State.openStep (s : State) (i : Nat) : State :=
  let x := s.slot i
  let c := rneDiv (s.slotBase i + x.ff) 256
  let d := clampI (s.outLo i) (s.outHi i) c
  s.output i d (decide (c < d)) (decide (d < c))

/-! ### Lock and its loss (R405, R417, R418) -/

/-- The lane of a ring or MZI slot. -/
def slotRing (i : Nat) : Nat := if i < 648 then i else mziRing i


/-- What losing lock or feedback costs (R405, R408, R417, R418); of a line power slot, the line in its turn. -/
def State.loopLost (s : State) (i cause : Nat) : State :=
  let c := slotComb i
  match slotKind i with
  | .ring => (s.laneRelock i cause).slotSettle i
  | .mzi => (s.laneRelock (mziRing i) cause).slotAcquire i
  | .comb =>
    match (i - 1620) % 4 with
    | 0 => (s.slotAcquire i).combUnlock c 0
    | 1 => (s.slotAcquire i).combUnlock c 1
    | 2 => (s.modSlot i Slot.closed).setWeak c (zget s.mill.turn i) true
    | _ => (s.slotAcquire i).put (COMB_B c) COMB.STAT_TEC_OK 0
  | .free => s.slotAcquire i

/-- A slot has locked: its lane goes on when its loops are all locked (R321, R417). -/
def State.loopLocked (s : State) (i : Nat) : State :=
  let s := (s.modSlot i fun x => { x with st := slLOCKED, outRun := 0 }).acqDone i
  match slotKind i with
  | .ring => s.ringLocked i
  | .mzi => if s.ringHeld (mziRing i) then s.ringLocked (mziRing i) else s
  | _ => s

/-- Count frames inside and outside LOCK_WIN (R405). -/
def State.lockCheck (s : State) (i : Nat) : State :=
  let x := s.slot i
  let inside := decide (x.e.natAbs ≤ s.get MILLRACE_B MILLRACE.LOCK_LOCK_WIN)
  let a := if inside then x.inRun + 1 else 0
  let b := if inside then 0 else x.outRun + 1
  let s := s.setSlot i { x with inRun := a, outRun := b }
  if x.st = slACQUIRE ∧ max 1 (s.get MILLRACE_B MILLRACE.LOCK_IN) ≤ a then s.loopLocked i
  else if x.st = slLOCKED ∧ max 1 (s.get MILLRACE_B MILLRACE.LOCK_OUT) ≤ b then (s.slotFlag i fgUNLOCK).loopLost i fcLOCK
  else s

/-! ### Frozen feedback (R408) -/

/-- VAR_FLOOR of a slot's kind. -/
def State.varFloor (s : State) (i : Nat) : Nat :=
  match slotKind i with
  | .ring => s.get MILLRACE_B MILLRACE.FLOOR_RM_RING
  | .mzi => s.get MILLRACE_B MILLRACE.FLOOR_RM_MZI
  | _ => s.get MILLRACE_B MILLRACE.FLOOR_C_COMB

/-- Do the last 64 samples look frozen? -/
def State.frozen (s : State) (i : Nat) (h : List (Nat × Nat)) : Bool :=
  let n := (h.map Prod.fst).foldl (· + ·) 0
  let q := (h.map fun m => m.1 * m.1).foldl (· + ·) 0
  decide (h.length = 64) && ((s.dDither i && h.all fun m => decide (m.2 < s.dsc i 0x14 31 16))
    || decide (64 * q - n * n < 4096 * s.varFloor i))

/-- The change of a sample from the one before it. -/
def sampleMove (m : Nat) : Option Nat → Nat
  | some q => if q ≤ m then m - q else q - m
  | none => 65535

/-- Keep the sample in the history of 64, in the states whose feedback is watched (R403, R408, R409). -/
def State.keepSample (s : State) (i m : Nat) : State :=
  s.modSlot i fun x =>
    if x.st = slACQUIRE ∨ x.st = slLOCKED ∨ x.st = slFROZEN then { x with hist := ((m, sampleMove m x.mPrev) :: x.hist).take 64 }
    else x

/-- Enter FROZEN. -/
def State.freezeSlot (s : State) (i : Nat) : State :=
  let s := (s.slotFlag i fgFEEDBACK_LOST).modSlot i fun x => { x with st := slFROZEN, liveRun := 0 }
  (s.inc MILLRACE_B MILLRACE.FEEDBACK_LOSTS_COUNT).raise MILLRACE_B 2

/-- A FROZEN slot counts samples that show life; sixteen in a row return it to ACQUIRE. -/
def State.thawCheck (s : State) (i : Nat) : State :=
  let x := s.slot i
  let n := if s.frozen i x.hist then 0 else x.liveRun + 1
  if n < 16 then s.setSlot i { x with liveRun := n }
  else s.setSlot i { x with liveRun := 0, st := slACQUIRE, inRun := 0, outRun := 0 }

/-! ### Plausibility (R410) -/

/-- dev of a code against P_pred in GHz; with P_STEP 0 the quotient has no value: a free one. -/
def State.devOf (s : State) (i : Nat) (code pred : Int) : Nat × State :=
  let st := s.dsc i 0x38 31 16
  if st = 0 then
    let (f, s) := s.freeVal
    (f, s)
  else ((code - pred).natAbs * 200 / st, s)

/-- The steps of a suspected mislock. -/
def State.mislock (s : State) (i : Nat) : State :=
  let x := s.slot i
  let s := (s.slotFlag i fgSUSPECT_MISLOCK).raise MILLRACE_B 3
  let s := s.inc MILLRACE_B MILLRACE.MISLOCKS_COUNT
  let s := s.record MILLRACE_B 0x0050 [i, x.dev, x.code, twos 32 x.pred]
  ((s.laneRelock i fcLINE_MISMATCH).raise (PORT_B (ringPort i)) 7).slotSettle i

/-- Check a ring slot's output, leaving out dither, against P_pred. -/
def State.plausCheck (s : State) (i : Nat) : State :=
  match s.ringLine i with
  | none => s
  | some k =>
    let x := s.slot i
    let pred := s.predFor i k
    let c := clampI (s.outLo i) (s.outHi i) (rneDiv (s.slotBase i + x.y + x.ff) 256)
    let (dev, s) := s.devOf i c pred
    let n := if s.dPlaus i && decide (max 10 (s.get MILLRACE_B MILLRACE.PLAUS_WINDOW_GHZ) < dev) then x.devRun + 1 else 0
    let s := s.setSlot i { x with pred := pred, dev := dev, devRun := n }
    if s.dPlaus i && decide (max 1 (s.get MILLRACE_B MILLRACE.PLAUS_COUNT) ≤ n) then s.mislock i else s

/-! ### Trim (R401) -/

/-- Step the trim after a pair of periods, by the means of their metrics. -/
def trimStep (x : Slot) (d lim : Int) : Int :=
  let odd := x.sum * x.evenN
  let even := x.sumEven * x.trimN
  clampI (-lim) lim (if odd < even then x.trim + d else if even < odd then x.trim - d else x.trim)

/-- The eye figure of a receive lane: its mean squared decision error, in 1/4,096 of a level step squared, and the symbols corrected in
the period. -/
def eyeFigure (mse sym : Nat) : Nat := 65535 - min 65535 (mse + 64 * sym)

/-- Symbols that the receive lane of a ring slot has corrected. -/
def State.laneSym (s : State) (i : Nat) : Nat :=
  if 324 ≤ i ∧ i < 648 then s.get (PORT_B (ringPort i)) (laneF PORT.FEC_SYM_COUNT (ringLane i)) else 0

/-- The lane's metric in a frame, from what its monitor shows: the eye figure of a receive ring, with the symbols corrected in the
period so far (log entry 339), or the modulation amplitude of a transmit ring. -/
def State.trimMetric (s : State) (i seen : Nat) (x : Slot) : Nat :=
  if 324 ≤ i then eyeFigure seen (s.laneSym i - x.symFrom) else seen

/-- A frame of the trim stage, with the decision error or the amplitude that the lane shows. -/
def State.trimFrame (s : State) (i seen : Nat) : State :=
  let x0 := s.slot i
  let x1 := if x0.trimN = 0 then { x0 with symFrom := s.laneSym i } else x0
  let x := { x1 with metric := s.trimMetric i seen x1 }
  if s.trimOn i x then
    let y := { x with trimN := x.trimN + 1, sum := x.sum + x.metric }
    if y.trimN < 2 ^ s.dsc i 0 18 16 then s.setSlot i y
    else if x.odd then
      let d := Int.ofNat (s.dsc i 0x08 25 18 / 2 ^ s.dsc i 0x08 28 26)
      s.setSlot i { y with trim := trimStep y d (Int.ofNat (s.get MILLRACE_B MILLRACE.TRIM_LIMIT_LIMIT)),
                           odd := false, trimN := 0, sum := 0, sumEven := 0, evenN := 0 }
    else s.setSlot i { y with odd := true, trimN := 0, sumEven := y.sum, evenN := y.trimN, sum := 0 }
  else s.setSlot i x

/-! ### A frame (R389-R394, R398) -/

/-- A slot whose tone check found another line re-enters SETTLE (R407). -/
def State.settleCheck (s : State) (i : Nat) : State := if (s.slot i).resettle then s.slotSettle i else s

/-- HOLD begins or ends at the start of a frame. -/
def State.holdCheck (s : State) (i : Nat) : State :=
  let x := s.slot i
  if s.dHold i && (decide (x.st = slACQUIRE) || decide (x.st = slLOCKED)) then s.setSlot i { x with st := slHELD, left := x.st }
  else if !s.dHold i && decide (x.st = slHELD) then
    s.setSlot i { x with st := x.left, es := [0, 0, 0], ys := [x.y, x.y, x.y] }
  else s

/-- GAP begins or ends (R409): a receive ring of a BURST path whose receive tap is dark. -/
def State.gapCheck (s : State) (i : Nat) (dark : Bool) : State :=
  let x := s.slot i
  let burst := decide (324 ≤ i) && decide (i < 648) && (match s.plan.path true (s.plan.lanePath i) with
    | some e => e.burst
    | none => false)
  if burst && dark && (decide (x.st = slACQUIRE) || decide (x.st = slLOCKED) || decide (x.st = slFROZEN)) then
    s.setSlot i { x with st := slGAP, left := x.st }
  else if !dark && decide (x.st = slGAP) then s.setSlot i { x with st := x.left }
  else s

/-- The step of the frame by the slot's state; a closed loop that has no earlier sample keeps its output. -/
def State.frameStep (s : State) (i m : Nat) : State :=
  let st := (s.slot i).st
  if st = slSETTLE then s.openStep i
  else if st = slHELD ∨ st = slGAP then s.heldStep i
  else if st = slFROZEN then (s.heldStep i).thawCheck i
  else
    let h := (s.slot i).hist
    if decide (i < 1628) && s.frozen i h then (s.freezeSlot i).heldStep i
    else match s.sample i m (s.slot i) with
      | some v => (s.closedStep i v).lockCheck i
      | none => s

/-- The sample becomes the previous one and the dither sign alternates. -/
def State.endSample (s : State) (i m : Nat) : State :=
  s.modSlot i fun x => { x with mPrev := some m, negPrev := x.neg, neg := if x.st = slSETTLE then x.neg else !x.neg,
                                frames := x.frames + 1, missRun := 0 }

/-- The values of trace nodes 0-9 of a slot; codes 13-15 record 0 (R419). -/
def State.slotNodes (s : State) (i m : Nat) : List (Nat × Int) :=
  let x := s.slot i
  [(0, Int.ofNat m), (1, x.e), (2, x.num), (3, x.den), (4, x.y), (5, x.ff), (6, x.trim), (7, Int.ofNat x.code), (8, Int.ofNat x.dev),
    (9, Int.ofNat x.metric), (13, 0), (14, 0), (15, 0)]

/-- The supervision that follows the step (R403, R410). -/
def State.supervise (s : State) (i : Nat) : State :=
  let st := (s.slot i).st
  if i < 648 ∧ slACQUIRE ≤ st ∧ st ≤ slFROZEN then s.plausCheck i else s

/-- Slots that a frame can run: running and not driven by calibration. -/
def State.frameReady (s : State) (i : Nat) : Bool := s.slotRuns i && decide ((s.slot i).st ≠ slIDLE) && decide ((s.slot i).st ≠ slCAL)

/-- The loop of `y`, its state and histories, in the place of that of `x`. -/
def Slot.withLoop (x y : Slot) : Slot :=
  { x with st := y.st, left := y.left, liveRun := y.liveRun, mPrev := y.mPrev, neg := y.neg, negPrev := y.negPrev, es := y.es,
           ys := y.ys, y := y.y, hist := y.hist, inRun := y.inRun, outRun := y.outRun, code := y.code }

/-- The power that a line monitor's code shows (log entry 302), and whether it is more than 3 dB below LINE_TARGET (R337). -/
def State.lineMeasured (s : State) (i m : Nat) : State :=
  if isLinePower i then
    s.linePower (slotComb i) (zget s.mill.turn i) (Config.linePower m)
  else s

/-- Bring in the state of the line whose turn it is; put it away and turn to the next line. -/
def State.lineIn (s : State) (i : Nat) : State :=
  if isLinePower i then s.modSlot i fun x => x.withLoop (s.slot (lineKey i (zget s.mill.turn i))) else s
def State.lineOut (s : State) (i : Nat) : State :=
  if isLinePower i then
    let k := zget s.mill.turn i
    let s := s.modSlot (lineKey i k) fun y => y.withLoop (s.slot i)
    { s with mill.turn := zset s.mill.turn i ((k + 1) % 16) }
  else s

/-- The lines of a line power slot that a condition picks. -/
def State.linesOf (s : State) (i : Nat) (f : Slot → Bool) : List Nat := (List.range 16).filter fun k => f (s.slot (lineKey i k))

/-- Lines of a line power slot close their loops afresh; the slot shows the line it ran last. -/
def State.linesClose (s : State) (i : Nat) (ks : List Nat) : State :=
  let s : State := ks.foldl (fun s k => s.modSlot (lineKey i k) Slot.closed) s
  s.modSlot i fun x => x.withLoop (s.slot (lineKey i ((zget s.mill.turn i + 15) % 16)))

/-- Lines of a line power slot lose their lock or feedback: they are WEAK (R418). -/
def State.linesLost (s : State) (i : Nat) (ks : List Nat) : State :=
  ks.foldl (fun s k => s.setWeak (slotComb i) k true) (s.linesClose i ks)

/-! ### Load (R392) -/

/-- What one 10 µs interval holds: steps of the six datapaths at 200 MHz, 5 ns units of an engine's 36 converters. -/
def loadCap (w : Nat) : Nat := if w = 0 then 12000 else 72000

/-- The use in the intervals of the last 1 ms. -/
def State.loads (s : State) (w : Nat) : List Nat :=
  (List.range 100).map fun j => if j ≤ s.time.up / 20000 then zget s.mill.load (4 * (s.time.up / 20000 - j) + w) else 0

/-- Does a mean exceed 90 %? -/
def State.loadHigh (s : State) : Bool := (List.range 3).any fun w => decide (90 * loadCap w < (s.loads w).foldl (· + ·) 0)

/-- MEAN and PEAK of the datapaths (0) or of an engine's converters (1, 2), in whole %. -/
def State.loadView (s : State) (w : Nat) : Nat :=
  min 255 ((s.loads w).foldl (· + ·) 0 / loadCap w) + min 255 (100 * (s.loads w).foldl max 0 / loadCap w) * 2 ^ 8

/-- A frame starts: four datapath steps, and a converter for INT and 100 ns (R390). DEDUCED (log entry 347): a missed one costs the
same. LOAD_HIGH is raised as a mean comes to exceed
90 % (R392, R424). -/
def State.frameLoad (s : State) (i : Nat) : State :=
  let t := s.time.up / 20000
  let was := s.loadHigh
  let m := s.mill.load.filter fun e => decide (t < e.1 / 4 + 100)
  let c := 4 * t + 1 + s.dsc i 4 10 10
  let m := zset m (4 * t) (zget m (4 * t) + 4)
  let s := { s with mill.load := zset m c (zget m c + s.dsc i 4 27 12 + 20) }
  if s.loadHigh && !was then s.raise MILLRACE_B 6 else s

/-- A firing of trigger unit u starts frames (R290, R389): one less than 2.5 µs after the slot's last start is skipped
and counted as a miss. -/
def State.millTrigger (s : State) (u : Nat) : State :=
  ((mkeys (fun i (x : Slot) => decide (i < 2048) && decide (x.st ≠ slIDLE)) s.mill.slots).filter fun i =>
    s.dTrig i && decide (s.dsc i 0 15 11 = u)).foldl (fun s i =>
      match (s.slot i).started with
      | some t => if s.time.up < t + 5000 then
          (s.modSlot i fun x => { x with misses := min 65535 (x.misses + 1) }).inc MILLRACE_B MILLRACE.DEADLINE_MISS_COUNT
        else s.modSlot i fun x => { x with due := true, started := some s.time.up }
      | none => s.modSlot i fun x => { x with due := true, started := some s.time.up }) s

/-- The converter code of a frame: an echo point gives the slot's own last output code (R388). -/
def State.monitor (s : State) (i m : Nat) : Nat := if 1628 ≤ i ∧ s.dsc i 4 9 0 = 1023 then (s.slot i).code else m

/-- What a frame starts with: its load, a measured line, the state of the line in its turn, a SETTLE that is due, HOLD and a gap. -/
def State.frameStart (s : State) (i m : Nat) (dark : Bool) : State :=
  ((((((s.frameLoad i).lineMeasured i m).lineIn i).settleCheck i).holdCheck i).gapCheck i dark).keepSample i m

/-- One frame of slot i with the converter code m, the decision error or the amplitude that the lane shows (R401), and whether the
port's tap is dark. -/
def State.loopFrame (s : State) (i m seen : Nat) (dark : Bool) : State :=
  if s.frameReady i = false ∨ (s.dTrig i && !(s.slot i).due) = true then s else
  let s := (s.descUse (64 * i)).descUse (64 * i + 32)
  let m := s.monitor i m
  let s := s.frameStart i m dark
  -- a triggered frame started at its firing
  let start := if s.dTrig i then (s.slot i).started else some s.time.up
  let s := s.modSlot i fun x => { x with ff := s.ffNow i x, started := start, due := false }
  let s := ((s.frameStep i m).trimFrame i seen).supervise i
  let s := (s.endSample i m).lineOut i
  s.traceAll i (s.slot i).frames (s.slotNodes i m)

/-- A frame that missed its deadline (R391): the output, the sign and the state stay; 64 in a row lose the feedback. -/
def State.frameMiss (s : State) (i : Nat) : State :=
  if s.frameReady i = false then s else
  let s := (s.frameLoad i).modSlot i fun x =>
    { x with misses := min 65535 (x.misses + 1), mPrev := none, missRun := x.missRun + 1, due := false }
  let s := if isLinePower i then s.modSlot (lineKey i (zget s.mill.turn i)) fun x => { x with mPrev := none } else s
  let s := (s.slotFlag i fgDEADLINE_MISS).inc MILLRACE_B MILLRACE.DEADLINE_MISS_COUNT
  let s := s.raise MILLRACE_B 1
  if (s.slot i).missRun < 64 then s
  else
    let s := s.modSlot i fun x => { x with missRun := 0 }
    if isLinePower i then s.linesLost i (List.range 16) else s.loopLost i fcFEEDBACK_LOST

/-! ### Timers of a slot -/

/-- SETTLE_US is over: the loop closes (R404); it waits while its comb is not good (R402). -/
def State.settleDone (s : State) (i : Nat) : State :=
  if i < 648 ∧ (s.slot i).st = slSETTLE ∧ s.slotRuns i = true ∧ s.combGood (portEngine (ringPort i)) = true then
    s.modSlot i fun x => { x with st := slACQUIRE }
  else s

/-- Count one acquisition failure of a slot (R405). -/
def State.countAcqFail (s : State) (i : Nat) : State :=
  let s := s.modSlot i fun x => { x with acqFails := min 65535 (x.acqFails + 1) }
  (s.inc MILLRACE_B MILLRACE.ACQ_FAILS_COUNT).raise MILLRACE_B 7

/-- A slot has not locked within TIMEOUT_US: a ring re-enters SETTLE, and the port of a ring or stage counts the failure (R405, R417).
The lines of a line power slot that acquire do so afresh (log entry 338). -/
def State.acqTimeout (s : State) (i : Nat) : State :=
  if s.slotRuns i = false then s
  else if isLinePower i then
    let ks := s.linesOf i fun x => decide (x.st = slACQUIRE)
    if ks.isEmpty then s else (s.countAcqFail i).linesClose i ks
  else if (s.slot i).st = slACQUIRE then
    let s := s.countAcqFail i
    if i < 648 then (s.slotSettle i).acqFailed i
    else if i < 1620 then (s.slotAcquire i).acqFailed i
    else s.slotAcquire i
  else s

/-- Is a slot's feedback paused or frozen? -/
def Slot.stuck (x : Slot) : Bool := decide (x.st = slFROZEN) || decide (x.st = slHELD)

/-- A slot has stayed FROZEN or HELD for LOST_US (R398, R408): of a line power slot, the lines that are (log entry 338). -/
def State.feedbackLost (s : State) (i : Nat) : State :=
  if isLinePower i then s.linesLost i (s.linesOf i Slot.stuck)
  else if (s.slot i).stuck then s.loopLost i fcFEEDBACK_LOST else s

/-- A ring has been clamped at the heater limit for 1 ms (R411). -/
def State.heaterLimit (s : State) (i : Nat) : State :=
  if i < 648 ∧ ((s.slot i).st = slACQUIRE ∨ (s.slot i).st = slLOCKED) then
    ((s.countAcqFail i).laneRelock i fcHEATER_LIMIT).slotSettle i |>.acqFailed i
  else s

/-- A ring's heater, coupler or monitor fails its check: its port records it and its lane fails (R323, R335, R341). -/
def State.ringHwFail (s : State) (i : Nat) : State :=
  let p := ringPort i
  let s := ((s.recErr (PORT_B p) 16 0x8701 pathHw i).inc (ENGINE_B (portEngine p)) ENGINE.RINGS_FAILED).laneFail i fcHARDWARE
  (s.slotIdle i).modSlot i fun x => { x with dead := true }

/-- A heater, coupler, bias driver or monitor check fails (R412). -/
def State.loopHwFail (s : State) (i : Nat) : State :=
  let s := (s.slotFlag i fgHW).slotIdle i
  let s := s.modSlot i fun x => { x with dead := true }
  let p := ringPort (slotRing i)
  match slotKind i with
  | .ring => s.ringHwFail i
  | .mzi => ((s.recErr (PORT_B p) 17 0x8702 pathHw (i - 648)).inc (ENGINE_B (portEngine p)) ENGINE.MZI_FAILED).laneFail (mziRing i) fcHARDWARE
  | _ => s

/-! ### Telemetry and the governor (R413-R416) -/

/-- FF_TAU of the engine of die d. -/
def State.tauOf (s : State) (d : Nat) : Nat :=
  max 10 (if d < 2 then s.get MILLRACE_B MILLRACE.FF_TAU_TAU0 else s.get MILLRACE_B MILLRACE.FF_TAU_TAU1)

/-- A die's power (W) and hottest sensor (°C) arrive. -/
def State.dieTelemetry (s : State) (d p t : Nat) : State :=
  let f := zget s.mill.filt d
  let f' := f + ((256 * Int.ofNat p - f) * 10).tdiv (Int.ofNat (s.tauOf d))
  let h := zget s.mill.temps d
  let slew := clampI (-128) 127 (Int.ofNat t - Int.ofNat ((h.drop 99).headD (h.getLastD t)))
  let was := signed 8 (s.get MILLRACE_B (MILLRACE.TEL_SLEW.at d 4))
  let s := { s with mill.filt := zset s.mill.filt d f', mill.temps := zset s.mill.temps d ((t :: h).take 100) }
  let s := s.wr (MILLRACE_B + 0x84 + 4 * d) (BitVec.ofNat 32 (min p 65535 + min t 255 * 2 ^ 16 + twos 8 slew * 2 ^ 24))
  let s := if slew ≤ 25 ∨ 25 < was then s else
    ((s.inc MILLRACE_B MILLRACE.THERM_STEPS).raise MILLRACE_B 4).record MILLRACE_B 0x0051 [d, (s.rd (MILLRACE_B + 0x84 + 4 * d)).toNat]
  s.traceAll d 0 [(10, Int.ofNat p), (11, Int.ofNat t)]

/-- STAT of an engine follows its ports' temperatures (R307, R335): in whole °C, the fraction dropped; a ring area stands for its
port's rings (log entry 303). OUT_OF_WINDOW and OVERTEMP are raised (R336). -/
def State.engineTemps (s : State) (e : Nat) : State :=
  let b := ENGINE_B e
  let ts := (enginePorts e).map fun p => zget s.mill.portT p
  let hi := min 255 (ts.foldl max 0 / 16)
  let lo := min 255 (ts.foldl min (ts.headD 0) / 16)
  let ok := ts.all fun t => decide (640 ≤ t ∧ t ≤ 1280)
  let was := s.bit b ENGINE.STAT_IN_WINDOW
  let hot := decide (90 ≤ s.get b ENGINE.STAT_TEMP_MAX)
  let s := ((s.put b ENGINE.STAT_TEMP_MAX hi).put b ENGINE.STAT_TEMP_MIN lo).put b ENGINE.STAT_IN_WINDOW (if ok then 1 else 0)
  let s := if was && !ok then s.raise b 0 else s
  if decide (90 ≤ hi) && !hot then s.raise b 3 else s

/-- A telemetry update: powers and temperatures of the four dies, and the ports' ring-area temperatures (1/16 °C). -/
def State.telemetry (s : State) (ps ts ports : List Nat) : State :=
  let s := (List.range 4).foldl (fun s d => if s.diePresent d then s.dieTelemetry d (ps.getD d 0) (ts.getD d 0) else s) s
  let s : State := (List.range 36).foldl (fun s p =>
    let t := ports.getD p (zget s.mill.portT p)
    { s with mill.portT := zset s.mill.portT p t }.traceAll p 0 [(12, Int.ofNat t)]) s
  (s.engineTemps 0).engineTemps 1

/-- A 1 µs power estimate of die d (R415): the floor is the least of the preceding 100, and stalls are requested while
the estimate exceeds floor + LIMIT_W - 2. -/
def State.governor (s : State) (d w : Nat) : State :=
  let h := zget s.mill.ests d
  let fl := h.foldl min (h.headD w)
  let lim := min 60 (max 1 (s.get MILLRACE_B MILLRACE.GOV_CTRL_LIMIT_W))
  let s := { s with mill.ests := zset s.mill.ests d ((w :: h).take 100), mill.stall := zset s.mill.stall d (decide (fl + lim < w + 2)) }
  let s := s.put MILLRACE_B (MILLRACE.GOV_P_EST.at d 4) (min w 65535)
  s.put MILLRACE_B (MILLRACE.GOV_FLOOR.at d 4) (min fl 65535)

/-! ### Descriptor writes (R397) -/

/-- A CTRL word of slot i with a field out of range: RATE, SP_SRC, PARENT the slot itself. -/
def badCtrl (i v : Nat) : Bool := decide (4 < v / 256 % 8) || decide (1 < v / 2 ^ 19 % 4) || decide (v / 2 ^ 21 = i)

/-- A SENSE word of slot i with a field out of range: INT, a POINT or ENGINE not allowed under R388. -/
def badSense (i v : Nat) : Bool :=
  decide (v / 2 ^ 12 % 65536 < 20) || !(decide (v % 1024 < 541) || (decide (v % 1024 = 1023) && decide (1628 ≤ i)))
    || (decide (i < 1628) && decide (v / 1024 % 2 ≠ slotEngine i))

/-- An OUT_LIM word with OUT_MIN above OUT_MAX. -/
def badLim (v : Nat) : Bool := decide (v / 2 ^ 16 % 65536 < v % 65536)

/-- The range check of one word: only the fields of the word written count (log entry 46). -/
def descRange (i off v : Nat) : Bool :=
  if off = 0 then badCtrl i v else if off = 4 then badSense i v else if off = 0x0C then badLim v else false

/-- Fields that a running slot keeps: LAW, TRIG_EN, RATE, TRIG, SP_SRC, PARENT and all of SENSE. -/
def busyMask (off : Nat) : Nat :=
  if off = 0 then 0x2 + 0x80 + 0x700 + 0xF800 + 0x180000 + 0xFFE00000 else if off = 4 then 0xFFFFFFFF else 0

/-- A write of a word of the descriptor table at byte offset o. -/
def State.descWrite (s : State) (path o : Nat) (v : Word) : State :=
  let s := s.descUse o
  let i := o / 64
  let off := o % 64
  let v := descBits o v
  let a := DESC_B + o
  let old := s.rd a
  let m := BitVec.ofNat 32 (busyMask off)
  if s.dRun i && !(decide (off = 0) && !v.getLsbD 0) && decide ((old &&& m) ≠ (v &&& m)) then
    s.recErr MILLRACE_B 16 0x8B01 path o
  else if descRange i off v.toNat then s.recErr MILLRACE_B 17 0x8B02 path o
  else
    let s := s.wr a v
    let s := if off = 0 ∧ v.getLsbD 6 = false then s.modSlot i fun x => { x with trim := 0 } else s
    let s := if off = 0 ∧ v.getLsbD 0 = true ∧ old.getLsbD 0 = false
      then s.modSlot i fun x => { x with refW := s.filtW i, refE := s.filtE i } else s
    s.slotRefresh i

/-- START_POINT_REFRESH (R406): start points of the rings that an armed switch affects, for the staged lines. -/
def State.startPoints (s : State) : State :=
  (affectedRings s.plan s.stagedPlan).foldl (fun s i => match s.stagedPlan.ringLine i with
    | some k => { s with mill.starts := zset s.mill.starts i (some (s.predFor i k)) }
    | none => s) { s with mill.starts := [] }

/-! ### The page's views (R423) -/

/-- STAT: slots running and LOCKED. -/
def State.millStat (s : State) : Nat :=
  let l := (s.mill.slots.filter fun x => decide (x.1 < 2048)).map Prod.snd
  (l.filter fun x => decide (x.st ≠ slIDLE)).length + (l.filter fun x => decide (x.st = slLOCKED)).length * 2 ^ 16

/-- The registers that SLOT_SEL selects. -/
def State.slotView (s : State) (i off : Nat) : Nat :=
  let x := s.slot i
  if off = 0x98 then x.st + x.flags * 2 ^ 8 + x.frames % 2 ^ 16 * 2 ^ 16
  else if off = 0x9C then x.code % 2 ^ 16 + (if i < 648 then twos 16 x.pred * 2 ^ 16 else 0)
  else if off = 0xA0 then twos 18 x.e
  else if off = 0xA4 then twos 24 x.y
  else if off = 0xA8 then twos 24 x.ff
  else if off = 0xAC then twos 18 x.trim
  else if off = 0xB0 then x.dev % 2 ^ 16
  else if off = 0xB4 then x.misses + x.acqFails * 2 ^ 16
  else 0

end Sys2Proof.Machine
end

