-- ==== Sys2Proof/Machine/Xrds.lean ====
section
/-!
DEFINITION. Crossroads commands (R355-R361), controller claims (R439-R444) and the timed plan switch (R425-R438).
-/
namespace Sys2Proof.Machine

/-! ### Trigger units' ARM bits (R289, R296) -/

/-- The registers of trigger unit u. -/
def trigF (f : Fld) (u : Nat) : Fld := f.at u 0x20
def State.trigArmed (s : State) (u : Nat) : Bool := s.bit TRIGGERS_B (trigF TRIGGERS.CTRL_ARM u)

/-- Set a unit's ARM bit, with ARMED.MASK. -/
def State.setArm (s : State) (u v : Nat) : State :=
  (s.put TRIGGERS_B (trigF TRIGGERS.CTRL_ARM u) v).put TRIGGERS_B (bitF 0x44 u) v

/-! ### Claims -/

def State.claim (s : State) : Nat := s.get64 CLAIM_B CLAIM.CURRENT_LO

/-- A claimed command is refused (R441). -/
def State.staleClaim (s : State) (path c cmd present : Nat) : State :=
  let s := (s.inc CLAIM_B CLAIM.STALE_COUNT).put64 CLAIM_B CLAIM.LAST_STALE_LO c
  (s.wr (CLAIM_B + 0x6C) (BitVec.ofNat 32 (path + cmd * 2 ^ 8 + present * 2 ^ 13))).raise CLAIM_B 1

/-- The current claim rises (R441). -/
def State.raiseClaim (s : State) (path c : Nat) : State :=
  let s := (s.put64 CLAIM_B CLAIM.CURRENT_LO c).inc CLAIM_B CLAIM.RAISES_COUNT
  let s := (s.put64 CLAIM_B CLAIM.RAISED_T_LO s.nowNs).put CLAIM_B CLAIM.STAT_LAST_PATH path
  s.raise CLAIM_B 0

/-- A write of CLAIM.CTRL (R440, R441, R444, R447). -/
def State.present (s : State) (path : Nat) (v : Word) : State :=
  if v.getLsbD 0 = false then s else
  let c := s.pget64 path CLAIM_B CLAIM.PRESENT_LO
  if s.bit CLAIM_B CLAIM.STAT_LOST then
    let up := decide (s.claim < c)
    let s := (if up then s.raiseClaim path c else s.put64 CLAIM_B CLAIM.CURRENT_LO c).put CLAIM_B CLAIM.STAT_LOST 0
    s.pwr path (CLAIM_B + 0x54) (if up then 0x100 else 0)
  else if c < s.claim then
    ((s.staleClaim path c 0 1).pwr path (CLAIM_B + 0x54) 1).recErrX CLAIM_B 16 0x8C01 path
  else if s.claim < c then (s.raiseClaim path c).pwr path (CLAIM_B + 0x54) 0x100
  else s.pwr path (CLAIM_B + 0x54) 0

/-! ### STAGED (R355, R356) -/

def State.stageSt (s : State) : Nat := s.get XRDS_B XRDS.STAGE_STAT_STATE
def sgEMPTY : Nat := 0
def sgWRITING : Nat := 1
def sgCHECKING : Nat := 2
def sgCHECKED : Nat := 3
def sgREJECTED : Nat := 4
def sgARMED : Nat := 5

/-- The FREE_STG registers hold masks only while STAGED is CHECKED (R364). -/
def State.clearFree (s : State) : State := (List.range 36).foldl (fun s p => s.wr (XRDS_B + 0x4000 + 0x44 + 8 * p) 0) s
def State.fillFree (s : State) : State :=
  (List.range 36).foldl (fun s p => s.wr (XRDS_B + 0x4000 + 0x44 + 8 * p) (BitVec.ofNat 32 (s.stagedPlan.free p))) s

/-- STAGED takes a state; outside CHECKED it has no masks, and outside CHECKED and ARMED no epoch. -/
def State.setStage (s : State) (v : Nat) : State :=
  let s := s.put XRDS_B XRDS.STAGE_STAT_STATE v
  if v = sgCHECKED then s.fillFree
  else if v = sgARMED then s.clearFree else (s.put XRDS_B XRDS.STAGED_EPOCH_VALUE 0).clearFree

/-- A staging access is refused (R356, R379): recorded, with no command outcome. -/
def State.stageRefused (s : State) (path code : Nat) : State :=
  (s.recErrX XRDS_B 16 (0x8A00 + code) path).raiseAlways XRDS_B 9

def State.stageOwner (s : State) (path : Nat) : Bool := decide (s.get XRDS_B XRDS.STAGE_STAT_OWNER = path) && decide (path < 7)

/-- A write of STAGE_ADDR. -/
def State.stageAddr (s : State) (path : Nat) (v : Word) : State :=
  if s.stageOwner path then s.wr (XRDS_B + 0x50) (BitVec.ofNat 32 (v.toNat % 2 ^ 17 / 4 * 4)) else s.stageRefused path 6

/-- Advance the staging offset. -/
def State.stageNext (s : State) : State :=
  s.put XRDS_B XRDS.STAGE_ADDR_OFFSET (s.get XRDS_B XRDS.STAGE_ADDR_OFFSET + 4)

/-- A write of STAGE_DATA. -/
def State.stageData (s : State) (path : Nat) (v : Word) : State :=
  if s.stageOwner path = false then s.stageRefused path 6
  else if s.stageSt = sgCHECKING ∨ s.stageSt = sgARMED then s.stageRefused path 5
  else
    let o := s.get XRDS_B XRDS.STAGE_ADDR_OFFSET
    let b := (leBytes 4 v.toNat).mapIdx fun i x => (o + i, x)
    let m := b.foldl (fun (m : SMap Byte) (x : Nat × Byte) => zset m x.1 x.2) s.xrds.staged
    let s := { s with xrds.staged := m, xrds.stagedEnd := max s.xrds.stagedEnd (o + 4) }
    (s.setStage sgWRITING).stageNext

/-- A read of STAGE_DATA by the owner advances too; any other path reads 0 (R356). -/
def State.stageRead (s : State) (path : Nat) : Nat × State :=
  if s.stageOwner path then (s.stagedPlan.num (s.get XRDS_B XRDS.STAGE_ADDR_OFFSET) 4, s.stageNext) else (0, s)

/-- A read of ACTIVE_DATA (R378): four bytes at OFFSET; for those past the bank's end no rule states a value, and they are free (log
entry 337). -/
def State.activeRead (s : State) (path : Nat) : Nat × State :=
  let o := s.pget path XRDS_B XRDS.ACTIVE_ADDR_OFFSET
  let n := min 4 (131072 - o)
  let (x, s) := if n = 4 then (0, s) else s.freeVal
  (Bank.num s.xrds.active o n + x * 256 ^ n % 2 ^ 32, s.pput path XRDS_B XRDS.ACTIVE_ADDR_OFFSET (o + 4))

/-! ### Commands (R357, R358, R360, R379) -/

/-- CHECK begins, with the ports' roles as they stand. -/
def State.check (s : State) : Nat × State :=
  if s.stageSt = sgCHECKING ∨ s.stageSt = sgARMED then (5, s)
  else if s.stageSt = sgEMPTY then (9, s)
  else (0, { s.setStage sgCHECKING with xrds.roles := (List.range 36).map fun p => s.get (PORT_B p) PORT.CFG_ROLE })

/-- ARM: at least 5 ms ahead. -/
def State.armPlan (s : State) : Nat × State :=
  let t := s.get64 XRDS_B XRDS.PLAN_T_LO
  let d := (t + 2 ^ 64 - s.nowNs) % 2 ^ 64
  if s.stageSt ≠ sgCHECKED then (3, s)
  else if d < 5000000 ∨ 2 ^ 63 ≤ d then (4, s)
  else
    let s := (s.put64 TRIGGERS_B (trigF TRIGGERS.TIME_LO 31) t).put TRIGGERS_B (trigF TRIGGERS.PERIOD_NS 31) 0
    let s := ((s.setArm 31 1).setStage sgARMED).raise XRDS_B 2
    let s := { s with xrds.before := s.get CLAIM_B CLAIM.SW_STAT_STATE, mill.starts := [] }
    let s := (s.put CLAIM_B CLAIM.SW_STAT_STATE 1).put CLAIM_B CLAIM.STAT_ARMED 1
    (0, s.put64 CLAIM_B CLAIM.SW_CLAIM_LO s.claim)

/-- The instant of the armed switch. -/
def State.armT (s : State) : Nat := s.get64 TRIGGERS_B (trigF TRIGGERS.TIME_LO 31)

/-- The relaxation of R429 ends with the drain that began it. -/
def State.litEnd (s : State) : State := if s.xrds.litArmed then { s with xrds.lit := [], xrds.litArmed := false } else s

/-- CANCEL: unit 31 is disarmed and a drain in progress ends (R360, R426); STAGED is CHECKED again, which is CHECK_DONE (R382). In
the tick of its instant unit 31 fires, and the CANCEL comes too late (R291). -/
def State.cancelPlan (s : State) : Nat × State :=
  if s.stageSt = sgARMED ∧ s.trigArmed 31 = true ∧ s.reached s.armT = false then
    let s := { ((s.setArm 31 0).setStage sgCHECKED).litEnd with mill.starts := [] }
    let s := s.raise XRDS_B 0
    (0, (s.put CLAIM_B CLAIM.SW_STAT_STATE s.xrds.before).put CLAIM_B CLAIM.STAT_ARMED 0)
  else (7, s)

/-- CLEAR and COPY_ACTIVE make the writer the staging owner (R356). -/
def State.clearPlan (s : State) (path : Nat) : Nat × State :=
  if s.stageSt = sgCHECKING ∨ s.stageSt = sgARMED then (5, s)
  else (0, { (s.setStage sgEMPTY).put XRDS_B XRDS.STAGE_STAT_OWNER path with xrds.staged := [], xrds.stagedEnd := 0 })
def State.copyPlan (s : State) (path : Nat) : Nat × State :=
  if s.stageSt = sgCHECKING ∨ s.stageSt = sgARMED then (5, s)
  else (0, { (s.setStage sgWRITING).put XRDS_B XRDS.STAGE_STAT_OWNER path with xrds.staged := s.xrds.active, xrds.stagedEnd := 131072 })

/-- The single bit of a command. -/
def State.planCmd (s : State) (path bits : Nat) : Nat × State :=
  match bits with
  | 1 => s.check
  | 2 => s.armPlan
  | 4 => s.cancelPlan
  | 8 => s.clearPlan path
  | 16 => s.copyPlan path
  | _ => (2, s)

/-- The outcome of a command: CMD_STAT of the path, and of a refusal the event and the error (R379). -/
def State.cmdDone (s : State) (path bits code : Nat) : State :=
  let s := s.pwr path (XRDS_B + 0x4C) (BitVec.ofNat 32 (code + bits * 2 ^ 8))
  if code = 0 then s else (s.recErrX XRDS_B 16 (0x8A00 + code) path).raiseAlways XRDS_B 9

/-- A write of PLAN_CTRL (R357, R377, R441, R444): the claim first, then DISABLED, then BAD_CMD (log entry 47). -/
def State.planCtrl (s : State) (path : Nat) (v : Word) : State :=
  let bits := v.toNat % 32
  let c := s.pget64 path XRDS_B XRDS.CMD_CLAIM_LO
  if s.bit CLAIM_B CLAIM.STAT_LOST ∨ c < s.claim then (s.staleClaim path c bits 0).cmdDone path bits 1
  else
    let s := if s.claim < c then s.raiseClaim path c else s
    if s.on XRDS_B = false then s.cmdDone path bits 8
    else
      let (code, s) := s.planCmd path bits
      s.cmdDone path bits code

/-- The checker has finished after us microseconds (R361). The line of a LAUNCH failure is not one line: a free value. -/
def State.checkDone (s : State) (us : Nat) : State :=
  if s.stageSt ≠ sgCHECKING then s else
  let s := s.put XRDS_B XRDS.CHK_TIME_US us
  match checkPlan s.stagedPlan s.xrds.stagedEnd (s.get XRDS_B XRDS.ACTIVE_EPOCH_VALUE) s.xrds.roles with
  | none =>
    let s := (s.wr (XRDS_B + 0x74) 0).setStage sgCHECKED
    (s.put XRDS_B XRDS.STAGED_EPOCH_VALUE s.stagedPlan.epoch).raise XRDS_B 0
  | some f =>
    let (k, s) := if f.code = 13 then s.freeVal else (f.line, s)
    ((s.wr (XRDS_B + 0x74) (BitVec.ofNat 32 { f with line := k % 16 }.word)).setStage sgREJECTED).raise XRDS_B 1

/-! ### The switch (R358, R425-R434) -/

def State.swState (s : State) : Nat := s.get CLAIM_B CLAIM.SW_STAT_STATE
def State.swT (s : State) : Nat := s.get64 CLAIM_B CLAIM.SW_T_LO
/-- Are the message engines running (R434)? -/
def State.msgRuns (s : State) : Bool := s.on MSG_B && (List.range 4).any fun d => s.diePresent d && s.on (MENG_B d)

/-- Ports whose receive side has light (R429). -/
def State.litPorts (s : State) : List Nat :=
  (List.range 36).filter fun p => s.bit (PORT_B p) PORT.STAT_RX_LIGHT && !s.bit (PORT_B p) PORT.STAT_OPEN_FIBRE

/-- The drain starts at T - 200 µs (R426, R429, R434). -/
def State.drainStart (s : State) : State :=
  if s.stageSt = sgARMED ∧ s.xrds.litArmed = false ∧ s.reached ((s.armT + 2 ^ 64 - 200000) % 2 ^ 64) = true then
    let s := { s with xrds.lit := s.litPorts, xrds.litArmed := true }
    if s.msgRuns then (s.put CLAIM_B CLAIM.SW_STAT_STATE 2).raise CLAIM_B 3 else s
  else s

/-- A backward step may end a drain (R426). -/
def State.drainCheck (s : State) : State :=
  if s.stageSt = sgARMED ∧ s.reached ((s.armT + 2 ^ 64 - 200000) % 2 ^ 64) = false then
    (if s.swState = 2 then s.put CLAIM_B CLAIM.SW_STAT_STATE 1 else s).litEnd
  else s

/-- Has a drain stopped launches on transmit ring i? -/
def State.draining (s : State) (i : Nat) : Bool := decide (s.swState = 2) && ringAffected s.plan s.stagedPlan i

/-! ### Lane calibrations that break off (R542) -/

/-- Must a calibration be abandoned: lane S of its path or another data lane has left service, or a drain affects it? -/
def State.calBroken (s : State) (c : LaneCal) : Bool :=
  let p := ringPort c.ring
  let up (l : Nat) : Bool := serving (if c.lead then s.txSt p l else s.rxSt p l)
  (s.ringLine c.ring).isNone || (decide (c.lane ≠ 8) && !up 8) || c.up.any (fun l => !up l) || s.draining c.ring

/-- Abandon every calibration that has broken off. -/
def State.calWatch (s : State) : State := (s.cal.lanes.filter s.calBroken).foldl State.calAbandon s

/-- Abandon the calibration of a ring, if there is one. -/
def State.calDrop (s : State) (i : Nat) : State :=
  ((s.cal.lanes.find? fun c => decide (c.ring = i)).map s.calAbandon).getD s

/-- STAGED becomes ACTIVE (R358). -/
def State.planSwap (s : State) : State :=
  let e := s.stagedPlan.epoch
  let s := { s with xrds.active := s.xrds.staged, xrds.staged := [], xrds.stagedEnd := 0 }
  let s := (s.setStage sgEMPTY).put XRDS_B XRDS.STAGE_STAT_OWNER 7
  ((s.put XRDS_B XRDS.ACTIVE_EPOCH_VALUE e).inc XRDS_B XRDS.SWITCHES_COUNT).raiseAlways XRDS_B 3

/-- The switch registers and the record (R427 step 9). -/
def State.switchRegs (s : State) (old t : Nat) (aff : List Nat) : State :=
  let c := s.get64 CLAIM_B CLAIM.SW_CLAIM_LO
  let new := s.get XRDS_B XRDS.ACTIVE_EPOCH_VALUE
  let s := (s.put CLAIM_B CLAIM.SW_OLD_EPOCH_VALUE old).put CLAIM_B CLAIM.SW_NEW_EPOCH_VALUE new
  let s := (s.put64 CLAIM_B CLAIM.SW_T_LO t).wr (CLAIM_B + 0x80) (BitVec.ofNat 32 (3 + aff.length * 16))
  let s := ((s.wr (CLAIM_B + 0x9C) 0).wr (CLAIM_B + 0xA0) 0).put CLAIM_B CLAIM.SW_LAST_UP_US 0
  (s.put CLAIM_B CLAIM.STAT_ARMED 0).record XRDS_B 0x0040 [old, new, aff.length, c % 2 ^ 32, c / 2 ^ 32]

/-- Return the identity record of a receive lane to its reset values (R380). -/
def State.idReset (s : State) (i : Nat) : State :=
  let s := (List.range 8).foldl (fun s k => s.wr (idBase i + 0x40 + 4 * k) (regReset (idBase i + 0x40 + 4 * k))) s
  { s with opt.seen := zset s.opt.seen i 0 }

/-- An affected ring at T (R406, R427 steps 2-5): its lane starts afresh, from the start point computed while armed. -/
def State.retune (s : State) (i : Nat) : State :=
  let p := zget s.mill.starts i
  let s := ((s.calDrop i).failForget fun k => decide (k = i)).laneApply i
  let s := s.modSlot i fun x => { x with trim := 0 }
  let s := if 324 ≤ i then s.idReset (i - 324) else s
  match p with
  | some v => if (s.slot i).st = slSETTLE then s.settleFrom i v else s
  | none => s

/-- Ports of a list of rings. -/
def portsOf (l : List Nat) : List Nat := (l.map ringPort).eraseDups

/-- The affected receive rings that the reference path lights: those with a role whose engine's comb has light (R428). -/
def State.refRings (s : State) (aff : List Nat) : List Nat :=
  aff.filter fun i => decide (324 ≤ i) && (s.ringLine i).isSome && s.combGood (portEngine (ringPort i))

/-- The optics' part of the switch (R427 steps 2-5, R428): affected rings, their reference light, masks. -/
def State.switchOptics (s : State) (aff ret : List Nat) : State :=
  let s : State := aff.foldl State.retune s
  let s := { s with xrds.refLit := s.refRings aff }
  let ps := ((s.plan.paths.filter fun e => ret.contains e.id).map PathEnt.port ++ portsOf aff).eraseDups
  let s := ps.foldl (fun s p =>
    let s := s.put (PORT_B p) PORT.CFG_LOOPBACK (if s.on (PORT_B p) && decide (s.plan.mode p = mdLOOPBACK) then 1 else 0)
    (s.put XRDS_B (maskF 0xA0 p) 0).slotsRefresh (portSlots p)) s
  let s := (List.range 36).foldl State.extraUpdate s
  -- the plan has been applied again (R330)
  let l := (List.range 36).filter fun p => zget s.opt.loopTrip p
  let s : State := l.foldl State.launchAll { s with opt.loopTrip := [] }
  s.discUpdate

/-- Unit 31 fires: R427 as far as step 5. -/
def State.switchFire (s : State) : State :=
  let aff := affectedRings s.plan s.stagedPlan
  let ret := retunedPaths s.plan s.stagedPlan aff
  let s := s.planSwap
  let s := { s with
    xrds.affected := aff, xrds.retuned := ret, xrds.toRelease := true, xrds.toReport := true, xrds.litArmed := false
    xrds.notes := (s.plan.paths.filter fun (e : PathEnt) => !e.inbound).map PathEnt.id
    xrds.noteClaim := s.get64 CLAIM_B CLAIM.SW_CLAIM_LO }
  { s.switchOptics aff ret with mill.starts := [] }

/-- Lane-S substitutions of the retuned paths end (R427 step 8, R432): those whose lanes the plan before gave lane S. -/
def State.sparesEnd (s : State) (was : Bank) : State :=
  (List.range 36).foldl (fun s p =>
    let l := s.get (PORT_B p) PORT.SPARE_FOR
    if was.paths.any fun e => !e.inbound && decide (e.port = p) && e.has 8 && e.has l && s.xrds.retuned.contains e.id
    then s.spareEnd p else s) s

/-- T + 500 µs: R329 applies in full again (R429). -/
def State.guardEnd (s : State) : State :=
  if s.xrds.litArmed = false ∧ s.reached ((s.swT + 500000) % 2 ^ 64) = true then { s with xrds.lit := [] } else s

/-- The release instant (R430): affected lanes that have passed enter service, and lane S stands in for those that have
not. A transmit lane whose RX_OK has come earlier enters now. -/
def State.releaseLanes (s : State) : State :=
  if s.xrds.toRelease = true ∧ s.reached ((s.swT + 900000) % 2 ^ 64) = true then
    let s := { s with xrds.toRelease := false }
    let s := (s.xrds.affected.filter fun i => decide (324 ≤ i)).foldl (fun s i => s.tryRxService (ringPort i) (ringLane i)) s
    let tx := s.xrds.affected.filter fun i => decide (i < 324)
    let s : State := tx.foldl (fun s i => s.tryTxService (ringPort i) (ringLane i)) s
    tx.foldl (fun s i =>
      if s.plan.role i = 1 ∧ serving (s.txSt (ringPort i) (ringLane i)) = false then
        { s with opt.away := zset s.opt.away i true }.spareTake (ringPort i) (ringLane i) else s) s
  else s

/-- The affected rings with the role ADD or DROP that are not up (R433). -/
def State.notUp (s : State) : List Nat :=
  s.xrds.affected.filter fun i => decide (s.plan.role i = 1)
    && !serving (if i < 324 then s.txSt (ringPort i) (ringLane i) else s.rxSt (ringPort i) (ringLane i))

/-- The switch report at T + 1.2 ms (R433), when the reference path goes from every lane (R428). With the next switch already armed,
a CANCEL of that one returns STATE to the report's (log entry 340). -/
def State.switchReport (s : State) : State :=
  if s.xrds.toReport = true ∧ s.reached ((s.swT + 1200000) % 2 ^ 64) = true then
    let bad := s.notUp
    let st := if bad.isEmpty then 4 else 5
    let s := { s with xrds.toReport := false, xrds.refLit := [], xrds.before := if s.xrds.before = 3 then st else s.xrds.before }
    let s := (s.put CLAIM_B CLAIM.SW_STAT_NOT_UP bad.length).put CLAIM_B CLAIM.SW_STAT_STATE st
    let s := (portsOf bad).foldl (fun s p => s.put CLAIM_B (maskF 0x9C p) 1) s
    let s := s.raise CLAIM_B 4
    let s := if bad.isEmpty then s else s.raise CLAIM_B 5
    s.record CLAIM_B 0x0041 [(s.rd (CLAIM_B + 0x80)).toNat, (s.rd (CLAIM_B + 0x9C)).toNat, (s.rd (CLAIM_B + 0xA0)).toNat,
      (s.rd (CLAIM_B + 0xA4)).toNat]
  else s

/-- Send the SWITCH_NOTEs of paths that have a transmit lane in service (R320, R437, R438): port, path, incarnation epoch, old
and new plan, T, coordinate, low half of the claim at the ARM. -/
def State.sendNotes (s : State) : State :=
  s.xrds.notes.foldl (fun s id => match s.plan.path false id with
    | none => { s with xrds.notes := s.xrds.notes.filter (· ≠ id) }
    | some e =>
      if (s.lanesUp e).isEmpty then s
      else
        { s with xrds.notes := s.xrds.notes.filter (· ≠ id) }.sendPath id .switchNote
          [e.port, id, s.get BACKUP_B BACKUP.EPOCH_VALUE, s.get CLAIM_B CLAIM.SW_OLD_EPOCH_VALUE, s.get CLAIM_B CLAIM.SW_NEW_EPOCH_VALUE,
            s.swT, s.plan.coord 0, s.plan.coord 1, s.plan.coord 2, s.xrds.noteClaim % 2 ^ 32]) s

/-- A SWITCH_NOTE arrives on a port (R438): its T is compared with this module's. -/
def State.noteIn (s : State) (p t new x y z : Nat) : State :=
  if t = s.swT then s else
  let s := ((s.inc CLAIM_B CLAIM.SW_SKEW_COUNT).put CLAIM_B CLAIM.SW_SKEW_PORT p).put CLAIM_B CLAIM.SW_SKEW_VALID 1
  let s := ((s.put CLAIM_B CLAIM.SW_SKEW_PEER_X x).put CLAIM_B CLAIM.SW_SKEW_PEER_Y y).put CLAIM_B CLAIM.SW_SKEW_PEER_Z z
  (s.put CLAIM_B CLAIM.SW_SKEW_EPOCH_VALUE new).raise CLAIM_B 6

/-! ### Steering outputs (R325, R365-R367) -/

/-- Switch a steered lane's tree to an output: counted, with a burst preamble due (R325). The visit it leaves, and the one it
begins, count as now (R366). -/
def State.steerTo (s : State) (p l o : Nat) : State :=
  let was := outKey p l (s.txOut p l)
  { (s.setOut p l o).inc XRDS_B XRDS.STEER_CNT_COUNT with
    opt.visit := zset s.opt.visit (9 * p + l) 0
    opt.visitAt := zset (zset s.opt.visitAt was (some s.time.up)) (outKey p l o) (some s.time.up) }

/-- Has no beacon left on this output of a lane for 10 ms (R366)? -/
def State.beaconDue (s : State) (p l o : Nat) : Bool :=
  (zget s.opt.beaconAt (outKey p l o)).all fun t => decide (t + 20000000 ≤ s.time.up)

/-- A visit deadline (R366): an output that names a path, on a launched steered lane. A visit to another output carries the
preamble and four codewords of idle and control words; a beacon goes when one is due. -/
def State.steerVisit (s : State) (p l o : Nat) : State :=
  let i := txRing p l
  if s.portOn p ∧ s.plan.role i = 1 ∧ s.plan.mode p ≠ mdDISCOVER ∧ s.plan.steered i = true ∧ s.plan.steerPath (s.plan.laneSteer i) o ≠ 0xFFFF
      ∧ (s.txSt p l = lnIN_SERVICE ∨ s.txSt p l = lnCHECKING) ∧ s.canLaunch (treePort p o) = true
      ∧ zget s.opt.tripped (9 * p + l) = 0 then
    let s := if s.txOut p l = o then s else (s.steerTo p l o).sendIdle p l 4
    if s.beaconDue p l o then s.sendBeacon p l else s
  else s

/-- A gap in bursts has passed 1 ms (R367): the lane goes to RELOCK, with cause LOCK (log entry 48). -/
def State.burstGap (s : State) (p l : Nat) : State :=
  let i := rxRing p l
  match s.plan.path true (s.plan.lanePath i) with
  | some e => if e.burst ∧ e.port = p ∧ (serving (s.rxSt p l) = true ∨ s.rxSt p l = lnCHECKING) then
      (let s := s.rxLeave p l lnRELOCK fcLOCK
       if s.slotRuns i then s.slotSettle i else s) else s
  | none => s

end Sys2Proof.Machine
end

