-- ==== Sys2Proof/Machine/MsgQueue.lean ====
section
/-!
DEFINITION. Queues (R234-R240), the peer table (R253), failure records (R244) and the session walker (R246-R251).
-/
namespace Sys2Proof.Machine

/-! ### Engine counters and FIFOs (R267-R269) -/

/-- Counter i of die d's message engine. -/
def mcF (i : Nat) : Fld := MENG.CNT_COUNT.at i 4
def mcPOST_OUT : Nat := 0
def mcPOST_IN : Nat := 1
def mcFRAMES_OUT : Nat := 2
def mcFRAMES_IN : Nat := 3
def mcNACK_OUT : Nat := 4
def mcNACK_IN : Nat := 5
def mcRETRANSMIT : Nat := 6
def mcRX_DISCARD : Nat := 7
def mcWALK_HIT : Nat := 8
def mcWALK_MISS : Nat := 9
def mcWALK_FAIL : Nat := 10

/-- Count one on engine d; the engine of an absent die counts nothing. -/
def State.mcount (s : State) (d i : Nat) : State := if s.diePresent d then s.inc (MENG_B d) (mcF i) else s

/-- Push a failure record into die d's FAIL FIFO (R244, R268). -/
def State.pushFail (s : State) (d : Nat) (r : FailRec) : State :=
  let q := zget s.msg.fails d
  if q.length < 64 then { s with msg.fails := zset s.msg.fails d (q ++ [r]) }.raise (MENG_B d) 1
  else { s with msg.failLost := zset s.msg.failLost d true }

/-- Push a queue number into die d's arrival FIFO (R239). -/
def State.pushArrival (s : State) (d q : Nat) : State :=
  let l := zget s.msg.arrivals d
  if l.length < 64 then { s with msg.arrivals := zset s.msg.arrivals d (l ++ [q]) }.raise (MENG_B d) 0
  else { s with msg.arrLost := zset s.msg.arrLost d true }

/-- What a read of ARRIVAL returns, and the state after it (R268). -/
def State.arrivalRead (s : State) (d : Nat) : Nat × State :=
  let l := zget s.msg.arrivals d
  let v := (if zget s.msg.arrLost d then 2 ^ 30 else 0) + (match l with
    | q :: _ => q % 2 ^ 18 + 2 ^ 31
    | [] => 0)
  (v, { s with msg.arrivals := zset s.msg.arrivals d l.tail, msg.arrLost := zset s.msg.arrLost d false })

/-- What a read of FAIL_A returns; the record's argument goes to FAIL_B (R268). -/
def State.failRead (s : State) (d : Nat) : Nat × State :=
  let l := zget s.msg.fails d
  let o := if zget s.msg.failLost d then 2 ^ 30 else 0
  let s := { s with msg.fails := zset s.msg.fails d l.tail, msg.failLost := zset s.msg.failLost d false }
  match l with
  | r :: _ => (r.code % 256 + r.kind % 8 * 2 ^ 8 + r.tile % 128 * 2 ^ 16 + o + 2 ^ 31, s.put (MENG_B d) MENG.FAIL_B_ARG r.arg)
  | [] => (o, s)

/-! ### Peers (R253) -/

/-- The module's incarnation epoch. -/
def State.ownEpoch (s : State) : Nat := s.get BACKUP_B BACKUP.EPOCH_VALUE

/-- The epoch that the peer table holds for a slice and coordinate. -/
def State.peerEpoch (s : State) (k : Nat × Nat × Nat × Nat) : Option Nat :=
  (s.msg.peers.find? fun e => e.1 = k).map Prod.snd

/-- Use of an entry: it becomes the most recently used. -/
def State.peerTouch (s : State) (k : Nat × Nat × Nat × Nat) : State :=
  match s.peerEpoch k with
  | some e => { s with msg.peers := (k, e) :: s.msg.peers.filter fun x => decide (x.1 ≠ k) }
  | none => s

/-- An ACK or NACK from a peer writes its entry; a changed epoch is reported. -/
def State.peerSeen (s : State) (k : Nat × Nat × Nat × Nat) (epoch : Nat) : State :=
  let old := s.peerEpoch k
  let s := { s with msg.peers := ((k, epoch) :: s.msg.peers.filter fun x => decide (x.1 ≠ k)).take 4096 }
  if old.isSome ∧ old ≠ some epoch then
    let b := MSG_B
    let s := (s.put b MSG.LAST_PEER_X k.2.1).put b MSG.LAST_PEER_Y k.2.2.1
    let s := ((s.put b MSG.LAST_PEER_Z k.2.2.2).put b MSG.LAST_PEER_VALID 1).put b MSG.LAST_PEER_EPOCH_VALUE epoch
    s.raise b 0
  else s

/-! ### Reads the engines act on -/

/-- A little-endian number read from module memory; poisoned data have no stated value, a free value. -/
def State.readCtl (s : State) (a n : Nat) : Nat × State :=
  let (bs, s) := s.readRange a n
  if bs.any Prod.snd then (let (v, s) := s.freeVal; (v % 256 ^ n, s)) else (ofLe (bs.map Prod.fst), s)

/-! ### Queues (R234-R240) -/

/-- Home die of a queue number (R225). -/
def queueDie (q : Nat) : Nat := q / 2 ^ 16 % 4

/-- The descriptor of a VALID queue. -/
def State.queueAt (s : State) (q : Nat) : Option QDesc := zget s.msg.queues q
def State.setQueueAt (s : State) (q : Nat) (d : Option QDesc) : State := { s with msg.queues := zset s.msg.queues q d }

def QDesc.entry (d : QDesc) : Nat := if d.big then 256 else 64
def QDesc.cap (d : QDesc) : Nat := 2 ^ d.log2
/-- Occupancy (R262). -/
def QDesc.held (d : QDesc) : Nat := (d.posted + 2 ^ 32 - d.consumed) % 2 ^ 32

/-- The FLAGS byte of R234. -/
def QDesc.flags (d : QDesc) : Nat :=
  1 + (if d.big then 2 else 0) + (if d.irq then 4 else 0) + (if d.broken then 8 else 0) + (if d.consErr then 16 else 0)

/-- The engine reads queue q's consumer block (R238). -/
def State.readConsumer (s : State) (q : Nat) : State :=
  match s.queueAt q with
  | none => s
  | some d =>
    let (c, s) := s.readCtl (d.index + 64) 4
    if (c + 2 ^ 32 - d.consumed) % 2 ^ 32 ≤ d.held then s.setQueueAt q (some { d with consumed := c })
    else (s.setQueueAt q (some { d with consErr := true })).raise (MENG_B (queueDie q)) 2

/-- A refusal with QUEUE_FULL (R236, R269). -/
def State.queueFull (s : State) (q : Nat) : State :=
  match s.queueAt q with
  | none => s
  | some d => (s.setQueueAt q (some { d with fullNacks := min (d.fullNacks + 1) (2 ^ 32 - 1) })).raise (MENG_B (queueDie q)) 3

/-- The engine uses queue q's descriptor: an uncorrectable error in it makes the queue BROKEN and is recorded (R28, R269). -/
def State.queueUse (s : State) (q : Nat) : State :=
  match s.queueAt q with
  | some d =>
    if d.upset then
      (s.setQueueAt q (some { d with upset := false, broken := true })).recErr (MENG_B (queueDie q)) 2 0x0020 pathHw q
    else s
  | none => s

/-- Does a stack that holds back requests keep the engine from queue q's memory (R187)? -/
def State.queueHeld (s : State) (q : Nat) : Bool :=
  (s.queueAt q).elim false fun d => s.memHeld d.ring || s.memHeld d.index

/-- The checks of R236 that come before fullness; `size` is the frame's ENTRY_256 where it is checked. 0 passes. -/
def State.queueCheck (s : State) (q slice : Nat) (size : Option Bool) : Nat :=
  match s.queueAt q with
  | none => 0x11
  | some d =>
    if d.epoch ≠ s.ownEpoch then 0x11
    else if d.broken then 0x12
    else if slice ≠ d.slice then 0x14
    else if (size.map fun b => decide (b ≠ d.big)).getD false then 0x13
    else 0

/-- The check of fullness (R236): the consumer block is read again when the cached values show the queue full. -/
def State.queueRoom (s : State) (q : Nat) : Bool × State :=
  match s.queueAt q with
  | none => (false, s)
  | some d =>
    if d.held < d.cap then (true, s)
    else
      let s := s.readConsumer q
      ((s.queueAt q).elim false fun d => decide (d.held < d.cap), s)

/-- The producer block (R235). -/
def QDesc.producer (d : QDesc) : List Byte := leBytes 64 (d.posted % 2 ^ 32 + d.epoch % 2 ^ 32 * 2 ^ 32)

/-- Write an entry whose bytes from 4 on are given, advance POSTED and write the producer block (R236). -/
def State.queueWrite (s : State) (q : Nat) (rest : List Byte) : State :=
  match s.queueAt q with
  | none => s
  | some d =>
    let a := d.ring + d.posted % d.cap * d.entry
    let bs := (leBytes 4 d.posted ++ rest ++ List.replicate d.entry 0).take d.entry
    let d := { d with posted := (d.posted + 1) % 2 ^ 32 }
    ((s.writeRange a (withPoison false bs)).setQueueAt q (some d)).writeRange d.index (withPoison false d.producer)

/-- Post an entry into a queue that has passed its checks (R236, R239). -/
def State.queuePost (s : State) (q : Nat) (rest : List Byte) : State :=
  match s.queueAt q with
  | none => s
  | some d =>
    let s := if d.irq then s.readConsumer q else s
    let empty := (s.queueAt q).elim false fun d => decide (d.held = 0)
    let s := s.queueWrite q rest
    if d.irq && empty then s.pushArrival (queueDie q) q else s

/-- QCMD READ, CREATE and DESTROY on die d's page: QCMD_STAT.ERROR (R240). -/
def State.qcmdError (s : State) (d e : Nat) : State := s.put (MENG_B d) MENG.QCMD_STAT_ERROR e

def State.queueRead (s : State) (d q : Nat) : State :=
  if queueDie q ≠ d then s.qcmdError d 5
  else
  let s := s.queueUse q
  match s.queueAt q with
  | none => s.qcmdError d 2
  | some x =>
    let b := MENG_B d
    let s := ((s.put b MENG.QRD_POSTED_VALUE x.posted).put b MENG.QRD_CONSUMED_VALUE x.consumed).put b MENG.QRD_EPOCH_VALUE x.epoch
    let s := (s.put b MENG.QRD_STAT_FLAGS x.flags).put b MENG.QRD_STAT_LOG2_CAP x.log2
    (s.put b MENG.QRD_STAT_FULL_NACKS (min x.fullNacks 65535)).qcmdError d 0

/-- Is an aligned range of module memory present? -/
def State.goodArea (s : State) (a n : Nat) : Bool := decide (a % 64 = 0) && s.presentRange a n

def State.queueCreate (s : State) (d q : Nat) : State :=
  let b := MENG_B d
  let ring := s.get64 b MENG.QARG_RING_LO_ADDR % 2 ^ 40
  let index := s.get64 b MENG.QARG_INDEX_LO_ADDR % 2 ^ 40
  let l := s.get b MENG.QARG_CFG_LOG2_CAP
  let big := s.bit b MENG.QARG_CFG_ENTRY_256
  if queueDie q ≠ d then s.qcmdError d 5
  else if (s.queueAt q).isSome then s.qcmdError d 1
  else if l < 4 ∨ 24 < l then s.qcmdError d 4
  else if s.goodArea ring (2 ^ l * (if big then 256 else 64)) && s.goodArea index 128 then
    let x : QDesc := ⟨ring, l, big, s.bit b MENG.QARG_CFG_IRQ, false, false, index, s.get b MENG.QARG_CFG_SLICE, s.ownEpoch, 0, 0, 0, false⟩
    ((s.setQueueAt q (some x)).writeRange index (withPoison false (List.replicate 128 0))).qcmdError d 0
  else s.qcmdError d 3

def State.queueDestroy (s : State) (d q : Nat) : State :=
  if queueDie q ≠ d then s.qcmdError d 5
  else if (s.queueAt q).isNone then s.qcmdError d 2
  else (s.setQueueAt q none).qcmdError d 0

/-- Is a block reset of die d's message engine in progress (R31)? -/
def State.engineResets (s : State) (d : Nat) : Bool := s.bit (MENG_B d) hCTRL_BLOCK_RESET

/-- A queue command on die d's page (R240, log entry 297): the queue, and OP. During a block reset it is held back (R31);
while one runs it is ignored; a CREATE whose index area's stack holds back requests runs until the stack takes them (R187). -/
def State.queueCmd (s : State) (d op q : Nat) : State :=
  let b := MENG_B d
  if s.engineResets d then s.offer (.queueCmd d op q)
  else if s.bit b MENG.QCMD_STAT_BUSY then s
  else if op = 1 ∧ s.memHeld (s.get64 b MENG.QARG_INDEX_LO_ADDR % 2 ^ 40) = true then
    (s.put b MENG.QCMD_STAT_BUSY 1).offer (.queueCmd d op q)
  else match op with
  | 0 => s.queueRead d q
  | 1 => s.queueCreate d q
  | 2 => s.queueDestroy d q
  | _ => s

/-! ### The session walker (R246-R251) -/

/-- Address of a session's descriptor (R246). -/
def State.sessionAt (s : State) (sess : Nat) : Nat :=
  s.get64 (MENG_B (sess / 2 ^ 18 % 4)) MENG.SESS_TABLE_LO_ADDR % 2 ^ 40 / 64 * 64 + 64 * (sess % 2 ^ 18)

/-- Set of the walker cache of die d for a session's block (R250). -/
def walkKey (d sess block : Nat) : Nat := d * 1024 + (sess ^^^ block) % 1024

/-- Put a translation into the cache: most recently used first, four ways. -/
def State.walkPut (s : State) (d sess block gen addr : Nat) : State :=
  let k := walkKey d sess block
  let l := (zget s.msg.walk k).filter fun e => !(decide (e.1 = sess) && decide (e.2.1 = block))
  { s with msg.walk := zset s.msg.walk k (((sess, block, gen, addr) :: l).take 4) }

/-- Block address in a list entry (R248). -/
def entryAddr (v : Nat) : Nat := v / 2 ^ 14 % 2 ^ 26 * 2 ^ 14

/-- Find a block's address: from the cache, or from HBM, with its entries below BLOCKS installed (R250). none: the
entry is not VALID. -/
def State.walkFind (s : State) (d sess list gen blocks block : Nat) : Option Nat × State :=
  match (zget s.msg.walk (walkKey d sess block)).find? fun e => e.1 = sess ∧ e.2.1 = block ∧ e.2.2.1 = gen with
  | some e => (some e.2.2.2, (s.walkPut d sess block gen e.2.2.2).mcount d mcWALK_HIT)
  | none =>
    let first := block / 8 * 8
    let (v, s) := (s.mcount d mcWALK_MISS).readCtl (list + 8 * first) 64
    let ent (i : Nat) : Nat := v / 2 ^ (64 * i) % 2 ^ 64
    let s := (List.range 8).foldl (fun s i =>
      if ent i % 2 = 1 ∧ first + i < blocks then s.walkPut d sess (first + i) gen (entryAddr (ent i)) else s) s
    (if ent (block % 8) % 2 = 1 then some (entryAddr (ent (block % 8))) else none, s)

/-- A gather failure: a record, a count and the event (R249). -/
def State.walkFail (s : State) (g sess code : Nat) : State :=
  let d := g / 256
  ((s.pushFail d ⟨code, 2, g % 256, sess⟩).mcount d mcWALK_FAIL).raise (MENG_B d) 5

/-- Write n destination words poisoned; their data are not stated, free values. -/
def State.poisonWords (s : State) (g wa n : Nat) : State :=
  (List.range n).foldl (fun s i =>
    let (v, s) := s.freeVal
    s.writeTW g (wa + i) (v % 2 ^ 256) true) s

/-- Move one 16 KiB block to 512 tile words as PREFETCH moves data (R249); a block that is not present has no stated
data, free values. -/
def State.walkMove (s : State) (g wa a : Nat) : State :=
  if s.presentRange a 16384 then
    (List.range 256).foldl (fun s i =>
      let (ws, s) := s.readPair (a + 64 * i)
      s.writeTWs g (wa + 2 * i) ws) s
  else (List.range 512).foldl (fun s i =>
    let (v, s) := s.freeVal
    s.writeTW g (wa + i) (v % 2 ^ 256) false) s

/-- The GATHERs of die d's tiles that no walker has taken: tile and issue number, in the order of the tiles and of their queues. -/
def State.gathersWaiting (s : State) (d : Nat) : List (Nat × Nat) :=
  (((List.range 128).map (256 * d + ·)).flatMap fun g =>
    ((s.queue g 3).filter fun o => decide (iOp o.word = 0x43)).map fun o => (g, o.seq)).filter fun x => !s.msg.walking.contains x

/-- The GATHERs in progress on die d. -/
def State.walks (s : State) (d : Nat) : List (Nat × Nat) := s.msg.walking.filter fun x => decide (x.1 / 256 = d)

/-- Die d's walker takes what GATHERs it has room for, at most 64 at a time (R251, log entry 298); none while its engine is
quiescing or in a block reset (R31, R270). -/
def State.walkStart (s : State) (d : Nat) : State :=
  if s.bit (MENG_B d) hCTRL_QUIESCE || s.engineResets d then s
  else { s with msg.walking := s.msg.walking ++ (s.gathersWaiting d).take (64 - (s.walks d).length) }

/-- A GATHER has left its tile's queue. -/
def State.walkEnd (s : State) (g seq : Nat) : State :=
  { s with msg.walking := s.msg.walking.filter fun x => decide (x ≠ (g, seq)) }.walkStart (g / 256)

/-- The module addresses that a GATHER reads: the session's descriptor, its list, its blocks. -/
def State.walkReads (s : State) (g : Nat) (o : Op) : List Nat :=
  let sess := bf o.word 83 64
  let at' := s.sessionAt sess
  let v := (s.readCtl at' 12).1
  let list := v % 2 ^ 40 / 64 * 64
  let first := bf o.word 99 84
  at' :: list :: ((List.range (bf o.word 107 100)).filterMap fun i =>
    (s.walkFind (g / 256) sess list (v / 2 ^ 48 % 2 ^ 16) (v / 2 ^ 64 % 2 ^ 32) (first + i)).1)

/-- A whole GATHER (R249). -/
def opGather (g : Nat) (o : Op) (s : State) : State :=
  let w := o.word
  let d := g / 256
  let sess := bf w 83 64
  let first := bf w 99 84
  let n := bf w 107 100
  let dst := (waddr o 50 32).toNat
  let (v, s) := s.readCtl (s.sessionAt sess) 12
  let list := v % 2 ^ 40 / 64 * 64
  let gen := v / 2 ^ 48 % 2 ^ 16
  let blocks := v / 2 ^ 64 % 2 ^ 32
  if v / 2 ^ 40 % 2 = 0 then (s.walkFail g sess 0x30).poisonWords g dst (512 * n)
  else if blocks < first + n then (s.walkFail g sess 0x31).poisonWords g dst (512 * n)
  else (List.range n).foldl (fun s i =>
    let (a, s) := s.walkFind d sess list gen blocks (first + i)
    match a with
    | some a => s.walkMove g (dst + 512 * i) a
    | none => (s.walkFail g sess 0x32).poisonWords g (dst + 512 * i) 512) s

end Sys2Proof.Machine
end

