-- ==== Sys2Proof/Machine/MsgSend.lean ====
section
/-!
DEFINITION. The receiving and the sending side of the message engines (R224-R245, R253-R261): frames, acknowledgements,
credits, streams, retries and failures.
-/
namespace Sys2Proof.Machine

/-! ### Frames and control frames -/

/-- The local path (R224, R228). -/
def localPath : Nat := 0xFFFF

/-- Key of a (light path, VC). -/
def pairKey (path vc : Nat) : Nat := path * 2 + vc

def State.pair (s : State) (path vc : Nat) : Pair := zget s.msg.pairs (pairKey path vc)
def State.setPair (s : State) (path vc : Nat) (p : Pair) : State := { s with msg.pairs := zset s.msg.pairs (pairKey path vc) p }
def State.rpair (s : State) (path vc : Nat) : RPair := zget s.msg.rpairs (pairKey path vc)
def State.setRpair (s : State) (path vc : Nat) (p : RPair) : State := { s with msg.rpairs := zset s.msg.rpairs (pairKey path vc) p }

/-- One flag of R228. -/
def MsgFrame.flag (f : MsgFrame) (i : Nat) : Bool := f.flags.testBit i
def MsgFrame.first (f : MsgFrame) : Bool := f.flag 0
def MsgFrame.last (f : MsgFrame) : Bool := f.flag 1
def MsgFrame.notify (f : MsgFrame) : Bool := f.flag 2
def MsgFrame.own (f : MsgFrame) : Nat := f.dies % 4
def MsgFrame.die (f : MsgFrame) : Nat := f.dies / 4 % 4

/-- The fields of a frame in the order of R228, and its payload. -/
def MsgFrame.nums (f : MsgFrame) : List Nat :=
  [f.typ, f.flags, f.slice, f.srcEpoch, f.dstEpoch, f.sx, f.sy, f.sz, f.dies, f.dx, f.dy, f.dz, f.stream, f.length, f.seq,
    f.frames, f.index, f.target, f.notifyQ, f.poison, f.path] ++ f.payload

/-- Bytes of the payload with the poison of their words. -/
def MsgFrame.bytes (f : MsgFrame) : List (Byte × Bool) :=
  (List.range f.length).map fun i => (BitVec.ofNat 8 (f.payload.getD i 0), f.poison.testBit (i / 32))

/-- Types of control frames (R229). -/
def ctACK : Nat := 0x10
def ctNACK : Nat := 0x11
def ctREQ : Nat := 0x20
def ctRESYNC : Nat := 0x21


/-- Is a lane of an outbound path's set in service (R227)? The local path always is. -/
def State.pathServes (s : State) (path : Nat) : Bool :=
  decide (path = localPath) || (s.plan.path false path).elim false fun e => !(s.lanesUp e).isEmpty

/-- Send a control frame about an inbound path on its return path, if a lane carries it (R229): type, VC, path, SEQ, code,
flags, FREE, with the module's epoch. The local path needs none. -/
def State.sendControl (s : State) (ty vc path seq code flags free : Nat) : State :=
  match s.plan.path true path with
  | some e => if s.pathServes e.ret then s.sendPath e.ret .control [ty, vc, path, s.ownEpoch, seq, code, flags, free] else s
  | none => s

/-! ### Receiving (R230-R233, R236, R243) -/

/-- A buffer of an inbound path frees: its credit waits to be returned, or makes up for an excess (R319, R431). -/
def State.freeBuffer (s : State) (path vc : Nat) : State :=
  if path = localPath then s
  else
    let r := s.rpair path vc
    if r.excess = 0 then s.setRpair path vc { r with pend := r.pend + 1 }
    else
      let s := s.setRpair path vc { r with excess := r.excess - 1 }
      let port := (s.plan.path true path).elim 36 PathEnt.port
      let heirs := sortBy id ((s.plan.paths.filter fun e =>
        e.inbound && decide (e.port = port) && decide (0 < zget s.msg.owed (pairKey e.id vc))).map PathEnt.id)
      match heirs.head? with
      | some h =>
        let k := pairKey h vc
        let x := s.rpair h vc
        { s.setRpair h vc { x with pend := x.pend + 1 } with msg.owed := zset s.msg.owed k (zget s.msg.owed k - 1) }
      | none => s

/-- Repeat the last ACK of a pair, or the HOLD ACK of a held frame (R230, R243). -/
def State.ackAgain (s : State) (path vc : Nat) : State :=
  let r := s.rpair path vc
  match r.held with
  | some f => s.sendControl ctACK vc path ((f.seq + 2 ^ 32 - 1) % 2 ^ 32) 0 1 0
  | none => match r.last with
    | some q => s.sendControl ctACK vc path q 0 0 0
    | none => s

/-- The entry header and payload of a posted entry from byte 4 on (R235). -/
def entryBytes (srcEpoch x y z flags slice stream : Nat) (payload : List Byte) : List Byte :=
  leBytes 4 srcEpoch ++ leBytes 1 x ++ leBytes 1 y ++ leBytes 1 z ++ leBytes 1 flags ++ leBytes 2 (slice % 4096) ++ leBytes 2 stream
    ++ payload

/-- What a POST frame puts into its entry: poisoned words as zero, with the POISONED flag (R233, R235). A word is 32
bytes of the payload (R228). -/
def MsgFrame.entry (f : MsgFrame) : List Byte :=
  let bs := f.bytes
  let p := bs.any Prod.snd
  entryBytes f.srcEpoch f.sx f.sy f.sz (f.own + (if p then 4 else 0)) f.slice 0 (bs.map fun b => if b.2 then 0 else b.1)

/-- The notify entry of a completed stream (R235, R243). -/
def MsgFrame.note (f : MsgFrame) (r : RxRec) : List Byte :=
  entryBytes f.srcEpoch f.sx f.sy f.sz (f.own + 8) f.slice f.stream (leBytes 8 r.target ++ leBytes 4 r.bytes ++ leBytes 2 f.frames)

/-- The key of a receive record (R232, R255). -/
def MsgFrame.rxOf (f : MsgFrame) (r : RxRec) : Bool :=
  decide (r.die = f.die ∧ r.x = f.sx ∧ r.y = f.sy ∧ r.z = f.sz ∧ r.own = f.own ∧ r.stream = f.stream ∧ r.epoch = f.srcEpoch)

def State.rxFind (s : State) (f : MsgFrame) : Option RxRec := s.msg.rx.find? f.rxOf
def State.rxPut (s : State) (f : MsgFrame) (r : RxRec) : State := { s with msg.rx := (s.msg.rx.filter fun x => !f.rxOf x) ++ [r] }
def State.rxDrop (s : State) (f : MsgFrame) : State := { s with msg.rx := s.msg.rx.filter fun x => !f.rxOf x }

/-- Receive records in use on a die (R263). -/
def State.rxOpen (s : State) (d : Nat) : Nat := (s.msg.rx.filter fun r => decide (r.die = d)).length

/-- What becomes of a frame that is processed: accepted, refused with a code, or held for its notify (R230, R243). -/
inductive RxEnd where
  | accepted
  | refused (code : Nat)
  | held
deriving DecidableEq, Repr

/-- Is the message engine of a die at work (R232)? -/
def State.engineRuns (s : State) (d : Nat) : Bool := s.on MSG_B && s.diePresent d && s.on (MENG_B d)

/-- Checks 2 to 4 of R232: 0 passes. -/
def State.rxCheck (s : State) (f : MsgFrame) : Nat :=
  if f.flag 3 && decide (f.dstEpoch ≠ s.ownEpoch) then 0x10
  else if !s.engineRuns f.die then 0x16
  else if (decide (f.typ = 1) || f.first) && s.bit (MENG_B f.die) hCTRL_QUIESCE then 0x02
  else 0

/-- A POST that has passed checks 1 to 4 (R232 check 5, R236). -/
def State.rxPost (s : State) (f : MsgFrame) : RxEnd × State :=
  let q := f.target % 2 ^ 18
  let s := s.queueUse q
  let c := s.queueCheck q f.slice (some (f.flag 5))
  if c ≠ 0 then (.refused c, s)
  else
    let (room, s) := s.queueRoom q
    if room then (.accepted, (s.mcount f.die mcPOST_IN).queuePost q f.entry) else (.refused 1, s.queueFull q)

/-- Checks 4, 6 and 7 of R232 for a stream frame, with the record it meets. -/
def State.rxStreamCheck (s : State) (f : MsgFrame) : Nat × Option RxRec :=
  if f.first then
    if 16384 ≤ s.rxOpen f.die then (0x02, none)
    else if !s.presentRange f.target (512 * f.frames) then (0x15, none)
    else
      let c := if f.notify then s.queueCheck (f.notifyQ % 2 ^ 18) f.slice none else 0
      (c, some ⟨f.die, f.sx, f.sy, f.sz, f.own, f.stream, f.srcEpoch, f.target, 0, 0, false⟩)
  else match s.rxFind f with
  | some r => (0, some r)
  | none => (0x17, none)

/-- Try the notify post of a complete stream (R243): its end, and the state. Where the queue refuses the frame the record waits
for frames that do not come (R255). DEDUCED (log entry 331): each try that finds the queue full counts in FULL_NACKS and raises
QFULL, although no NACK is sent. -/
def State.rxNotify (s : State) (f : MsgFrame) (r : RxRec) : RxEnd × State :=
  let q := f.notifyQ % 2 ^ 18
  let s := s.queueUse q
  let c := s.queueCheck q f.slice none
  if c ≠ 0 then (.refused c, s.rxPut f { r with held := false })
  else
    let (room, s) := s.queueRoom q
    if room then (.accepted, (s.queuePost q (f.note r)).rxDrop f)
    else (.held, (s.queueFull q).rxPut f { r with held := true })

/-- The reshard bytes that arrive on VC0 (R221, R223). -/
def State.rsNote (s : State) (a n : Nat) : State :=
  if s.job.rsRun then
    let p := s.job.img.phases.getD (s.get (DIE_B 0) DIE.JOB_STAT_PHASE) default
    let live := (List.range p.rsCount).filter fun i => !decide (i ∈ s.job.rsDone)
    let ds := (live.map fun i => s.job.img.reshard.getD (p.rsFirst + i) default).filter fun d =>
      d.kind = 2 ∧ (rsDsts d).any fun r => overlaps r (a, n)
    let s := { s with job.rsGot := s.job.rsGot ++ [(a, n)] }
    ds.foldl (fun s d => s.add64 (RESHARD_B d.die) RESHARD.BYTES_IN_LO n) s
  else s

/-- Write a stream frame's payload (R233, R243), and let the reshard engines know of it. -/
def State.rxWrite (s : State) (vc : Nat) (f : MsgFrame) : State :=
  let s := if s.presentRange f.target f.length then s.writeRange f.target f.bytes else s
  if vc = 0 then s.rsNote f.target f.length else s

/-- A stream frame that has passed checks 1 to 4 (R232, R233, R242, R243). A frame that is refused has no effect (R230): the
queue of a last frame's notify is checked before the payload is written. -/
def State.rxStream (s : State) (vc : Nat) (f : MsgFrame) : RxEnd × State :=
  let s := if f.notify then s.queueUse (f.notifyQ % 2 ^ 18) else s
  match s.rxStreamCheck f with
  | (_, none) => (.refused (s.rxStreamCheck f).1, s)
  | (0, some r) =>
    let r := { r with bytes := r.bytes + f.length, got := r.got + 1 }
    if r.got < f.frames then (.accepted, (s.rxWrite vc f).rxPut f r)
    else if f.notify then
      let c := s.queueCheck (f.notifyQ % 2 ^ 18) f.slice none
      if c ≠ 0 then (.refused c, s) else (s.rxWrite vc f).rxNotify f r
    else (.accepted, (s.rxWrite vc f).rxDrop f)
  | (c, some _) => (.refused c, s)

/-- Process a frame (R230, R232 checks 2 to 7). -/
def State.rxProcess (s : State) (vc : Nat) (f : MsgFrame) : RxEnd × State :=
  let c := s.rxCheck f
  if c ≠ 0 then (.refused c, s) else if f.typ = 1 then s.rxPost f else s.rxStream vc f

/-- The receiver's answer to a processed frame (R230, R243). -/
def State.rxAnswer (s : State) (path vc : Nat) (f : MsgFrame) (e : RxEnd) : State :=
  let r := s.rpair path vc
  let nxt := (f.seq + 1) % 2 ^ 32
  match e with
  | .accepted =>
    let s := s.setRpair path vc { r with expect := some nxt, last := some f.seq, held := none }
    (s.sendControl ctACK vc path f.seq 0 0 0).freeBuffer path vc
  | .refused c =>
    let s := s.setRpair path vc { r with expect := some nxt, held := none }
    let s := s.mcount f.die mcNACK_OUT
    let s := if c = 0x10 then s.inc MSG_B MSG.EPOCH_NACK_OUT_COUNT else s
    (s.sendControl ctNACK vc path f.seq c 0 0).freeBuffer path vc
  | .held => (s.setRpair path vc { r with expect := some f.seq, held := some f }).ackAgain path vc

/-- Is a frame's destination not this module (R232 check 1)? -/
def State.misrouted (s : State) (f : MsgFrame) : Bool :=
  decide (s.plan.epoch = 0 ∨ f.dx ≠ s.plan.coord 0 ∨ f.dy ≠ s.plan.coord 1 ∨ f.dz ≠ s.plan.coord 2)

/-- Is a frame not the one its (path, VC) expects (R230)? -/
def State.outOfTurn (s : State) (vc : Nat) (f : MsgFrame) : Bool :=
  let r := s.rpair f.path vc
  r.held.isSome || decide (f.seq ≠ (if f.flag 4 then f.seq else r.expect.getD f.seq))

/-- The coordinate check, the SEQ rules and the processing of a frame that has passed the slice filter. The first part
of the answer is what became of it: none when it was dropped or discarded. -/
def State.rxFrame (s : State) (vc : Nat) (f : MsgFrame) : Option RxEnd × State :=
  if s.misrouted f then
    (none, ((s.inc MSG_B MSG.MISROUTE_COUNT).raise MSG_B 2).freeBuffer f.path vc)
  else
    let s := s.mcount f.die mcFRAMES_IN
    if s.outOfTurn vc f then (none, (s.ackAgain f.path vc).freeBuffer f.path vc)
    else
      let (e, s) := s.rxProcess vc f
      (some e, s.rxAnswer f.path vc f e)

/-- Does a frame pass every check of R230 and R232 that needs no memory? -/
def State.reachesMemory (s : State) (vc : Nat) (f : MsgFrame) : Bool :=
  !s.misrouted f && !s.outOfTurn vc f && decide (s.rxCheck f = 0)
    && (decide (f.typ = 1) || (if f.first then decide (s.rxOpen f.die < 16384) && s.presentRange f.target (512 * f.frames)
      else (s.rxFind f).isSome))

/-- Must a frame wait at its source: its engine in a block reset (R31), or, where no other check has refused it, what it is
written to holding back requests (R151, R155, R187)? -/
def State.frameHeld (s : State) (vc : Nat) (f : MsgFrame) : Bool :=
  s.engineResets f.die || (s.reachesMemory vc f && (if f.typ = 1 then s.queueHeld (f.target % 2 ^ 18)
    else s.msgHeld f.die f.target || (f.notify && f.last && s.queueHeld (f.notifyQ % 2 ^ 18))))

/-- A frame that waits in a receive buffer of a path and VC of port p (R30)? Those behind it wait too. -/
def Offer.onPair (path vc : Nat) : Offer → Bool
  | .frame _ v _ f => decide (f.path = path ∧ v = vc)
  | _ => false

/-- A frame that its port has admitted is taken, or keeps its receive buffer until what it needs takes work again (R30). -/
def State.frameTake (s : State) (p vc slice : Nat) (f : MsgFrame) : State :=
  if s.msg.offers.any (Offer.onPair f.path vc) || s.frameHeld vc f then s.offer (.frame p vc slice f) else (s.rxFrame vc f).2

/-- A frame arrives at port p: the slice filter, on SLICE of the link header, comes first (R369, R232). -/
def State.frameOffer (s : State) (p vc slice : Nat) (f : MsgFrame) : State :=
  if s.plan.admits p slice then (s.countIn p).frameTake p vc slice f
  else ((s.inc (XRDS_B + 0x4000) (XRDS_FREE.SLICE_DROP_COUNT.at p 4)).raise (PORT_B p) 21).freeBuffer f.path vc

/-! ### Operations (R224-R226, R241-R244) -/

def State.mop (s : State) (id : Nat) : Option MOp := s.msg.ops.find? fun o => o.id = id
def State.setMop (s : State) (o : MOp) : State := { s with msg.ops := s.msg.ops.map fun x => if x.id = o.id then o else x }
def State.dropMop (s : State) (id : Nat) : State := { s with msg.ops := s.msg.ops.filter fun x => decide (x.id ≠ id) }

/-- VC of an operation (R226). -/
def MOp.vc (o : MOp) : Nat := if o.kind = 3 then 0 else 1

/-- The peer of an operation. -/
def MOp.peer (o : MOp) : Nat × Nat × Nat × Nat := (o.dest.slice, o.dest.x, o.dest.y, o.dest.z)

/-- The outbound path of an operation's next frame (R224). -/
def State.route (s : State) (o : MOp) : Option Nat :=
  if s.plan.epoch ≠ 0 ∧ o.dest.x = s.plan.coord 0 ∧ o.dest.y = s.plan.coord 1 ∧ o.dest.z = s.plan.coord 2 then some localPath
  else s.plan.lookup o.dest.slice o.dest.x o.dest.y o.dest.z

/-- The sending die (R226, R12). -/
def State.sendDie (s : State) (o : MOp) (path : Nat) : Nat := ((s.plan.path false path).map fun e => e.port / 9).getD o.die

/-- Outgoing slots in use on a die, OPEN or DRAINING, and those FREE (R241, R263). -/
def State.slotsOpen (s : State) (d : Nat) : List Nat := (s.msg.ops.filter fun o => decide (o.die = d)).filterMap MOp.slot
def State.slotsLeaving (s : State) (d : Nat) : List Nat := (s.msg.leaving.filter fun x => decide (x.1 = d)).map Prod.snd
def State.slotsFree (s : State) (d : Nat) : Nat := 16384 - (s.slotsOpen d).length - (s.slotsLeaving d).length

/-- The lowest slot that is FREE. -/
def State.freeSlot (s : State) (d : Nat) : Option Nat :=
  let used := s.slotsOpen d ++ s.slotsLeaving d
  if 16384 ≤ used.length then none else (List.range (used.length + 1)).find? fun k => !used.contains k

/-- Take an ended operation's tile operation out of the mesh interface's queue and increment its token (R105). -/
def State.endTileOp (s : State) (o : MOp) : State :=
  match (s.queue o.tile 4).findIdx? fun q => q.seq = o.seq ∧ (iOp q.word = 0x60 ∨ iOp q.word = 0x61) with
  | some k => s.completeOp o.tile 4 k ((s.queue o.tile 4).getD k default)
  | none => s

/-- Release an operation's slot: it is leaving for one tile cycle (R241). -/
def State.endMop (s : State) (o : MOp) : State :=
  let s := s.dropMop o.id
  let s := match o.slot with
    | some k => { s with msg.leaving := s.msg.leaving ++ [(o.die, k)] }
    | none => s
  if o.kind = 3 then s else s.endTileOp o

/-- Drop operations; their slots are released (R241). -/
def State.dropOps (s : State) (sel : MOp → Bool) : State :=
  { s with
    msg.ops := s.msg.ops.filter fun o => !sel o
    msg.leaving := s.msg.leaving ++ (s.msg.ops.filter sel).filterMap fun o => o.slot.map fun k => (o.die, k) }

/-- Abandon the reshard streams that a test selects: each has a failure record of code STOPPED (R244, R245). -/
def State.abandonStreams (s : State) (sel : MOp → Bool) : State :=
  let out (o : MOp) : Bool := decide (o.kind = 3) && sel o
  let s : State := (s.msg.ops.filter out).foldl (fun s o => s.pushFail o.die ⟨0x24, 3, 0x7F, o.arg⟩) s
  s.dropOps out

/-- A reshard descriptor fails (R221, R223): code 1 a stream failed, 2 timeout. The job fails with cause 3. -/
def State.reshardFails (s : State) (i code : Nat) : State :=
  let p := s.phaseEnt s.phase
  let d := (s.job.img.reshard.getD (p.rsFirst + i) default).die
  let b := RESHARD_B d
  let s := ((s.put b RESHARD.STAT_FAILED 1).put b RESHARD.FAIL_DESC i).put b RESHARD.FAIL_CODE code
  let s := (s.recErr b 16 (0x8400 + code) pathHw i).raise b 1
  let s := s.reshardStop.abandonStreams fun _ => true
  if s.jobState = jsRUNNING then s.jobFails 3 else s

/-- An operation fails with a code (R244, R245, R265). -/
def State.failMop (s : State) (id code : Nat) : State :=
  match s.mop id with
  | none => s
  | some o =>
    let s := s.pushFail o.die ⟨code, o.kind, if o.kind = 3 then 0x7F else o.tile % 256, o.arg⟩
    let s := if code = 0x21 ∨ code = 0x22 then (s.inc MSG_B MSG.PATH_FAILS_COUNT).raise MSG_B 1 else s
    let s := if o.kind = 1 then s.setFlags o.tile o.pc 128 else s
    let s := s.endMop o
    if o.kind = 3 then s.reshardFails o.arg 1 else s

/-- Is an operation's destination one that it accepts (R225)? -/
def State.destOk (s : State) (o : MOp) (withNote : Bool) : Bool :=
  let d := o.dest
  let home := decide (d.die = d.target / 2 ^ 16 % 4)
  if o.kind = 0 then decide (d.kind = 0) && home
  else decide (d.kind = 1) && (!withNote || (match s.job.img.dests[o.arg + 1]? with
    | some n => decide (n.kind = 0) && decide (n.die = n.target / 2 ^ 16 % 4) && decide (n.slice = d.slice) && decide (n.x = d.x)
        && decide (n.y = d.y) && decide (n.z = d.z)
    | none => false))

/-- Open the operation that has issued: its engine, its destination, its route and its slot (R224, R225, R241, R270). -/
def State.openMop (s : State) (o : MOp) : State :=
  if s.engineResets o.die = true ∨ s.bit (MENG_B o.die) hCTRL_QUIESCE = true ∧ s.engineRuns o.die = true then s
  else if s.engineRuns o.die = false then s.failMop o.id 0x16
  else if s.destOk o (o.notify.isSome) = false then s.failMop o.id 0x23
  else match s.route o with
  | none => s.failMop o.id 0x20
  | some path =>
    if o.kind = 0 then s.setMop { o with opened := true }
    else
      -- waiting operations receive slots in the order in which they issued on the die
      if (s.msg.ops.any fun x => decide (x.die = o.die) && decide (x.id < o.id) && decide (x.kind ≠ 0) && !x.opened) then s
      else match s.freeSlot o.die with
      | none => s
      | some k =>
        let e := if path = localPath then some s.ownEpoch else s.peerEpoch o.peer
        (s.peerTouch o.peer).setMop { o with opened := true, slot := some k, epoch := e }

/-- Try to open every operation that waits. -/
def State.openAll (s : State) : State :=
  s.msg.ops.foldl (fun s o => match s.mop o.id with
    | some o => if o.opened then s else s.openMop o
    | none => s) s

/-! ### Sending (R227, R230, R231, R258-R261, R365) -/

/-- Receive buffers that frames of an inbound path occupy: the one held for its notify, those that wait at their source. -/
def State.buffersKept (s : State) (path vc : Nat) : Nat :=
  (if (s.rpair path vc).held.isSome then 1 else 0) + (s.msg.offers.filter (Offer.onPair path vc)).length

/-- Bytes of frame i of an operation. -/
def MOp.len (o : MOp) (i : Nat) : Nat := if o.kind = 0 then o.bytes else min 512 (o.bytes - 512 * i)

/-- POISON_MASK: bit i when any byte of the payload's word i is poisoned. -/
def poisonMask (bs : List (Byte × Bool)) : Nat :=
  (List.range 16).foldl (fun m i => if ((bs.drop (32 * i)).take 32).any Prod.snd then m + 2 ^ i else m) 0

/-- Read n source bytes of a frame: those a reshard engine has yet to settle are free values (R219). -/
def State.readSource (s : State) (a n : Nat) : List (Byte × Bool) × State :=
  let (bs, s) := s.readRange a n
  if s.rsUnsure a n then
    let (v, s) := s.freeVal
    ((leBytes n v).zip (bs.map Prod.snd), s)
  else (bs, s)

/-- The next frame of an operation on a path (R228, R253), with the state after its data are read. -/
def State.buildFrame (s : State) (o : MOp) (path : Nat) : MsgFrame × State :=
  let p := s.pair path o.vc
  let i := o.next
  let n := o.len i
  let (bs, s) := s.readSource (o.src + 512 * i) n
  let e := if path = localPath then some s.ownEpoch else if o.kind = 0 then s.peerEpoch o.peer else o.epoch
  let s := if o.kind = 0 then s.peerTouch o.peer else s
  let fl := (if i = 0 then 1 else 0) + (if i + 1 = o.frames then 2 else 0) + (if o.notify.isSome then 4 else 0)
    + (if e.isSome then 8 else 0) + (if p.reset then 16 else 0) + (if o.kind = 0 ∧ o.big then 32 else 0)
  let f : MsgFrame :=
    { typ := if o.kind = 0 then 1 else 2, flags := fl, slice := o.dest.slice % 4096, srcEpoch := s.ownEpoch, dstEpoch := e.getD 0,
      sx := s.plan.coord 0, sy := s.plan.coord 1, sz := s.plan.coord 2, dies := o.die + o.dest.die * 4,
      dx := o.dest.x, dy := o.dest.y, dz := o.dest.z, stream := o.slot.getD 0, length := n, seq := p.next, frames := o.frames, index := i,
      target := if o.kind = 0 then o.target % 2 ^ 18 else (o.target + 512 * i) % 2 ^ 40, notifyQ := o.notify.getD 0,
      poison := poisonMask bs, path := path, payload := bs.map fun b => b.1.toNat }
  (f, s)

/-- Has an operation a frame that could be launched now on its route? A stream's later frames wait until its first is
acknowledged (log entry 60). -/
def MOp.ready (o : MOp) : Bool := o.opened && !o.backoff && decide (o.next < o.frames) && (decide (o.next = 0) || o.firstAck)

/-- May the sender launch on a pair at all: engines on, no resync outstanding, a credit (R227, R258, R264)? A local pair
needs no credit, and waits while a frame is held. -/
def State.pairOpen (s : State) (path vc : Nat) : Bool :=
  let p := s.pair path vc
  s.on MSG_B && (if path = localPath then !p.hold else p.resync.isNone && decide (0 < p.credits))

/-- DWELL of a steering set; 0 acts as 64 (R348). -/
def Bank.dwell (b : Bank) (j : Nat) : Nat := if b.ent 2 j 3 1 = 0 then 64 else b.ent 2 j 3 1

/-- Has a path a frame that waits with a credit (R365): of an operation, or one to be sent again? A control or time frame that
waits for the lane needs no credit. -/
def State.outWaits (s : State) (path : Nat) : Bool :=
  decide (path ≠ 0xFFFF) && ((s.msg.ops.any fun x => x.ready && decide (s.route x = some path) && s.pairOpen path x.vc)
    || ((List.range 2).any fun vc => s.pairOpen path vc && (s.pair path vc).replay.any fun r => !r.sent)
    || s.opt.wait.any fun f => decide (f.path = path))

/-- The next output of a steered lane in the order 0, 1, 2 after the current one that has a waiting frame (R365) and a port that
allows the launch (R331). -/
def State.nextOut (s : State) (p l : Nat) : Option Nat :=
  let j := s.plan.laneSteer (txRing p l)
  (if s.txOut p l < 3 then [1, 2].map fun d => (s.txOut p l + d) % 3 else [0, 1, 2]).find? fun o =>
    s.outWaits (s.plan.steerPath j o) && s.canLaunch (treePort p o)

/-- The lane that takes the next frame of a path: none draining (R426), none of a quiesced port (R339), a steered one only
while its output leads to the path and its visit lasts (R261, R365). -/
def State.laneFor (s : State) (e : PathEnt) : Option Nat :=
  let b := s.plan
  (s.lanesUp e).find? fun l =>
    let i := txRing e.port l
    !s.draining i && s.portOn e.port && !s.bit (PORT_B e.port) hCTRL_QUIESCE && (!b.steered i
      || (decide (b.steerPath (b.laneSteer i) (s.txOut e.port l) = e.id)
          && (decide (zget s.opt.visit (9 * e.port + l) < b.dwell (b.laneSteer i)) || (s.nextOut e.port l).isNone)))

/-- Put a frame on lane l of an outbound path: port, lane, VC, then the frame. -/
def State.putFrame (s : State) (e : PathEnt) (l vc : Nat) (f : MsgFrame) : State :=
  let k := 9 * e.port + l
  let s := if s.plan.steered (txRing e.port l) then { s with opt.visit := zset s.opt.visit k (zget s.opt.visit k + 1) } else s
  s.sendOn ⟨e.port, l, e.id, f.slice, .frame, [e.port, l, vc] ++ f.nums⟩

/-- An operation that has had all its frames acknowledged is complete (R243). -/
def State.frameAcked (s : State) (id epoch : Nat) (first : Bool) : State :=
  match s.mop id with
  | none => s
  | some o =>
    let o := { o with acked := o.acked + 1, epoch := if o.firstAck then o.epoch else some epoch, firstAck := o.firstAck || first }
    if o.acked < o.frames then s.setMop o else (s.setMop o).endMop o

/-- A frame of an operation is refused (R237, R244, R245). -/
def State.frameRefused (s : State) (id code : Nat) : State :=
  match s.mop id with
  | none => s
  | some o =>
    if code = 1 ∨ code = 2 then
      if o.stop = true ∨ (o.kind ≠ 3 ∧ s.bit (MENG_B o.die) hCTRL_QUIESCE = true) then s.failMop id 0x24
      else s.setMop { o with next := o.next - 1, backoff := true, tries := o.tries + 1 }
    else s.failMop id code

/-- Take the outcome of a local frame at once (R224): acknowledged, refused, or held. DEDUCED (log entry 332): no ACK or NACK comes
over a fibre, and the peer table of R253 is not written. -/
def State.localEnd (s : State) (vc : Nat) (r : Rep) (e : Option RxEnd) : State :=
  let p := s.pair localPath vc
  let drop := { p with replay := p.replay.filter fun x => decide (x.frame.seq ≠ r.frame.seq) }
  match e with
  | some .accepted => (s.setPair localPath vc drop).frameAcked r.op s.ownEpoch r.frame.first
  | some (.refused c) =>
    let s := s.setPair localPath vc drop
    ((s.mop r.op).elim s fun o => s.mcount o.die mcNACK_IN).frameRefused r.op c
  | some .held => s.setPair localPath vc { p with hold := true }
  | none => s

/-- Count a launched frame (R268). -/
def State.countFrame (s : State) (o : MOp) (path : Nat) : State :=
  let d := s.sendDie o path
  let s := s.mcount d mcFRAMES_OUT
  if o.kind = 0 then s.mcount d mcPOST_OUT else s

/-- Launch an operation's next frame on its path and lane. -/
def State.launchFrame (s : State) (o : MOp) (path : Nat) (lane : Option (PathEnt × Nat)) : State :=
  let (f, s) := s.buildFrame o path
  let p := s.pair path o.vc
  let r : Rep := ⟨o.id, true, f⟩
  let s := s.setPair path o.vc { p with next := (p.next + 1) % 2 ^ 32, reset := false, credits := p.credits - 1,
                                        replay := p.replay ++ [r], peer := some o.peer }
  let s := (s.setMop { o with next := o.next + 1 }).countFrame o path
  match lane with
  | some (e, l) => s.putFrame e l o.vc f
  | none =>
    let (e, s) := s.rxFrame o.vc f
    s.localEnd o.vc r e

/-- Must an operation's next frame wait for a stack that holds back requests, for the mesh, or for a local engine in a block
reset (R30, R31, R151, R155)? A reshard stream's data cross the mesh from a stack too (R136). -/
def State.mopHeld (s : State) (o : MOp) (path : Nat) : Bool :=
  let src := o.src + 512 * o.next
  s.msgHeld o.die src || (decide (o.kind = 3) && s.engineHeld o.die src) || (decide (path = localPath) && (s.engineResets o.dest.die ||
    (if o.kind = 0 then s.queueHeld (o.target % 2 ^ 18)
     else s.msgHeld o.dest.die ((o.target + 512 * o.next) % 2 ^ 40)
       || (decide (o.next + 1 = o.frames) && o.notify.elim false s.queueHeld))))

/-- The lane that takes a path's frame now, if one does. -/
def State.pathLane (s : State) (path : Nat) : Option (PathEnt × Nat) :=
  (s.plan.path false path).bind fun e => (s.laneFor e).map fun l => (e, l)

/-- Where an operation's next frame can go now: its path and, but for the local path, a lane. -/
def State.launchable (s : State) (o : MOp) : Option (Nat × Option (PathEnt × Nat)) :=
  if !o.ready then none
  else match s.route o with
  | none => none
  | some path =>
    if !s.pairOpen path o.vc || s.mopHeld o path || ((s.pair path o.vc).replay.any fun r => !r.sent) then none
    else if path = localPath then some (path, none)
    else (s.pathLane path).map fun x => (path, some x)

/-- A pair whose replay buffer has a frame to send again sends it on a lane (R231). -/
def State.resendOn (s : State) (path vc : Nat) (e : PathEnt) (l : Nat) : State :=
  let p := s.pair path vc
  match p.replay.find? fun r => !r.sent with
  | some r =>
    let s := s.setPair path vc { p with credits := p.credits - 1,
                                        replay := p.replay.map fun x => if x.frame.seq = r.frame.seq then { x with sent := true } else x }
    (s.mcount (e.port / 9) mcRETRANSMIT).putFrame e l vc r.frame
  | none => s

/-- A frame that waits for a lane and can go: again from a replay buffer, or the next one of an operation. -/
inductive Cand where
  | again (path vc : Nat) (e : PathEnt) (l : Nat)
  | next (o : MOp) (path : Nat) (lane : Option (PathEnt × Nat))

/-- The VC of such a frame, and its lane. -/
def Cand.vc : Cand → Nat
  | .again _ vc _ _ => vc
  | .next o _ _ => o.vc
def Cand.lane : Cand → Option Nat
  | .again _ _ e l => some (9 * e.port + l)
  | .next _ _ x => x.map fun y => 9 * y.1.port + y.2

/-- The frames that can go now, those to be sent again first, then the operations' in the order of their issue. -/
def State.cands (s : State) : List Cand :=
  ((s.msg.pairs.filter fun x => x.2.replay.any fun r => !r.sent).map Prod.fst).filterMap (fun k =>
    if s.pairOpen (k / 2) (k % 2) then (s.pathLane (k / 2)).map fun x => .again (k / 2) (k % 2) x.1 x.2 else none)
  ++ s.msg.ops.filterMap fun o => (s.launchable o).map fun x => .next o x.1 x.2

/-- Of the frames that wait for the lane of the first one, VC1 goes before VC0, but VC0 gets one frame in every four (R317): the
frame that goes, and how many VC1 frames have then gone in a row before a waiting VC0 frame. -/
def pickCand (run : Nat) (c : Cand) (l : List Cand) : Cand × Nat :=
  let mine := l.filter fun x => decide (x.lane = c.lane)
  match mine.find? fun x => decide (x.vc = 0), mine.find? fun x => decide (x.vc ≠ 0) with
  | some a, some b => if run < 3 then (b, run + 1) else (a, 0)
  | some a, none => (a, 0)
  | none, some b => (b, 0)
  | none, none => (c, 0)

/-- A frame goes. -/
def State.takeCand (s : State) : Cand → State
  | .again path vc e l => s.resendOn path vc e l
  | .next o path lane => s.launchFrame o path lane

/-- An operation whose destination has lost its entry fails (R224): the lookup is made for each frame. -/
def State.lostRoute (s : State) : Option MOp := s.msg.ops.find? fun o => o.ready && (s.route o).isNone

/-- One thing that the sending engines can do now. -/
def State.pumpOne (s : State) : Option State :=
  match s.lostRoute with
  | some o => some (s.failMop o.id 0x20)
  | none =>
    let l := s.cands
    l.head?.map fun c =>
      match c.lane with
      | none => s.takeCand c
      | some k =>
        let x := pickCand (zget s.opt.vc1Run k) c l
        { s with opt.vc1Run := zset s.opt.vc1Run k x.2 }.takeCand x.1

/-- The sending engines do what they can, n things at most. -/
def State.pumpN : Nat → State → State
  | 0, s => s
  | n + 1, s => match s.pumpOne with
    | some t => t.pumpN n
    | none => s

/-- Frames left to launch or to resend, and operations that could fail: a bound of what the engines can do. -/
def State.pumpBound (s : State) : Nat :=
  (s.msg.ops.map fun o => o.frames - o.next + 1).foldl (· + ·) 0 + (s.msg.pairs.map fun x => x.2.replay.length).foldl (· + ·) 0

def State.pump (s : State) : State := s.pumpN s.pumpBound

/-! ### Resynchronisation (R259) -/

/-- Ask for a resync of a pair on every lane of its set that is in service. -/
def State.resyncAsk (s : State) (path vc : Nat) : State :=
  match s.plan.path false path with
  | none => s
  | some e =>
    let p := s.pair path vc
    let n := (p.resyncNo + 1) % 2 ^ 32
    let s := (s.setPair path vc { p with resync := some n, resyncNo := n }).inc MSG_B MSG.RESYNCS_COUNT
    (s.lanesUp e).foldl (fun s l => s.sendOn ⟨e.port, l, path, 0, .control, [ctREQ, vc, path, s.ownEpoch, n, 0, 0, 0, l]⟩) s

/-- Resync both channels of a path. -/
def State.resyncPath (s : State) (path : Nat) : State := (s.resyncAsk path 0).resyncAsk path 1

/-! ### Reshard streams (R221, R223) -/

/-- The pieces of a descriptor. -/
def RsDesc.pieces (d : RsDesc) : Nat := d.counts.foldl (· * ·) 1

/-- Offset of piece n under strides: the third dimension runs fastest. -/
def RsDesc.offset (d : RsDesc) (str : List Int) (n : Nat) : Int :=
  let c1 := d.counts.getD 1 1
  let c2 := d.counts.getD 2 1
  Int.ofNat (n / (c1 * c2)) * str.getD 0 0 + Int.ofNat (n / c2 % c1) * str.getD 1 0 + Int.ofNat (n % c2) * str.getD 2 0

/-- Issue a message operation. -/
def State.newMop (s : State) (o : MOp) : State :=
  { s with msg.ops := s.msg.ops ++ [{ o with id := s.msg.nextId }], msg.nextId := s.msg.nextId + 1 }

/-- Start the next piece of SEND descriptor i of the phase, one stream of a descriptor at a time (log entry 61). -/
def State.reshardNext (s : State) (i : Nat) : State :=
  let p := s.phaseEnt s.phase
  let d := s.job.img.reshard.getD (p.rsFirst + i) default
  let n := zget s.job.rsPiece i
  let b := RESHARD_B d.die
  if d.kind = 1 ∧ n < d.pieces ∧ s.on b = true ∧ s.bit b RESHARD.STAT_ACTIVE = true ∧ s.bit b hCTRL_QUIESCE = false
      ∧ (s.msg.ops.any fun o => decide (o.kind = 3 ∧ o.arg = i)) = false then
    let e := s.job.img.dests.getD d.dest default
    let s := (s.add64 b RESHARD.BYTES_OUT_LO d.piece)
    let s := { s with job.rsPiece := zset s.job.rsPiece i (n + 1) }
    s.newMop { (default : MOp) with
      kind := 3, die := d.die, tile := d.die * 256 + 0x7F, arg := i, dest := e,
      target := (Int.ofNat (e.target + d.dst) + d.offset d.dstr n).toNat % 2 ^ 64,
      src := (Int.ofNat d.src + d.offset d.sstr n).toNat, bytes := d.piece, frames := (d.piece + 511) / 512 }
  else s

/-- Start what the reshard engines can start. -/
def State.reshardGo (s : State) : State :=
  if s.job.rsRun then (List.range (s.phaseEnt s.phase).rsCount).foldl (fun s i => s.reshardNext i) s else s

/-! ### Following the other blocks -/

/-- Every unacknowledged frame of a path is to be sent again (R260). -/
def State.resendPath (s : State) (path : Nat) : State :=
  (List.range 2).foldl (fun s vc =>
    let p := s.pair path vc
    s.setPair path vc { p with replay := p.replay.map fun r => { r with sent := false } }) s

/-- The share of an inbound path that is in force (R353, R431). -/
def State.shareNow (s : State) (path vc : Nat) : Nat :=
  if s.xrds.toRelease then zget s.msg.shares (pairKey path vc) else s.plan.share path vc

/-- FREE of a RESYNC: the share less the buffers the path occupies and what other paths still hold of it (R259, R431). -/
def State.freeNow (s : State) (path vc : Nat) : Nat :=
  s.shareNow path vc - s.buffersKept path vc - zget s.msg.owed (pairKey path vc)

/-- Send a RESYNC: its credits include those not yet returned. While no lane of the return path serves, the answer waits. -/
def State.resyncSend (s : State) (path vc no : Nat) : State :=
  let r := s.rpair path vc
  if (s.plan.path true path).elim true fun e => s.pathServes e.ret then
    let free := s.freeNow path vc
    (s.setRpair path vc { r with pend := 0, reqs := [], answer := none }).sendControl ctRESYNC vc path no 0 0 free
  else s.setRpair path vc { r with reqs := [], answer := some no }

/-- Answers that have waited for a lane of their return path are sent (R259, R431). -/
def State.answersWaiting (s : State) : State :=
  s.msg.rpairs.foldl (fun s x => match x.2.answer with
    | some no => if (s.plan.path true (x.1 / 2)).elim false fun e => s.pathServes e.ret then s.resyncSend (x.1 / 2) (x.1 % 2) no else s
    | none => s) s

/-- Paths whose first lane has entered service resynchronise, and retuned paths after the release (R259, R430); a retuned path
that was without a lane then sends its unacknowledged frames again (R260). -/
def State.pathsFollow (s : State) : State :=
  let outs := (s.plan.paths.filter fun e => !e.inbound).map PathEnt.id
  let s := { s with msg.up := s.msg.up.filter fun x => outs.contains x.1 }
  outs.foldl (fun s id =>
    let now := s.pathServes id
    let was := zget s.msg.up id
    let due := decide (id ∈ s.msg.due) && !s.xrds.toRelease
    let s := { s with msg.up := zset s.msg.up id now }
    if now && (!was || due) then
      let s := if !was && due then s.resendPath id else s
      { s with msg.due := s.msg.due.filter (· ≠ id) }.resyncPath id
    else s) s

/-- The engines follow whatever has changed: paths, switch notes (R438), waiting operations, reshard pieces, frames. -/
def State.msgSettle (s : State) : State := ((s.calWatch.pathsFollow.answersWaiting.sendNotes.reshardGo).openAll).serveWait.pump

end Sys2Proof.Machine
end

