-- ==== Sys2Proof/Machine/Tile.lean ====
section
/-!
DEFINITION. The tile's commands: what the sequencer of a tile does when it issues each instruction (R95-R114), and
the completions, releases and ends that follow. Every command names its tile g = 256 d + t.
-/
namespace Sys2Proof.Machine



/-! ### Sequencer instructions (R101) -/

/-- NOP (R100). -/
def execNop (g : Nat) (s : State) : Res := s.live (s.issue g 0x00 fun _ s => s.advance g)

/-- STALL (R101): the CYCLES pass without issue; the model counts no cycles of it. -/
def execStall (g : Nat) (s : State) : Res := s.live (s.issue g 0x01 fun _ s => s.advance g)

/-- SETI (R96). -/
def execSeti (g : Nat) (s : State) : Res :=
  s.live (s.issue g 0x02 fun o s => (s.setIdx g (bf o.word 34 32) (signed 20 (bf o.word 55 36))).advance g)

/-- LOOP (R97): a fifth nested loop faults. -/
def execLoop (g : Nat) (s : State) : Res :=
  s.live (s.issue g 0x03 fun o s =>
    let ls := zget s.tile.loops g
    if 4 ≤ ls.length then s.tfault g o.pc 0x8005 0
    else
      let l : LoopFrame := ⟨o.pc + 1, bf o.word 69 56, bf o.word 55 32, bf o.word 74 72, signed 20 (bf o.word 95 76)⟩
      (s.setLoops g (l :: ls)).setPc g (o.pc + 1))

/-- JUMP (R100). -/
def execJump (g : Nat) (s : State) : Res := s.live (s.issue g 0x04 fun o s => s.setPc g (bf o.word 45 32))

/-- SETE (R98). -/
def execSete (g : Nat) (s : State) : Res :=
  s.live (s.issue g 0x05 fun o s => (s.put64 (TILE_B g) TILE.EBASE_LO (bf o.word 79 32)).advance g)

/-- HALT (R112): issue ends; the tile enters HALTED at TILE_HALTED. -/
def execHalt (g : Nat) (s : State) : Res :=
  s.live (s.issue g 0x0F fun o s => (s.setPc g (o.pc + 1)).setStop g 1)

/-- The tile enters HALTED after its in-flight operations, by HALT (event 0) or by HALT_REQ (event 5). -/
def State.enterHalted (s : State) (g code ev : Nat) : State :=
  if s.tilePresent g ∧ s.stopCode g = code ∧ s.inflight g = false then
    ((((s.setT g tsHALTED 0).setStop g 0).put (TILE_B g) TILE.CTRL_HALT_REQ 0).raise (TILE_B g) ev).settleJob
  else s

/-- TILE_HALTED (R112). -/
def execTileHalted (g : Nat) (s : State) : Res := s.live (s.enterHalted g 1 0)

/-- The token of a WAIT_TOK and its COUNT. -/
def tokArgs (w : Nat) : Nat × Nat := (bf w 35 32, bf w 47 40)

/-- Subtract COUNT from a token. -/
def State.takeToken (s : State) (g k n : Nat) : State := s.put (TILE_B g) (tokF k) (s.token g k - n)

/-- WAIT_TOK (R108). -/
def execWaitTok (g : Nat) (s : State) : Res :=
  s.live (s.issue g 0x10 fun o s =>
    let (k, n) := tokArgs o.word
    if n ≤ s.token g k then (s.takeToken g k n).advance g else s.hold g 1)

/-- WAIT_TOK_RELEASE (R108). -/
def execWaitTokRelease (g : Nat) (s : State) : Res :=
  let (k, n) := tokArgs (s.curWord g)
  s.live (if s.stalled = false ∧ s.waiting g 1 ∧ n ≤ s.token g k then (s.takeToken g k n).release g else s)

/-- The instant of a WAIT_TIME (R110). -/
def State.waitInstant (s : State) (w : Nat) : Nat :=
  (bf w 95 32 + (if bf w 96 96 = 1 then s.get64 jobB DIE.PHASE_START_LO_NS else 0)) % 2 ^ 64

/-- WAIT_TIME (R110, R277). -/
def execWaitTime (g : Nat) (s : State) : Res :=
  s.live (s.issue g 0x11 fun o s => if s.reached (s.waitInstant o.word) then s.advance g else s.hold g 2)

/-- WAIT_TIME_RELEASE (R110). -/
def execWaitTimeRelease (g : Nat) (s : State) : Res :=
  s.live (if s.stalled = false ∧ s.waiting g 2 ∧ s.reached (s.waitInstant (s.curWord g)) then s.release g else s)

/-- Is the reshard condition of a barrier met (R204)? Every descriptor of the phase that names it has completed. -/
def State.reshardMet (s : State) (b : Nat) : Bool :=
  let p := s.phaseEnt s.phase
  (List.range p.rsCount).all fun i =>
    decide ((s.job.img.reshard.getD (p.rsFirst + i) default).barrier ≠ b) || decide (i ∈ s.job.rsDone)

/-- BARRIER (R111, R204): an arrival barrier of no arrivals passes once its reshard condition is met. -/
def execBarrier (g : Nat) (s : State) : Res :=
  s.live (s.issue g 0x12 fun o s =>
    let b := bf o.word 37 32
    match s.barrier b with
    | some r =>
      if r.kind = 0 ∧ r.arrivals = 0 ∧ s.reshardMet b then s.advance g
      else
        let s := if r.kind = 0 ∧ r.arrivals ≠ 0 then
          { s with job.arrivals := zset s.job.arrivals b (zget s.job.arrivals b + 1) } else s
        (s.hold g 3).barrierMask b
    | none => (s.hold g 3).barrierMask b)

/-- The reshard destinations that barrier b guards may be read (R219). -/
def State.rsReleased (s : State) (b : Nat) : State := { s with job.rsOpen := s.job.rsOpen.filter fun x => decide (x.1 ≠ b) }

/-- Release every tile that waits at barrier b. -/
def State.releaseAt (s : State) (b : Nat) : State :=
  (s.tiles.foldl (fun s g => if s.waiting g 3 ∧ s.waitsAt g = some b then s.release g else s) (s.rsReleased b)).barrierMask b

/-- BARRIER_RELEASE (R204): the arrivals are complete, or none are asked, and the reshard condition is met. A trigger
barrier is released by its unit's firing (TRIGGER_FIRE). -/
def execBarrierRelease (b : Nat) (s : State) : Res :=
  s.live (match s.barrier b with
  | some r =>
    if s.stalled = false ∧ r.kind = 0 ∧ r.arrivals ≤ zget s.job.arrivals b ∧ s.reshardMet b then
      ({ s with job.arrivals := zset s.job.arrivals b 0 }).releaseAt b
    else s
  | none => s)

/-- PHASE_END (R111): open loops are closed; the tile enters PHASE_END when its in-flight operations are complete. -/
def execPhaseEnd (g : Nat) (s : State) : Res :=
  s.live (s.issue g 0x13 fun o s => (((s.setLoops g []).setPc g (o.pc + 1)).setStop g 4).settleTile g)

/-- Are the units a FENCE names done (R109)? -/
def State.fenced (s : State) (g units : Nat) : Bool :=
  (decide (units % 2 = 0) || ((s.queue g 0).isEmpty && (s.queue g 1).isEmpty))
    && (decide (units / 2 % 2 = 0) || (s.queue g 2).isEmpty)
    && (decide (units / 4 % 2 = 0) || (s.queue g 3).isEmpty)
    && (decide (units / 8 % 2 = 0) || (s.queue g 4).isEmpty)

/-- FENCE (R109). -/
def execFence (g : Nat) (s : State) : Res :=
  s.live (s.issue g 0x14 fun o s => if s.fenced g (bf o.word 35 32) then s.advance g else s.hold g 4)

/-- FENCE_RELEASE (R109). -/
def execFenceRelease (g : Nat) (s : State) : Res :=
  s.live (if s.stalled = false ∧ s.waiting g 4 ∧ s.fenced g (bf (s.curWord g) 35 32) then s.release g else s)

/-! ### Unit instructions (R95): issue; the effect is at the completion -/

/-- WLOAD (R90). -/
def execWload (g : Nat) (s : State) : Res := s.live (s.issueUnit g 0x20 0)
/-- MMA_W (R90). -/
def execMmaW (g : Nat) (s : State) : Res := s.live (s.issueUnit g 0x21 1)
/-- MMA_S (R89). -/
def execMmaS (g : Nat) (s : State) : Res := s.live (s.issueUnit g 0x22 1)
/-- ACC_BIND (R86). -/
def execAccBind (g : Nat) (s : State) : Res := s.live (s.issueUnit g 0x23 1)
/-- ACC_ADD (R103). -/
def execAccAdd (g : Nat) (s : State) : Res := s.live (s.issueUnit g 0x24 1)
/-- ACC_OUT (R103). -/
def execAccOut (g : Nat) (s : State) : Res := s.live (s.issueUnit g 0x25 1)
/-- VLD (R92). -/
def execVld (g : Nat) (s : State) : Res := s.live (s.issueUnit g 0x30 2)
/-- VST (R92). -/
def execVst (g : Nat) (s : State) : Res := s.live (s.issueUnit g 0x31 2)
/-- VOP (R93). -/
def execVop (g : Nat) (s : State) : Res := s.live (s.issueUnit g 0x32 2)
/-- VRED (R94). -/
def execVred (g : Nat) (s : State) : Res := s.live (s.issueUnit g 0x33 2)
/-- COPY (R105). -/
def execCopy (g : Nat) (s : State) : Res := s.live (s.issueUnit g 0x40 3)
/-- PREFETCH (R159). -/
def execPrefetch (g : Nat) (s : State) : Res := s.live (s.issueUnit g 0x41 3)
/-- STORE (R159). -/
def execStore (g : Nat) (s : State) : Res := s.live (s.issueUnit g 0x42 3)


/-- What a matrix or vector unit does with an operation. -/
def unitEffect (g : Nat) (o : Op) (s : State) : State :=
  match iOp o.word with
  | 0x20 => opWload g o s
  | 0x21 => opMmaW g o s
  | 0x22 => opMmaS g o s
  | 0x23 => opAccBind g o s
  | 0x24 => opAccAdd g o s
  | 0x25 => opAccOut g o s
  | 0x30 => opVld g o s
  | 0x31 => opVst g o s
  | 0x32 => opVop g o s
  | 0x33 => opVred g o s
  | _ => s

/-- MATRIX_VECTOR_COMPLETE (R95): the oldest operation of unit u (0 load pipe, 1 compute pipe, 2 vector unit) completes,
unless an interlock of R90 still holds it. A stall cycle freezes both units (R115). -/
def execMatrixVectorComplete (g u : Nat) (s : State) : Res :=
  s.live (match s.queue g u with
  | o :: _ =>
    if s.stalled = false ∧ u ≤ 2 ∧ ((s.queue g (1 - u)).all fun p => u = 2 ∨ interlocked o p = false) then
      (unitEffect g o s).dequeue g u 0
    else s
  | [] => s)

/-- Does the mesh carry traffic between a tile and a module address (R151, R187)? The ends hold new packets while their
meshes are quiesced (R155). -/
def State.reachable (s : State) (g a : Nat) : Bool :=
  let open' (d : Nat) : Bool := !s.bit (MESH_B d) hCTRL_QUIESCE
  if isHbm a then
    let h := HBM_B (stackOf a)
    s.carried (s.memDies g a) && open' (g / 256) && open' (stackOf a / 2) && s.stackIn (stackOf a) && s.on h
      && !s.bit h hCTRL_QUIESCE
  else decide (tileOfAddr a = g) || (s.carried (s.memDies g a) && open' (g / 256) && open' (tileOfAddr a / 256))

/-- Do two operations of one data mover, PREFETCHes or STOREs, touch one 64-byte block of module memory? -/
def sameBlock (o p : Op) : Bool :=
  let r (x : Op) : Nat × Nat := ((baddr x 103 64).toNat / 64, bf x.word 119 104 / 2)
  decide (iOp p.word = 0x41 ∨ iOp p.word = 0x42) && decide ((r o).1 < (r p).1 + (r p).2 ∧ (r p).1 < (r o).1 + (r o).2)

/-- DATA_MOVER_DONE (R160): operation k of the data mover, a COPY, PREFETCH or STORE, has its writes in place. Requests to
one block take effect in issue order. -/
def execDataMoverDone (g k : Nat) (s : State) : Res :=
  s.live (match (s.queue g 3)[k]? with
  | some o =>
    let a := (baddr o 103 64).toNat
    let ok := !(((s.queue g 3).take k).any (sameBlock o)) && s.reachable g a
    if iOp o.word = 0x40 then (opCopy g o s).completeOp g 3 k o
    else if iOp o.word = 0x41 ∧ ok then (opPrefetch g o s).completeOp g 3 k o
    else if iOp o.word = 0x42 ∧ ok then (opStore g o s).completeOp g 3 k o
    else s
  | none => s)

/-! ### SEND (R105, R131-R137) -/

/-- The slot entry a SEND names in the current phase. -/
def State.slotOf (s : State) (w : Nat) : SlotEnt :=
  s.job.img.slots.getD ((s.phaseEnt s.phase).slotFirst + bf w 127 108) default

/-- S_k of a SEND's occurrence (R131). -/
def State.slotStart (s : State) (w k : Nat) : Nat := (s.slotOf w).start + k * (s.slotOf w).period

/-- The schedule cycle counter (R129). -/
def State.schedCyc (s : State) (g : Nat) : Nat := s.get64 (MESH_B (g / 256)) MESH.SCHED_CYC_LO

/-- Where a SEND goes. -/
def sendDst (w : Nat) : Nat := tileAt (bf w 36 32) (bf w 41 37)

/-- SEND (R133, R134): a scheduled SEND takes the next occurrence of its slot and is late when S_k has passed. -/
def execSend (g : Nat) (s : State) : Res :=
  s.live (s.issue g 0x50 fun o s =>
    match s.issueFault o with
    | some (c, a) => s.tfault g o.pc c a
    | none =>
      if queueCap 4 ≤ (s.queue g 4).length then s.hold g 5
      else
        let key := g * 2 ^ 21 + bf o.word 127 108
        let k := zget s.tile.slotUse key
        let cls := bf o.word 42 42
        let s := s.audit g 4 o
        let late := if cls = 0 ∧ s.slotStart o.word k < s.schedCyc g then some (s.schedCyc g) else none
        let s := if late.isSome then s.lateSend g o.pc else s
        let s := if cls = 0 then { s with tile.slotUse := zset s.tile.slotUse key (k + 1) } else s
        let s := s.setQueue g 4 (s.queue g 4 ++ [{ o with stage := k, late := late }])
        ({ s with tile.issued := zset s.tile.issued g (o.seq + 1) }).advance g)

/-- The first schedule cycle in which a scheduled SEND's words can enter the mesh (R133, R134). -/
def State.enterAt (s : State) (o : Op) : Nat := o.late.getD (s.slotStart o.word o.stage)

/-- Had the words of a scheduled SEND begun to enter the mesh when its die's quiesce began (R155)? -/
def State.entered (s : State) (g : Nat) (o : Op) : Bool :=
  decide (iOp o.word = 0x50) && decide (bf o.word 42 42 = 0)
    && (zget s.tile.hold (g / 256)).elim false fun c => decide (s.enterAt o < c)

/-- May the words of a SEND enter the mesh now (R115, R133, R155)? -/
def State.mayEnter (s : State) (g : Nat) (o : Op) : Bool :=
  let q := s.bit (MESH_B (g / 256)) hCTRL_QUIESCE
  if bf o.word 42 42 = 1 then !q
  else !s.stalled && decide (s.enterAt o ≤ s.schedCyc g) && (!q || s.entered g o)

/-- The flights of a SEND's words: a late one's occurrence takes what its remaining cycles carry, four words a cycle, and
the rest follow in the dynamic class (R134). -/
def State.flightsOf (s : State) (g : Nat) (o : Op) (ws : List (Nat × Bool)) : List Flight :=
  let w := o.word
  let a := (waddr o 98 80).toNat
  let tok := bf w 103 100
  let n := match o.late with
    | some c => min ws.length (4 * (s.slotStart w o.stage + (s.slotOf w).len - c))
    | none => ws.length
  if bf w 42 42 = 1 then [⟨g, sendDst w, a, ws, some tok, false, false, []⟩]
  else if n = ws.length then [⟨g, sendDst w, a, ws, some tok, true, false, []⟩]
  else (if n = 0 then [] else [⟨g, sendDst w, a, ws.take n, none, true, false, []⟩])
    ++ [⟨g, sendDst w, a + n, ws.drop n, some tok, false, true, []⟩]

/-- SEND_DEPARTED (R105, R133, R134, R155): the words of SEND k of the mesh interface have been read and have entered the
mesh, where every die of the route carries traffic (R151). -/
def execSendDeparted (g k : Nat) (s : State) : Res :=
  s.live (match (s.queue g 4)[k]? with
  | some o =>
    let w := o.word
    if iOp w = 0x50 ∧ s.carried (s.crossed (tilePos g) (tilePos (sendDst w))) ∧ s.mayEnter g o then
      let (ws, s) := s.readTWs g (waddr o 61 43).toNat (bf w 79 64)
      ({ s with flights := s.flights ++ s.flightsOf g o ws }).completeOp g 4 k o
    else s
  | none => s)

/-- The word that a receiver takes from the mesh, with the errors it has taken there: corrected, or marked poisoned, as
on a bank read (R79, R128). -/
def landWord (e : Nat) (w : Nat × Bool) : Nat × Bool :=
  match rsDecode 36 e with
  | .clean => (w.1 ^^^ (e % 256 ^ 32), w.2)
  | .corrected c => (w.1 ^^^ ((e ^^^ c) % 256 ^ 32), w.2)
  | .uncorrectable => (w.1 ^^^ (e % 256 ^ 32), true)

/-- The words of a flight as its receiver takes them. -/
def Flight.landed (x : Flight) : List (Nat × Bool) := x.words.mapIdx fun i w => landWord (zget x.errs i) w

/-- Does flight y, ahead of x, have to land first? One of its own source, destination and class (R137), and the
scheduled part of a late SEND before the words that follow it (R134). -/
def Flight.behind (x y : Flight) : Bool :=
  decide (y.src = x.src) && decide (y.dst = x.dst) && (y.sched == x.sched || (x.rest && y.rtoken.isNone))

/-- SEND_LANDED (R131, R134, R137): flight f lands whole, after those it is behind. Scheduled words hold still in a stall
cycle (R129), and none moves where a die of the route carries no traffic (R151). -/
def execSendLanded (f : Nat) (s : State) : Res :=
  s.live (match s.flights[f]? with
  | some x =>
    if (s.flights.take f).any x.behind ∨ (x.sched ∧ s.stalled) ∨ s.carried (s.crossed (tilePos x.src) (tilePos x.dst)) = false then s
    else
      let s := { s with flights := s.flights.eraseIdx f }
      if s.tilePresent x.dst then
        let t := s.writeTWs x.dst x.addr x.landed
        x.rtoken.elim t fun k => t.bumpToken x.dst k (s.pc x.dst)
      else s
  | none => s)

/-! ### Faults and stops -/

/-- ILLEGAL_INSTR (R99). -/
def execIllegalInstr (g : Nat) (s : State) : Res :=
  s.live (if s.canIssue g then
    let ((w, bad), s') := s.fetch g
    if bad then s'.tfault g (s.pc g) 0x8007 0
    else if iOp w ∈ opcodes then s else s'.tfault g (s.pc g) 0x8006 0
  else s)

/-- TILE_FAULTED (R122). -/
def execTileFaulted (g : Nat) (s : State) : Res :=
  s.live (if s.tilePresent g ∧ s.stopCode g = 3 ∧ s.inflight g = false then
    let b := s.waitsAt g
    let s := (((s.setT g tsFAULTED 0).setStop g 0).put (TILE_B g) TILE.CTRL_HALT_REQ 0).raise (TILE_B g) 4
    b.elim s s.barrierMask
  else s)

/-- TILE_HW_FAIL (R122, R143): the tile's own hardware check fails. -/
def execTileHwFail (g : Nat) (s : State) : Res := s.live (if s.tilePresent g then s.tileHwFail g else s)

/-- HALT_REQ_DONE (R112). -/
def execHaltReqDone (g : Nat) (s : State) : Res := s.live (s.enterHalted g 2 5)

/-- LONG_WAIT (R113): a wait of kind 1 to 4 has held issue for more than AUDIT_LIMIT cycles. -/
def execLongWait (g : Nat) (s : State) : Res :=
  let b := TILE_B g
  let k := s.get b TILE.STATUS_WAIT_KIND
  s.live (if s.tilePresent g ∧ s.bit b TILE.CTRL_AUDIT ∧ s.get b TILE.AUDIT_LIMIT_LIMIT ≠ 0 ∧ s.tstate g = tsWAITING ∧ 1 ≤ k ∧ k ≤ 4
    then s.auditRec g 4 (s.pc g) 0 0 else s)

end Sys2Proof.Machine
end

