-- ==== Sys2Proof/WellFormed.lean ====
section
/-!
DEFINITION. Which commands name things that the module can have: access paths, pages, tiles, ports, lanes and the other
numbered parts. Whether a numbered part is present is a matter of state, and the meanings decide it.
-/
namespace Sys2Proof

/-- Access paths: 0 PCIe, 1 MGMT0, 2 MGMT1, 3-6 Reeve cores 0-3 (R4, R23). -/
def pathOk (path : Nat) : Bool := decide (path < 7)
/-- Light-path ids (R228). -/
def lightOk (path : Nat) : Bool := decide (path < 2 ^ 16)
/-- Pages of BAR0 (R1). -/
def pageOk (p : Nat) : Bool := decide (p < 2 ^ 14)
/-- 32-bit registers of BAR0 (R2). -/
def regOk (a : Nat) : Bool := decide (a < 2 ^ 26) && decide (a % 4 = 0)
/-- The PCIe path reaches the 16 KiB of BAR4 at the addresses that follow BAR0's (R454). -/
def bar4Ok (path a : Nat) : Bool := decide (path = 0 ∧ 2 ^ 26 ≤ a ∧ a < 2 ^ 26 + 2 ^ 14 ∧ a % 4 = 0)
/-- Tiles, 256 d + t (R36). -/
def tileOk (g : Nat) : Bool := decide (g < 1024)
def dieOk (d : Nat) : Bool := decide (d < 4)
def stackOk (m : Nat) : Bool := decide (m < 8)
def channelOk (c : Nat) : Bool := decide (c < 32)
def portOk (p : Nat) : Bool := decide (p < 36)
/-- Lanes 0-7, and 8 for lane S. -/
def laneOk (l : Nat) : Bool := decide (l < 9)
/-- Channels that carry messages. -/
def vcOk (vc : Nat) : Bool := decide (vc < 2)
def engineOk (e : Nat) : Bool := decide (e < 2)
def mgmtOk (n : Nat) : Bool := decide (n < 2)
/-- Loop slots (R385). -/
def slotOk (i : Nat) : Bool := decide (i < 2048)
/-- Rings (R306), and receive lanes 9 p + l (R372). -/
def ringOk (i : Nat) : Bool := decide (i < 648)
def rxLaneOk (i : Nat) : Bool := decide (i < 324)
/-- Belfry's sources and targets (R477, R481). -/
def sourceOk (i : Nat) : Bool := decide (i < 1024)
def targetOk (k : Nat) : Bool := decide (k < 5)
/-- Segments of the host window (R458). -/
def segmentOk (k : Nat) : Bool := decide (k < 16)
def triggerOk (u : Nat) : Bool := decide (u < 32)
def queueOk (q : Nat) : Bool := decide (q < 2 ^ 18)
def barrierOk (b : Nat) : Bool := decide (b < 64)
/-- A codeword's symbols (R313). -/
def symbolsOk (w : List Nat) : Bool := decide (w.length = 240) && w.all fun x => decide (x < 1024)
/-- A message frame with at most 512 bytes of payload, as many as its LENGTH says (R228). -/
def Machine.MsgFrame.fits (f : Machine.MsgFrame) : Bool := decide (f.length ≤ 512) && decide (f.payload.length = f.length)

/-- Is every operand of a command in range? -/
def Instr.wf (i : Instr) : Bool :=
  match i with
  | .bar0AccessSize path _ _ _ => pathOk path
  | .accessUnmapped path _ _ => pathOk path
  | .registerWrite path a _ => pathOk path && (regOk a || bar4Ok path a)
  | .pairLowRead path a => pathOk path && (regOk a || bar4Ok path a)
  | .pairLowWrite path a _ => pathOk path && regOk a
  | .pairHighWrite path a _ => pathOk path && regOk a
  | .errStatClear p _ => pageOk p
  | .evtSetWrite p _ => pageOk p
  | .enableWrite path p _ => pathOk path && pageOk p
  | .quiesceReq path p _ => pathOk path && pageOk p
  | .quiesced p => pageOk p
  | .blockResetReq path p => pathOk path && pageOk p
  | .blockResetDone p => pageOk p
  | .refclkLost => true
  | .refclkRestored => true
  | .nop g => tileOk g
  | .stall g => tileOk g
  | .seti g => tileOk g
  | .loop g => tileOk g
  | .jump g => tileOk g
  | .sete g => tileOk g
  | .halt g => tileOk g
  | .tileHalted g => tileOk g
  | .waitTok g => tileOk g
  | .waitTokRelease g => tileOk g
  | .waitTime g => tileOk g
  | .waitTimeRelease g => tileOk g
  | .barrier g => tileOk g
  | .barrierRelease b => barrierOk b
  | .phaseEnd g => tileOk g
  | .fence g => tileOk g
  | .fenceRelease g => tileOk g
  | .wload g => tileOk g
  | .mmaW g => tileOk g
  | .mmaS g => tileOk g
  | .accBind g => tileOk g
  | .accAdd g => tileOk g
  | .accOut g => tileOk g
  | .vld g => tileOk g
  | .vst g => tileOk g
  | .vop g => tileOk g
  | .vred g => tileOk g
  | .copy g => tileOk g
  | .prefetch g => tileOk g
  | .store g => tileOk g
  | .gather g => tileOk g
  | .dataMoverDone g _ => tileOk g
  | .gatherDone g _ => tileOk g
  | .send g => tileOk g
  | .sendDeparted g _ => tileOk g
  | .sendLanded _ => true
  | .post g => tileOk g
  | .put g => tileOk g
  | .illegalInstr g => tileOk g
  | .tileFaulted g => tileOk g
  | .tileHwFail g => tileOk g
  | .haltReq g => tileOk g
  | .haltReqDone g => tileOk g
  | .longWait g => tileOk g
  | .auditStatRead path g => pathOk path && tileOk g
  | .governorEstimate d _ => dieOk d
  | .scheduleStart => true
  | .flitUncorrScheduled d _ _ j => dieOk d && decide (j / 2 ^ 16 < 256 ^ 136)
  | .flitRetry d b => dieOk d && decide (b / 2 ^ 16 < 256 ^ 136)
  | .linkDown d _ _ => dieOk d
  | .tileFailed d _ _ => dieOk d
  | .routerFault d _ _ => dieOk d
  | .sramScrubTurn g _ _ _ _ => tileOk g
  | .hbmScrubStep m _ => stackOk m
  | .channelFail m c => stackOk m && channelOk c
  | .hbmWipeDone => true
  | .mapoutRetry m => stackOk m
  | .mapoutReq m => stackOk m
  | .critEcc _ _ _ => true
  | .load path d => pathOk path && dieOk d
  | .loadComplete => true
  | .start path d => pathOk path && dieOk d
  | .stop path d => pathOk path && dieOk d
  | .unload path d => pathOk path && dieOk d
  | .phaseChange => true
  | .latePhaseStart => true
  | .reshardDescDone _ => true
  | .reshardTimeout _ => true
  | .rxPost p f => portOk p && f.fits
  | .rxStreamData p vc f => portOk p && vcOk vc && f.fits
  | .ack path vc _ _ _ => lightOk path && vcOk vc
  | .nack path vc _ _ _ => lightOk path && vcOk vc
  | .resyncReq path vc l _ => lightOk path && vcOk vc && laneOk l
  | .resync path vc _ _ => lightOk path && vcOk vc
  | .ackTimeout path vc => lightOk path && vcOk vc
  | .pathDown path => lightOk path
  | .postRetry _ => true
  | .notifyRetry path vc => lightOk path && vcOk vc
  | .holdAckRepeat path vc => lightOk path && vcOk vc
  | .rxDiscard _ => true
  | .streamSlotGrant d => dieOk d
  | .queueRead d q => dieOk d && queueOk q
  | .queueCreate d q => dieOk d && queueOk q
  | .queueDestroy d q => dieOk d && queueOk q
  | .doorbell d q => dieOk d && queueOk q
  | .sessInv d => dieOk d
  | .peerFlush => true
  | .arrivalRead d => dieOk d
  | .failARead d => dieOk d
  | .controlWordReceive path vc _ _ => lightOk path && vcOk vc
  | .controlWordSend path vc => lightOk path && vcOk vc
  | .codewordReceive p l _ w => portOk p && laneOk l && symbolsOk w
  | .incWrite _ _ => true
  | .stepGo _ => true
  | .stepApply => true
  | .timeNowRead path => pathOk path
  | .srcWrite _ => true
  | .ppsPulse _ _ _ => true
  | .ppsLost => true
  | .syncLoss => true
  | .ztSyncSend path => lightOk path
  | .ztSyncRx p path _ _ _ => portOk p && lightOk path
  | .ztDreqSend => true
  | .ztDreqRx p _ _ => portOk p
  | .ztDrespRx path _ _ _ => lightOk path
  | .ptpSyncTx n => mgmtOk n
  | .ptpAnnounceTx n => mgmtOk n
  | .ptpSyncRx n _ _ _ _ => mgmtOk n
  | .ptpDelayReqRx n _ _ => mgmtOk n
  | .ptpDelayRespRx n _ _ _ _ => mgmtOk n
  | .captureEdge _ _ _ _ => true
  | .capTsRead _ => true
  | .triggerFire u => triggerOk u
  | .triggerCtrlWrite path u _ => pathOk path && triggerOk u
  | .ppsOutEnd => true
  | .combArm path e => pathOk path && engineOk e
  | .laserEnDrop => true
  | .laserEnStable => true
  | .combTecSettled e => engineOk e
  | .combLocked e => engineOk e
  | .combLockLost e _ => engineOk e
  | .combFail e => engineOk e
  | .toneCheckDone p l _ _ => portOk p && laneOk l
  | .errorCheckDone p l _ _ _ => portOk p && laneOk l
  | .laneLeaveService p l _ => portOk p && laneOk l
  | .probePulse p => portOk p
  | .light p => portOk p
  | .openFibre p => portOk p
  | .loopbackTimeout p => portOk p
  | .launchLimit p => portOk p
  | .relaunch p => portOk p
  | .controller e => engineOk e
  | .beaconSend p l => portOk p && laneOk l
  | .beaconReceive p l _ => portOk p && laneOk l
  | .missing p => portOk p
  | .stageDataWrite path _ => pathOk path
  | .activeDataRead path => pathOk path
  | .check path _ => pathOk path
  | .checkDone _ => true
  | .arm path _ => pathOk path
  | .cancel path _ => pathOk path
  | .clear path _ => pathOk path
  | .copyActive path _ => pathOk path
  | .drainStart => true
  | .startPointRefresh => true
  | .openFibreGuardEnd => true
  | .release => true
  | .switchReport => true
  | .switchNote p _ _ _ _ _ => portOk p
  | .steerSwitch p l => portOk p && laneOk l
  | .steerVisit p l _ => portOk p && laneOk l
  | .burstGapTimeout p l => portOk p && laneOk l
  | .present path _ => pathOk path
  | .loopFrame i _ _ _ => slotOk i
  | .deadlineMiss i => slotOk i
  | .descWrite path _ _ => pathOk path
  | .settleDone i => slotOk i
  | .acqFail i => slotOk i
  | .feedbackLost i => slotOk i
  | .heaterLimitTimeout i => slotOk i
  | .loopHwFail i => slotOk i
  | .telemetryUpdate _ _ _ => true
  | .traceArm _ => true
  | .flagFifoRead => true
  | .millraceFatal => true
  | .bar2Write _ _ => true
  | .bar2Read _ _ => true
  | .segBaseWrite path k _ _ => pathOk path && segmentOk k
  | .handoff path _ => pathOk path
  | .notifyFifoRead => true
  | .mboxGo path => pathOk path
  | .mboxDone => true
  | .msixUnmask v => decide (v < 128)
  | .pcieHotReset => true
  | .linkChange _ _ _ => true
  | .pcieD3hot _ => true
  | .perst => true
  | .perstRelease => true
  | .hello n _ _ => mgmtOk n
  | .regRead n _ _ _ _ => mgmtOk n
  | .regWrite n _ _ _ _ _ => mgmtOk n
  | .mgmtResetModule n _ _ => mgmtOk n
  | .mgmtResetWarm n _ _ => mgmtOk n
  | .updateData n _ _ _ _ => mgmtOk n
  | .mgmtBadRequest n _ _ => mgmtOk n
  | .neighborSolicitation n _ _ _ => mgmtOk n
  | .icmpv6Echo n _ _ _ _ _ _ => mgmtOk n
  | .mgmtLinkChange n _ => mgmtOk n
  | .sourceEdge i _ _ => sourceOk i
  | .claim k => targetOk k
  | .complete path k _ => pathOk path && targetOk k
  | .swSet _ => true
  | .swClr _ => true
  | .globalDisable _ => true
  | .srcCfgWrite i _ => sourceOk i
  | .fireClear _ => true
  | .auxStart _ _ _ _ => true
  | .inputRange _ => true
  | .overvoltageDisconnect => true
  | .switchReclose => true
  | .brownout _ _ => true
  | .auxStop => true
  | .cap => true
  | .thermWarn => true
  | .thermWarnClear => true
  | .thermTrip => true
  | .resume path _ => pathOk path
  | .stayStandbyWrite _ => true
  | .resetCtrlModule path _ => pathOk path
  | .resetCtrlReeve path _ => pathOk path
  | .moduleReset _ => true
  | .coldReset _ => true
  | .reeveWarmReset _ => true
  | .reeveBack => true
  | .wdtKick _ => true
  | .wdtExpired => true
  | .lcWrite path _ _ => pathOk path
  | .lcChanged => true
  | .firmware _ _ _ => true
  | .clock _ => true
  | .mainRails _ _ => true
  | .memory _ _ _ _ _ => true
  | .optics _ _ _ => true
  | .calibration _ _ _ => true
  | .done => true
  | .backupCharged => true
  | .calFull path => pathOk path
  | .laneCalStart path l => lightOk path && laneOk l
  | .calStart path l _ _ => lightOk path && laneOk l
  | .laneCalSweepDone _ => true
  | .calEnd path l _ _ => lightOk path && laneOk l
  | .calAbort path l _ _ => lightOk path && laneOk l
  | .laneCalTimeout ring => ringOk ring
  | .avsSample _ => true
  | .ledgerSave => true
  | .errorRateCheck => true
  | .advClear => true
  | .pageProgramDone _ => true
  | .cursorWrite path _ => pathOk path
  | .windowAdvance path => pathOk path
  | .logClear path _ => pathOk path
  | .postCode path _ => pathOk path
  | .traceSnapshot path _ => pathOk path
  | .download path _ => pathOk path
  | .verify path _ => pathOk path
  | .verifyDone _ => true
  | .activate path _ => pathOk path
  | .flashWritten _ _ => true
  | .handover _ => true
  | .handoverTimeout _ => true
  | .tableApply i => slotOk i
  | .confirm path _ => pathOk path
  | .abort path _ => pathOk path
  | .stageWrite path _ _ => pathOk path
  | .offerSend => true
  | .offer p _ _ _ _ _ => portOk p
  | .req p _ _ _ => portOk p
  | .data p _ _ _ => portOk p
  | .bcEnd p _ _ => portOk p
  | .chunkRerequest _ => true
  | .endRepeat => true
  | .bcTimeout => true
  | .fruWrite _ _ => true
  | .matrixVectorComplete g _ => tileOk g
  | .identityStale i => rxLaneOk i
  | .mainRailsPermitted _ => true
  | .capDisengaged => true
  | .laneCalSkipped path l => lightOk path && laneOk l

end Sys2Proof
end

