-- ==== Sys2Proof/Machine/Msg.lean ====
section
/-!
DEFINITION. The commands of the message engines (07_messaging.md), the tile's message instructions, and what a plan
switch does to credits and receive state (R427, R430, R431).
-/
namespace Sys2Proof.Machine

/-! ### Control frames received (R229-R231, R253, R259) -/

/-- Pairs whose frames a control frame can name: an outbound path of the plan. -/
def State.outPath (s : State) (path : Nat) : Bool := (s.plan.path false path).isSome

/-- Does SEQ a come at or before SEQ b (R230)? -/
def seqLe (a b : Nat) : Bool := decide ((b + 2 ^ 32 - a % 2 ^ 32) % 2 ^ 32 < 2 ^ 31)

/-- Peers that an acknowledgement names: of the frames it covers, else of the pair's last frame. -/
def Pair.peersOf (p : Pair) (rs : List Rep) : List (Nat × Nat × Nat × Nat) :=
  if rs.isEmpty then p.peer.toList else (rs.map fun r => (r.frame.slice, r.frame.dx, r.frame.dy, r.frame.dz)).eraseDups

/-- An ACK or NACK writes the entries of the peers it names (R253). -/
def State.peersSeen (s : State) (ks : List (Nat × Nat × Nat × Nat)) (epoch : Nat) : State :=
  ks.foldl (fun s k => s.peerSeen k epoch) s

/-- An ACK (R230, R243, R253): it covers every frame up to its SEQ, those that a timeout has marked to be sent again included. -/
def State.ackIn (s : State) (path vc epoch seq : Nat) (hold : Bool) : State :=
  let p := s.pair path vc
  let done := p.replay.filter fun r => seqLe r.frame.seq seq
  let s := s.peersSeen (p.peersOf done) epoch
  let s := s.setPair path vc { p with replay := p.replay.filter fun r => !seqLe r.frame.seq seq,
                                      timeouts := if done.isEmpty then p.timeouts else 0, hold := hold }
  done.foldl (fun s r => s.frameAcked r.op epoch r.frame.first) s

/-- A NACK (R230, R237, R245, R253). DEDUCED (log entry 330): one that retires a frame resets the count of consecutive timeouts, of
which R231 says only that progress in ACKs does. -/
def State.nackIn (s : State) (path vc epoch seq code : Nat) : State :=
  let p := s.pair path vc
  let hit := p.replay.filter fun r => decide (r.frame.seq = seq)
  let s := (s.peersSeen (p.peersOf hit) epoch).mcount (((s.plan.path false path).map fun e => e.port / 9).getD 0) mcNACK_IN
  let s := if code = 0x10 then s.inc MSG_B MSG.EPOCH_NACK_IN_COUNT else s
  match hit.head? with
  | none => s
  | some r =>
    (s.setPair path vc { p with replay := p.replay.filter fun r => decide (r.frame.seq ≠ seq), timeouts := 0 }).frameRefused r.op code

/-- Answer a resync. The module that starts a resync counts it (R259, log entry 299): number 0 is one that this receiver
starts. -/
def State.resyncAnswer (s : State) (path vc no : Nat) : State :=
  (if no = 0 then s.inc MSG_B MSG.RESYNCS_COUNT else s).resyncSend path vc no

/-- A RESYNC_REQ on lane l of an inbound path (R259): the answer waits for one on every lane in service. -/
def State.resyncReqIn (s : State) (path vc l no : Nat) : State :=
  match s.plan.path true path with
  | none => s
  | some e =>
    let r := s.rpair path vc
    let got := (if r.reqNo = no then r.reqs else []) ++ [l]
    let s := s.setRpair path vc { r with reqNo := no, reqs := got }
    if ((List.range 9).filter e.has).all fun k => decide (s.rxSt e.port k ≠ lnIN_SERVICE) || got.contains k
    then s.resyncAnswer path vc no else s

/-- A RESYNC (R259): the one asked for, or one that the receiver sends of itself, numbered 0 (R431, log entry 62). -/
def State.resyncIn (s : State) (path vc no free : Nat) : State :=
  let p := s.pair path vc
  if p.resync = some no ∨ (no = 0 ∧ p.resync = none) then s.setPair path vc { p with credits := free, resync := none } else s

/-! ### Timeouts (R227, R231) -/

/-- The oldest unacknowledged frame of a pair has waited ACK_TIMEOUT: resync and resend, or NO_ACK at the timeout after
RETRY_LIMIT resends (log entry 63). -/
def State.ackTimeout (s : State) (path vc : Nat) : State :=
  let p := s.pair path vc
  if p.replay.isEmpty then (if p.resync.isSome then s.resyncAsk path vc else s)
  else if p.timeouts < max 1 (s.get MSG_B MSG.RETRY_LIMIT_COUNT) then
    let s := s.setPair path vc { p with timeouts := p.timeouts + 1, replay := p.replay.map fun r => { r with sent := false } }
    s.resyncAsk path vc
  else
    let s := s.setPair path vc { p with timeouts := 0, replay := [], reset := true }
    ((p.replay.map Rep.op).eraseDups).foldl (fun s id => s.failMop id 0x22) s

/-- PATH_DOWN (R227): operations that wait for the path, or have a frame unacknowledged on it. -/
def State.pathDown (s : State) (path : Nat) : State :=
  let waits := (s.msg.ops.filter fun o => o.opened && decide (s.route o = some path) && decide (o.next < o.frames)).map MOp.id
  (List.range 2).foldl (fun s vc =>
    let p := s.pair path vc
    let ids := ((p.replay.map Rep.op) ++ waits.filter fun id => (s.mop id).elim false fun o => decide (o.vc = vc)).eraseDups
    let s := s.setPair path vc { p with replay := [], timeouts := 0, reset := p.reset || !p.replay.isEmpty }
    ids.foldl (fun s id => s.failMop id 0x21) s) s

/-! ### Stops (R244, R270) -/

/-- Does an operation wait on QUEUE_FULL, RX_BUSY, a slot or a light path, rather than on acknowledgements? -/
def MOp.waits (o : MOp) : Bool := !o.opened || decide (o.next < o.frames)

/-- The operations that sel names stop (R244): those that wait fail with STOPPED, the others end as usual. DEDUCED (log entry 333): a
stream that waits for the ACK of its first frame with frames unsent is one that waits. -/
def State.stopMops (s : State) (sel : MOp → Bool) : State :=
  (s.msg.ops.filter sel).foldl (fun s o =>
    if o.waits then s.failMop o.id 0x24 else s.setMop { o with stop := true }) s

/-- A tile is halted (R112, R244). -/
def State.haltTileMsg (s : State) (g : Nat) : State := (s.haltTile g).stopMops fun o => decide (o.kind ≠ 3 ∧ o.tile = g)

/-- Every tile is halted. -/
def State.haltAllMsg (s : State) : State := s.haltAll.stopMops fun o => decide (o.kind ≠ 3)

/-- A message engine is asked to quiesce: the tiles' POSTs and PUTs that wait without a frame sent fail with STOPPED, open
streams run on (R244, R270). -/
def State.quiesceEngine (s : State) (d : Nat) : State :=
  s.stopMops fun o => decide (o.die = d ∧ o.kind ≠ 3) && (!o.opened || o.backoff || decide (o.next = 0))

/-- Drop what message operations and walkers know of a wiped tile. -/
def State.dropTileMsg (s : State) (g : Nat) : State :=
  let s := s.dropOps fun o => decide (o.kind ≠ 3 ∧ o.tile = g)
  { s with msg.walking := s.msg.walking.filter fun x => decide (x.1 ≠ g) }.walkStart (g / 256)

/-- The whole block reset of a message engine (R256, R270). An operation that it holds back at its source, not yet opened, goes
on waiting there (R30, R31). -/
def State.engineReset (s : State) (d : Nat) : State :=
  let s := s.stopMops fun o => decide (o.die = d) && o.opened
  let s := s.blockResetRegs (MENG_B d / 4096)
  { s with
    msg.queues := s.msg.queues.filter fun e => decide (queueDie e.1 ≠ d)
    msg.rx := s.msg.rx.filter fun r => decide (r.die ≠ d)
    msg.walk := mdrop (d * 1024) ((d + 1) * 1024) s.msg.walk
    msg.arrivals := zset s.msg.arrivals d []
    msg.arrLost := zset s.msg.arrLost d false
    msg.fails := zset s.msg.fails d []
    msg.failLost := zset s.msg.failLost d false }

/-! ### Plan switches (R260, R427, R430, R431) -/

/-- The shares under a plan, by pair. -/
def Bank.shareMap (b : Bank) : List (Nat × Nat) :=
  (b.paths.filter fun e => e.inbound).flatMap fun e => [(pairKey e.id 0, b.share e.id 0), (pairKey e.id 1, b.share e.id 1)]

/-- The receive side forgets the inbound paths that the new plan has not (R427 step 7). -/
def State.dropGone (s : State) : State :=
  let gone := s.msg.rpairs.filter fun x => decide (x.1 / 2 ≠ localPath) && !(s.plan.path true (x.1 / 2)).isSome
  let s := gone.foldl (fun s x => match x.2.held with
    | some f => { s with msg.rx := s.msg.rx.map fun r => if f.rxOf r then { r with held := false } else r }
    | none => s) s
  { s with msg.rpairs := s.msg.rpairs.filter fun x => !(gone.map Prod.fst).contains x.1 }

/-- Held credits of retuned paths without an unaffected lane in service become 0 (R427 step 6). -/
def State.zeroCredits (s : State) : State :=
  s.xrds.retuned.foldl (fun s id => if s.pathServes id then s else
    (s.setPair id 0 { s.pair id 0 with credits := 0 }).setPair id 1 { s.pair id 1 with credits := 0 }) s

/-- Unit 31 fires, the steps of R427 in their order. -/
def State.switchAll (s : State) (t : Nat) : State :=
  if s.stageSt ≠ sgARMED then s else
  let was := s.plan
  let old := s.get XRDS_B XRDS.ACTIVE_EPOCH_VALUE
  let s := s.switchFire
  let s := { s with msg.shares := was.shareMap.foldl (fun (m : SMap Nat) (x : Nat × Nat) => zset m x.1 x.2) [], msg.due := s.xrds.retuned }
  (s.zeroCredits.dropGone.sparesEnd was).switchRegs old t s.xrds.affected

/-- The new shares come into force (R431): a path above its share drains its excess first; unaffected paths whose share
changes hear of it. -/
def State.applyShares (s : State) : State :=
  let old := s.msg.shares
  let new := s.plan.shareMap
  let s := { s with msg.shares := [], msg.owed := [] }
  let s := new.foldl (fun s x =>
    let r := s.rpair (x.1 / 2) (x.1 % 2)
    s.setRpair (x.1 / 2) (x.1 % 2) { r with excess := s.buffersKept (x.1 / 2) (x.1 % 2) - x.2 }) s
  let s := (List.range 72).foldl (fun s pv =>
    let mine := (new.filter fun x => decide (x.1 % 2 = pv % 2) && (s.plan.path true (x.1 / 2)).elim false fun e => decide (e.port = pv / 2))
    let ex := (mine.map fun x => (s.rpair (x.1 / 2) (x.1 % 2)).excess).foldl (· + ·) 0
    let heirs := sortBy Prod.fst (mine.filter fun x => decide (zget old x.1 < x.2))
    (heirs.foldl (fun (acc : State × Nat) x =>
      let n := min acc.2 (x.2 - zget old x.1)
      ({ acc.1 with msg.owed := zset acc.1.msg.owed x.1 n }, acc.2 - n)) (s, ex)).1) s
  new.foldl (fun s x =>
    if zget old x.1 = x.2 ∨ s.xrds.retuned.contains (x.1 / 2) then s else s.resyncAnswer (x.1 / 2) (x.1 % 2) 0) s

/-- The release instant (R430, R431). -/
def State.releaseAll (s : State) : State :=
  if s.xrds.toRelease = true ∧ s.reached ((s.swT + 900000) % 2 ^ 64) = true then s.releaseLanes.applyShares.msgSettle else s

/-! ### The tile's message instructions (R105, R225, R242) -/

/-- The operation a POST or PUT starts. -/
def State.tileMop (s : State) (g : Nat) (o : Op) : MOp :=
  let w := o.word
  let post := decide (iOp w = 0x60)
  let a := twAddr g (waddr o 50 32).toNat
  let e := s.job.img.dests.getD (bf w 79 64) default
  let big := decide (bf w 80 80 = 1)
  let n := bf w 111 96
  let note := if !post && decide (bf w 112 112 = 1) then some ((s.job.img.dests.getD (bf w 79 64 + 1) default).target % 2 ^ 18) else none
  { (default : MOp) with
    kind := if post then 0 else 1, die := g / 256, tile := g, seq := o.seq, arg := bf w 79 64, token := bf w 27 24, pc := o.pc,
    dest := e, big := big, notify := note, target := e.target, src := if post then a + 16 else a,
    bytes := if post then (if big then 240 else 48) else 32 * n, frames := if post then 1 else (n + 15) / 16 }

/-- Issue a POST or PUT to the mesh interface's queue and the message engine. -/
def State.issueMsg (s : State) (g opc : Nat) : State :=
  (s.issue g opc fun o s =>
    match s.issueFault o with
    | some (c, a) => s.tfault g o.pc c a
    | none =>
      if queueCap 4 ≤ (s.queue g 4).length then s.hold g 5
      else
        let s := s.audit g 4 o
        let s := s.setQueue g 4 (s.queue g 4 ++ [o])
        (({ s with tile.issued := zset s.tile.issued g (o.seq + 1) }).advance g).newMop (s.tileMop g o)).msgSettle

/-- POST (R105, R225). -/
def execPost (g : Nat) (s : State) : Res := s.live (s.issueMsg g 0x60)

/-- PUT (R105, R242). -/
def execPut (g : Nat) (s : State) : Res := s.live (s.issueMsg g 0x61)

/-- GATHER (R105, R249): it joins its tile's queue, and the walker takes it when it has room (R251). -/
def execGather (g : Nat) (s : State) : Res := s.live ((s.issueUnit g 0x43 3).walkStart (g / 256))

/-- GATHER_DONE (R249): operation k of the data mover, a GATHER that the walker has taken, is complete. A stack that holds back
requests or a mesh on the way keeps it waiting (R151, R155, R187). With the engine or the MSG block off it fails with ENGINE_OFF (R264). -/
def execGatherDone (g k : Nat) (s : State) : Res :=
  s.live (match (s.queue g 3)[k]? with
  | some o =>
    if iOp o.word = 0x43 ∧ s.engineRuns (g / 256) = true then
      if s.msg.walking.contains (g, o.seq) && !((s.walkReads g o).any (s.gatherHeld g)) then
        ((opGather g o s).completeOp g 3 k o).walkEnd g o.seq
      else s
    else if iOp o.word = 0x43 ∧ s.diePresent (g / 256) = true ∧ s.engineResets (g / 256) = false then
      (((s.pushFail (g / 256) ⟨0x16, 2, g % 256, bf o.word 83 64⟩).poisonWords g (waddr o 50 32).toNat (512 * bf o.word 107 100)).completeOp
        g 3 k o).walkEnd g o.seq
    else s
  | none => s)

/-- HALT_REQ (R112, R244): a write of 1 to TILE.CTRL.HALT_REQ. -/
def execHaltReq (g : Nat) (s : State) : Res := s.live (if s.tilePresent g then (s.haltTileMsg g).msgSettle else s)

/-! ### Commands -/

/-- RX_POST (R232, R236): a POST frame arrives at port p. -/
def execRxPost (p : Nat) (f : MsgFrame) (s : State) : Res :=
  s.live (if s.portOn p = true ∧ f.typ = 1 ∧ f.fits = true then (s.frameOffer p 1 f.slice f).msgSettle else s)

/-- RX_STREAM_DATA (R232, R242): a STREAM_DATA frame arrives at port p on VC0 or VC1. -/
def execRxStreamData (p vc : Nat) (f : MsgFrame) (s : State) : Res :=
  s.live (if s.portOn p = true ∧ f.typ = 2 ∧ f.fits = true ∧ vc < 2 then (s.frameOffer p vc f.slice f).msgSettle else s)

/-- ACK (R230). -/
def execAck (path vc epoch seq hold : Nat) (s : State) : Res :=
  s.live (if s.outPath path = true ∧ vc < 2 then ((s.countReturn path).ackIn path vc epoch seq (decide (hold % 2 = 1))).msgSettle else s)

/-- NACK (R245). -/
def execNack (path vc epoch seq code : Nat) (s : State) : Res :=
  s.live (if s.outPath path = true ∧ vc < 2 then ((s.countReturn path).nackIn path vc epoch seq code).msgSettle else s)

/-- RESYNC_REQ (R259) on lane l of the path. -/
def execResyncReq (path vc l no : Nat) (s : State) : Res :=
  s.live (if vc < 2 ∧ l < 9 then (s.countPath path).resyncReqIn path vc l no else s)

/-- RESYNC (R259). -/
def execResync (path vc no free : Nat) (s : State) : Res :=
  s.live (if s.outPath path = true ∧ vc < 2 then ((s.countReturn path).resyncIn path vc no free).msgSettle else s)

/-- ACK_TIMEOUT (R231): only while a lane of the set is in service. -/
def execAckTimeout (path vc : Nat) (s : State) : Res :=
  s.live (if s.outPath path = true ∧ vc < 2 ∧ s.pathServes path = true then (s.ackTimeout path vc).msgSettle else s)

/-- PATH_DOWN (R227). -/
def execPathDown (path : Nat) (s : State) : Res :=
  s.live (if s.outPath path = true ∧ s.pathServes path = false then (s.pathDown path).msgSettle else s)

/-- POST_RETRY (R237): operation id leaves its backoff. -/
def execPostRetry (id : Nat) (s : State) : Res :=
  s.live (match s.mop id with
  | some o => if o.backoff then (s.setMop { o with backoff := false }).msgSettle else s
  | none => s)

/-- NOTIFY_RETRY (R243): the frame held on an inbound pair, or on the local one, tries its notify post again. -/
def State.notifyRetry (s : State) (path vc : Nat) : State :=
  match (s.rpair path vc).held with
  | none => s
  | some f => match s.rxFind f with
    | none => s
    | some r =>
      if s.queueHeld (f.notifyQ % 2 ^ 18) then s else
      let (e, s) := s.rxNotify f r
      if e = .held then s
      else
        let s := s.rxAnswer path vc f e
        if path = localPath then
          let p := s.pair path vc
          match p.replay.find? fun x => x.frame.seq = f.seq with
          | some x => (s.setPair path vc { p with hold := false }).localEnd vc x (some e)
          | none => s
        else s
def execNotifyRetry (path vc : Nat) (s : State) : Res := s.live (if vc < 2 then (s.notifyRetry path vc).msgSettle else s)

/-- HOLD_ACK_REPEAT (R243). -/
def execHoldAckRepeat (path vc : Nat) (s : State) : Res :=
  s.live (if vc < 2 ∧ (s.rpair path vc).held.isSome = true then s.ackAgain path vc else s)

/-- RX_DISCARD (R255): receive record k has had no frame for 2 ms; a held one stays. -/
def execRxDiscard (k : Nat) (s : State) : Res :=
  s.live (match s.msg.rx[k]? with
  | some r =>
    if r.held then s
    else ({ s with msg.rx := s.msg.rx.eraseIdx k }.mcount r.die mcRX_DISCARD).raise (MENG_B r.die) 4
  | none => s)

/-- The releasing slots of a die become FREE and go to the operations that wait (R241). -/
def State.slotGrant (s : State) (d : Nat) : State :=
  { s with msg.leaving := s.msg.leaving.filter fun x => decide (x.1 ≠ d) }.msgSettle

/-- STREAM_SLOT_GRANT (R241). -/
def execStreamSlotGrant (d : Nat) (s : State) : Res := s.live (if s.diePresent d then s.slotGrant d else s)

/-- QUEUE_READ (R240): QCMD with OP 0 on die d's page. -/
def execQueueRead (d q : Nat) (s : State) : Res := s.live (if s.diePresent d then s.queueCmd d 0 (q % 2 ^ 18) else s)
/-- QUEUE_CREATE (R240). -/
def execQueueCreate (d q : Nat) (s : State) : Res := s.live (if s.diePresent d then s.queueCmd d 1 (q % 2 ^ 18) else s)
/-- QUEUE_DESTROY (R240). -/
def execQueueDestroy (d q : Nat) (s : State) : Res := s.live (if s.diePresent d then s.queueCmd d 2 (q % 2 ^ 18) else s)

/-- DOORBELL (R238): a queue homed on the die whose page is written; held back during the engine's block reset (R31) and while
the stack of its consumer block takes no request (R187). -/
def State.doorbell (s : State) (d q : Nat) : State :=
  if s.engineResets d || s.queueHeld q then s.offer (.doorbell d q)
  else if queueDie q = d then (s.queueUse q).readConsumer q else s
def execDoorbell (d q : Nat) (s : State) : Res := s.live (if s.diePresent d then s.doorbell d (q % 2 ^ 18) else s)

/-- SESS_INV (R250), held back during the engine's block reset (R31). -/
def State.sessInv (s : State) (d : Nat) : State :=
  if s.engineResets d then s.offer (.sessInv d)
  else { s with msg.walk := mdrop (d * 1024) ((d + 1) * 1024) s.msg.walk }
def execSessInv (d : Nat) (s : State) : Res := s.live (if s.diePresent d then s.sessInv d else s)

/-- PEER_FLUSH (R265). -/
def State.peerFlush (s : State) : State := { s with msg.peers := [] }
def execPeerFlush (s : State) : Res := s.live s.peerFlush

/-- ARRIVAL_READ (R268): the value read goes out. -/
def execArrivalRead (d : Nat) (s : State) : Res :=
  s.live (if s.diePresent d then (let (v, s) := s.arrivalRead d; s.emit .read [v]) else s)

/-- FAIL_A_READ (R268). -/
def execFailARead (d : Nat) (s : State) : Res :=
  s.live (if s.diePresent d then (let (v, s) := s.failRead d; s.emit .read [v]) else s)

/-- RX_OK bits of an outbound path (R320): a bit that falls takes its lane out of service. -/
def State.rxOkIn (s : State) (e : PathEnt) (bits : Nat) : State :=
  ((List.range 9).filter e.has).foldl (fun s l =>
    let ok := bits.testBit l
    let s := s.put (PORT_B e.port) (laneF PORT.LSTAT_RX_OK_FAR l) (if ok then 1 else 0)
    if ok then s.tryTxService e.port l
    else if serving (s.txSt e.port l) then (s.txLeave e.port l lnCHECKING false).sendBeacon e.port l else s) s

/-- The lanes of an outbound path's return path that are in service here (R319). -/
def State.returnLanes (s : State) (e : PathEnt) : List Nat :=
  (s.plan.path true e.ret).elim [] fun r => ((List.range 9).filter r.has).filter fun l => serving (s.rxSt r.port l)

/-- A control word (R319, R320): credits for a path and VC, where a lane in service of the return path brings them, and the state
of the path's lanes at the far end. -/
def State.controlIn (s : State) (path vc credits rxok : Nat) (up : PathEnt → Bool) : State :=
  match s.plan.path false path with
  | none => s
  | some e =>
    let p := s.pair path vc
    let s := if up e then s.setPair path vc { p with credits := p.credits + credits % 4096 } else s
    (s.rxOkIn e rxok).msgSettle

/-- CONTROL_WORD_RECEIVE (R319): a sender with no lane in service on its return path receives no credits. -/
def execControlWordReceive (path vc credits rxok : Nat) (s : State) : Res :=
  s.live (if vc < 2 then s.controlIn path vc credits rxok fun e => !(s.returnLanes e).isEmpty else s)

/-- Lanes of a path that are launched, and so carry codewords. -/
def State.launched (s : State) (e : PathEnt) : List Nat :=
  ((List.range 9).filter e.has).filter fun l => lit (s.txSt e.port l) && s.leadsTo e.port l e.id

/-- RX_OK bits of an inbound path, by the lane of its add port: the lanes of both ends carry the same numbers. -/
def State.rxOkOut (s : State) (e : PathEnt) : Nat :=
  ((List.range 9).filter fun l => e.has l && serving (s.rxSt e.port l)).foldl (fun m l => m + 2 ^ l) 0

/-- The pending credits and RX_OK bits of an inbound path go out in a codeword's control word, on the first launched lane l of its
return path r. -/
def State.returnCredits (s : State) (e r : PathEnt) (l vc : Nat) : State :=
  let x := s.rpair e.id vc
  let n := min x.pend 4095
  (s.setRpair e.id vc { x with pend := x.pend - n }).sendCodeword r.port l 0 [] e.id vc n (s.rxOkOut e)

/-- CONTROL_WORD_SEND (R319): the credits and RX_OK of a path and VC, on its return path. -/
def execControlWordSend (path vc : Nat) (s : State) : Res :=
  s.live (match s.plan.path true path with
  | some e => if vc < 2 then
      (match s.plan.path false e.ret with
       | some r => ((s.launched r).head?).elim s fun l => s.returnCredits e r l vc
       | none => s)
    else s
  | none => s)

end Sys2Proof.Machine
end

