-- ==== Sys2Proof/Machine/Job.lean ====
section
/-!
DEFINITION. The job (06_contract.md): loads, phase changes, the reshard engines' descriptors, and stops.
-/
namespace Sys2Proof.Machine

/-! ### Loads (R211, R212) -/

/-- Wipe every tile as a TILE block reset does and disable its page (R123, R212): its registers stay. -/
def State.wipeTiles (s : State) : State :=
  let s : State := s.tiles.foldl (fun s g =>
    let b := TILE_B g
    let s := (((s.wipeTile g).dropTileMsg g).setT g tsEMPTY 0).put b TILE.STATUS_LOOP_DEPTH 0
    ((s.put b TILE.CTRL_HALT_REQ 0).put b hCTRL_ENABLE 0).put b hSTAT_READY 0) s
  { s with flights := [] }

/-- What loading an image clears in a tile's page (R119, R122): the flags, FLAG_PC, tokens, index registers, EBASE, the
cycle counters, and the fault of a hardware check, which is set again if the check still fails. -/
def State.clearTileRegs (s : State) (g : Nat) : State :=
  let b := TILE_B g
  let s := ((s.put b ⟨0x44, 7, 0⟩ 0).put b hSTAT_FAULT 0).setPc g 0
  ([0x4C, 0x50, 0x54, 0x58, 0x5C] ++ (List.range 7).map (fun k => 0x60 + 4 * k) ++ (List.range 10).map (fun k => 0x80 + 4 * k)).foldl
    (fun s o => s.wr (b + o) 0) s

/-- ENABLE of the MESH and RESHARD pages of every present die is 0; a wiped tile's is 0 already (R123). -/
def State.meshOff (s : State) : State :=
  (List.range 4).foldl (fun s d =>
    if s.diePresent d then (s.put (MESH_B d) hCTRL_ENABLE 0).put (RESHARD_B d) hCTRL_ENABLE 0 else s) s

/-- The reshard engines abandon what they were doing (R211, R221, R244). -/
def State.reshardAbandon (s : State) : State := s.reshardStop.abandonStreams fun _ => true

/-- No slot schedule is in force once the image has gone (R152). -/
def State.schedOff (s : State) : State :=
  (List.range 4).foldl (fun s d => (s.put (MESH_B d) MESH.SCHED_STAT_LOADED 0).put (MESH_B d) MESH.SCHED_STAT_SLOTS 0) s

/-- The first step of a load: everything of the last image goes (R212 step 1). -/
def State.loadBegin (s : State) : State :=
  let s := (((s.reshardAbandon.disarm).wipeTiles).meshOff).schedOff
  let s : State := s.tiles.foldl State.clearTileRegs s
  let s := { s with job.img := default, job.arrivals := [], job.rsDone := [], job.rsGot := [], job.rsPiece := [], job.rsOpen := [] }
  (s.put jobB DIE.JOB_STAT_FAIL_CAUSE 0).put jobB DIE.JOB_STAT_STATE jsLOADING

/-- The image area's address and length, and its bytes. -/
def State.imgAddr (s : State) : Nat := s.job.area.1
def State.imgLen (s : State) : Nat := s.job.area.2
def State.imgBytes (s : State) : List Byte × State :=
  if s.presentRange s.imgAddr s.imgLen then
    let (bs, s) := s.readRange s.imgAddr s.imgLen
    (bs.map Prod.fst, s)
  else ([], s)

/-- A load ends in REFUSED (R212 step 2, R463). -/
def State.loadRefused (s : State) (r : Refuse) : State :=
  let s := ((s.put jobB DIE.REFUSE_CODE r.1).put jobB DIE.REFUSE_SECTION r.2.1).put jobB DIE.JOB_STAT_STATE jsREFUSED
  let s := (s.put jobB DIE.REFUSE_ARG_LO r.2.2.1).put jobB DIE.REFUSE_ARG_HI r.2.2.2
  (s.raise s.jobPage 1).handBack s.imgAddr s.imgLen

/-- Two instructions to a word of the instruction store (R82). -/
def instrWords : List Nat → List Nat
  | a :: b :: l => (a % 2 ^ 128 + b % 2 ^ 128 * 2 ^ 128) :: instrWords l
  | [a] => [a % 2 ^ 128]
  | [] => []

/-- Write a stream into its tile's instruction store, enable the tile and enter LOADED (R212 steps 3 and 4). -/
def State.writeStream (s : State) (g : Nat) (code : List Nat) : State :=
  let ws := instrWords code
  let s : State := (List.range ws.length).foldl (fun s i => s.setUnit (instrAddr g (32 * i)) (ws.getD i 0) false) s
  ((s.put (TILE_B g) hCTRL_ENABLE 1).put (TILE_B g) hSTAT_READY 1).setT g tsLOADED 0

/-- Write contents record i of an image (R201). -/
def State.writeContents (s : State) (img : List Byte) (i : Nat) : State :=
  let o := recOff img 5 i
  s.writeRange (le img o 8) (withPoison false ((img.drop ((sectOf img 0xD).off + le img (o + 8) 8)).take (le img (o + 16) 8)))

/-- The dies an image uses. -/
def Image.usesDie (im : Image) (d : Nat) : Bool :=
  (im.streams.any fun x => decide (x.tile / 256 = d)) || (im.places.any fun x => decide (x.tile / 256 = d))
    || im.reshard.any fun x => decide (x.die = d)

/-- Enable the engines of a die that the image uses, and clear the counts kept since the load (R152, R212, R223). -/
def State.loadDie (s : State) (im : Image) (d : Nat) : State :=
  if s.diePresent d then
    let s := (s.put (MESH_B d) MESH.LATE_SENDS_COUNT 0).put64 (DIE_B d) DIE.GOV_CYC_LO 0
    let s := (s.put64 (RESHARD_B d) RESHARD.BYTES_OUT_LO 0).put64 (RESHARD_B d) RESHARD.BYTES_IN_LO 0
    if im.usesDie d then
      ((s.put (MESH_B d) hCTRL_ENABLE 1).put (RESHARD_B d) hCTRL_ENABLE 1).put (MENG_B d) hCTRL_ENABLE 1
    else s
  else s

/-- A load ends in LOADED (R212 steps 3 to 5, R463). -/
def State.loadAccepted (s : State) (img : List Byte) : State :=
  let im := parseImage img
  let codes := imageCodes img im
  let s : State := (im.streams.zip codes).foldl (fun s x => s.writeStream x.1.tile x.2) s
  let s : State := (List.range (sectOf img 5).count).foldl (fun s i => s.writeContents img i) s
  let s : State := (List.range 4).foldl (fun s d => s.loadDie im d) s
  let s := s.put64 jobB DIE.SEED_LO_SEED (le img 16 8)
  let s : State := (List.range 4).foldl (fun s i => s.put jobB (DIE.BUILD_ID.at i 4) (le img (32 + 4 * i) 4)) s
  let s := { s with job.img := im, job.seed := le img 16 8 }
  ((s.put jobB DIE.JOB_STAT_STATE jsLOADED).raise s.jobPage 0).handBack s.imgAddr s.imgLen

/-- Does a stack that an image's contents go to hold back requests (R187)? The load then waits. -/
def State.contentsHeld (s : State) (img : List Byte) : Bool :=
  (List.range (sectOf img 5).count).any fun i => s.memHeld (le img (recOff img 5 i) 8)

/-- The loader's checks and writes (R212, R213). -/
def State.loadEnd (s : State) : State :=
  let (img, s) := s.imgBytes
  match checkImage s s.imgAddr s.imgLen img with
  | some r => s.loadRefused r
  | none => if s.contentsHeld img then s else s.loadAccepted img

/-! ### Phase starts (R216-R218, R135) -/

/-- Arm a change to a phase at an instant. -/
def State.arm (s : State) (p t : Nat) (auto : Bool) : State :=
  let s := (s.put jobB DIE.JOB_STAT_ARMED 1).put jobB DIE.JOB_STAT_AUTO (if auto then 1 else 0)
  { s.put jobB DIE.JOB_STAT_ARMED_PHASE p with job.armT := t % 2 ^ 64 }

/-- Reshard descriptors of the current phase, by index from RESHARD_FIRST. -/
def State.rsDesc (s : State) (i : Nat) : RsDesc := s.job.img.reshard.getD ((s.phaseEnt s.phase).rsFirst + i) default
def State.rsOf (s : State) (d : Nat) : List Nat := (List.range (s.phaseEnt s.phase).rsCount).filter fun i => decide ((s.rsDesc i).die = d)

/-- Die d's reshard engine starts the phase's descriptors (R217, R223). -/
def State.reshardBegin (s : State) (d : Nat) : State :=
  let n := (s.rsOf d).length
  let b := RESHARD_B d
  let s := ((s.put b RESHARD.DESC_TOTAL_COUNT n).put b RESHARD.DESC_DONE_COUNT 0).put b RESHARD.STAT_FAILED 0
  if n = 0 then (s.put b RESHARD.STAT_ACTIVE 0).put b RESHARD.STAT_DONE 1
  else ((s.put b RESHARD.STAT_ACTIVE 1).put b RESHARD.STAT_DONE 0).put b RESHARD.STAT_PHASE s.phase

/-- The schedule that a MESH page reports (R154). -/
def State.schedBegin (s : State) (d : Nat) : State :=
  let n := (s.phaseEnt s.phase).slotCount
  let m := MESH_B d
  ((s.put m MESH.SCHED_STAT_SLOTS n).put m MESH.SCHED_STAT_PHASE s.phase).put m MESH.SCHED_STAT_LOADED (if n = 0 then 0 else 1)

/-- The dies' part of a phase start. -/
def State.diesBegin (s : State) : State :=
  (List.range 4).foldl (fun s d => if s.diePresent d then (s.reshardBegin d).schedBegin d else s) s

/-- The destinations in this module of phase p's reshard descriptors that feed a barrier (R219). -/
def State.rsDestinations (s : State) (p : Nat) : List (Nat × Nat × Nat) :=
  ((s.job.img.reshard.drop (s.phaseEnt p).rsFirst).take (s.phaseEnt p).rsCount).flatMap fun d =>
    if d.barrier = 0xFF then [] else (rsDsts d).map fun r => (d.barrier, r.1.toNat, r.2)

/-- Phase p starts at instant t (R217): what an earlier phase's reshard engines had left is dropped. -/
def State.phaseStart (s : State) (p t : Nat) : State :=
  let s := s.reshardAbandon
  let s := (s.put jobB DIE.JOB_STAT_PHASE p).put64 jobB DIE.PHASE_START_LO_NS t
  let s := { s with
    job.seed := s.get64 jobB DIE.SEED_LO_SEED, job.arrivals := [], job.rsDone := [], job.rsGot := [], job.rsPiece := []
    job.rsOpen := s.rsDestinations p, job.rsRun := true, job.starting := true, job.late := none, tile.slotUse := [] }
  let s := (s.put64 jobB ⟨0x78, 31, 0⟩ 0).diesBegin
  let s := ((s.put jobB DIE.JOB_STAT_STATE jsRUNNING).powerTo 2 3).raise s.jobPage 2
  let e := s.phaseEnt p
  if e.flags % 2 = 1 then s.arm e.succ (t + e.duration) true else s

/-- The tiles with a stream that a phase change finds late (R217, R218). -/
def State.lateTiles (s : State) : List Nat :=
  s.tiles.filter fun g => (s.job.img.streams.any fun x => decide (x.tile = g)) &&
    !(decide (s.tstate g = tsPHASE_END) || decide (s.tstate g = tsHALTED) || decide (s.tstate g = tsLOADED))

/-- Record the late tiles in LATE (R210). -/
def State.recordLate (s : State) (l : List Nat) : State :=
  let g := l.headD 0
  ((s.put jobB DIE.LATE_TILES l.length).put jobB DIE.LATE_FIRST_DIE (g / 256)).put jobB DIE.LATE_FIRST_TILE (g % 256)

/-- The ACTIVE plan's epoch at instant t, after a plan switch armed for that instant or for an earlier one (R217). -/
def State.epochAt (s : State) (t : Nat) : Nat :=
  if s.stageSt = sgARMED ∧ s.trigArmed 31 = true ∧ s.get64 TRIGGERS_B (trigF TRIGGERS.TIME_LO 31) ≤ t then s.stagedPlan.epoch
  else s.plan.epoch

/-- The plan check, and the start (R217 check 3). -/
def State.planAndStart (s : State) (p t : Nat) : State :=
  let e := s.phaseEnt p
  if e.flags / 4 % 2 = 1 ∧ s.epochAt t ≠ e.planEpoch then s.jobFails 4 else s.phaseStart p t

/-- The armed change takes place (R216-R218). -/
def State.phaseChange (s : State) : State :=
  let p := s.get jobB DIE.JOB_STAT_ARMED_PHASE
  let t := s.job.armT
  let s := (s.put jobB DIE.JOB_STAT_ARMED 0).put jobB DIE.JOB_STAT_AUTO 0
  if s.tiles.any fun g => decide (s.tstate g = tsFAULTED) then (s.jobFails 2).haltAllMsg
  else
    let l := s.lateTiles
    let s := s.recordLate l
    if l = [] then s.planAndStart p t
    else if (s.phaseEnt p).flags / 2 % 2 = 1 then { s with job.late := some (p, t) }
    else (s.jobFails 1).haltAllMsg

/-- Is an armed change due (R216)? -/
def State.changeDue (s : State) : Bool :=
  s.bit jobB DIE.JOB_STAT_ARMED && s.reached s.job.armT && (decide (s.jobState = jsLOADED) || decide (s.jobState = jsRUNNING))

/-- The late change proceeds (R218). DEDUCED (log entry 325): LATE_NS and PHASE_LATE come before the plan check of R217, also where
that fails. -/
def State.lateStart (s : State) (p t : Nat) : State :=
  let now := s.nowNs
  let delay := (now + 2 ^ 64 - t) % 2 ^ 64
  let s := { (s.put jobB DIE.LATE_NS_NS (min delay (2 ^ 32 - 1))).raise s.jobPage 5 with job.late := none }
  if s.tiles.any fun g => decide (s.tstate g = tsFAULTED) then (s.jobFails 2).haltAllMsg else s.planAndStart p now

/-- The tiles issue from their entry points, and the schedule cycle counters start at 0 (R135, R217). -/
def State.scheduleStart (s : State) : State :=
  let p := s.phase
  let s : State := (List.range 4).foldl (fun s d => if s.diePresent d then s.put64 (MESH_B d) MESH.SCHED_CYC_LO 0 else s) s
  let s : State := s.job.img.streams.foldl (fun s x =>
    let e := x.entries.getD p 0xFFFF
    if e ≠ 0xFFFF ∧ (s.tstate x.tile = tsLOADED ∨ s.tstate x.tile = tsPHASE_END) then (s.setT x.tile tsRUNNING 0).setPc x.tile e
    else s) s
  -- a mesh that quiesces lets no scheduled word of the new phase in (R155)
  let s := { s with tile.hold := s.tile.hold.map fun (e : Nat × Option Nat) => (e.1, e.2.map fun _ => 0) }
  ({ s with job.starting := false }).settleJob

/-! ### Reshard descriptors (R220, R221) -/

/-- Copy piece n of a descriptor within the module, poison included (R220). -/
def State.copyPiece (s : State) (d : RsDesc) (n : Nat) : State :=
  let (bs, s) := s.readRange (Int.ofNat d.src + d.offset d.sstr n).toNat d.piece
  s.writeRange (Int.ofNat d.dst + d.offset d.dstr n).toNat bs

/-- Has descriptor i nothing left to do (R221)? A LOCAL one is copied as it completes. -/
def State.rsFinished (s : State) (i : Nat) : Bool :=
  let d := s.rsDesc i
  if d.kind = 0 then true
  else if d.kind = 1 then decide (zget s.job.rsPiece i = d.pieces) && !(s.msg.ops.any fun o => decide (o.kind = 3 ∧ o.arg = i))
  else (rsDsts d).all fun r => (firstOutside s.job.rsGot (s.job.rsGot.length + 1) r.1.toNat (r.1.toNat + r.2)).isNone

/-- Does descriptor i run? Its engine is on and has not been reset since the phase's start (R223). -/
def State.rsRunning (s : State) (i : Nat) : Bool :=
  let b := RESHARD_B (s.rsDesc i).die
  s.job.rsRun && decide (i < (s.phaseEnt s.phase).rsCount) && !decide (i ∈ s.job.rsDone) && s.on b && s.bit b RESHARD.STAT_ACTIVE

/-- Does a stack that holds back requests, or a mesh on the way, keep descriptor i's pieces from being copied (R151, R155,
R187)? -/
def State.rsHeld (s : State) (i : Nat) : Bool :=
  let d := s.rsDesc i
  decide (d.kind = 0) && ((rsSrcs d ++ rsDsts d).any fun r => s.memHeld r.1.toNat || s.engineHeld d.die r.1.toNat)

/-- Descriptor i completes (R204, R221, R223). -/
def State.rsComplete (s : State) (i : Nat) : State :=
  let d := s.rsDesc i
  let b := RESHARD_B d.die
  let s : State := if d.kind = 0 then
      ((List.range d.pieces).foldl (fun s n => s.copyPiece d n) s).add64 b RESHARD.BYTES_OUT_LO (d.pieces * d.piece)
    else s
  let s := { s.put b RESHARD.DESC_DONE_COUNT (s.get b RESHARD.DESC_DONE_COUNT + 1) with job.rsDone := s.job.rsDone ++ [i] }
  -- a barrier of no arrivals is released as its condition is met (R204)
  let free := (s.barrier d.barrier).elim false fun r => decide (r.kind = 0 ∧ r.arrivals = 0) && s.reshardMet d.barrier
  let s := if free then s.rsReleased d.barrier else s
  if (s.rsOf d.die).all fun j => decide (j ∈ s.job.rsDone) then
    ((s.put b RESHARD.STAT_DONE 1).put b RESHARD.STAT_ACTIVE 0).raise b 0
  else s

/-- Has the deadline of descriptor i passed (R221)? -/
def State.rsLate (s : State) (i : Nat) : Bool :=
  let us := s.get (RESHARD_B (s.rsDesc i).die) RESHARD.TIMEOUT_US
  decide (us ≠ 0) && s.reached (s.get64 jobB DIE.PHASE_START_LO_NS + us * 1000)

/-! ### JOB_CTRL (R211) -/

/-- STOP: tiles and reshard engines stop, and no change stays armed. -/
def State.jobStop (s : State) : State := ((s.haltAllMsg).reshardAbandon).jobEnds jsSTOPPED

/-- UNLOAD: the tiles are wiped and the image is discarded. -/
def State.jobUnload (s : State) : State :=
  let s := (((s.reshardAbandon.disarm).wipeTiles).meshOff).schedOff
  { s.put jobB DIE.JOB_STAT_STATE jsEMPTY with job.img := default, job.rsOpen := [] }.powerTo 3 2

/-- START: arm NEXT, after an armed change that is due has taken place (R216). -/
def State.jobStart (s : State) (path page : Nat) : State :=
  let p := s.get jobB DIE.NEXT_PHASE
  let n := s.job.img.phases.length
  if n ≤ p then s.recErr page 17 0x8302 path (p + n * 16)
  else
    let t := s.get64 jobB DIE.NEXT_TIME_LO_NS
    let s := if s.changeDue then s.phaseChange else s
    if s.jobState = jsLOADED ∨ s.jobState = jsRUNNING then s.arm p t false else s

/-- LOAD: the load of the image that IMG_ADDR and IMG_BYTES name begins. -/
def State.jobLoad (s : State) : State :=
  { s with job.area := (s.get64 jobB DIE.IMG_ADDR_LO_ADDR % 2 ^ 40, s.get64 jobB DIE.IMG_BYTES_LO_BYTES % 2 ^ 40) }.loadBegin

/-- In which job states a command bit is accepted: LOAD, START, STOP, UNLOAD. -/
def jobAccepts (bit st : Nat) : Bool :=
  if bit = 0 then decide (st = jsEMPTY ∨ st = jsLOADED ∨ st = jsREFUSED ∨ st = jsDONE ∨ st = jsSTOPPED ∨ st = jsFAILED)
  else if bit = 1 then decide (st = jsLOADED ∨ st = jsRUNNING)
  else if bit = 2 then decide (st = jsLOADING ∨ st = jsRUNNING)
  else decide (st = jsLOADED ∨ st = jsREFUSED ∨ st = jsDONE ∨ st = jsSTOPPED ∨ st = jsFAILED)

/-- A write of JOB_CTRL through the DIE page at `page`, served now (R211, R521). ERR_ADDR_LO of JOB_BUSY holds the bits
written in [3:0] and STATE from bit 8. -/
def State.jobCtrl (s : State) (path page v : Nat) : State :=
  let w := v % 16
  if w = 0 then s
  else
    let bit := w.log2
    if w ≠ 2 ^ bit ∨ s.bit POWER_B POWER.STATE_HOLD = true ∨ jobAccepts bit s.jobState = false then
      s.recErr page 16 0x8301 path (w + s.jobState * 256)
    else if bit = 0 then s.jobLoad
    else if bit = 1 then s.jobStart path page
    else if bit = 2 then s.jobStop
    else s.jobUnload

/-- A write of JOB_CTRL: during a Reeve warm reset it waits (R211). -/
def State.jobCtrlWrite (s : State) (path page v : Nat) : State :=
  if s.reeve.down then { s with reeve.held := s.reeve.held ++ [(path, page + 0x40, v)] }
  else (s.jobCtrl path page v).msgSettle

end Sys2Proof.Machine
end

