-- ==== Sys2Proof/Machine/Reset.lean ====
section
/-!
DEFINITION. Resets (R505-R513): what a module reset and a cold reset keep, the backup domain, the boot ROM's choice,
the Reeve warm reset, and the wait before the main rails (R518).
-/
namespace Sys2Proof.Machine

/-! ### What is kept (R506) -/

def allOnes : Nat := 2 ^ 32 - 1

/-- Pages of which a module reset leaves every field: TIME (R273), Belfry (R491) and the descriptor table (R385). -/
def wholePage (p : Nat) : Bool := decide (p = 0x20) || (decide (0x30 ≤ p) && decide (p < 0x38)) || (decide (0x100 ≤ p) && decide (p < 0x120))

/-- Bits of the CROSSROADS pages that a module reset keeps: all but ENABLE and the slice drops (R354, R369). -/
def keepXrds (a : Nat) : Nat := if a = XRDS_B + 0x0C then allOnes - 1 else if XRDS_B + 0x4180 ≤ a then 0 else allOnes

/-- Counts "since cold reset", live states, the links of the management ports and trigger unit 31 (R296, R444, R447,
R506, R554, R563). -/
def keepNamed (a : Nat) : Nat :=
  if a = AGEING_B + 0x58 ∨ a = CLAIM_B + 0x5C ∨ a = CLAIM_B + 0x60 ∨ a = LOG_B + 0x40 ∨ a = LOG_B + 0x5C ∨ a = LOG_B + 0x64 then allOnes
  else if a = CLAIM_B + 0x58 then 0x101
  else if a = MGMT_B 0 + 0x44 ∨ a = MGMT_B 1 + 0x44 then 1
  else if a = TRIGGERS_B + 0x44 then 2 ^ 31
  else if TRIGGERS_B + 0x100 + 31 * 0x20 ≤ a ∧ a < TRIGGERS_B + 0x100 + 32 * 0x20 then allOnes else 0

/-- Bits of a register that a module reset keeps. A block reset of Belfry in progress is superseded (R33). -/
def keepModule (a : Nat) : Nat :=
  let p := a / 4096
  if a = BELFRY_B + 0x0C then allOnes - 2
  else if wholePage p then allOnes
  else if 0x80 ≤ p ∧ p < 0x85 then keepXrds a
  else ((rowAt a).map RegRow.keepModule).getD 0 ||| keepNamed a

/-- Bits of a register that a cold reset keeps: factory and flash values, the backup domain and the levels of pins. -/
def keepCold (a : Nat) : Nat := ((rowAt a).map RegRow.keepCold).getD 0

/-- Reset the registers kept apart for each path in the same way. -/
def State.resetPregs (s : State) (keep : Nat → Nat) : State :=
  { s with pregs := s.pregs.filterMap fun e =>
      let k := BitVec.ofNat 32 (keep (e.1 % 2 ^ 26))
      let r := regReset (e.1 % 2 ^ 26)
      let v := (e.2 &&& k) ||| (r &&& ~~~k)
      if v = r then none else some (e.1, v) }

/-- Hub pages, which report READY while the Reeve firmware runs (log entry 81). -/
def hubPages : List Nat :=
  [0, 1, 2, 0x10, 0x11, 0x12, 0x13, 0x20, 0x21, 0x30, 0x40, 0x41, 0x42, 0x43, 0x50, 0x51, 0x52, 0x53, 0x60, 0x80]
def State.setReady (s : State) (l : List Nat) : State := l.foldl (fun s p => s.put (p * 4096) hSTAT_READY 1) s

/-! ### REFCLK (R17, R34) -/

/-- REFCLK_OK falls: LOSS_COUNT, REFCLK_LOST, and holdover where the root PLL runs from REFCLK. -/
def State.refclkFalls (s : State) : State :=
  if s.bit MODULE_B MODULE.CLK_STAT_REFCLK_OK then
    let s := (s.put MODULE_B MODULE.CLK_STAT_REFCLK_OK 0).inc MODULE_B MODULE.CLK_STAT_LOSS_COUNT
    let s := { s with power.refLost := true }.raise MODULE_B 0
    if s.bit MODULE_B MODULE.CLK_STAT_ROOT_LOCK && !s.bit MODULE_B MODULE.STRAPS_CLKMODE then
      (s.put MODULE_B MODULE.CLK_STAT_ROOT_LOCK 0).put MODULE_B MODULE.CLK_STAT_HOLDOVER 1
    else s
  else s

/-- REFCLK_OK rises: the root PLL leaves holdover, and REFCLK_RESTORED follows a fall. -/
def State.refclkRises (s : State) : State :=
  if s.bit MODULE_B MODULE.CLK_STAT_REFCLK_OK then s
  else
    let lost := s.power.refLost
    let s := { s.put MODULE_B MODULE.CLK_STAT_REFCLK_OK 1 with power.refLost := false }
    let s := if s.bit MODULE_B MODULE.CLK_STAT_HOLDOVER then
        (s.put MODULE_B MODULE.CLK_STAT_HOLDOVER 0).put MODULE_B MODULE.CLK_STAT_ROOT_LOCK 1 else s
    if lost then s.raise MODULE_B 1 else s

/-! ### The backup domain (R252, R512) -/

/-- Set the incarnation epoch, in the three places that show it (R20, R252, R526). -/
def State.setEpoch (s : State) (e : Nat) : State :=
  ((s.put BACKUP_B BACKUP.EPOCH_VALUE e).put MSG_B MSG.EPOCH_VALUE e).put DIRECTORY_B DIRECTORY.DIR_GEN_VALUE e
def State.epoch (s : State) : Nat := s.get BACKUP_B BACKUP.EPOCH_VALUE
/-- The epoch after this one; it is never 0 (R252). -/
def nextEpoch (e : Nat) : Nat := if e = 2 ^ 32 - 1 then 1 else e + 1

/-- Count a privileged source (R512): POR, BROWNOUT, THERM_TRIP, CRIT_ECC. -/
def State.countPriv (s : State) (bit : Nat) : State :=
  let f : Option Fld := match bit with
    | 0 => some BACKUP.PRIV_A_POR | 1 => some BACKUP.PRIV_A_BROWNOUT | 4 => some BACKUP.PRIV_B_THERM_TRIP
    | 5 => some BACKUP.PRIV_B_CRIT_ECC | _ => none
  match f with
  | none => s
  | some f => (s.inc BACKUP_B f).inc BACKUP_B BACKUP.PRIV_TOTAL_COUNT

/-- The cause bits in a mask (R505). -/
def causeBits (mask : Nat) : List Nat := (List.range 9).filter fun b => mask.testBit b

/-- Set the cause bits of the sources that reset in the same cycle, and count the privileged ones (R511, R512). -/
def State.setCauses (s : State) (mask : Nat) : State :=
  (causeBits mask).foldl (fun s b => (s.countPriv b).put RESET_B (bitF 0x40 b) 1) s

/-- Write RESET.LAST (R524). -/
def State.setLast (s : State) (ty src : Nat) (heldOff superseded : Bool) : State :=
  s.wr (RESET_B + 0x44) (BitVec.ofNat 32 (ty + src * 16 + (if heldOff then 256 else 0) + (if superseded then 512 else 0)))

/-! ### Bring-up and its waits (R517, R518) -/

def State.bstep (s : State) : Nat := s.get POWER_B POWER.STATE_STEP
def State.pstate (s : State) : Nat := s.get POWER_B POWER.STATE_STATE

/-- Is bring-up at step k? -/
def State.bringUp (s : State) (k : Nat) : Bool :=
  decide (s.pstate = 1) && !s.bit POWER_B POWER.STATE_HOLD && decide (s.bstep = k)

/-- Is bring-up in a step from the main rails on (R511)? -/
def State.inSteps (s : State) : Bool :=
  decide (s.pstate = 1) && !s.bit POWER_B POWER.STATE_HOLD && decide (3 ≤ s.bstep) && !s.power.waitRails

/-- Are the conditions of R518 for the main rails met? -/
def State.railsPermitted (s : State) : Bool :=
  s.power.railsOk && !s.power.inLow && !s.bit POWER_B POWER.STATE_PERST_HOLD && !s.bit POWER_B POWER.STATE_THERM_HOLD
    && !s.bit POWER_B POWER.CTRL_STAY_STANDBY

/-- Leave the wait before step 3 when the conditions are met. -/
def State.tryRails (s : State) : State :=
  if s.power.waitRails && s.railsPermitted then { s with power.waitRails := false } else s

/-- Enter a power state (R502). -/
def State.setPower (s : State) (v : Nat) : State :=
  if s.pstate = v then s else (s.put POWER_B POWER.STATE_STATE v).raise POWER_B 0

/-! ### The state outside the registers -/

/-- Is a page on a compute die or an optical engine (R551)? -/
def diePage (p : Nat) : Bool := decide (0x200 ≤ p) || (decide (0x90 ≤ p) && decide (p < 0xB4)) || decide (p = 0xC0) || decide (p = 0xC1)

/-- What a module reset does to everything that is no register (R177, R178, R273, R354, R385, R506, R551). The wipes
take effect here: nothing reads the memories before their wipe is complete (R179). -/
def State.clearModule (s : State) : State :=
  let old := s
  let s : State := (List.range 3).foldl (fun s c => s.put TIME_B (TIME.CAP_STAT_DEPTH.at c 0x20) 0) s
  let s := { s with
    shadow := s.shadow.filter fun e => decide (keepModule (e.1 % 2 ^ 26) = allOnes)
    held := s.held.filter fun e => decide (keepModule (e.1 % 2 ^ 26) = allOnes)
    mem := s.mem.filter fun c => decide (hubAddr 0 ≤ c.1)
    upset := [], poison := [], chanFail := [], tile := default, flights := [], job := default, msg := default
    mill := default, opt := { (default : OptSt) with seen := s.opt.seen } }
  let s := { s with
    time.caps := [], time.ppsOut := false
    mill.descUpset := old.mill.descUpset
    log.trace := s.log.trace.filter fun e => !diePage e.1
    log.dead := false, log.fails := 0
    host.notify := [], host.notifyLost := false, host.dropped := [], host.mbox := []
    xrds.refLit := [] }
  { s with
    cal.lanes := [], cal.failed := [], cal.raised := [], cal.above := [], cal.errBase := []
    power.waitRails := false, power.deferred := false, power.resetAt := s.upNs, power.wdtAt := s.upNs, power.wdtGone := 0 }

/-- A package in HBM staging is lost; one that is being written from hub SRAM is not (R578). Steps 0 to 2 run on, and
the boot ROM's wait with them (R511). -/
def State.clearUpdate (s : State) (early : Bool) (st : Nat) : State :=
  if early then s
  else
    let s := { s with upd.inc := none, upd.ended := none, upd.offered := [], upd.stopped := [], upd.xfers := [], upd.staged := false }
    if st = 5 ∨ st = 6 then s.put UPDATE_B UPDATE.STAT_STATE st else { s with upd.pkg := none }

/-- Versions of parts 3-9 and of the engines' firmware take effect when their units are brought up (R575). -/
def State.partsApply (s : State) : State :=
  match s.upd.pending with
  | none => s
  | some k =>
    let s : State := (List.range 7).foldl (fun s i => s.put UPDATE_B (UPDATE.PART_RUN_VERSION.at (i + 2) 4) (k.vers.getD (i + 2) 0)) s
    let s : State := (List.range 2).foldl (fun s e => s.put (ENGINE_B e) ENGINE.FW_VER_VERSION (k.vers.getD (e + 2) 0)) s
    { s.put UPDATE_B UPDATE.STAT_PENDING_RESET 0 with upd.pending := none }

/-- The UPDATE and SELFTEST pages stay while bring-up steps 0 to 2 run on (R511, R520, R579), but for UPDATE's ENABLE,
which is 1 after a module reset (R35). -/
def keepUpdate (early : Bool) (a : Nat) : Nat :=
  if early ∧ a ≠ UPDATE_B + 0x0C ∧ (a / 4096 = UPDATE_B / 4096 ∨ a / 4096 = SELFTEST_B / 4096) then allOnes else keepModule a

/-- PPS_OUT goes high-impedance (R515). -/
def State.ppsOff (s : State) : State := if s.bit TRIGGERS_B TRIGGERS.PPS_CTRL_OE then s.emit .pin [0, 2] else s

/-- The registers and the rest of the state after a module reset, with the epoch advanced and bring-up at its
main-rail step, or at the step of a cold bring-up that runs on (R506, R507, R511). -/
def State.moduleBody (s : State) : State :=
  let old := s
  let st := s.get UPDATE_B UPDATE.STAT_STATE
  let early := decide (s.pstate = 1) && !s.bit POWER_B POWER.STATE_HOLD && decide (s.bstep ≤ 2)
  let pend := s.bit UPDATE_B UPDATE.STAT_PENDING_RESET && early
  let s := (s.ppsOff.resetRegs (fun _ => true) (keepUpdate early)).resetPregs (keepUpdate early)
  let s := (s.clearModule.clearUpdate early st).setEpoch (nextEpoch old.epoch)
  let s := if pend then s else s.partsApply
  let s := if early then (if old.bstep = 2 then s.setReady hubPages else s).put POWER_B POWER.STATE_STEP old.bstep
    else { (s.put POWER_B POWER.STATE_STEP 3).setReady hubPages with power.waitRails := true }
  let s := if s.upd.romPorts then s.romOptics else s
  (s.belfryModule.line4 old).tryRails

/-- A module reset with the cause bits of a mask (R505, R507, R511). -/
def State.moduleReset (s : State) (mask : Nat) : State :=
  let sup := s.inSteps
  let ran := decide (2 ≤ s.pstate)
  let up := s.upNs
  let s := (s.setCauses mask).moduleBody
  let s := s.setLast 2 ((causeBits mask).headD 15) false sup
  let s := (s.inc RESET_B RESET.COUNTS_MODULE).put64 RESET_B RESET.LAST_UP_LO up
  let s := s.record RESET_B 0x0011 [(s.rd (RESET_B + 0x40)).toNat, (s.rd (RESET_B + 0x44)).toNat]
  if ran then s.raise POWER_B 0 else s

/-- Load the descriptor table from the Millrace tables in flash (R176, R385). -/
def State.loadTables (s : State) : State :=
  let s := { s with mill.descUpset := [] }
  s.upd.run.tables.foldl (fun s e => s.wr (DESC_B + e.1) (s.upd.run.word e.1 (tableReset e.1))) s.clearDesc

/-! ### Cold reset and power-on (R505, R506, R513, R514, R579) -/

/-- The stacks whose MAPOUT_CTRL.REQ is 1 enter the map-out record with cause 5 (R180, R185), for the cold reset that
clears the request. -/
def State.markRequested (s : State) : State :=
  (List.range 8).foldl (fun s m =>
    if s.bit (HBM_B m) HBM.MAPOUT_CTRL_REQ && decide (zget s.mapoutRec m = 0) then { s with mapoutRec := zset s.mapoutRec m 5 } else s) s

/-- A cold reset or a Reeve warm reset ends a page program first (R510). -/
def State.holdOff (s : State) : State := if s.log.prog = 0 then s else s.pageDone

/-- What the flash controller does as a reset arrives (R510): 1 it programs a page, 2 it erases, 0 neither. While a firmware image
is written (R573), which of them is a free value (log entry 342). -/
def State.flashBusy (s : State) : Nat × State :=
  if s.log.prog ≠ 0 then (1, s)
  else if s.updSt = upACTIVATING ∧ s.upd.erased = true then (let (x, s) := s.freeVal; (x % 3, s)) else (0, s)

/-- The boot ROM's choice (R514, R578, R579): 0 the flash image, else the state and the record's cause. A torn image means ROM
recovery whatever BOOTSEL reads. -/
def State.bootChoice (s : State) : Nat × Nat :=
  let sel := s.get MODULE_B MODULE.STRAPS_BOOTSEL
  if sel = 3 then (8, 1)
  else if s.upd.torn then (8, 2)
  else if sel = 1 ∨ sel = 2 then (9, 0)
  else if s.upd.flash.svns.any fun n => decide (n < s.get UPDATE_B UPDATE.OTP_COUNT) then (8, 3)
  else if 3 ≤ s.get UPDATE_B UPDATE.TIMES_UNCONF_BOOTS then (8, 4) else (0, 0)

/-- Boot (R517 step 0): count a cold start of an unconfirmed image, then start the flash image or wait for a package, in step 1
FIRMWARE. -/
def State.bootRom (s : State) : State :=
  let unconf := s.bit UPDATE_B UPDATE.STAT_UNCONFIRMED
  let sel := s.get MODULE_B MODULE.STRAPS_BOOTSEL
  let s := if unconf ∧ sel = 0 then s.inc UPDATE_B UPDATE.TIMES_UNCONF_BOOTS else s
  let s := (s.put UPDATE_B UPDATE.STAT_DISKLESS 0).put POWER_B POWER.STATE_STEP 1
  let (st, cause) := s.bootChoice
  let s := if cause = 4 then s.record UPDATE_B 0x0609 [s.get UPDATE_B UPDATE.TIMES_UNCONF_BOOTS] else s
  if st = 8 then (s.romWait 8).record UPDATE_B 0x0608 [cause]
  else if st = 9 then s.romWait 9
  else s.bootImage s.upd.flash

/-- Everything that a cold reset returns to its reset value; the backup domain, flash, fuses and pins stay (R506). -/
def State.clearCold (s : State) : State :=
  { s with
    pregs := [], shadow := [], held := [], mem := [], upset := [], poison := [], chanFail := [], tile := default
    flights := [], job := default, time := default, msg := default, mill := default, opt := default, xrds := default
    host := { (default : HostSt) with pins := s.host.pins, fn := pcieFn }
    reeve := default
    power := { (default : PowerSt) with inLow := s.power.inLow, inHigh := s.power.inHigh, switchOpen := s.power.switchOpen,
                                        railsOk := s.power.railsOk, critOwed := s.power.critOwed, cutF := s.power.cutF,
                                        cutB := s.power.cutB, lostB := s.power.lostB }
    cal := { (default : CalSt) with fac := s.cal.fac, facBad := s.cal.facBad, base := s.cal.base, facV := s.cal.facV,
                                    adv := s.cal.adv, steps := s.cal.steps }
    upd := { (default : UpdSt) with conf := s.upd.conf, flash := s.upd.flash, torn := s.upd.torn } }

/-- A cold reset (R505, R506, R511) with the cause bits of a mask; `superseded` where another reset was in progress. -/
def State.coldReset (s : State) (mask : Nat) (superseded : Bool) : State :=
  let (flash, s) := s.flashBusy
  let held := decide (flash = 1)
  let hold := s.bit POWER_B POWER.STATE_THERM_HOLD
  let trip := s.bit POWER_B POWER.THERM_TRIPPED
  let fresh := decide (s.updSt = upHANDOVER)
  let e := s.epoch
  let ran := decide (2 ≤ s.pstate)
  let s := s.ppsOff.holdOff.markRequested.setCauses mask
  let s := (s.resetRegs (fun _ => true) keepCold).clearCold
  let s := (s.logCold.setEpoch (nextEpoch e)).linkSet 0 0 0
  let s : State := [144, 145, 146, 147, 148].foldl (fun s i => s.sampleFresh i) s
  let s := (s.put POWER_B POWER.STATE_THERM_HOLD (if hold then 1 else 0)).put POWER_B POWER.THERM_TRIPPED (if trip then 1 else 0)
  let s := if fresh then s.put UPDATE_B UPDATE.STAT_UNCONFIRMED 1 else s
  let s := if ran then s.raise POWER_B 0 else s
  (s.setLast 1 ((causeBits mask).headD 15) held superseded).bootRom

/-- The backup domain lost its contents (R513): LOST, zeros, and an epoch from the entropy source, which the cold reset
then advances to `e`. -/
def State.backupLost (s : State) (e : Nat) : State :=
  let s : State := [0x44, 0x48, 0x4C, 0x50, 0x54, 0x58, 0x5C].foldl (fun s o => s.wr (BACKUP_B + o) 0) s
  let prev := if e = 1 then 2 ^ 32 - 1 else e - 1
  ({ s.wr (RESET_B + 0x40) 0 with power.critOwed := false }.put BACKUP_B BACKUP.EPOCH_VALUE prev).put BACKUP_B BACKUP.STAT_LOST 1

/-! ### The Reeve watchdog (R509) -/

/-- Nanoseconds that the watchdog has counted since its last restart; it counts while EN is 1. -/
def State.wdtCount (s : State) : Nat :=
  s.power.wdtGone + if s.bit RESET_B RESET.WDT_CTRL_EN then s.upNs - s.power.wdtAt else 0

/-- The count starts again from PERIOD_MS. -/
def State.wdtRestart (s : State) : State := { s with power.wdtAt := s.upNs, power.wdtGone := 0 }

/-- A write of WDT_CTRL. DEDUCED (log entry 211): while EN is 0 the count stands. -/
def State.wdtCtrl (s : State) (v : Word) : State :=
  let n := s.wdtCount
  { s.wr (RESET_B + 0x4C) (v &&& 0x1FFFF#32) with power.wdtAt := s.upNs, power.wdtGone := n }

/-- A kick: the count starts again and STAGE returns to 0. -/
def State.wdtKicked (s : State) : State := (s.put RESET_B RESET.WDT_STAT_STAGE 0).wdtRestart

/-! ### Reeve warm reset (R505, R508, R578) -/

/-- A Reeve warm reset; `src` is the number that LAST.SOURCE shows: 3 for the watchdog, 0xE by command. Hub SRAM but for
a package under activation, the response caches and the claims of targets 0-3 go; writing pauses (R467, R473, R491,
R508, R510, R554). -/
def State.warmReset (s : State) (src : Nat) : State :=
  let old := s
  let (flash, s) := s.flashBusy
  let held := decide (flash = 1)
  let s := { s with upd.suspended := decide (flash = 2) }.holdOff.logPause.warmUpdate
  let st := s.get UPDATE_B UPDATE.STAT_STATE
  let s := if st = 5 ∨ st = 6 then s else { s with mem := s.mem.filter fun c => !decide (hubAddr 0 ≤ c.1) }
  let s := { s with reeve.down := true, reeve.sleep := [], host.cache := [] }
  let s := (s.releaseClaims fun k => decide (k < 4)).line4 old
  let s := s.setLast 3 src held false
  let s := (s.inc RESET_B RESET.COUNTS_WARM).put64 RESET_B RESET.LAST_UP_LO s.upNs
  s.record RESET_B 0x0012 [(s.rd (RESET_B + 0x44)).toNat, s.get RESET_B RESET.WDT_STAT]

end Sys2Proof.Machine
end

