-- ==== Sys2Proof/Machine/BringUp.lean ====
section
/-!
DEFINITION. Bring-up from the firmware to READY or the hold state (R517-R521): self-test items, repair maps (R139-R142),
map-out (R180), the size table and the directory (R21, R191), the optics.
-/
namespace Sys2Proof.Machine

/-! ### Self-test (R520, R521, R527) -/

/-- Record the outcome and DETAIL of an item. -/
def State.setItem (s : State) (i outcome detail : Nat) : State :=
  (s.put SELFTEST_B ⟨0x44, 2 * i + 1, 2 * i⟩ outcome).wr (SELFTEST_B + 0x80 + 4 * i) (BitVec.ofNat 32 detail)
def State.item (s : State) (i : Nat) : Nat := s.get SELFTEST_B ⟨0x44, 2 * i + 1, 2 * i⟩

/-- The worst outcome (R520). -/
def State.outcome (s : State) : Nat := ((List.range 16).map s.item).foldl max 0
def State.firstFail (s : State) : Nat := ((List.range 16).find? fun i => s.item i = 3).getD 0

/-- Write the SELFTEST report of a bring-up that ends at a step. -/
def State.report (s : State) (step : Nat) : State :=
  let hold := decide (s.outcome = 3)
  let ms := min 65535 ((s.upNs - s.power.resetAt) / 1000000)
  let s := s.wr (SELFTEST_B + 0x40) (BitVec.ofNat 32
    ((if hold then 2 else 1) + s.outcome * 16 + step * 256 + (if hold then s.firstFail * 2 ^ 16 else 0)))
  let s := (s.put SELFTEST_B SELFTEST.DURATION_MS ms).inc SELFTEST_B SELFTEST.RUNS_COUNT
  let s := if hold then (s.inc SELFTEST_B SELFTEST.RUNS_HOLDS).raise SELFTEST_B 1 else s.raise SELFTEST_B 0
  s.record SELFTEST_B 0x0016 [(s.rd (SELFTEST_B + 0x40)).toNat, (s.rd (SELFTEST_B + 0x44)).toNat, (s.rd (SELFTEST_B + 0x48)).toNat]

/-- Lasers off, rings uncoupled (R521): the armed combs wait, and no port is on in the hold state. -/
def State.holdDark (s : State) : State :=
  let s : State := (List.range 2).foldl (fun s e => if s.combArmed e then s.setComb e cbWAIT_ARM else s) s
  ((List.range 36).filter fun p => s.on (PORT_B p)).foldl State.portApply s

/-- The hold state (R521). -/
def State.holdState (s : State) (step : Nat) : State :=
  let s := (((s.report step).put POWER_B POWER.STATE_HOLD 1).raise POWER_B 4).holdDark
  s.record SELFTEST_B 0x0017 [(s.rd (SELFTEST_B + 0x40)).toNat, (s.rd (SELFTEST_B + 0x80 + 4 * s.firstFail)).toNat]

/-- End a bring-up step: on to the next, or to the hold state on a FAIL. -/
def State.stepEnd (s : State) (k : Nat) : State :=
  if s.outcome = 3 then s.holdState k else s.put POWER_B POWER.STATE_STEP (k + 1)

/-- The record of a CRIT_ECC capture that this bring-up owes (R176). -/
def State.owedRecs (s : State) : State :=
  if s.power.critOwed then
    { s with power.critOwed := false }.pushRec BACKUP_B 0x0014 2
      [(s.rd (BACKUP_B + 0x54)).toNat, (s.rd (BACKUP_B + 0x58)).toNat, (s.rd (BACKUP_B + 0x5C)).toNat]
  else s

/-! ### Life cycle (R522, R523) -/

/-- Bits of a register that hold a setting in flash: those a module reset keeps and software writes, on the pages whose
settings are in flash. -/
def settingBits (a : Nat) : Nat :=
  let p := a / 4096
  if wholePage p ∨ p = BACKUP_B / 4096 then 0
  else ((rowAt a).map fun r => r.rw &&& r.keepModule).getD 0

/-- Every setting and the margin ledger take their factory values (R522, R545). -/
def State.factorySettings (s : State) : State :=
  let s := s.resetRegs (fun _ => true) fun a => allOnes - settingBits a
  let s := s.resetPregs fun a => allOnes - settingBits a
  let s := { s with cal.adv := [], cal.steps := [] }
  (List.range 4).foldl (fun s d =>
    (s.put AGEING_B (AGEING.AVS_STEPS.at d 4) 0).put AGEING_B (AGEING.AVS_V_MV.at d 4) (zget s.cal.facV d)) s

/-- Enter a life-cycle state: entry effects, both flash copies, event and record; `old` is W0 of the record. -/
def State.enterLc (s : State) (old new : Nat) : State :=
  let s := if new = 0 then { s with power.cutB := [], power.lostB := [] }
    else if new = 3 then s.factorySettings else s
  ((s.put POWER_B POWER.LC_STATE new).raise POWER_B 5).record POWER_B 0x0018 [old, new]

/-- The changes of R522. -/
def lcAllowed (old new : Nat) : Bool :=
  match old with
  | 0 => decide (new = 1)
  | 1 => decide (new = 2) || decide (new = 3)
  | 2 => decide (new = 3)
  | 3 => decide (new = 0) || decide (new = 1)
  | _ => false

/-! ### Repair maps (R139-R145, R152) -/

/-- Cut-out column of a physical row, and the lost row of a die. -/
def State.cutCol (s : State) (d r : Nat) : Option Nat :=
  let f := zget s.power.cutF (16 * d + r)
  let b := zget s.power.cutB (16 * d + r)
  if f ≠ 0 then some (f - 1) else if b ≠ 0 then some (b - 1) else none
def State.lostRow (s : State) (d : Nat) : Option Nat :=
  let x := zget s.power.lostB d
  if x = 0 then none else some (x - 1)

/-- What BIST has found so far: failed dies, cut-outs and lost rows added. -/
structure BistAcc where
  s : State
  dead : List Nat
  cuts : Nat
  rows : Nat

/-- A physical tile that fails BIST (R142): die, row, column. -/
def bistTile (b : BistAcc) (x : Nat × Nat × Nat) : BistAcc :=
  let (d, r, c) := x
  if 4 ≤ d ∨ 10 ≤ r ∨ 12 ≤ c ∨ b.dead.contains d ∨ b.s.lostRow d = some r ∨ b.s.cutCol d r = some c then b
  else
    match b.s.cutCol d r with
    | none => { b with s := { b.s with power.cutB := zset b.s.power.cutB (16 * d + r) (c + 1) }, cuts := b.cuts + 1 }
    | some _ =>
      match b.s.lostRow d with
      | none => { b with s := { b.s with power.lostB := zset b.s.power.lostB d (r + 1) }, rows := b.rows + 1 }
      | some _ => { b with dead := b.dead ++ [d] }

/-- Physical rows of a die in logical order. -/
def State.physRows (s : State) (d : Nat) : List Nat := (List.range 10).filter fun r => !decide (s.lostRow d = some r)

/-- Physical column of a logical one in a row with a cut-out (R140). -/
def physCol (cut : Option Nat) (c : Nat) : Nat :=
  match cut with
  | some x => if x ≤ c then c + 1 else c
  | none => c

def State.sparesUsed (s : State) (d : Nat) : Nat := ((s.physRows d).filter fun r => (s.cutCol d r).isSome).length

/-- Rows whose cut-out or loss BIST has added. -/
def State.bistAdded (s : State) (d : Nat) : Nat :=
  ((List.range 10).map fun r =>
    if (zget s.power.cutF (16 * d + r) = 0 ∧ zget s.power.cutB (16 * d + r) ≠ 0) ∨ s.lostRow d = some r then 2 ^ r else 0).foldl (· + ·) 0

/-- The MESH registers of a present die and the positions of its tiles (R140, R152). -/
def State.repairRegs (s : State) (d : Nat) : State :=
  let b := MESH_B d
  let rows := s.physRows d
  let cut (r : Nat) : Nat := (s.cutCol d r).getD 15
  let shape := rows.length + 11 * 2 ^ 4 + 10 * 2 ^ 8 + 12 * 2 ^ 12 + (s.lostRow d).getD 15 * 2 ^ 16 + s.sparesUsed d * 2 ^ 20
  let s := (s.put b MESH.SHAPE shape).put b MESH.REPAIR_A (((List.range 8).map fun r => cut r * 2 ^ (4 * r)).foldl (· + ·) 0)
  let s := s.put b MESH.REPAIR_B (cut 8 + cut 9 * 2 ^ 4 + s.bistAdded d * 2 ^ 8)
  (List.range (rows.length * 11)).foldl (fun s t =>
    let r := rows.getD (t / 11) 0
    (s.put (TILE_B (256 * d + t)) TILE.PHYS_ROW r).put (TILE_B (256 * d + t)) TILE.PHYS_COLUMN (physCol (s.cutCol d r) (t % 11))) s

/-! ### Die links (R149) -/

/-- What training found of a bundle: die, link set, bundle, failed lanes. -/
abbrev LinkFound := Nat × Nat × Nat × Nat

/-- Failed lanes of bundle i of link set k of die d; a crossing may be named from either of its dies. -/
def failedLanes (l : List LinkFound) (d k i : Nat) : Nat :=
  ((l.filter fun x => decide (x.2.1 = k ∧ x.2.2.1 = i) && (decide (x.1 = d) || decide (linkPartner d k = some x.1))).map
    fun x => x.2.2.2).foldl (· + ·) 0

/-- Link set k of die d after training: spare lanes in use and the mask of down bundles. At most two failed lanes of a bundle
are mapped onto its spares; more of them and it is down (R149). DESIGN CHOICE (log entry 335): a bundle that is down uses no
spare. -/
def linkOf (l : List LinkFound) (d k : Nat) : Nat × Nat :=
  (List.range (bundles k)).foldl (fun acc i =>
    let n := failedLanes l d k i
    if n ≤ 2 then (acc.1 + n, acc.2) else (acc.1, acc.2 + 2 ^ i)) (0, 0)
def State.linkRegs (s : State) (l : List LinkFound) (d : Nat) : State :=
  (List.range 4).foldl (fun s k =>
    let x := linkOf l d k
    s.put (MESH_B d) (MESH.LINK_STAT.at k 0x10) ((if x.2 = 0 then 1 else 0) + x.1 * 2 + x.2 * 2 ^ 16)) s
def linkOk (l : List LinkFound) (d : Nat) : Nat :=
  ((List.range 4).map fun k => if (linkOf l d k).2 = 0 then 2 ^ k else 0).foldl (· + ·) 0

/-! ### HBM (R180, R181, R185, R186) -/

/-- The map-out record after MAPOUT_CTRL is applied: REQ marks, RETRY alone clears. -/
def State.applyMapout (s : State) (m : Nat) : State :=
  let b := HBM_B m
  let s := if s.bit b HBM.MAPOUT_CTRL_REQ then
      (if zget s.mapoutRec m = 0 then { s.raise b 3 with mapoutRec := zset s.mapoutRec m 5 } else s)
    else if s.bit b HBM.MAPOUT_CTRL_RETRY then { s with mapoutRec := zset s.mapoutRec m 0 } else s
  let s := (s.put b HBM.MAPOUT_CTRL_REQ 0).put b HBM.MAPOUT_CTRL_RETRY 0
  s.put b HBM.STACK_STAT_MARKED (if zget s.mapoutRec m = 0 then 0 else 1)

/-- Bring up stack m of a present die with the outcomes of its training and its BIST. A stack is wiped after training
(R178), and READY only then (R179). -/
def State.stackUp (s : State) (m : Nat) (train bist : Bool) : State :=
  let b := HBM_B m
  let s := s.applyMapout m
  let mark := zget s.mapoutRec m
  let cause := if mark ≠ 0 then mark else if !train then 1 else if !bist then 2 else 0
  let s := (s.put b HBM.STACK_STAT_TRAINED (if train then 1 else 0)).put b HBM.STACK_STAT_WIPED (if train then 1 else 0)
  let s := (s.put b HBM.STACK_STAT_MAPOUT_CAUSE cause).put b hSTAT_READY (if train then 1 else 0)
  if cause = 0 then s.put b HBM.STACK_STAT_PRESENT 1
  else
    let s := ((s.put b HBM.STACK_STAT_MAPPED_OUT 1).put b HBM.CAPACITY_BLOCKS 0).put b hSTAT_FAULT 1
    if train && bist then s else s.recErr b 16 0x8201 pathHw cause

/-! ### Size table and directory (R21, R191-R193) -/

def maskOf (n : Nat) (p : Nat → Bool) : Nat := ((List.range n).map fun i => if p i then 2 ^ i else 0).foldl (· + ·) 0
def countOf (n : Nat) (p : Nat → Bool) : Nat := ((List.range n).filter p).length

/-- DIE_SHAPE of a die. -/
def State.dieShape (s : State) (l : List LinkFound) (alive : Bool) (d : Nat) : Nat :=
  if alive then
    (s.physRows d).length + 11 * 2 ^ 4 + s.sparesUsed d * 2 ^ 8 + (s.lostRow d).getD 15 * 2 ^ 12 + linkOk l d * 2 ^ 16 + 2 ^ 31
  else 15 * 2 ^ 12

def State.sizeTable (s : State) (l : List LinkFound) (alive : Nat → Bool) (degraded : Bool) : State :=
  let n := countOf 8 s.stackIn
  let s := s.put SIZE_TABLE_B SIZE_TABLE.DIES_PRESENT (maskOf 4 alive)
  let s := (s.put SIZE_TABLE_B SIZE_TABLE.DIES_COUNT (countOf 4 alive)).put SIZE_TABLE_B SIZE_TABLE.DIES_DEGRADED (if degraded then 1 else 0)
  let s := (List.range 4).foldl (fun s d => s.put SIZE_TABLE_B (SIZE_TABLE.DIE_SHAPE.at d 4) (s.dieShape l (alive d) d)) s
  let s := (s.put SIZE_TABLE_B SIZE_TABLE.HBM_STACKS_PRESENT (maskOf 8 s.stackIn)).put SIZE_TABLE_B SIZE_TABLE.HBM_STACKS_COUNT n
  (s.put SIZE_TABLE_B SIZE_TABLE.HBM_CAP_MB (36000 * n)).put SIZE_TABLE_B SIZE_TABLE.HBM_BW_GBPS (2048 * n)

/-- The directory takes its final form. -/
def State.directory (s : State) (alive : Nat → Bool) : State :=
  let runs := dirRuns0 ++ ((List.range 4).filter alive).flatMap fun d => dirRunsDie d (s.physRows d).length
  let s := s.put DIRECTORY_B DIRECTORY.DIR_COUNT_ENTRIES runs.length
  (List.range (2 * runs.length)).foldl (fun s i =>
    s.wr (DIRECTORY_B + 0x100 + 4 * i) (BitVec.ofNat 32 (dirWord runs (0x100 + 4 * i)))) s

/-- Pages of a die that report READY once step 4 ends; a TILE page does so once it is loaded (R36). -/
def dieReady (d : Nat) : List Nat := [0x200 + d * 0x100, 0x201 + d * 0x100, 0x204 + d * 0x100, 0x210 + d * 0x100]

/-- What bring-up step 4 finds. -/
structure MemFound where
  tiles : List (Nat × Nat × Nat)
  dead : Nat
  train : Nat
  bist : Nat
  links : List LinkFound

/-- A present die's registers. -/
def State.dieUp (s : State) (f : MemFound) (d : Nat) : State :=
  let s := (s.repairRegs d).linkRegs f.links d
  let s : State := [2 * d, 2 * d + 1].foldl (fun s m => s.stackUp m (!f.train.testBit m) (!f.bist.testBit m)) s
  s.setReady (dieReady d)

/-- Outcomes of items 5 to 8. -/
def State.memItems (s : State) (alive : Nat → Bool) (b : BistAcc) (down : Nat) : State :=
  let n := countOf 4 alive
  let outMask := maskOf 8 fun m => alive (m / 2) && s.bit (HBM_B m) HBM.STACK_STAT_MAPPED_OUT
  let s := s.setItem 5 (if n = 0 then 3 else if n < 4 then 2 else 0) (maskOf 4 fun d => !alive d)
  let s := s.setItem 6 0 (b.cuts % 256 + b.rows % 16 * 256)
  let s := s.setItem 7 (if down = 0 then 0 else 2) down
  s.setItem 8 (if countOf 8 s.stackIn = 0 then 3 else if outMask = 0 then 0 else 1) outMask

/-- Bring-up step 4 (R517). -/
def State.memoryStep (s : State) (f : MemFound) : State :=
  let b := f.tiles.foldl bistTile ⟨s, [], 0, 0⟩
  let alive (d : Nat) : Bool := !b.dead.contains d && !f.dead.testBit d
  let s := ((List.range 4).filter alive).foldl (fun s d => s.dieUp f d) b.s
  let down := maskOf 16 fun i => alive (i / 4) && decide ((linkOf f.links (i / 4) (i % 4)).2 ≠ 0)
  let degraded := decide (countOf 4 alive < 4) || decide (down ≠ 0)
  let s := (s.sizeTable f.links alive degraded).directory alive
  let s := s.put POWER_B POWER.STATE_DEGRADED (if degraded then 1 else 0)
  ((s.memItems alive b down).stepEnd 4).belfrySettle

/-! ### Optics (R304, R336, R517, R518) -/

/-- Enable a page and report it READY. -/
def State.enable (s : State) (a : Nat) : State := (s.put a hCTRL_ENABLE 1).put a hSTAT_READY 1

/-- Power an engine; code is 0 when its electrical self-test passed. -/
def State.engineUp (s : State) (e code : Nat) : State :=
  let s := s.enable (ENGINE_B e)
  if code = 0 then s.put (ENGINE_B e) ENGINE.STAT_SELFTEST_OK 1
  else
    let s := ((s.put (ENGINE_B e) hSTAT_FAULT 1).recErrX (ENGINE_B e) 16 0x8801 pathHw).raise (ENGINE_B e) 2
    s.setItem (9 + e) 1 (s.get (ENGINE_B e) hERR_CODE)

/-- Enable a comb; arm and lock it when LASER_EN is stable, unless it fails. -/
def State.combUp (s : State) (e : Nat) (fails : Bool) : State :=
  let s := (s.enable (COMB_B e)).combEnable e true
  if fails then
    let s := s.combFail e
    s.setItem (11 + e) 1 (s.combStat (s.rd (COMB_B e + 0x44)).toNat)
  else if s.bit (COMB_B e) COMB.STAT_EN_STABLE then
    let s := (s.setComb e cbWARMING).put (COMB_B e) COMB.STAT_TEC_OK 1
    (s.setComb e cbLOCKING).combLocked e
  else s

/-- Bring-up step 5: engine codes, shut-off time of the interlock test in ns, failing combs. LASER_EN high since the
reset is stable by now. -/
def State.opticsStep (s : State) (codes : List Nat) (ns combs : Nat) : State :=
  let s := s.setItem 3 (if 1000 < ns then 3 else 0) ns
  if 1000 < ns then s.stepEnd 5
  else
    let s := (List.range 2).foldl (fun s e =>
      if s.pinLevel 147 then s.put (COMB_B e) COMB.STAT_EN_STABLE 1 else s) s
    let s := ((s.enable MILLRACE_B).slotsRefresh ((List.range 420).map (1628 + ·))).enable XRDS_B
    let s := (List.range 2).foldl (fun s e => s.engineUp e (codes.getD e 0)) s
    let s := (List.range 2).foldl (fun s e => s.combUp e (combs.testBit e)) s
    let wait := !s.bit (COMB_B 0) COMB.STAT_EN_STABLE
    let s := { s with power.deferred := wait }
    (if wait then s.setItem 13 0 1 else s.calBegin 1).stepEnd 5

/-- Enable every PORT page (R517 step 7, R518). -/
def State.portsUp (s : State) : State :=
  (List.range 36).foldl (fun s p => (s.enable (PORT_B p)).portEnable p) s

/-- Bring-up step 7. -/
def State.doneStep (s : State) : State :=
  let s := if s.power.deferred then s else s.portsUp
  let s := s.report 7
  ((s.setPower 2).put UPDATE_B UPDATE.TIMES_UNCONF_BOOTS 0).deferredCal

end Sys2Proof.Machine
end

