-- ==== Sys2Proof/Machine/CalCmd.lean ====
section
/-!
DEFINITION. The commands of calibration and ageing (16_calibration.md): power-up and full calibration, lane calibration,
the voltage ledger and advisories.
-/
namespace Sys2Proof.Machine

/-! ### Factory values (R529, R530) -/

/-- H_PER_C, K_W, K_E and the baseline P_STEP of a ring (R530, R533); without a baseline it is the P_STEP just found. -/
def State.facCurve (s : State) (f : RingFound) : RingCurve :=
  let i := f.ring
  if s.cal.facBad then
    let t (o : Nat) : Nat := (mget tableReset s.upd.run.tables (64 * i + o)).toNat
    let b := (zget s.cal.base i).getD ⟨Int.ofNat f.home, Int.ofNat f.step, 0, 0, 0, 0⟩
    { b with hper := Int.ofNat (t 0x3C / 2 ^ 8 % 2 ^ 16), kw := signed 16 (t 0x34 % 2 ^ 16), ke := signed 16 (t 0x34 / 2 ^ 16) }
  else
    s.facEntry i

/-- The fitted curve (R533). -/
def fitCurve (b : RingCurve) (f : RingFound) : RingCurve :=
  let k (n : Int) : Int := rneDiv (n * Int.ofNat f.step) b.step.toNat
  ⟨Int.ofNat f.home, Int.ofNat f.step, rneDiv (Int.ofNat f.temp) 16, k b.hper, k b.kw, k b.ke⟩

/-- Does a sweep fail (R535)? A P_STEP of 0 always does. -/
def sweepFails (b : RingCurve) (f : RingFound) : Bool :=
  !f.ok || decide (f.step = 0) || decide (2 * Int.ofNat f.step < b.step) || decide (2 * b.step < Int.ofNat f.step)

/-! ### Corrections (R534) -/

/-- P_pred at the home line (R404), rounded, at a temperature in 1/16 °C. -/
def predHome (home hper tcal temp : Int) : Int := rneDiv (16 * home - hper * (temp - 16 * tcal)) 16

/-- A signed 16-bit field: a value outside its range is a free value. -/
def State.fit16 (s : State) (v : Int) : Nat × State :=
  if -32768 ≤ v ∧ v ≤ 32767 then (twos 16 v, s) else (Config.free s.free % 2 ^ 16, { s with free := s.free + 1 })

/-- Heater headroom in 0.01 % of the limit, truncated (R544); a free value where the limit is 0. -/
def State.headroom (s : State) (i : Nat) (c : RingCurve) : Int × State :=
  let lim := Int.ofNat (s.heatLim i)
  if lim = 0 then let (v, s) := s.freeVal; (signed 16 (v % 2 ^ 16), s)
  else (Int.tdiv ((lim - (c.home + 2 * c.step + c.hper * (c.tcal - 40))) * 10000) lim, s)

/-- The advisories of a ring's calibration (R544, R547). -/
def State.ringAdvice (s : State) (f : RingFound) (b c : RingCurve) (head : Int) : State :=
  let i := f.ring
  let eff := Int.tdiv ((c.step - b.step) * 10000) b.step
  let s := if head < 100 * Int.ofNat (s.get AGEING_B AGEING.THRESH_OPT_HEADROOM_PCT) then s.advise 0x10 1 i head else s
  let s := if eff < -2500 ∨ 2500 < eff then s.advise 0x11 1 i eff else s
  if 324 ≤ i ∧ f.resp + 100 * s.get AGEING_B AGEING.THRESH_OPT_RESP_PCT ≤ 10000 then s.advise 0x13 1 i (Int.ofNat f.resp) else s

/-- A ring passes: its corrections, its statistics and its advisories; `src` is 0 for power-up and full, 1 in service. -/
def State.ringPass (s : State) (f : RingFound) (b : RingCurve) (src : Nat) : State :=
  let i := f.ring
  let c := fitCurve b f
  let old := predHome (Int.ofNat (s.dsc i 0x38 15 0)) (Int.ofNat (s.dsc i 0x3C 23 8)) (Int.ofNat (s.dsc i 0x3C 7 0)) (Int.ofNat f.temp)
  let dH := predHome c.home c.hper c.tcal (Int.ofNat f.temp) - old
  let dS := c.step - Int.ofNat (s.dsc i 0x38 31 16)
  let s := s.writeCurve i c
  let (head, s) := s.headroom i c
  let resp := if i < 324 then 0 else min 255 (f.resp / 100)
  let s := { s with cal.rings := zmod s.cal.rings i fun r => ⟨min 65535 (r.count + 1), 1, src, s.upNs, dH, dS, resp, head⟩ }
  s.ringAdvice f b c head

/-- A ring's sweep fails (R535). -/
def State.ringFails (s : State) (i src : Nat) : State :=
  let s := (s.loopHwFail i).raise CAL_B 1
  { s with cal.rings := zmod s.cal.rings i fun r => { r with count := min 65535 (r.count + 1), result := 2, source := src, up := s.upNs } }

/-! ### Power-up and full calibration (R531-R537) -/

/-- The factory record's state shows (R530). -/
def State.factoryBits (s : State) : State :=
  if s.cal.facBad then
    ((s.put CAL_B CAL.STAT_NO_FACTORY 1).put AGEING_B AGEING.ADV_STAT_NO_FACTORY 1).advise 0x30 2 0 0
  else s

/-- One ring's result at the end of the 3.0 s; rings of an engine without light are not swept. -/
def State.ringCalib (s : State) (f : RingFound) : State :=
  if f.ring < 648 ∧ s.combGood (slotEngine f.ring) = true then
    let b := s.facCurve f
    if sweepFails b f then { s.ringFails f.ring 0 with cal.failed := f.ring :: s.cal.failed }
    else
      let s := if s.cal.facBad ∧ zget s.cal.base f.ring = none then { s with cal.base := zset s.cal.base f.ring (some (fitCurve b f)) } else s
      s.ringPass f b 0
  else s

/-- One MZI stage's: slot, whether a point of least leakage was found, BIAS. -/
def State.mziCalib (s : State) (x : Nat × Nat × Nat) : State :=
  if 648 ≤ x.1 ∧ x.1 < 1620 ∧ s.combGood (slotEngine x.1) = true then
    if x.2.1 = 0 then { (s.loopHwFail x.1).raise CAL_B 1 with cal.failed := x.1 :: s.cal.failed }
    else s.wr (DESC_B + 64 * x.1 + 0x10) (BitVec.ofNat 32 (x.2.2 % 2 ^ 24))
  else s

/-- A comb slot re-takes its BIAS: slot, BIAS. -/
def State.combCalib (s : State) (x : Nat × Nat) : State :=
  if 1620 ≤ x.1 ∧ x.1 < 1628 ∧ s.combGood (slotComb x.1) = true then s.wr (DESC_B + 64 * x.1 + 0x10) (BitVec.ofNat 32 (x.2 % 2 ^ 24))
  else s

/-- What the sweeps find: rings, MZI stages, comb slots. -/
structure CalFound where
  rings : List RingFound
  mzis : List (Nat × Nat × Nat)
  combs : List (Nat × Nat)

/-- The end of the 3.0 s (R531): corrections, failures, CAL.FULL, FULL_DONE and SELFTEST item 14. -/
def State.calFinish (s : State) (f : CalFound) : State :=
  let s := { s.calSlotsIdle with cal.failed := [] }.factoryBits
  let s : State := f.rings.foldl State.ringCalib s
  let s : State := f.mzis.foldl State.mziCalib s
  let s := (f.combs.foldl State.combCalib s).slotsRefresh ((List.range 8).map (1620 + ·))
  let nr := (s.cal.failed.filter (· < 648)).eraseDups.length
  let nm := (s.cal.failed.filter (648 ≤ ·)).eraseDups.length
  let s := ((s.inc CAL_B CAL.FULL_COUNT).put CAL_B CAL.FULL_RINGS_FAILED nr).put64 CAL_B CAL.FULL_UP_LO s.upNs
  let s := (s.put CAL_B CAL.STAT_STATE 0).raise CAL_B 0
  s.setItem 14 (if nr + nm = 0 then 0 else 1) (nr + nm * 2 ^ 16)

/-- A calibration after the report rewrites the overall outcome (R518). -/
def State.reOutcome (s : State) : State := s.put SELFTEST_B SELFTEST.RESULT_OUTCOME s.outcome

/-- CALIBRATION: in step 6, with deferred optics after READY, or on request (R517, R518, R537). -/
def State.calibration (s : State) (f : CalFound) : State :=
  let st := s.get CAL_B CAL.STAT_STATE
  if s.bringUp 6 then (if st = 1 then s.calFinish f else s).stepEnd 6
  else if s.pstate < 2 then s
  else if st = 1 then (({ s with power.deferred := false }.calFinish f).reOutcome).portsUp
  else if st = 3 then (s.calFinish f).reOutcome
  else s

def execCalibration (rings : List RingFound) (mzis : List (Nat × Nat × Nat)) (combs : List (Nat × Nat)) (s : State) : Res :=
  s.live (if s.reeve.down then s else (s.calibration ⟨rings, mzis, combs⟩).msgSettle)

/-- A write of CAL.CTRL.FULL (R537). -/
def State.calFull (s : State) (path : Nat) : State :=
  let st := s.get CAL_B CAL.STAT_STATE
  if 2 ≤ s.pstate ∧ st ≠ 1 ∧ st ≠ 3 ∧ (List.range 36).all (fun p => !s.on (PORT_B p)) = true then s.calBegin 3
  else s.recErrX CAL_B 16 0x9101 path

/-- CAL_FULL (R537). -/
def execCalFull (path : Nat) (s : State) : Res := s.heard path (s.calFull path)

/-! ### Lane calibration (R538-R543) -/

/-- Calibrations that this module leads. -/
def State.led (s : State) : List LaneCal := s.cal.lanes.filter fun c => c.lead

/-- Minutes between calibrations in ns, and calibrations led at once (R549). -/
def State.calPeriod (s : State) : Nat := max 1 (s.get CAL_B CAL.SCHED_PERIOD_MIN) * 60000000000
def State.calPorts (s : State) : Nat := min 12 (max 1 (s.get CAL_B CAL.SCHED_PORTS))

/-- Uptime of a ring's last calibration. -/
def State.calUp (s : State) (i : Nat) : Nat := (zget s.cal.rings i).up

/-- Can lanes of a path be calibrated in service: lane S of the path, and no steering? -/
def State.calLane (s : State) (e : PathEnt) (l : Nat) : Bool :=
  !e.inbound && e.has 8 && e.has l && decide (l < 9) && !s.plan.steered (txRing e.port l)

/-- May this module lead a calibration of lane l of path e now (R538)? -/
def State.calMay (s : State) (e : PathEnt) (l : Nat) : Bool :=
  let p := e.port
  s.calLane e l && s.bit CAL_B CAL.CTRL_INSVC_EN && s.on CAL_B && !s.bit CAL_B hCTRL_QUIESCE
    && decide (s.txSt p 8 = lnSTANDBY) && s.toneEn p && s.bit (PORT_B p) (laneF PORT.LSTAT_RX_OK_FAR 8)
    && decide (s.get (PORT_B p) PORT.SPARE_FOR = 0xF) && (decide (l = 8) || decide (s.txSt p l = lnIN_SERVICE))
    && !(s.led.any fun c => decide (ringPort c.ring = p)) && decide (s.led.length < s.calPorts) && decide (s.stageSt ≠ sgARMED)
    && decide (s.calPeriod ≤ s.upNs - s.calUp (txRing p l))

/-- Is no lane that may be calibrated older than ring i? -/
def State.calOldest (s : State) (i : Nat) : Bool :=
  s.plan.paths.all fun e => (List.range 9).all fun l => !s.calMay e l || decide (s.calUp i ≤ s.calUp (txRing e.port l))

/-- Lanes of a path in service at one end, but lane l. -/
def State.calOthers (s : State) (e : PathEnt) (lead : Bool) (l : Nat) : List Nat :=
  e.dataLanes.filter fun k => decide (k ≠ l) && serving (if lead then s.txSt e.port k else s.rxSt e.port k)

/-- The leader begins (R540): traffic to lane S, the note, the tree at park, the ring in CAL. -/
def State.calLead (s : State) (e : PathEnt) (l : Nat) : State :=
  let p := e.port
  let i := txRing p l
  let n := s.cal.seq
  let others := s.calOthers e true l
  let s := { s with cal.seq := n + 1 }.setCals (s.cal.lanes ++ [(⟨i, true, e.id, l, n % 2 ^ 32, others, false, false⟩ : LaneCal)])
  let s := if l < 8 then (s.put (PORT_B p) PORT.SPARE_FOR l).setTx p 8 lnIN_SERVICE else s
  let s := s.calNote 0x60 l e.id (n % 2 ^ 32)
  let s := ((((s.setOut p l 3).setTx p l lnACQUIRING).dropWait p l).setCause p l 0).put (PORT_B p) (laneF PORT.LSTAT_RX_OK_FAR l) 0
  { s with opt.txTone := zset s.opt.txTone i false }.modSlot i fun x => { x.cleared with st := slCAL }

/-- LANE_CAL_START (R538, R540): a lane of an outbound path. -/
def execLaneCalStart (path l : Nat) (s : State) : Res :=
  s.live (match s.plan.path false path with
  | some e => if s.calMay e l ∧ s.calOldest (txRing e.port l) = true then (s.calLead e l).msgSettle else s
  | none => s)

/-- CAL_START at the drop end (R540): SEQ is the leader's. -/
def State.calDropEnd (s : State) (e : PathEnt) (l seq : Nat) : State :=
  let p := e.port
  let i := rxRing p l
  let s := s.setCals (s.cal.lanes ++ [(⟨i, false, e.id, l, seq, s.calOthers e false l, false, false⟩ : LaneCal)])
  let s := ((s.dropChecks p l).setCause p l 0).setRx p l lnACQUIRING
  s.modSlot i fun x => { x.cleared with st := slCAL }

/-- CAL_START (R540): a note with its LANE, PATH, SRC_EPOCH and SEQ. -/
def execCalStart (path l _epoch seq : Nat) (s : State) : Res :=
  s.live (match s.plan.path true path with
  | some e => if l < 9 ∧ e.has l = true ∧ serving (s.rxSt e.port l) = true ∧ s.inCal (rxRing e.port l) = false
      then ((s.countPath path).calDropEnd e l seq).msgSettle else s
  | none => s)

/-- Each stage of a lane's tree goes from BIAS + y to BIAS with y = 0 (R540). -/
def State.treeRebias (s : State) (i : Nat) : State :=
  (List.range 3).foldl (fun s k =>
    let j := 648 + 3 * i + k
    let s := s.wr (DESC_B + 64 * j + 0x10) (BitVec.ofNat 32 (twos 24 (satN 24 (s.slotBase j + (s.slot j).y))))
    s.modSlot j fun x => { x with y := 0 }) s

/-- The in-service sweep of a ring under calibration ends (R540). -/
def State.calSwept (s : State) (c : LaneCal) (f : RingFound) : State :=
  let b := s.facCurve f
  if sweepFails b f then (s.ringFails c.ring 1).endCal c.ring
  else
    let s := s.ringPass f b 1
    let s := if c.lead then s.treeRebias c.ring else s
    let s := s.setCals (s.cal.lanes.map fun x => if x.ring = c.ring then { x with swept := true } else x)
    s.slotSettle c.ring

/-- LANE_CAL_SWEEP_DONE (R540). -/
def execLaneCalSweepDone (f : RingFound) (s : State) : Res :=
  s.live (match s.cal.lanes.find? fun c => decide (c.ring = f.ring) && !c.swept with
  | some c => (s.calSwept c f).msgSettle
  | none => s)

/-- CAL_END (R540): the leader's lane has launched. -/
def execCalEnd (path l _epoch seq : Nat) (s : State) : Res :=
  s.live ((s.countPath path).setCals (s.cal.lanes.map fun c =>
    if c.lead = false ∧ c.path = path ∧ c.lane = l ∧ c.seq = seq then { c with ended := true } else c))

/-- A CAL_ABORT arrives (R542): the receiver re-couples its ring at once. -/
def State.calAborted (s : State) (c : LaneCal) : State :=
  let s := s.endCal c.ring
  if c.swept then s else if s.slotRuns c.ring then s.slotSettle c.ring else s.slotIdle c.ring

/-- CAL_ABORT (R542). -/
def execCalAbort (path l _epoch seq : Nat) (s : State) : Res :=
  s.live (match s.cal.lanes.find? fun c => decide (c.path = path ∧ c.lane = l ∧ c.seq = seq) with
  | some c => ((if c.lead then s.countReturn path else s.countPath path).calAborted c).msgSettle
  | none => s)

/-- LANE_CAL_TIMEOUT (R542): 50 ms after CAL_START, at either end. -/
def execLaneCalTimeout (ring : Nat) (s : State) : Res :=
  s.live (match s.cal.lanes.find? fun c => decide (c.ring = ring) with
  | some c => (s.calAbandon c).msgSettle
  | none => s)

/-- LANE_CAL_SKIPPED (R538): a due lane has not been calibrated within one further period. -/
def execLaneCalSkipped (path l : Nat) (s : State) : Res :=
  s.live (match s.plan.path false path with
  | some e => if s.calLane e l ∧ s.inCal (txRing e.port l) = false ∧ 2 * s.calPeriod ≤ s.upNs - s.calUp (txRing e.port l)
      then s.inc CAL_B CAL.SKIPPED_COUNT else s
  | none => s)

/-! ### The margin ledger (R545, R546) -/

def State.avsSteps (s : State) (d : Nat) : Int := signed 8 (s.get AGEING_B (AGEING.AVS_STEPS.at d 4))

/-- Set a die's step count, and the voltage that follows. -/
def State.setSteps (s : State) (d : Nat) (n : Int) : State :=
  (s.put AGEING_B (AGEING.AVS_STEPS.at d 4) (twos 8 n)).put AGEING_B (AGEING.AVS_V_MV.at d 4) (Int.ofNat (zget s.cal.facV d) + 5 * n).toNat

/-- The lowest and highest step counts (R545, R550). -/
def State.avsLo (s : State) : Int := 0 - Int.ofNat (s.get AGEING_B AGEING.AVS_CFG_FLOOR)
def State.avsHi (s : State) : Int := Int.ofNat (min 12 (s.get AGEING_B AGEING.AVS_CFG_CEIL))
def State.avsLow (s : State) : Int := Int.ofNat (s.get AGEING_B AGEING.AVS_CFG_LOW)
def State.avsHigh (s : State) : Int := max (Int.ofNat (s.get AGEING_B AGEING.AVS_CFG_HIGH)) (s.avsLow + 4)

/-- A step up or down. -/
def State.stepUp (s : State) (d : Nat) : State :=
  let s := { s.setSteps d (s.avsSteps d + 1) with cal.raised := zset s.cal.raised d (some s.upNs) }
  (s.inc AGEING_B AGEING.AVS_COUNT_RAISES).raise AGEING_B 1
def State.stepDown (s : State) (d : Nat) : State :=
  let s := { s.setSteps d (s.avsSteps d - 1) with cal.above := zset s.cal.above d (some s.upNs) }
  (s.inc AGEING_B AGEING.AVS_COUNT_LOWERS).raise AGEING_B 1

/-- Has an interval passed since an uptime, if there is one? -/
def State.since (s : State) (t : Option Nat) (ns : Nat) : Bool := t.elim true fun u => decide (ns ≤ s.upNs - u)

/-- The servo of a die's voltage; a count outside its limits comes back a step at a time. -/
def State.avsStep (s : State) (d : Nat) (m : Int) : State :=
  let n := s.avsSteps d
  let may := s.since (zget s.cal.raised d) 10000000
  if s.avsHi < n then s.stepDown d
  else if n < s.avsLo then (if may then s.stepUp d else s)
  else if m < s.avsLow ∧ n < s.avsHi then (if may then s.stepUp d else s)
  else if s.avsHigh < m ∧ (zget s.cal.above d).isSome = true ∧ s.since (zget s.cal.above d) 60000000000 = true ∧ s.avsLo < n then s.stepDown d
  else s

/-- At the ceiling while MARGIN is below LOW (R546). -/
def State.avsCeiling (s : State) (d : Nat) (m : Int) : State :=
  let f := AGEING.AVS_AT_CEILING.at d 4
  if m < s.avsLow ∧ s.avsHi ≤ s.avsSteps d then
    let s := if s.bit AGEING_B f then s else (s.put AGEING_B f 1).raise AGEING_B 2
    s.advise 0x20 2 d m
  else s.put AGEING_B f 0

/-- One sample of die d. -/
def State.avsDie (s : State) (d : Nat) (m : Int) : State :=
  let s := s.put AGEING_B (AGEING.AVS_MARGIN.at d 4) (twos 7 m)
  let since := if s.avsHigh < m then some ((zget s.cal.above d).getD s.upNs) else none
  let s := { s with cal.above := zset s.cal.above d since }
  let s := s.avsCeiling d m
  if s.on AGEING_B ∧ s.bit AGEING_B AGEING.CTRL_AVS_EN = true then s.avsStep d m else s

/-- AVS_SAMPLE (R545, R546): the worst margins of dies 0 to 3, in units of 0.5 % of the cycle, clamped to their field. -/
def execAvsSample (margins : List Int) (s : State) : Res :=
  s.live ((List.range 4).foldl (fun s d =>
    if s.diePresent d then s.avsDie d (clampI (-64) 63 (margins.getD d 0)) else s) s)

/-- LEDGER_SAVE (R545): at most once an hour. -/
def execLedgerSave (s : State) : Res :=
  s.live (if s.since s.cal.savedAt 3600000000000 then
    { ((List.range 4).filter s.diePresent).foldl (fun s d => { s with cal.steps := zset s.cal.steps d (s.avsSteps d) }) s with
      cal.savedAt := some s.upNs }
  else s)

/-! ### Advisories (R544, R548) -/

/-- Corrections since the last check of a counter; a counter that was cleared counts from zero. -/
def State.errDelta (s : State) (k now : Nat) : Nat := if zget s.cal.errBase k ≤ now then now - zget s.cal.errBase k else now

/-- The hourly check of one counter. -/
def State.errCheck (s : State) (k now thresh kind obj : Nat) : State :=
  let n := s.errDelta k now
  let s := if thresh < n then s.advise kind 1 obj (Int.ofNat n) else s
  { s with cal.errBase := zset s.cal.errBase k now }

/-- ERROR_RATE_CHECK (R544). -/
def execErrorRateCheck (s : State) : Res :=
  s.live (
    let s : State := ((List.range 4).filter s.diePresent).foldl (fun s d =>
      s.errCheck d (s.get (DIE_B d) DIE.SRAM_CORR_COUNT) (s.get AGEING_B AGEING.THRESH_ERR_SRAM_PER_H) 0x21 d) s
    ((List.range 8).filter s.stackIn).foldl (fun s m =>
      s.errCheck (16 + m) (s.get (HBM_B m) HBM.CORR_COUNT) (s.get AGEING_B AGEING.THRESH_ERR_HBM_PER_H) 0x22 m) s)

/-- ADV_CLEAR (R548): a write of 1 to AGEING.CTRL.ADV_CLEAR. -/
def execAdvClear (s : State) : Res := s.live (s.setAdv [])

end Sys2Proof.Machine
end

