-- ==== Sys2Proof/Machine/PowerCmd.lean ====
section
/-!
DEFINITION. The commands of power, reset and bring-up (R176, R178, R420, R498-R527).
-/
namespace Sys2Proof.Machine

/-! ### Reset causes -/

/-- HBM_WIPE_DONE (R178): during bring-up step 4 the stacks are all zero and their pages report READY. -/
def execHbmWipeDone (s : State) : Res :=
  s.live (if s.bringUp 4 then
    let s := s.wipeMem 0 0x8000000000
    (List.range 8).foldl (fun s m => (s.put (HBM_B m) HBM.STACK_STAT_WIPED 1).put (HBM_B m) hSTAT_READY 1) s
  else s)

/-- Page type that owns the critical state of a kind (R176, R526). -/
def critType (kind : Nat) : Nat := [0, 0x101, 0x102, 0x80, 0xD0, 0x53].getD kind 0

/-- Restore the critical state that failed (R176); `bad`: the flash copy of the map-out record is unreadable too. -/
def State.critRestore (s : State) (kind : Nat) (bad : Bool) : State :=
  match kind with
  | 2 =>
    if bad then
      (List.range 8).foldl (fun s m => s.put (HBM_B m) HBM.STACK_STAT_MARKED 0) { s with mapoutRec := [] }
    else s
  | 3 =>
    let s := s.cancelPlan.2
    let s := { s.setStage sgEMPTY with xrds := default }
    (s.put XRDS_B XRDS.STAGE_STAT_OWNER 7).put XRDS_B XRDS.ACTIVE_EPOCH_VALUE 0
  | 4 => s.loadTables
  | 5 => (s.put64 CLAIM_B CLAIM.CURRENT_LO 0).put CLAIM_B CLAIM.STAT_LOST 1
  | _ => s

/-- Is the error pattern e of a word of critical state one that the module survives (R175)? Of an RS(35,32) word one wrong
symbol; of the claim, whose two copies have eight bytes and eight parity bits each, an error that leaves every parity right
and the copies equal. Pattern 0 stands for an error beyond correction. -/
def critHarmless (kind e : Nat) : Bool :=
  let copy (k : Nat) : Nat := e / 256 ^ (9 * k) % 256 ^ 9
  let odd (c i : Nat) : Bool := ((List.range 8).filter fun j => (c / 256 ^ i).testBit j).length % 2 != c / 256 ^ 8 / 2 ^ i % 2
  if e = 0 then false
  else if kind = 5 then decide (copy 0 = copy 1) && !(List.range 8).any (odd (copy 0))
  else decide (((List.range 35).filter fun i => e / 256 ^ i % 256 ≠ 0).length = 1) && decide (e < 256 ^ 35)

/-- The corrected error is written back and counted; the loop descriptor table has a counter (R175, log entry 281). -/
def State.critCorrect (s : State) (kind addr e : Nat) : State :=
  if kind = 4 then { s with mill.descUpset := zset s.mill.descUpset (addr % 0x10000 / 32) e }.descUse (addr % 0x10000) else s

/-- CRIT_ECC (R175, R176): the kind of critical state, the address or index, whether the flash copy of the map-out record
is unreadable too (bit 0), and above it the error pattern of the word with its check symbols, of the claim's two copies. -/
def execCritEcc (kind addr bad : Nat) (s : State) : Res :=
  s.live (if 1 ≤ kind ∧ kind ≤ 5 then
    if critHarmless kind (bad / 2) then s.critCorrect kind addr (bad / 2) else
    let s := s.wr (BACKUP_B + 0x54) (BitVec.ofNat 32 (critType kind + kind * 2 ^ 16 + 2 ^ 31))
    let s := { s.put64 BACKUP_B BACKUP.CRIT_ADDR_LO addr with power.critOwed := true }
    let s := (s.critRestore kind (decide (bad % 2 = 1))).moduleReset 0x20
    -- CLAIM.STAT.LOST becomes 1 (R448)
    if kind = 5 then s.raise CLAIM_B 2 else s
  else s)

/-- MILLRACE_FATAL (R420). -/
def execMillraceFatal (s : State) : Res := s.live (if s.on MILLRACE_B then s.moduleReset 0x100 else s)

/-- PERST_N goes low or high: its pin, source 148 of Belfry, and POWER.STATE.PERST_HOLD. -/
def State.perstPin (s : State) (low : Bool) : State :=
  let s := s.put POWER_B POWER.STATE_PERST_HOLD (if low then 1 else 0)
  (s.setPin 148 (!low)).sampleNow 148 0

/-- The states that a module reset finds with its cause: PERST_N low (2), the bulk below its level (1), a trip (4). -/
def State.causeHolds (s : State) (mask : Nat) : State :=
  let s := if mask.testBit 2 then s.perstPin true else s
  let s := if mask.testBit 1 then { s with power.railsOk := false } else s
  if mask.testBit 4 then (s.put POWER_B POWER.STATE_THERM_HOLD 1).put POWER_B POWER.THERM_TRIPPED 1 else s

/-- A module reset with its causes; PERST_N also resets the PCIe interface, whose link goes down (R455, R466, R504, R505, R511). -/
def State.causedReset (s : State) (mask : Nat) : State :=
  let s := (s.causeHolds mask).moduleReset mask
  if mask.testBit 2 then s.pcieReset.linkTo 0 0 0 else s

/-- PERST (R505, R511): held while PERST_N is low. -/
def execPerst (s : State) : Res := s.live (s.causedReset 4)

/-- PERST_RELEASE (R507). -/
def execPerstRelease (s : State) : Res := s.live (((s.perstPin false).line4 s).tryRails)

/-! ### Input and bulk (R498-R501) -/

/-- The sampled straps: BOOTSEL and CLKMODE (R514). -/
def State.setStraps (s : State) (straps : Nat) : State := s.put MODULE_B ⟨0x4C, 2, 0⟩ straps

/-- The aux rail comes up: the straps are sampled, a backup domain that lost its contents (1) takes the epoch, a THERM_HOLD
ends when every sensor reads below its resume level (1), and a power-on reset into STANDBY follows (R502). -/
def State.auxStart (s : State) (straps lost epoch cool : Nat) : State :=
  let s := { s with power.off := false, power.inLow := true, power.inHigh := false, power.switchOpen := false, power.railsOk := false }
  let s := s.setStraps straps
  let s := if cool = 1 then (s.put POWER_B POWER.STATE_THERM_HOLD 0).put POWER_B POWER.THERM_TRIPPED 0 else s
  let s := if lost = 1 then s.backupLost (if epoch % 2 ^ 32 = 0 then 1 else epoch % 2 ^ 32) else s
  let s := (s.coldReset 1 false).raise POWER_B 0
  if lost = 1 then (s.raise BACKUP_B 0).record BACKUP_B 0x0015 [(s.rd (BACKUP_B + 0x40)).toNat] else s

/-- AUX_START (R498, R505, R513): the straps, whether the backup domain lost its contents, the epoch of the entropy
source, and whether every sensor reads below its resume level. -/
def execAuxStart (straps lost epoch cool : Nat) (s : State) : Res :=
  .next (if s.power.off then { s.auxStart straps lost epoch cool with pending := s.pending } else s)

/-- INPUT_RANGE (R498): the input is below 720 V (kind 0) or above 880 V (kind 1). -/
def execInputRange (kind : Nat) (s : State) : Res :=
  s.live ((if kind = 0 then { s with power.inLow := true, power.railsOk := false } else { s with power.inHigh := true }).raise POWER_B 1)

/-- OVERVOLTAGE_DISCONNECT (R498). -/
def execOvervoltageDisconnect (s : State) : Res := s.live { s with power.switchOpen := true }

/-- SWITCH_RECLOSE (R498): the input has been below 880 V for 100 ms. -/
def execSwitchReclose (s : State) : Res := s.live { s with power.switchOpen := false, power.inHigh := false }

/-- MAIN_RAILS_PERMITTED (R498, R518); over is 1 when the input is above 880 V. -/
def execMainRailsPermitted (high : Nat) (s : State) : Res :=
  s.live ({ s with power.inLow := false, power.inHigh := decide (high = 1), power.railsOk := true }.tryRails)

/-- BROWNOUT (R500): INPUT.VOLTS before the loss and INPUT_PWR.W, for the record. -/
def execBrownout (volts w : Nat) (s : State) : Res :=
  s.live ((s.causedReset 2).record POWER_B 0x0013 [volts, w])

/-- A page of a comb or a port. -/
def opticsPage (p : Nat) : Bool :=
  (List.range 2).any (fun e => decide (p = COMB_B e / 4096)) || (List.range 36).any fun q => decide (p = PORT_B q / 4096)

/-- Every laser is off, every ring uncoupled and every tree at park (R334). -/
def State.opticsOff (s : State) : State :=
  { s.resetRegs opticsPage (fun _ => 0) with opt := { (default : OptSt) with seen := s.opt.seen }, mill.slots := [] }

/-- AUX_STOP (R334, R498, R502, R554): pending records are written from the hold-up energy, and the module is OFF. -/
def execAuxStop (s : State) : Res := s.live ({ s.logFlush.opticsOff with power.off := true })

/-- The power cap in W: values of CAP_W above 4,000 act as 4,000, below 1,000 as 1,000 (R525). -/
def State.capW (s : State) : Nat := max 1000 (min 4000 (s.get POWER_B POWER.CTRL_CAP_W))

/-- Compare the averages last seen with the cap (R501): over 10 ms with CAP_W, over 1 ms with CAP_W + 400 W. -/
def State.capCheck (s : State) : State :=
  let on := s.bit POWER_B POWER.CAP_STAT_ENGAGED
  if s.capW < s.power.avg10 ∨ s.capW + 400 < s.power.avg1 then
    if on then s else ((s.put POWER_B POWER.CAP_STAT_ENGAGED 1).inc POWER_B POWER.CAP_STAT_COUNT).raise POWER_B 3
  else if on ∧ s.power.avg10 < s.capW ∧ s.power.avg1 < s.capW + 400 then s.put POWER_B POWER.CAP_STAT_ENGAGED 0
  else s

/-- CAP (R501): the averages exceed the cap: one of them exceeds its limit, by a free value (log entry 343). -/
def execCap (s : State) : Res :=
  s.live (
    let (x, s) := s.freeVal
    let (y, s) := s.freeVal
    { s with power.avg10 := x, power.avg1 := if s.capW < x then y else s.capW + 401 + y }.capCheck)

/-- CAP_DISENGAGED (R501): both averages are below their limits, by free values. -/
def execCapDisengaged (s : State) : Res :=
  s.live (
    let (x, s) := s.freeVal
    let (y, s) := s.freeVal
    { s with power.avg10 := x % s.capW, power.avg1 := y % (s.capW + 400) }.capCheck)

/-! ### Temperatures (R503, R504) -/

/-- THERM_WARN (R503). -/
def execThermWarn (s : State) : Res :=
  s.live (if s.bit POWER_B POWER.THERM_WARN then s else (s.put POWER_B POWER.THERM_WARN 1).raise POWER_B 2)

/-- THERM_WARN_CLEAR (R503). -/
def execThermWarnClear (s : State) : Res := s.live (s.put POWER_B POWER.THERM_WARN 0)

/-- THERM_TRIP (R504). -/
def execThermTrip (s : State) : Res := s.live (s.causedReset 0x10)

/-- A write of POWER.CTRL.RESUME; cool: every sensor reads below its resume level. -/
def State.resume (s : State) (path : Nat) (cool : Bool) : State :=
  if s.bit POWER_B POWER.STATE_THERM_HOLD && cool then
    ((s.put POWER_B POWER.STATE_THERM_HOLD 0).put POWER_B POWER.THERM_TRIPPED 0).tryRails
  else s.recErrX POWER_B 17 0x8F02 path

/-- RESUME (R504). -/
def execResume (path cool : Nat) (s : State) : Res := s.heard path (s.resume path (decide (cool = 1)))

/-- STAY_STANDBY_WRITE (R502): the bit written. -/
def execStayStandbyWrite (v : Nat) (s : State) : Res := s.live ((s.put POWER_B POWER.CTRL_STAY_STANDBY (v % 2)).tryRails)

/-! ### Resets by command and the watchdog (R505-R511, R524) -/

/-- A write of RESET.CTRL (R524). -/
def State.resetCtrl (s : State) (path v : Nat) : State :=
  if v / 2 ^ 16 % 2 ^ 16 = 0x5253 ∧ v % 4 = 1 then s.moduleReset 0x40
  else if v / 2 ^ 16 % 2 ^ 16 = 0x5253 ∧ v % 4 = 2 then s.warmReset 14
  else s.recErrX RESET_B 16 0x9001 path

/-- RESET_CTRL_MODULE (R524): the path and the key written with MODULE 1. -/
def execResetCtrlModule (path key : Nat) (s : State) : Res := s.heard path (s.resetCtrl path (key % 2 ^ 16 * 2 ^ 16 + 1))

/-- RESET_CTRL_REEVE (R524): the path and the key written with REEVE 1. -/
def execResetCtrlReeve (path key : Nat) (s : State) : Res := s.heard path (s.resetCtrl path (key % 2 ^ 16 * 2 ^ 16 + 2))

/-- MODULE_RESET (R505, R507, R511): a mask of the causes that arise in this cycle, one of a module reset among them. The
watchdog's first expiry sets its bit too, but the wider reset acts. -/
def execModuleReset (causes : Nat) (s : State) : Res :=
  s.live (if causes &&& 0x1F6 = 0 then s else (s.setCauses (causes &&& 8)).causedReset (causes &&& 0x1F6))

/-- Is another reset in progress? DEDUCED (log entry 346): one whose bring-up waits is (R511). -/
def State.resetting (s : State) : Bool :=
  s.reeve.down || (decide (s.pstate = 1) && !s.bit POWER_B POWER.STATE_HOLD)

/-- COLD_RESET (R505, R506, R511): a mask of the causes that arise in this cycle, a cold one among them; LAST.SOURCE
names the lowest cold one. -/
def execColdReset (causes : Nat) (s : State) : Res :=
  s.live (if causes &&& 9 = 0 then s
    else (s.setCauses (causes &&& 0x1F6)).coldReset (causes &&& 9) s.resetting)

/-- The watchdog's first expiry (R509): its event, STAGE 1, and a Reeve warm reset with cause WDT_REEVE. -/
def State.wdtFirst (s : State) : State :=
  ((((s.raise RESET_B 1).put RESET_B RESET.WDT_STAT_STAGE 1).setCauses 8).warmReset 3).wdtRestart

/-- REEVE_WARM_RESET (R508): by the watchdog (1) or by command (0). -/
def execReeveWarmReset (wdt : Nat) (s : State) : Res :=
  s.live (if wdt = 1 then s.wdtFirst else s.warmReset 14)

/-- WDT_KICK (R509, R524): the key written. -/
def State.kick (s : State) (key : Nat) : State :=
  if key % 2 ^ 16 = 0x4B49 then s.wdtKicked else s
def execWdtKick (key : Nat) (s : State) : Res := s.live (s.kick key)

/-- WDT_EXPIRED (R509): a Reeve warm reset at the first expiry, a cold reset at the second. -/
def execWdtExpired (s : State) : Res :=
  s.live (if s.bit RESET_B RESET.WDT_CTRL_EN then
    if s.get RESET_B RESET.WDT_STAT_STAGE = 0 then s.wdtFirst
    else let s := s.raise RESET_B 1; s.coldReset 8 s.resetting
  else s)

/-! ### Life cycle (R522, R523) -/

/-- A write of POWER.LC. -/
def State.lcWrite (s : State) (path key target : Nat) : State :=
  let cur := s.get POWER_B POWER.LC_STATE
  if key % 2 ^ 16 = 0x4C43 ∧ lcAllowed cur (target % 4) = true ∧ s.jobState ≠ jsLOADING ∧ s.jobState ≠ jsRUNNING then
    { s with power.lcTarget := some (target % 4) }.moduleReset 0x40
  else s.recErrX POWER_B 16 0x8F01 path

/-- LC_WRITE (R523). -/
def execLcWrite (path key target : Nat) (s : State) : Res := s.heard path (s.lcWrite path key target)

/-- LC_CHANGED (R523): once the wipes of the reset are complete. -/
def execLcChanged (s : State) : Res :=
  s.live (match s.power.lcTarget with
  | some n => if 5 ≤ s.bstep then { s with power.lcTarget := none }.enterLc (s.get POWER_B POWER.LC_STATE) n else s
  | none => s)

/-! ### Bring-up (R517) -/

/-- FIRMWARE: step 1 ends. `hub` is 1 + the failing block code of the hub's BIST, `sensor` 1 + the index of a sensor that
cannot be read (0: none), `lc` 1 when neither copy of the life-cycle state is readable. -/
def execFirmware (hub sensor lc : Nat) (s : State) : Res :=
  s.live (if (s.bringUp 0 || s.bringUp 1) && decide (s.upd.rom = 0) && !s.reeve.down then
    let s := (s.loadTables).setReady hubPages
    let s := s.record RESET_B 0x0010 [(s.rd (RESET_B + 0x40)).toNat, (s.rd (BACKUP_B + 0x50)).toNat, (s.rd (MODULE_B + 0x4C)).toNat,
      (s.rd (UPDATE_B + 0x58)).toNat]
    let s := s.owedRecs
    let s := if lc = 1 then (s.enterLc (2 ^ 32 - 1) 3).setItem 1 1 0x4C43 else s
    let s := if hub = 0 then s else s.setItem 1 3 (hub - 1)
    let s := if sensor = 0 then s else s.setItem 2 3 (sensor - 1)
    s.stepEnd 1
  else s)

/-- CLOCK: step 2 ends; ref is 1 when REFCLK is present and within tolerance (R16, R518). -/
def execClock (ref : Nat) (s : State) : Res :=
  s.live (if s.bringUp 2 && !s.reeve.down && (s.bit MODULE_B MODULE.STRAPS_CLKMODE || decide (ref = 1)) then
    let s := (if ref = 1 then s.refclkRises else s.refclkFalls).put MODULE_B MODULE.CLK_STAT_ROOT_LOCK 1
    { s.put POWER_B POWER.STATE_STEP 3 with power.waitRails := true }.tryRails
  else s)

/-- The saved core voltages (R545). -/
def State.savedVolts (s : State) : State :=
  (List.range 4).foldl (fun s d =>
    let n := zget s.cal.steps d
    (s.put AGEING_B (AGEING.AVS_STEPS.at d 4) (twos 8 n)).put AGEING_B (AGEING.AVS_V_MV.at d 4)
      (Int.toNat (Int.ofNat (zget s.cal.facV d) + 5 * n))) s

/-- MAIN_RAILS: step 3 ends, with the mask of rails out of tolerance and the coolant inlet in °C (R520). -/
def execMainRails (fail inlet : Nat) (s : State) : Res :=
  s.live (if s.bringUp 3 && !s.power.waitRails then
    let ok (lo n : Nat) : Nat := 2 ^ n - 1 - fail / 2 ^ lo % 2 ^ n
    let s := (s.put POWER_B POWER.RAILS_MAIN_OK (ok 0 1)).put POWER_B POWER.RAILS_CORE_OK (ok 1 4)
    let s := ((s.put POWER_B POWER.RAILS_HBM_OK (ok 5 8)).put POWER_B POWER.RAILS_OE_OK (ok 13 2)).savedVolts
    let s := s.owedRecs.setItem 0 (if fail % 2 ^ 16 = 0 then 0 else 3) (fail % 2 ^ 16)
    (s.setItem 4 (if 50 < inlet then 3 else 0) inlet).stepEnd 3
  else s)

/-- MEMORY: step 4 ends. Tiles that fail BIST (die, physical row and column), mask of failed dies, masks of stacks that
fail training and BIST, and what die-link training found. -/
def execMemory (tiles : List (Nat × Nat × Nat)) (dead train bist : Nat) (links : List (Nat × Nat × Nat × Nat)) (s : State) : Res :=
  s.live (if s.bringUp 4 && !s.reeve.down then s.memoryStep ⟨tiles, dead, train, bist, links⟩ else s)

/-- OPTICS: step 5 ends. Self-test codes of the engines (0: passed), shut-off time in ns, mask of combs in FAULT. -/
def execOptics (codes : List Nat) (ns combs : Nat) (s : State) : Res :=
  s.live (if s.bringUp 5 && !s.reeve.down then (s.opticsStep codes ns combs).msgSettle else s)

/-- DONE: step 7 ends. -/
def execDone (s : State) : Res := s.live (if s.bringUp 7 && !s.reeve.down then s.doneStep.msgSettle else s)

/-- BACKUP_CHARGED (R512). -/
def execBackupCharged (s : State) : Res :=
  s.live (if s.bit BACKUP_B BACKUP.STAT_CHARGED then s else (s.put BACKUP_B BACKUP.STAT_CHARGED 1).raise BACKUP_B 1)

end Sys2Proof.Machine
end

