-- ==== Sys2Proof/Machine/TimeCmd.lean ====
section
/-!
DEFINITION. The commands of the time base, the capture units and the trigger units (08_time.md), and the time frames
between modules (R284, R285).
-/
namespace Sys2Proof.Machine

/-! ### Clock commands -/

/-- INC_WRITE (R275): a write of TIME.INC_NS, with the low half written before it. -/
def execIncWrite (ns frac : Nat) (s : State) : Res := s.live (s.incWrite ns frac)

/-- STEP_GO (R276): a write of STEP_CTRL; GO already 1 stays. -/
def execStepGo (v : Word) (s : State) : Res := s.live (s.stepGo v)

/-- STEP_APPLY (R276): the next tick, at which a requested step is applied. -/
def execStepApply (s : State) : Res := s.live (if s.bit TIME_B TIME.STEP_CTRL_GO then s.tick.drainCheck else s)

/-- SRC_WRITE (R279): a write of TIME.CTRL. -/
def execSrcWrite (v : Word) (s : State) : Res := s.live (s.srcWrite v)

/-- PPS_PULSE (R281, R287): an edge on PPS_IN, `half` half-ticks (1.25 ns) after the last tick, merged or not. -/
def execPpsPulse (rising merged half : Nat) (s : State) : Res :=
  s.live (s.ppsPulse (decide (rising % 2 = 1)) (decide (merged % 2 = 1)) half)

/-- PPS_LOST (R281). -/
def execPpsLost (s : State) : Res := s.live s.ppsGone

/-- SYNC_LOSS (R279): no Sync for SYNC_LOSS under a source of 2 to 4. -/
def execSyncLoss (s : State) : Res := s.live (if 2 ≤ s.timeSrc then s.sourceLost else s)

/-! ### Time frames (R284, R285) -/

/-- Bit p of ZT_MASTER. -/
def State.ztMaster (s : State) (p : Nat) : Bool := s.bit TIME_B (bitF (0x8C + p / 32 * 4) (p % 32))

/-- LOG_INTERVAL in force: values outside -10 to 0 act as -6. -/
def State.ztInterval (s : State) : Int :=
  let v := signed 8 (s.get TIME_B TIME.ZT_CTRL_LOG_INTERVAL)
  if -10 ≤ v ∧ v ≤ 0 then v else -6

/-- Send a time frame on an outbound path that serves: type, FLAGS, path, epoch, SEQ, coordinate, LOG_INTERVAL, TS, REPLY_PATH.
ONE_STEP is set where TS is inserted at egress: not in a DRESP, whose TS is an ingress stamp (R284, R285). -/
def State.ztOut (s : State) (ty path seq t reply : Nat) : State :=
  s.sendPath path .ztFrame [ty, if ty = 0x42 then 0 else 1, path, s.ownEpoch, seq, s.plan.coord 0, s.plan.coord 1, s.plan.coord 2,
    twos 8 s.ztInterval, t / nsU, t % nsU, reply]

/-- The add port of an outbound path on which a frame can leave now; time frames run while TIME is enabled (R293, R508). -/
def State.ztPort (s : State) (path : Nat) : Option Nat :=
  if s.on TIME_B && s.pathServes path then (s.plan.path false path).map PathEnt.port else none

/-- ZT_SYNC_SEND (R285): the SYNC due on a path added at a master port. -/
def execZtSyncSend (path : Nat) (s : State) : Res :=
  s.live (match s.ztPort path with
  | some p =>
    if s.ztMaster p then
      let n := zget s.time.ztSeq path
      ({ s with time.ztSeq := zset s.time.ztSeq path ((n + 1) % 2 ^ 32) }).ztOut 0x40 path n (s.tsOut p) 0
    else s
  | none => s)

/-- An instant of a frame: nanoseconds and fraction. -/
def tsOf (ns frac : Nat) : Nat := (ns * nsU + frac % nsU) % clockMod

/-- ZT_SYNC_RX (R285): a SYNC arrives at port p on a path. -/
def execZtSyncRx (p path seq ns frac : Nat) (s : State) : Res :=
  s.live (let t := s.countIn p
  if s.on TIME_B = true ∧ p < 36 ∧ path = s.get TIME_B TIME.ZT_SLAVE_PATH then
    let t := { t with time.ztSync := some (seq, tsOf ns frac, s.tsIn p, none) }
    if t.timeSrc = 4 then t.sourceBack else t
  else t)

/-- ZT_DREQ_SEND (R285): the DREQ that answers the accepted SYNC. -/
def execZtDreqSend (s : State) : Res :=
  s.live (match s.time.ztSync with
  | some (seq, t1, t2, none) =>
    let r := s.get TIME_B TIME.ZT_SLAVE_RPATH
    match s.ztPort r with
    | some p =>
      let t3 := s.tsOut p
      ({ s with time.ztSync := some (seq, t1, t2, some t3) }).ztOut 0x41 r seq t3 (s.get TIME_B TIME.ZT_SLAVE_PATH)
    | none => s
  | _ => s)

/-- ZT_DREQ_RX (R285): a DREQ arrives at port p; the DRESP leaves on its REPLY_PATH, from a master port. -/
def execZtDreqRx (p seq reply : Nat) (s : State) : Res :=
  s.live (match s.ztPort reply with
  | some q => if p < 36 ∧ s.ztMaster q = true then (s.countIn p).ztOut 0x42 reply seq (s.tsIn p) 0 else s.countIn p
  | none => s.countIn p)

/-- ZT_ASYM in units of 2^-32 ns. -/
def State.ztAsym (s : State) : Int := signed 32 (s.get TIME_B TIME.ZT_ASYM_PS) * Int.ofNat nsU / 1000

/-- ZT_DRESP_RX (R285): one sample. -/
def execZtDrespRx (path seq ns frac : Nat) (s : State) : Res :=
  s.live (let s := s.countPath path
  match s.time.ztSync with
  | some (n, t1, t2, some t3) =>
    if s.on TIME_B = true ∧ path = s.get TIME_B TIME.ZT_SLAVE_PATH ∧ seq = n then
      let s := { s with time.ztSync := none }
      let fwd := clockDiff t2 t1
      let back := clockDiff (tsOf ns frac) t3
      if s.timeSrc = 4 then s.servoSample (fwd - (fwd + back) / 2 - s.ztAsym) else s
    else s
  | _ => s)

/-! ### PTP (R286) -/

/-- PTP_SYNC_TX (R283, R286): one-step Sync of management port n. -/
def execPtpSyncTx (n : Nat) (s : State) : Res :=
  s.live (if s.ptpRole n = 2 then s.ptpOut n 0 0 (s.tsOut (36 + n)) else s)

/-- PTP_ANNOUNCE_TX (R286): Announce with clockClass 248. -/
def execPtpAnnounceTx (n : Nat) (s : State) : Res := s.live (if s.ptpRole n = 2 then s.ptpOut n 11 248 0 else s)

/-- PTP_SYNC_RX (R286): a Sync from `master` in a domain, with its origin instant. -/
def execPtpSyncRx (n dom master ns frac : Nat) (s : State) : Res :=
  s.live (s.mgmtFrame n fun s => s.ptpSyncIn n dom master (tsOf ns frac))

/-- PTP_DELAY_REQ_RX (R286): Delay_Resp with the ingress instant. -/
def execPtpDelayReqRx (n dom slave : Nat) (s : State) : Res :=
  s.live (s.mgmtFrame n fun s =>
    if s.ptpRole n = 2 ∧ dom = s.get TIME_B TIME.PTP_CTRL_DOMAIN then s.ptpOut n 9 slave (s.tsIn (36 + n)) else s)

/-- PTP_DELAY_RESP_RX (R286). -/
def execPtpDelayRespRx (n dom master ns frac : Nat) (s : State) : Res :=
  s.live (s.mgmtFrame n fun s => s.ptpRespIn n dom master (tsOf ns frac))

/-! ### Capture (R287, R288) -/

/-- CAPTURE_EDGE (R287): an edge of the selected kind on EVT_IN0 (c 1) or EVT_IN1 (c 2). -/
def execCaptureEdge (c half rising merged : Nat) (s : State) : Res :=
  s.live (if (c = 1 ∨ c = 2) ∧ s.capTakes c (decide (rising % 2 = 1)) = true then
    s.capture c half (decide (rising % 2 = 1)) (decide (merged % 2 = 1))
  else s)

/-- CAP_TS_READ (R294). -/
def execCapTsRead (c : Nat) (s : State) : Res :=
  s.live (if c < 3 then (let (v, s) := s.capRead c; s.emit .read [v]) else s)

/-! ### Trigger units (R289-R292) -/

/-- The number of PPS_OUT in an output of kind pin (log entry 5): its level follows, 0, 1, or 2 for high impedance. -/
def pinPPS : Nat := 0

/-- The barriers whose record names a unit are released (R204, R290). -/
def State.trigBarriers (s : State) (u : Nat) : State :=
  (s.job.img.bars.filter fun r => decide (r.kind = 1 ∧ r.trigger = u) && decide (r.mask / 2 ^ s.phase % 2 = 1)).foldl
    (fun s r => s.releaseAt r.id) s

/-- Advance a periodic unit past the clock, or disarm a one-shot (R289). -/
def State.trigNext (s : State) (u : Nat) : State :=
  let b := TRIGGERS_B
  let per := s.get b (trigF TRIGGERS.PERIOD_NS u)
  if per = 0 then s.setArm u 0
  else
    let p := max 100 per
    let t := s.get64 b (trigF TRIGGERS.TIME_LO u)
    let n := (s.nowNs + 2 ^ 64 - t) % 2 ^ 64 / p + 1
    (s.put64 b (trigF TRIGGERS.TIME_LO u) (t + n * p)).incBy b (trigF TRIGGERS.MISSED_COUNT u) (n - 1)

/-- What a firing of unit u drives (R290). -/
def State.trigActs (s : State) (u : Nat) : State :=
  let b := TRIGGERS_B
  let s := (s.trigBarriers u).millTrigger u
  let s := if u = 31 then s.raiseAlways b 31 else if s.bit b (trigF TRIGGERS.CTRL_IRQ u) then s.raise b u else s
  if s.bit b (trigF TRIGGERS.CTRL_OUT_PPS u) && s.bit b TRIGGERS.PPS_CTRL_OE then
    { s with time.ppsOut := true }.emit .pin [pinPPS, 1]
  else s

/-- A unit fires (R289, R290, R292, R427). -/
def State.trigFire (s : State) (u : Nat) : State :=
  let t := s.get64 TRIGGERS_B (trigF TRIGGERS.TIME_LO u)
  let s := ((s.inc TRIGGERS_B (trigF TRIGGERS.FIRES_COUNT u)).trigNext u).trigActs u
  if u = 31 then s.switchAll t else s

/-- A switch whose instant is reached fires before what else is due in that tick (R427, R436). -/
def State.fireSwitch (s : State) : State :=
  if s.trigArmed 31 ∧ s.reached (s.get64 TRIGGERS_B (trigF TRIGGERS.TIME_LO 31)) then s.trigFire 31 else s

/-- TRIGGER_FIRE (R289): an armed unit whose instant is reached. -/
def execTriggerFire (u : Nat) (s : State) : Res :=
  s.live (if u < 32 ∧ s.trigArmed u = true ∧ s.reached (s.get64 TRIGGERS_B (trigF TRIGGERS.TIME_LO u)) = true
      ∧ (s.on TRIGGERS_B = true ∨ u = 31) then (s.trigFire u).msgSettle else s)

/-- Refusals of writes to a unit (R291, R292, R297). -/
def State.trigBusy (s : State) (path u : Nat) : State := s.recErr TRIGGERS_B 16 0x8601 path u
def State.trigReserved (s : State) (path : Nat) : State := s.recErrX TRIGGERS_B 17 0x8602 path

/-- The writable bits of CTRL. -/
def State.trigBits (s : State) (u : Nat) (v : Word) : State :=
  (s.put TRIGGERS_B (trigF TRIGGERS.CTRL_OUT_PPS u) (v.toNat / 2)).put TRIGGERS_B (trigF TRIGGERS.CTRL_IRQ u) (v.toNat / 4)

/-- A write of CTRL (R291, R292, R296): with ENABLE at 0, ARM = 1 is ignored and the other bits are written. -/
def State.trigCtrl (s : State) (path u : Nat) (v : Word) : State :=
  let arm := v.getLsbD 0
  if u = 31 then s.trigReserved path
  else if s.trigArmed u then
    if arm then
      if s.get TRIGGERS_B (trigF TRIGGERS.CTRL_OUT_PPS u) = v.toNat / 2 % 2 ∧ s.get TRIGGERS_B (trigF TRIGGERS.CTRL_IRQ u) = v.toNat / 4 % 2
      then s else s.trigBusy path u
    else (s.setArm u 0).trigBits u v
  else if arm && s.on TRIGGERS_B then (s.trigBits u v).setArm u 1
  else s.trigBits u v

/-- A write of TIME (64 bits) or PERIOD. -/
def State.trigTime (s : State) (path u v : Nat) : State :=
  if u = 31 then s.trigReserved path else if s.trigArmed u then s.trigBusy path u
  else s.put64 TRIGGERS_B (trigF TRIGGERS.TIME_LO u) v
def State.trigPeriod (s : State) (path u : Nat) (v : Word) : State :=
  if u = 31 then s.trigReserved path else if s.trigArmed u then s.trigBusy path u
  else s.put TRIGGERS_B (trigF TRIGGERS.PERIOD_NS u) v.toNat

/-- TRIGGER_CTRL_WRITE (R291). -/
def execTriggerCtrlWrite (path u : Nat) (v : Word) (s : State) : Res := s.heard path (if u < 32 then s.trigCtrl path u v else s)

/-- PPS_OUT_END (R290): the width has passed. -/
def execPpsOutEnd (s : State) : Res :=
  s.live (if s.time.ppsOut then { s with time.ppsOut := false }.emit .pin [pinPPS, if s.bit TRIGGERS_B TRIGGERS.PPS_CTRL_OE then 0 else 2] else s)

end Sys2Proof.Machine
end

