-- ==== Sys2Proof/Machine/Views.lean ====
section
/-!
DEFINITION. What a read of a register returns where its value is computed from the state of its block, and when a page is
IDLE. Measured values for which no rule gives a value (temperatures, powers, voltages, converter load) are free values at
each read (log entry 1).
-/
namespace Sys2Proof.Machine

/-! ### IDLE (R23 and the page sections) -/

/-- Is an operation of tile g on the links of die d, for all the model can tell (R155)? A scheduled SEND whose words have
begun to enter, and a PREFETCH or STORE unless a quiesce holds it at its source. -/
def State.onLinks (s : State) (d g : Nat) (o : Op) : Bool :=
  (s.entered g o && (s.crossed (tilePos g) (tilePos (sendDst o.word))).contains d)
    || (decide (iOp o.word = 0x41 ∨ iOp o.word = 0x42) && s.reachable g (baddr o 103 64).toNat
      && (s.memDies g (baddr o 103 64).toNat).contains d && !decide (tileOfAddr (baddr o 103 64).toNat = g))

/-- Do the packets of a GATHER or of a reshard copy in progress cross links of die d: those that nothing holds at their source
(R136, R155)? -/
def State.engineOnLinks (s : State) (d : Nat) : Bool :=
  (s.msg.walking.any fun x => (s.queue x.1 3).any fun o => decide (o.seq = x.2)
    && !(s.walkReads x.1 o).any (s.gatherHeld x.1) && (s.walkReads x.1 o).any fun a => (s.memDies x.1 a).contains d)
  || ((List.range (s.phaseEnt s.phase).rsCount).any fun i =>
    let r := s.rsDesc i
    s.rsRunning i && decide (r.kind = 0) && !s.rsHeld i
      && (rsSrcs r ++ rsDsts r).any fun x => (s.engineDies r.die x.1.toNat).contains d)

/-- Is there no scheduled word and no dynamic packet on any link of die d (R155)? -/
def State.meshIdle (s : State) (d : Nat) : Bool :=
  !(s.flights.any fun f => (s.crossed (tilePos f.src) (tilePos f.dst)).contains d)
    && !(s.tile.queue.any fun e => e.2.any (s.onLinks d (e.1 / 8))) && !s.engineOnLinks d


/-- Free receive buffers of port p on a channel of n: a frame held for its notify, and frames that wait for a block to take work,
keep theirs (R243, R257, R258). -/
def State.rxFree (s : State) (p vc n : Nat) : Nat :=
  let held := (s.plan.paths.filter fun e => e.inbound && decide (e.port = p) && (s.rpair e.id vc).held.isSome).length
  n - held - (s.msg.offers.filter fun x => match x with
    | .frame q v _ _ => decide (q = p ∧ v = vc)
    | _ => false).length

/-- PAGE_STAT.IDLE of MENG d (R270). -/
def State.engineIdle (s : State) (d : Nat) : Bool :=
  (s.slotsOpen d).isEmpty && (s.slotsLeaving d).isEmpty && decide (s.rxOpen d = 0) && (s.walks d).isEmpty
    && !s.bit (MENG_B d) MENG.QCMD_STAT_BUSY

/-- Does no frame wait for the transmit lanes of port p, and are its receive buffers empty (R339)? -/
def State.portIdle (s : State) (p : Nat) : Bool :=
  let out (path : Nat) : Bool := (s.plan.path false path).any fun e => decide (e.port = p)
  !(s.msg.rpairs.any fun e => e.2.held.isSome && (s.plan.path true (e.1 / 2)).any fun x => decide (x.port = p))
    && !(s.msg.offers.any fun x => match x with
      | .frame q _ _ _ => decide (q = p)
      | .chain q _ _ _ => decide (q = p)
      | _ => false)
    && !(s.opt.wait.any fun f => decide (f.port = p))
    && !(s.msg.ops.any fun o => o.ready && (s.route o).any out)
    && !(s.msg.pairs.any fun e => out (e.1 / 2) && e.2.replay.any fun r => !r.sent)

/-- PAGE_STAT.IDLE by page type and instance. -/
def State.idle (s : State) (ty : PageTy) (inst : Nat) : Bool :=
  match ty with
  | .TILE => (decide (s.tstate inst < 2) || decide (5 ≤ s.tstate inst)) && !s.inflight inst
  | .MESH => s.meshIdle inst
  | .RESHARD => !s.bit (RESHARD_B inst) RESHARD.STAT_ACTIVE
  | .MSG => s.msg.ops.all fun o => !o.opened
  | .MENG => s.engineIdle (inst / 16)
  | .TRIGGERS => (List.range 32).all fun u => !s.trigArmed u
  | .ENGINE => (enginePorts inst).all fun p => !s.on (PORT_B p)
  | .COMB => (enginePorts inst).all fun p => !s.on (PORT_B p)
  | .PORT => s.portIdle inst
  | .XRDS | .XRDS_ID | .XRDS_FREE => decide (s.stageSt ≠ sgCHECKING) && decide (s.stageSt ≠ sgARMED)
  | .MILLRACE => (List.range 2048).all fun i => !s.dRun i
  | .HOSTWIN => !s.bit HOSTWIN_B HOSTWIN.MBOX_STAT_BUSY && !s.msg.offers.any Offer.host
  | .MGMT => (zget s.host.waiting inst).isEmpty && decide (s.host.serving ≠ inst + 1)
  | .BELFRY | .BELFRY_SRC | .BELFRY_SUM | .BELFRY_HDR => s.sources.all fun i => !s.claimed i
  | .CAL => s.led.isEmpty
  | .LOG => s.log.fifo.isEmpty && decide (s.log.prog = 0)
  | .UPDATE => [0, 3, 4, 8, 9].contains s.updSt
  | _ => true

/-! ### Fields that measure (log entry 1) -/

/-- The bits of a register that show a measurement. -/
def viewMask (ty : PageTy) (off : Nat) : Nat :=
  match ty with
  | .HBM => if off = 0x40 then 0xFF0000 else 0
  | .ENGINE => if off = 0x4C then 0xFFFF else 0
  | .COMB => if off = 0x48 ∨ off = 0x50 then 0xFFFFFFFF else 0

  | .POWER => if off = 0x48 ∨ off = 0x4C ∨ off = 0x50 then 0xFFFFFFFF else if off = 0x58 ∨ off = 0x5C then 0xFFFF else 0
  | .BACKUP => if off = 0x40 then 0xFFFF0000 else 0
  | _ => 0

/-- A value with the bits of a mask free. -/
def State.freeBits (s : State) (v m : Nat) : Nat × State :=
  if m = 0 then (v, s) else
  let (x, s) := s.freeVal
  ((v &&& (2 ^ 32 - 1 - m)) ||| (x % 2 ^ 32 &&& m), s)

/-! ### Optics (R335, R340) -/

/-- PORT.STAT.STATE. -/
def State.portState (s : State) (p : Nat) : Nat :=
  if !s.portOn p || !s.combGood (portEngine p) then 0
  else if (List.range 9).any fun l => serving (s.rxSt p l) || serving (s.txSt p l) then 3
  else if s.maintPort p then 4
  else if s.bit (PORT_B p) PORT.STAT_RX_LIGHT then 2 else 1

/-- STAT.DATA_LANES. -/
def State.dataLanes (s : State) (p : Nat) : Nat :=
  min 8 ((countOf 8 fun l => decide (s.txSt p l = lnIN_SERVICE)) + (if s.get (PORT_B p) PORT.SPARE_FOR ≠ 0xF then 1 else 0))

/-- TX_STATE and RX_STATE: eight four-bit fields. -/
def nibbles (f : Nat → Nat) : Nat := ((List.range 8).map fun l => f l * 16 ^ l).foldl (· + ·) 0

/-- LCFG of lane l: the plan's fields read 0 with ENABLE 0. -/
def State.lcfgView (s : State) (p l : Nat) : Nat :=
  let b := s.plan
  let t := txRing p l
  let r := rxRing p l
  let own := if s.on (PORT_B p) then
      b.line t % 16 + (if b.role t = 1 then 2 ^ 4 else 0) + b.line r % 16 * 2 ^ 8 + (if b.role r = 1 then 2 ^ 12 else 0)
        + (if b.role r = 1 then b.laneHops r * 2 ^ 13 else 0)
    else 0
  own + s.txOut p l % 4 * 2 ^ 5 + homeLine l * (2 ^ 16 + 2 ^ 20)

/-- The computed registers of a PORT page. -/
def State.portView (s : State) (p off : Nat) (v : Nat) : Nat :=
  if off = 0x44 then
    (v / 2 ^ 4 % 8) * 2 ^ 4 + s.portState p + s.dataLanes p * 2 ^ 8 + (p ^^^ 1) * 2 ^ 16 + p / 3 * 2 ^ 24 + p / 18 * 2 ^ 28
  else if off = 0x4C then nibbles (s.txSt p)
  else if off = 0x50 then nibbles (s.rxSt p)
  else if off = 0x54 then
    s.txSt p 8 + s.rxSt p 8 * 2 ^ 4 + s.get (PORT_B p) PORT.SPARE_FOR * 2 ^ 8
      + (if s.on (PORT_B p) then ((s.sparePath p).map PathEnt.id).getD 0xFFFF else 0xFFFF) * 2 ^ 16
  else if off = 0x58 then (if v.testBit 15 then v else v / 2 ^ 16 * 2 ^ 16 + zget s.opt.eq (9 * p))
  else if off = 0x68 then s.rxFree p 0 1024 + s.rxFree p 1 512 * 2 ^ 16
  else if off = 0x6C then 64 + (32 - s.vc3Held p) * 2 ^ 16
  else if 0x100 ≤ off ∧ off < 0x220 ∧ off % 0x20 = 0 then s.lcfgView p ((off - 0x100) / 0x20)
  else v

/-- A tap of a fibre in signed 0.01 dBm, -40.00 or less as -4,000 (R340): a free value while the port is on. -/
def tapOf (x : Nat) : Nat := twos 16 (max (-4000) (signed 16 (x % 2 ^ 16)))

/-- FIBRE_PWR (R340). -/
def State.fibrePower (s : State) (p v : Nat) : Nat × State :=
  if s.portOn p then
    let (x, s) := s.freeVal
    let (y, s) := s.freeVal
    (tapOf x + tapOf y * 2 ^ 16, s)
  else (v, s)

/-- FFE_TAPS of the lane that FFE_SEL shows (R340): a lane that receives adapts its equaliser, to free values; another keeps what it
had. -/
def State.ffeView (s : State) (p half : Nat) : Nat × State :=
  let n := s.get (PORT_B p) PORT.FFE_SEL_LANE
  let l := if n < 9 then n else 0
  let k := 2 * (9 * p + l) + half
  if lit (s.rxSt p l) then
    let (x, s) := s.freeVal
    (x % 2 ^ 32, { s with opt.ffe := zset s.opt.ffe k (x % 2 ^ 32) })
  else (zget s.opt.ffe k, s)

/-- The registers of a PORT page that measure, and those that are computed. -/
def State.portRead (s : State) (p off v : Nat) : Nat × State :=
  if off = 0x48 then s.fibrePower p v
  else if off = 0x60 then s.ffeView p 0
  else if off = 0x64 then s.ffeView p 1
  else (s.portView p off v, s)

/-- HEATER_TOTAL of an engine in units of 10 mW: a ring's output code is its heater power in units of 0.5 µW (R335, R394). -/
def State.heaterTotal (s : State) (e : Nat) : Nat :=
  ((s.mill.slots.filter fun x => decide (x.1 < 648 ∧ portEngine (ringPort x.1) = e)).map fun x => x.2.code).foldl (· + ·) 0 / 20000


/-- Rings of an engine that are locked. -/
def State.ringsLocked (s : State) (e : Nat) : Nat :=
  countOf 648 fun i => decide (portEngine (ringPort i) = e) && decide ((s.slot i).st = slLOCKED)

/-! ### Crossroads, power, calibration (R378-R381, R519, R525, R549, R550) -/

/-- COORD of ACTIVE: not valid under the empty plan. -/
def State.coordView (s : State) : Nat :=
  let b : Bank := s.xrds.active
  if b.isEmpty then 0 else b.coord 0 % 64 + b.coord 1 % 64 * 2 ^ 8 + b.coord 2 % 64 * 2 ^ 16 + 2 ^ 31

/-- ID_SEEN of receive lane i with its AGE_MS. -/
def State.ageView (s : State) (i v : Nat) : Nat :=
  let t := zget s.opt.seen i
  v / 2 ^ 16 * 2 ^ 16 + (if t = 0 then 0xFFFF else min 0xFFFF ((s.time.up - t) / 2000000))

/-- ALERT_STAT (R519). -/
def State.alertStat (s : State) : Nat :=
  maskOf 8 fun i =>
    [s.bit POWER_B POWER.STATE_HOLD, s.bit POWER_B POWER.STATE_DEGRADED, s.bit POWER_B POWER.THERM_WARN,
     s.power.inLow || s.power.inHigh, s.bit POWER_B POWER.CAP_STAT_ENGAGED, decide (s.get RESET_B ⟨0x40, 8, 0⟩ ≠ 0),
     s.bit BACKUP_B BACKUP.STAT_LOST, decide (s.get SELFTEST_B SELFTEST.RESULT_OUTCOME = 1)].getD i false

/-- Are ALERT_N and THERM_N driven? From a cold reset until the firmware is verified they are not, nor while the module is OFF
(R515, R517). -/
def State.pinsDriven (s : State) : Bool :=
  !s.power.off && (decide (s.pstate ≠ 1) || s.bit POWER_B POWER.STATE_HOLD || decide (2 ≤ s.bstep))

/-- What an open-drain output does to its pin: 0 low, 1 released to the carrier's pull-up, 2 high-impedance (R515, R516). -/
def State.openDrain (s : State) (low : Bool) : Nat := if !s.pinsDriven then 2 else if low then 0 else 1

/-- ALERT_N is low while an enabled condition of ALERT_STAT holds (R519). -/
def State.alertN (s : State) : Nat := s.openDrain (decide (s.alertStat &&& s.get POWER_B ⟨0x64, 7, 0⟩ ≠ 0))

/-- THERM_N is low while THERM.WARN or THERM.TRIPPED is 1 (R503, R504, R519). -/
def State.thermN (s : State) : Nat := s.openDrain (s.bit POWER_B POWER.THERM_WARN || s.bit POWER_B POWER.THERM_TRIPPED)

/-- WDT_STAT with the milliseconds to expiry (R509). -/
def State.wdtView (s : State) : Nat :=
  let per := max 100 (s.get RESET_B RESET.WDT_CTRL_PERIOD_MS)
  s.get RESET_B RESET.WDT_STAT_STAGE + (per - s.wdtCount / 1000000) * 2 ^ 16

/-- The CAL registers that SEL selects; numbers outside 16 bits are free. -/
def State.ringView (s : State) (i off : Nat) : Nat × State :=
  let c := if i < 648 then zget s.cal.rings i else default
  if off = 0x68 then (c.count + c.result * 2 ^ 16 + c.source * 2 ^ 19, s)
  else if off = 0x6C then (c.up % 2 ^ 32, s)
  else if off = 0x70 then (c.up / 2 ^ 32, s)
  else if off = 0x74 then
    let (h, s) := s.fit16 c.dHome
    let (t, s) := s.fit16 c.dStep
    (h + t * 2 ^ 16, s)
  else
    let (h, s) := s.fit16 c.headroom
    (c.resp % 256 + h * 2 ^ 16, s)

/-- The AGEING registers that ADV_SEL selects. -/
def State.advView (s : State) (i off : Nat) : Nat :=
  match s.cal.adv[i]? with
  | none => 0
  | some a =>
    if off = 0x6C then a.kind + a.sev * 2 ^ 8 + a.object % 2 ^ 16 * 2 ^ 16
    else if off = 0x70 then twos 32 a.value
    else if off = 0x74 then a.first % 2 ^ 32 else if off = 0x78 then a.first / 2 ^ 32
    else if off = 0x7C then a.last % 2 ^ 32 else a.last / 2 ^ 32

/-- MAC address of a management port (R469): byte 0 in [7:0] of MAC_LO. -/
def State.macView (s : State) (n off : Nat) : Nat :=
  let ser := s.get MODULE_B MODULE.SERIAL_LO_VALUE
  let byte (k : Nat) : Nat := ser / 256 ^ (3 - k) % 256
  if off = 0x48 then 0x02 + (0x4A + n) * 2 ^ 8 + byte 0 * 2 ^ 16 + byte 1 * 2 ^ 24 else byte 2 + byte 3 * 2 ^ 8

/-! ### Registers kept for each access path (R4) -/

/-- Does a page keep a value of the register for each access path (R378, R421, R446, R465, R549, R550, R562)? -/
def perPath (ty : PageTy) (off : Nat) : Bool :=
  match ty with
  | .XRDS => [0x44, 0x48, 0x4C, 0x58].contains off
  | .CLAIM => [0x48, 0x4C, 0x54].contains off
  | .HOSTWIN => decide (off = 0x48)
  | .MILLRACE => decide (off = 0x94)
  | .CAL => decide (off = 0x64)
  | .AGEING => decide (off = 0x68)
  | .LOG => (decide (0x68 ≤ off ∧ off < 0x74)) || decide (0x78 ≤ off ∧ off < 0x98) || decide (0x100 ≤ off)
  | _ => false

/-! ### The value a read returns -/

/-- Belfry's computed registers (R494-R496): CLAIM_k claims. -/
def State.belfryView (s : State) (path off v : Nat) : Nat × State :=
  let k := (off - 0x60) / 0x20
  let r := (off - 0x60) % 0x20
  if off = 0x44 then (min 1023 (countOf 1024 s.pend) + countOf 1024 s.claimed * 2 ^ 16, s)
  else if off = 0x4C then (s.get BELFRY_B ⟨0x48, 15, 0⟩, s)
  else if off < 0x60 ∨ 0x100 ≤ off then (v, s)
  else if r = 4 then (let (w, t) := if path = 3 + k then s.claimOwn k else s.claimRead k; (w, t.line4 s))
  else if r = 0xC then (s.topView k, s)
  else if r = 0x10 then (s.runView k, s)
  else if r = 0x14 then (s.lineView k, s)
  else (v, s)

/-- Belfry's bitmaps (R496). -/
def State.sumView (s : State) (off v : Nat) : Nat :=
  let w := (off - 0x40) / 4
  let f (g : Fld) (i : Nat) : Bool := decide (s.src i g = 1)
  if off < 0x40 then v
  else if off < 0xC0 then bitmapWord w s.pend
  else if off < 0x140 then bitmapWord (w - 32) s.claimed
  else if off < 0x1C0 then bitmapWord (w - 64) (f BELFRY_SRC.SRC_CFG_OVERRUN)
  else if off < 0x240 then bitmapWord (w - 96) (f BELFRY_SRC.SRC_CFG_LEVEL)
  else v

/-- A message engine's computed registers (R268). -/
def State.mengView (s : State) (d off v : Nat) : Nat × State :=
  if off = 0x7C then ((s.slotsOpen d).length + s.slotsFree d * 2 ^ 16, s)
  else if off = 0x80 then (s.rxOpen d + (16384 - s.rxOpen d) * 2 ^ 16, s)
  else if off = 0x84 then s.arrivalRead d
  else if off = 0x88 then s.failRead d
  else if off = 0x90 then ((s.msg.queues.filter fun e => decide (queueDie e.1 = d) && e.2.isSome).length, s)
  else (v, s)

/-- The TIME page's computed registers (R274, R294); the high halves are captured by the read of the low ones. -/
def State.timeView (s : State) (off v : Nat) : Nat × State :=
  if off = 0x48 then (s.nowNs % 2 ^ 32, s)
  else if off = 0x4C then (s.nowNs / 2 ^ 32, s)
  else if off = 0x50 then (s.time.clock % 2 ^ 32, s)
  else if off = 0x54 then (s.upNs % 2 ^ 32, s)
  else if off = 0x58 then (s.upNs / 2 ^ 32, s)
  else if 0x280 ≤ off ∧ off < 0x2E0 ∧ (off - 0x280) % 0x20 = 8 then s.capRead ((off - 0x280) / 0x20)
  else (v, s)

/-- The computed registers of a TILE page (R117, R119): WAIT_KIND is 6 in a stall cycle; a read of AUDIT_STAT clears it;
BANK_CONF has grown by an open number of cycles (R80) since it was last read, where the tile has issued anything since
the load (log entry 293). -/
def State.tileView (s : State) (g off v : Nat) : Nat × State :=
  if off = 0xAC then (v, s.wr (TILE_B g + 0xAC) 0)
  else if off = 0x44 then ((v % 2 ^ 12 + (if s.stalled then 6 else v / 2 ^ 12 % 8) * 2 ^ 12 + v / 2 ^ 15 * 2 ^ 15), s)
  else if off = 0xA0 ∧ zget s.tile.issued g ≠ 0 then
    let (x, s) := s.freeVal
    let s := s.add64 (TILE_B g) TILE.BANK_CONF_LO x
    ((s.rd (TILE_B g + 0xA0)).toNat, s)
  else (v, s)


/-- What a read of a block register returns: `v` is the stored value. Reading some registers changes the state. -/
def State.view (s : State) (path : Nat) (ty : PageTy) (inst off v : Nat) : Nat × State :=
  match ty with
  | .TILE => s.tileView inst off v

  | .RESHARD => (v, s)
  | .MSG => if off = 0x54 then (s.msg.peers.length, s) else (v, s)
  | .MENG => s.mengView (inst / 16) off v
  | .TIME => s.timeView off v
  | .ENGINE => if off = 0x48 then (s.heaterTotal inst, s)
    else if off = 0x50 then (v / 2 ^ 16 * 2 ^ 16 + s.ringsLocked inst, s) else (v, s)
  | .COMB => (if off = 0x44 then s.combStat v else v, s)
  | .PORT => s.portRead inst off v
  | .XRDS => if off = 0x4C then (v + (if s.stageSt = sgCHECKING then 2 ^ 16 else 0), s)
    else if off = 0x50 then (if s.stageOwner path then v else 0, s)
    else if off = 0x54 then s.stageRead path else if off = 0x5C then s.activeRead path
    else if off = 0x84 then (s.coordView, s) else (v, s)
  | .XRDS_ID => if off % 0x20 = 0x18 then (s.ageView (126 * (inst - 1) + (off - 0x40) / 0x20) v, s) else (v, s)
  | .XRDS_FREE => if off < 0x160 ∧ off % 8 = 0 then (Bank.free s.xrds.active ((off - 0x40) / 8), s) else (v, s)
  | .MILLRACE =>
    if off = 0x40 then (s.millStat, s) else if off = 0x44 then (s.loadView 0, s)
    else if off = 0x48 then (s.loadView 1 + s.loadView 2 * 2 ^ 16, s) else if off = 0xB8 then s.flagRead
    else if 0x98 ≤ off ∧ off ≤ 0xB4 then (s.slotView (s.pget path MILLRACE_B MILLRACE.SLOT_SEL_SLOT) off, s) else (v, s)
  | .HOSTWIN => if off = 0x4C then s.notifyRead else (v, s)
  | .MGMT => if off = 0x48 ∨ off = 0x4C then (s.macView inst off, s) else (v, s)
  | .BELFRY => s.belfryView path off v
  | .BELFRY_SUM => (s.sumView off v, s)
  | .RESET => if off = 0x54 then (s.wdtView, s) else (v, s)
  | .POWER => if off = 0x60 then (s.alertStat, s) else (v, s)
  | .CAL => if 0x68 ≤ off then s.ringView (s.pget path CAL_B CAL.SEL_RING) off else (v, s)
  | .AGEING => if 0x6C ≤ off ∧ off < 0x84 then (s.advView (s.pget path AGEING_B AGEING.ADV_SEL_INDEX) off, s) else (v, s)
  | .LOG => if off = 0x13C then s.windowAdvance path else (v, s)
  | .UPDATE => if off = 0x44 then ((v &&& 0xFFFFF7FF) ||| (if s.relays then 0x800 else 0), s) else (v, s)
  | _ => (v, s)

end Sys2Proof.Machine
end

