-- ==== Sys2Proof/Machine/Access.lean ====
section
/-!
DEFINITION. Register accesses through BAR0: the access types of R7, 64-bit pairs (R3, R4), the page header with ENABLE,
quiesce and block reset (R23-R33), and what a write of each register sets off. Access paths are numbered as ERR_INFO.PATH.
-/
namespace Sys2Proof.Machine

/-! ### The page that an access meets -/

/-- Record an access to an address that no directory entry covers (R19). -/
def State.unmapped (s : State) (path a : Nat) : State := s.recErr DIRECTORY_B 0 0x0002 path a

/-- Base of the page that holds the block control of a page (R25). -/
def ctrlBase (b : Nat) : Nat := canon (b + 0x0C) - 0x0C

/-! ### Block resets (R31) -/

/-- The registers that a TRIGGERS block reset keeps: unit 31's TIME, PERIOD, FIRES and MISSED (R296). -/
def keepTriggers (a : Nat) : Nat := if TRIGGERS_B + 0x4E0 ≤ a ∧ a ≠ TRIGGERS_B + 0x4EC then 2 ^ 32 - 1 else 0

/-- A port's link reset (R259, R339): the lanes go OFF, and their streams and alignments are lost. -/
def State.portReset (s : State) (p : Nat) : State :=
  let s := (s.put (PORT_B p) hCTRL_ENABLE 0).portEnable p
  let s := (s.blockResetRegs (PORT_B p / 4096)).failForget fun i => decide (ringPort i = p)
  let s := { s with opt.tripped := s.opt.tripped.filter fun e => decide (e.2 ≠ p + 1)
                    opt.wait := s.opt.wait.filter fun f => decide (f.port ≠ p) }
  { s with opt.align := mdrop (9 * p) (9 * p + 9) s.opt.align, opt.stream := mdrop (9 * p) (9 * p + 9) s.opt.stream,
           opt.visit := mdrop (9 * p) (9 * p + 9) s.opt.visit, opt.eq := mdrop (9 * p) (9 * p + 9) s.opt.eq,
           opt.ffe := mdrop (18 * p) (18 * p + 18) s.opt.ffe, opt.dac := mdrop (9 * p) (9 * p + 9) s.opt.dac }

/-- What a block reset does to its block. -/
def State.blockBody (s : State) (ty : PageTy) (inst : Nat) : State :=
  match ty with
  | .TILE => (s.tileReset inst).dropTileMsg inst
  | .MENG => s.engineReset (inst / 16)
  | .RESHARD => (s.blockResetRegs (RESHARD_B inst / 4096)).abandonStreams fun o => decide (o.die = inst)
  | .TRIGGERS => s.ppsOff.resetRegs (fun p => decide (p = TRIGGERS_B / 4096)) keepTriggers
  | .PORT => s.portReset inst
  | .BELFRY | .BELFRY_SRC | .BELFRY_SUM | .BELFRY_HDR => s.belfryBlock.line4 s
  | _ => s

/-- The pages of a page's block. -/
def blockPages (b : Nat) (ty : PageTy) : List Nat :=
  match ty with
  | .BELFRY | .BELFRY_SRC | .BELFRY_SUM | .BELFRY_HDR => (List.range 8).map (BELFRY_B / 4096 + ·)
  | _ => [b / 4096]

/-- A block reset starts (R31 step 3): the registers return to their reset values, the trace buffers empty (R551), and
BLOCK_RESET_REQ reads 1 until it is done. -/
def State.blockReset (s : State) (b : Nat) (ty : PageTy) (inst : Nat) : State :=
  let s := s.blockBody ty inst
  let s : State := (blockPages b ty).foldl (fun s p => { s with log.trace := zset s.log.trace p [] }) s
  let out (k : Nat) : Bool := !(blockPages b ty).contains (k % 2 ^ 26 / 4096)
  let s := { s with shadow := s.shadow.filter fun e => out e.1, held := s.held.filter fun e => out e.1 }
  (s.put (ctrlBase b) hCTRL_BLOCK_RESET 1).msgSettle

/-- Is a page of Belfry's block? -/
def PageTy.belfry (ty : PageTy) : Bool := decide (ty = .BELFRY ∨ ty = .BELFRY_SRC ∨ ty = .BELFRY_SUM ∨ ty = .BELFRY_HDR)

/-- READY after a block reset: a TILE page waits for a load (R36). -/
def readyAfter (ty : PageTy) : Nat := if ty = .TILE then 0 else 1


/-! ### PAGE_CTRL (R29-R32) -/

/-- ENABLE of a page has changed: what follows at once. -/
def State.enableActs (s : State) (ty : PageTy) (inst : Nat) (on : Bool) : State :=
  match ty with
  | .PORT => s.portEnable inst
  | .COMB => s.combEnable inst on
  | .ENGINE => s.engineApply inst
  | .MILLRACE => s.slotsRefresh (List.range 2048)
  | .BELFRY | .BELFRY_SRC | .BELFRY_SUM | .BELFRY_HDR => if on then s.belfryOn else s
  | .UPDATE => if on then s else s.bcTimeout
  | .MGMT => if on || !s.bit (MGMT_B inst) MGMT.STAT_LINK_UP then s
    else s.put (MGMT_B inst) MGMT.STAT_LINK_UP 0
  | _ => s

/-- A quiesce begins (R30): what the block gives up at once. -/
def State.quiesceActs (s : State) (ty : PageTy) (inst : Nat) : State :=
  match ty with
  | .TILE => s.abandonWait inst
  | .MENG => s.quiesceEngine (inst / 16)
  | .MESH => { s with tile.hold := zset s.tile.hold inst (some (s.schedCyc (256 * inst))) }
  | _ => s

/-- The scheduled SENDs that a quiesce of die d's mesh has held past their slot are late as it releases them (R155): each
is counted once, and may enter from the present cycle. -/
def State.meshRelease (s : State) (d : Nat) : State :=
  let s : State := ((List.range 128).map (256 * d + ·)).foldl (fun s g =>
    let now := s.schedCyc g
    let held (o : Op) : Bool := decide (iOp o.word = 0x50 ∧ bf o.word 42 42 = 0) && !s.entered g o
      && decide (s.slotStart o.word o.stage < now)
    let q := s.queue g 4
    let s : State := (q.filter fun o => held o && o.late.isNone).foldl (fun s o => s.lateSend g o.pc) s
    s.setQueue g 4 (q.map fun o => if held o then { o with late := some now } else o)) s
  { s with tile.hold := zset s.tile.hold d none }

/-- Work that was held back at its source is offered again, in the order of its arrival (R30, R31, R187). -/
def State.serveOne (s : State) : Offer → State
  | .hostWrite bs => s.hostWrite bs
  | .hostRead bs => s.hostRead bs
  | .handoff v => s.handoffIn 0 v
  | .frame p vc slice f => s.frameTake p vc slice f
  | .queueCmd d op q => (s.put (MENG_B d) MENG.QCMD_STAT_BUSY 0).queueCmd d op q
  | .doorbell d q => s.doorbell d q
  | .sessInv d => s.sessInv d
  | .chain p ty xfer args => s.chainIn p ty xfer args
  | .stage o l => s.stagePut o l
def State.serveOffers (s : State) : State := s.msg.offers.foldl State.serveOne { s with msg.offers := [] }

/-- A block takes work again: a quiesce is withdrawn, a controller is enabled or a block reset has ended (R30, R31, R187). -/
def State.resumeActs (s : State) (ty : PageTy) (inst : Nat) : State :=
  match ty with
  | .MESH => ((List.range 4).foldl State.walkStart (s.meshRelease inst)).serveOffers
  | .MENG => (s.walkStart (inst / 16)).serveOffers
  | .HBM => s.serveOffers
  | .PORT => s.serveWait
  | _ => s

/-- BLOCK_RESET_REQ clears, and what was held back is taken (R31); Belfry samples afresh (R479, R493). -/
def State.blockResetEnd (s : State) (b : Nat) (ty : PageTy) (inst : Nat) : State :=
  let t := (s.put (ctrlBase b) hCTRL_BLOCK_RESET 0).put (ctrlBase b) hSTAT_READY (readyAfter ty)
  let t := if ty.belfry then t.belfryOn.line4 s else t
  (t.resumeActs ty inst).msgSettle

/-- A write of a bit to ENABLE (R29); `b` is the page written, `free` says it was IDLE or QUIESCED. -/
def State.enableWrite (s : State) (path b : Nat) (ty : PageTy) (inst : Nat) (v free : Bool) : State :=
  let c := ctrlBase b
  if capEnableFixed ty || s.bit c hCTRL_ENABLE == v then s
  else if v then
    let t := ((s.put c hCTRL_ENABLE 1).enableActs ty inst true).line4 s
    (if ty = .HBM ∨ ty = .MESH then t.serveOffers else t).msgSettle
  else if free then ((s.put c hCTRL_ENABLE 0).enableActs ty inst false).msgSettle
  else s.recErrX b 1 0x0012 path

/-- A write of a bit to QUIESCE_REQ (R28, R30). -/
def State.quiesceWrite (s : State) (path b : Nat) (ty : PageTy) (inst : Nat) (v : Bool) : State :=
  let c := ctrlBase b
  if v then
    if capQuiesce ty = false then s.recErrX b 1 0x0013 path
    else if s.bit c hCTRL_QUIESCE then s
    else ((s.put c hCTRL_QUIESCE 1).quiesceActs ty inst).msgSettle
  else if s.bit c hCTRL_QUIESCE then
    (((s.put c hCTRL_QUIESCE 0).put c hSTAT_QUIESCED 0).resumeActs ty inst).msgSettle
  else s

/-- A write of 1 to BLOCK_RESET_REQ (R31). -/
def State.resetWrite (s : State) (path b : Nat) (ty : PageTy) (inst : Nat) (free : Bool) : State :=
  if capBlockReset ty = false then s.recErrX b 1 0x0011 path
  else if free then s.blockReset b ty inst
  else s.recErrX b 1 0x0010 path

/-- Is a page IDLE or QUIESCED? The request that carries a write does not stand in its way (R474). -/
def State.freeNowPage (s : State) (b : Nat) (ty : PageTy) (inst : Nat) : Bool :=
  { s with host.serving := 0 }.idle ty inst || s.bit (ctrlBase b) hSTAT_QUIESCED

/-- A write of PAGE_CTRL through the page at b (R29-R32): the reset is judged by the state before the write. -/
def State.pageCtrl (s : State) (path b : Nat) (ty : PageTy) (inst : Nat) (v : Word) : State :=
  let free := s.freeNowPage b ty inst
  if s.bit (ctrlBase b) hCTRL_BLOCK_RESET then s
  else if v.getLsbD 1 && capBlockReset ty && free then s.blockReset b ty inst
  else
    let s := (s.enableWrite path b ty inst (v.getLsbD 0) free).quiesceWrite path b ty inst (v.getLsbD 2)
    if v.getLsbD 1 then s.resetWrite path b ty inst free else s

/-- Has a quiescing page drained (R123, R155, R187, R223, R270, R339, R543)? -/
def State.drained (s : State) (ty : PageTy) (inst : Nat) : Bool :=
  match ty with
  | .TILE => !s.inflight inst
  | .HBM | .PORT => true
  | .RESHARD => !(s.msg.ops.any fun o => decide (o.kind = 3 ∧ o.die = inst))
  | _ => s.idle ty inst

/-! ### The header's other registers (R23, R27) -/

/-- A write of EVT_SET (R23): it sets the page's events, never a reserved bit (R1). -/
def State.evtSet (s : State) (b : Nat) (ty : PageTy) (v : Word) : State :=
  (List.range 32).foldl (fun s i => if v.getLsbD i && (evtMask ty).testBit i then s.raiseAlways b i else s) s

/-- A write of ERR_STAT (R27): all zero releases the capture, and COUNT reads 0. -/
def State.errClear (s : State) (b : Nat) (v : Word) : State :=
  let w := s.rd (b + 0x20) &&& ~~~v
  let s := s.wr (b + 0x20) w
  if w = 0 then s.put b hERR_COUNT 0 else s

/-- A write of a header register. -/
def State.headerWrite (s : State) (path b off : Nat) (ty : PageTy) (inst : Nat) (v : Word) : State :=
  if off = 0x0C then s.pageCtrl path b ty inst v
  else if off = 0x14 then s.wr (b + 0x14) (s.rd (b + 0x14) &&& ~~~v)
  else if off = 0x18 then s.wr (b + 0x18) (v &&& BitVec.ofNat 32 (evtMask ty))
  else if off = 0x1C then s.evtSet b ty v
  else if off = 0x20 then s.errClear b v
  else s

/-! ### Plain registers (R7) -/

/-- The value that a write leaves under the access types. -/
def mergeWrite (r : RegRow) (old v : Word) : Word :=
  let rw := BitVec.ofNat 32 r.rw
  let c := BitVec.ofNat 32 r.w1c
  let st := BitVec.ofNat 32 r.w1s
  ((((old &&& ~~~rw) ||| (v &&& rw)) &&& ~~~(v &&& c)) ||| (v &&& st))

/-- A plain write. -/
def State.plainWrite (s : State) (path : Nat) (ty : PageTy) (a : Nat) (r : RegRow) (v : Word) : State :=
  if perPath ty (a % 4096) then s.pwr path a (mergeWrite r (s.prd path a) v)
  else s.wr (canon a) (mergeWrite r (s.rd (canon a)) v)

/-- The half of a pair that a register is (R3, R275). -/
def pairHalf (ty : PageTy) (off : Nat) (r : RegRow) : Nat :=
  if ty = .TIME ∧ off = 0x5C then 1 else if ty = .TIME ∧ off = 0x60 then 2 else r.pair

/-- Both halves of a plain pair take effect. -/
def State.plainPair (s : State) (path : Nat) (ty : PageTy) (a : Nat) (lo hi : Word) : State :=
  match rowAt a, rowAt (a + 4) with
  | some r, some q => (s.plainWrite path ty a r lo).plainWrite path ty (a + 4) q hi
  | _, _ => s

/-- Is the pair at this low half STEP_HI:STEP_LO with a step requested, so that its writes are ignored (R276)? -/
def State.lowBusy (s : State) (ty : PageTy) (off : Nat) : Bool :=
  decide (ty = .TIME) && decide (off = 0x68) && s.bit TIME_B TIME.STEP_CTRL_GO

/-- Does software write no bit of a register (R7: RO)? -/
def RegRow.readOnly (r : RegRow) : Bool := decide (r.rw = 0 ∧ r.w1c = 0 ∧ r.w1s = 0)

/-- The low half that a path's write of the high half takes effect with (R3, R4): the one this path wrote last, which
stays held for it, never another path's. A path that has written none takes the reset value (log entry 282). -/
def State.heldLow (s : State) (path a : Nat) : Word := (zget s.held (pkey path (canon a))).getD (regReset (canon a))

/-- The write of a pair's high half: `a` is the low half's address. -/
def State.pairWrite (s : State) (path : Nat) (ty : PageTy) (a : Nat) (lo hi : Word) : State :=
  let off := a % 4096
  match ty with
  | .TIME => if off = 0x5C then s.incWrite hi.toNat lo.toNat
    else if s.lowBusy ty off then s.stepBusy path else s.plainPair path ty a lo hi
  | .TRIGGERS => s.trigTime path ((off - 0x100) / 0x20) (lo.toNat + hi.toNat * 2 ^ 32)
  | .XRDS => if off = 0x6C ∧ s.stageSt = sgARMED then s else s.plainPair path ty a lo hi
  | .HOSTWIN => s.segWrite path ((off - 0x80) / 8) lo.toNat hi.toNat
  | .LOG => s.cursorWrite path (lo.toNat + hi.toNat * 2 ^ 32)
  | .UPDATE => s.stageWrite path lo.toNat hi.toNat
  | _ => s.plainPair path ty a lo hi

/-! ### Registers whose writes do more (the page chapters) -/

/-- A write of TILE.CTRL (R112, R113): 0 to HALT_REQ leaves a request in progress. -/
def State.tileCtrlWrite (s : State) (g : Nat) (v : Word) : State :=
  let s := s.put (TILE_B g) TILE.CTRL_AUDIT (v.toNat % 2)
  if v.getLsbD 1 then (s.haltTileMsg g).msgSettle else s

/-- A write of MENG.QCMD (R240). -/
def State.qcmdWrite (s : State) (d : Nat) (v : Word) : State := s.queueCmd d (v.toNat / 2 ^ 20 % 4) (v.toNat % 2 ^ 18)

/-- A write of PPS_CTRL (R290): a change of OE shows at PPS_OUT. -/
def State.ppsCtrlWrite (s : State) (v : Word) : State :=
  let was := s.bit TRIGGERS_B TRIGGERS.PPS_CTRL_OE
  let s := s.wr (TRIGGERS_B + 0x40) (v &&& 0xFFFFFF01#32)
  if v.getLsbD 0 == was then s
  else s.emit .pin [pinPPS, if v.getLsbD 0 then (if s.time.ppsOut then 1 else 0) else 2]

/-- A write of PORT.CFG (R310, R331): 1 to RELAUNCH clears a launch-limit trip. -/
def State.portCfgWrite (s : State) (p : Nat) (v : Word) : State :=
  let s := (s.put (PORT_B p) PORT.CFG_ROLE (v.toNat % 2)).put (PORT_B p) PORT.CFG_DAC_RES (v.toNat / 16 % 8)
  if v.getLsbD 8 then (s.relaunch p).msgSettle else s

/-- A write of POWER.CTRL (R501, R502, R504); whether the sensors allow RESUME is not the write's to say: a free value. -/
def State.powerCtrlWrite (s : State) (path : Nat) (v : Word) : State :=
  let s := (s.put POWER_B POWER.CTRL_CAP_W (v.toNat / 2 ^ 16)).put POWER_B POWER.CTRL_STAY_STANDBY (v.toNat / 2 % 2)
  let s := s.tryRails.capCheck
  if v.getLsbD 0 then (let (x, s) := s.freeVal; s.resume path (decide (x % 2 = 1))) else s

/-- Registers of the hub pages that do more; none where the write is plain. -/
def State.hubWrite (s : State) (path : Nat) (ty : PageTy) (inst off a : Nat) (v : Word) : Option State :=
  match ty with
  | .MODULE => if off = 0x50 then some (s.put MODULE_B MODULE.CLK_STAT_LOSS_COUNT 0) else none
  | .TIME =>
    if off = 0x40 then some (s.srcWrite v)
    else if off = 0x64 then (if s.bit TIME_B TIME.STEP_CTRL_GO then some (s.stepBusy path) else none)
    else if off = 0x70 then some (s.stepGo v) else none
  | .TRIGGERS =>
    if off = 0x40 then some (s.ppsCtrlWrite v)
    else if 0x100 ≤ off ∧ off % 0x20 = 0x0C then some (s.trigCtrl path ((off - 0x100) / 0x20) v)
    else if 0x100 ≤ off ∧ off % 0x20 = 0x08 then some (s.trigPeriod path ((off - 0x100) / 0x20) v) else none
  | .BELFRY =>
    if off = 0x40 then some ((s.put BELFRY_B BELFRY.GCTRL_DISABLE (v.toNat % 2)).line4 s)
    else if off = 0x48 then some ((s.swLatch v true).line4 s)
    else if off = 0x4C then some ((s.swLatch v false).line4 s)
    else if 0x60 ≤ off ∧ off % 0x20 = 0 then some ((s.wr a (v &&& 0xF#32)).line4 s)
    else if 0x60 ≤ off ∧ off % 0x20 = 8 then some (s.complete path ((off - 0x60) / 0x20) (v.toNat % 1024)) else none
  | .BELFRY_SRC =>
    if off < 0x840 then some ((s.srcCfgWrite (512 * (inst - 1) + (off - 0x40) / 4) v).line4 s) else some (s.wr a 0)
  | .BELFRY_SUM => if 0x140 ≤ off ∧ off < 0x1C0 then some (s.overrunClear ((off - 0x140) / 4) v) else none
  | .RESET =>
    if off = 0x48 then some (s.resetCtrl path v.toNat) else if off = 0x4C then some (s.wdtCtrl v)
    else if off = 0x50 then some (s.kick v.toNat) else none
  | .POWER =>
    if off = 0x44 then some (s.powerCtrlWrite path v)
    else if off = 0x68 then some (s.lcWrite path (v.toNat / 2 ^ 16) (v.toNat / 16 % 4)) else none
  | _ => none

/-- Registers of the other pages that do more. -/
def State.blockWrite (s : State) (path : Nat) (ty : PageTy) (inst off b : Nat) (v : Word) : Option State :=
  match ty with
  | .TILE =>
    if off = 0x40 then some (s.tileCtrlWrite inst v) else if off = 0x44 then some (s.flagsWrite inst v) else none
  | .DIE => if off = 0x40 then some (s.jobCtrlWrite path b v.toNat) else none
  | .MSG => if off = 0x50 then some (if v.getLsbD 0 then s.peerFlush else s) else none
  | .MENG =>
    if off = 0x40 then some (s.qcmdWrite (inst / 16) v)
    else if off = 0x6C then some (s.doorbell (inst / 16) (v.toNat % 2 ^ 18))
    else if off = 0x78 then some (if v.getLsbD 0 then s.sessInv (inst / 16) else s) else none
  | .COMB =>
    if off = 0x40 then
      let s := s.put (COMB_B inst) COMB.CTRL_TONE_EN (v.toNat / 2 % 2)
      some (if v.getLsbD 0 then (s.combArm inst path).msgSettle else s)
    else if off = 0x58 then some (s.wr (COMB_B inst + 0x58) 0) else none
  | .PORT => if off = 0x40 then some (s.portCfgWrite inst v) else none
  | .XRDS =>
    if off = 0x40 then some (s.planCtrl path v).msgSettle
    else if off = 0x50 then some (s.stageAddr path v) else if off = 0x54 then some (s.stageData path v) else none
  | .MILLRACE =>
    if off = 0x98 then some (s.slotFlagClear (s.pget path MILLRACE_B MILLRACE.SLOT_SEL_SLOT) v.toNat)
    else if off = 0xD0 then some (s.traceArm v.toNat) else none
  | .CLAIM => if off = 0x50 then some (s.present path v) else none
  | .HOSTWIN =>
    if off = 0x44 then some (s.handoffIn path v)
    else if off = 0x60 then some (if v.getLsbD 0 then s.mboxGo path else s)
    else if off = 0x68 then some (s.put HOSTWIN_B HOSTWIN.LINK_RETRAINS 0) else none
  | .CAL => if off = 0x40 then
      let s := s.put CAL_B CAL.CTRL_INSVC_EN (v.toNat % 2)
      some (if v.getLsbD 1 then s.calFull path else s) else none
  | .AGEING => if off = 0x40 then
      let s := s.put AGEING_B AGEING.CTRL_AVS_EN (v.toNat % 2)
      some (if v.getLsbD 1 then s.setAdv [] else s) else none
  | .LOG =>
    if off = 0x60 then some (s.logClear path v) else if off = 0x74 then some (s.postCode path v)
    else if off = 0x90 then some (s.traceSel path v) else none
  | .UPDATE => if off = 0x40 then some (s.updCtrl path v.toNat) else none
  | _ => none

/-! ### Aligned 32-bit accesses -/


/-- A write of a block register with its row. -/
def State.rowWrite (s : State) (path : Nat) (ty : PageTy) (inst b off : Nat) (r : RegRow) (v : Word) : State :=
  let a := b + off
  match pairHalf ty off r with
  | 1 =>
    if r.readOnly then s
    else if s.lowBusy ty off then s.stepBusy path
    else { s with held := zset s.held (pkey path (canon a)) (some v) }
  | 2 => if r.readOnly then s else s.pairWrite path ty (a - 4) (s.heldLow path (a - 4)) v
  | _ =>
    match s.hubWrite path ty inst off a v with
    | some t => t
    | none => match s.blockWrite path ty inst off b v with
      | some t => t
      | none => s.plainWrite path ty a r v

/-- REGISTER_WRITE: an aligned 32-bit write of `v` at BAR0 address `a` through a path. -/
def State.writeReg (s : State) (path a : Nat) (v : Word) : State :=
  if s.listed (a / 4096) = false then s.unmapped path a
  else match pageAt (a / 4096) with
  | none => s
  | some (ty, inst) =>
    let off := a % 4096
    if ty = .W_DESC then s.descWrite path (a - DESC_B) v
    else if hasHeader ty = false then s
    else if off < 0x40 then s.headerWrite path (a - off) off ty inst v
    else match rowIn ty inst off with
      | none => s
      | some (r, _) => s.rowWrite path ty inst (a - off) off r v

/-- PAGE_STAT and the other header registers as they read. -/
def State.headerRead (s : State) (b off : Nat) (ty : PageTy) (inst : Nat) : Nat :=
  let v := (s.rd (canon (b + off))).toNat
  if off = 0x10 then v + (if s.idle ty inst then 2 else 0) else v

/-- The value of a block register, free bits included. -/
def State.rowValue (s : State) (path : Nat) (ty : PageTy) (inst a : Nat) : Nat × State :=
  let off := a % 4096
  let v := if perPath ty off then s.prd path a else s.rd (canon a)
  let (w, s) := s.view path ty inst off v.toNat
  s.freeBits w (viewMask ty off)

/-- Capture the high half of a pair (R3), and NOW_FRAC with NOW_HI (R274). -/
def State.shadowPair (s : State) (path : Nat) (ty : PageTy) (inst a : Nat) : State :=
  let (h, s) := s.rowValue path ty inst (a + 4)
  let s := { s with shadow := zset s.shadow (pkey path (canon (a + 4))) (some (BitVec.ofNat 32 h)) }
  if ty = .TIME ∧ a % 4096 = 0x48 then
    { s with shadow := zset s.shadow (pkey path (a + 8)) (some (BitVec.ofNat 32 s.time.clock)) }
  else s

/-- A read of a block register with its row. -/
def State.rowRead (s : State) (path : Nat) (ty : PageTy) (inst a : Nat) (r : RegRow) : Nat × State :=
  let off := a % 4096
  let half := pairHalf ty off r
  if half = 1 then
    let (v, s) := s.rowValue path ty inst a
    (v, s.shadowPair path ty inst a)
  else if half = 2 ∨ (ty = .TIME ∧ off = 0x50) then
    let k := pkey path (canon a)
    match zget s.shadow k with
    | some w => (w.toNat, { s with shadow := zset s.shadow k none })
    | none => s.rowValue path ty inst a
  else s.rowValue path ty inst a

/-- A read of a header register; ERR_ADDR is a pair (R3). -/
def State.headerRowRead (s : State) (path b off : Nat) (ty : PageTy) (inst : Nat) : Nat × State :=
  let v := s.headerRead b off ty inst
  let k := pkey path (b + 0x2C)
  if off = 0x28 then (v, { s with shadow := zset s.shadow k (some (s.rd (b + 0x2C))) })
  else if off = 0x2C then
    match zget s.shadow k with
    | some w => (w.toNat, { s with shadow := zset s.shadow k none })
    | none => (v, s)
  else (v, s)

/-- An aligned 32-bit read at BAR0 address `a` through a path. -/
def State.readReg (s : State) (path a : Nat) : Nat × State :=
  if s.listed (a / 4096) = false then (0xFFFFFFFF, s.unmapped path a)
  else match pageAt (a / 4096) with
  | none => (0xFFFFFFFF, s)
  | some (ty, inst) =>
    let off := a % 4096
    if ty = .W_DESC then ((s.rd a).toNat, s.descUse (a - DESC_B))
    else if hasHeader ty = false then ((s.rd a).toNat, s)
    else if off < 0x40 then s.headerRowRead path (a - off) off ty inst
    else match rowIn ty inst off with
      | none => (0, s)
      | some (r, _) => s.rowRead path ty inst a r

/-- An access that is not an aligned 32-bit read or write (R2, R19). A window has no page header to record it in. -/
def State.badSize (s : State) (path a : Nat) : State :=
  if s.listed (a / 4096) = false then s.unmapped path a
  else match pageAt (a / 4096) with
  | some (ty, _) => if hasHeader ty then s.recErr (a / 4096 * 4096) 0 0x0001 path a else s
  | none => s

end Sys2Proof.Machine
end

