-- ==== Sys2Proof/Machine/AccessCmd.lean ====
section
/-!
DEFINITION. The commands of 01_architecture.md: accesses through BAR0, the page header, and REFCLK. Each command of a path
carries its number, as ERR_INFO.PATH gives it; a page is named by its number, its base divided by 4,096.
-/
namespace Sys2Proof.Machine

/-- A read's answer. -/
def State.answer (r : Nat × State) : State := r.2.emit .read [r.1]

/-- BAR0_ACCESS_SIZE (R2): an access of n bytes at a, a read (1) or a write (0), that is not an aligned 32-bit one. -/
def execBar0AccessSize (path a n rd : Nat) (s : State) : Res :=
  s.heard path (if n = 4 ∧ a % 4 = 0 then s
    else if rd = 1 then State.answer (0xFFFFFFFF, s.badSize path a) else s.badSize path a)

/-- ACCESS_UNMAPPED (R19): a read (1) or a write (0) where no directory entry covers a. -/
def execAccessUnmapped (path a rd : Nat) (s : State) : Res :=
  s.heard path (if s.listed (a / 4096) then s
    else if rd = 1 then State.answer (0xFFFFFFFF, s.unmapped path a) else s.unmapped path a)

/-- Does an access through a path reach BAR4? The PCIe path's addresses from 2^26 on are its offsets (log entry 137). -/
def atBar4 (path a : Nat) : Bool := decide (path = 0 ∧ a % 4 = 0 ∧ 2 ^ 26 ≤ a ∧ a < 2 ^ 26 + 2 ^ 14)

/-- REGISTER_WRITE (R7): an aligned 32-bit write. Where the register has a row of its own, its effect is that row's. A word of
BAR4 is written the same way (R454). -/
def execRegisterWrite (path a : Nat) (v : Word) (s : State) : Res :=
  s.heard path (if a % 4 = 0 ∧ a < 2 ^ 26 then s.writeReg path a v
    else if atBar4 path a then s.bar4Write (a - 2 ^ 26) v else s)

/-- PAIR_LOW_READ (R3): an aligned 32-bit read; of the low half of a pair it captures the high half. A word of BAR4 is read the
same way (R454). -/
def execPairLowRead (path a : Nat) (s : State) : Res :=
  s.heard path (if a % 4 = 0 ∧ a < 2 ^ 26 then State.answer (s.readReg path a)
    else if atBar4 path a then s.emit .read [s.bar4Read (a - 2 ^ 26)] else s)

/-- Which half of a pair is at an address (R3)? 0 where it is none of a listed page's. -/
def State.halfAt (s : State) (a : Nat) : Nat :=
  match pageAt (a / 4096), rowAt a with
  | some (ty, _), some r => if s.listed (a / 4096) then pairHalf ty (a % 4096) r else 0
  | _, _ => 0

/-- PAIR_LOW_WRITE (R3). -/
def execPairLowWrite (path a : Nat) (v : Word) (s : State) : Res :=
  s.heard path (if a % 4 = 0 ∧ s.halfAt a = 1 then s.writeReg path a v else s)

/-- PAIR_HIGH_WRITE (R3). -/
def execPairHighWrite (path a : Nat) (v : Word) (s : State) : Res :=
  s.heard path (if a % 4 = 0 ∧ s.halfAt a = 2 then s.writeReg path a v else s)

/-- A page with a header that the directory lists. -/
def State.onPage (s : State) (p : Nat) (f : PageTy → Nat → State) : State :=
  match pageAt p with
  | some (ty, inst) => if s.listed p && hasHeader ty then f ty inst else s
  | none => s

/-- ERR_STAT_CLEAR (R27): page, the ones written. -/
def execErrStatClear (p : Nat) (v : Word) (s : State) : Res := s.live (s.onPage p fun _ _ => s.errClear (p * 4096) v)

/-- EVT_SET_WRITE (R23). -/
def execEvtSetWrite (p : Nat) (v : Word) (s : State) : Res := s.live (s.onPage p fun ty _ => s.evtSet (p * 4096) ty v)

/-- Is a block reset of the page in progress, so that PAGE_CTRL takes no write (R31)? -/
def State.inBlockReset (s : State) (p : Nat) : Bool := s.bit (ctrlBase (p * 4096)) hCTRL_BLOCK_RESET

/-- ENABLE_WRITE (R29): the bit written to ENABLE. -/
def execEnableWrite (path p v : Nat) (s : State) : Res :=
  s.heard path (s.onPage p fun ty inst => if s.inBlockReset p then s
    else s.enableWrite path (p * 4096) ty inst (decide (v % 2 = 1)) (s.freeNowPage (p * 4096) ty inst))

/-- QUIESCE_REQ (R30): the bit written. -/
def execQuiesceReq (path p v : Nat) (s : State) : Res :=
  s.heard path (s.onPage p fun ty inst => if s.inBlockReset p then s
    else s.quiesceWrite path (p * 4096) ty inst (decide (v % 2 = 1)))

/-- QUIESCED (R30). -/
def execQuiesced (p : Nat) (s : State) : Res :=
  s.live (s.onPage p fun ty inst =>
    if s.bit (ctrlBase (p * 4096)) hCTRL_QUIESCE && s.drained ty inst then s.put (ctrlBase (p * 4096)) hSTAT_QUIESCED 1 else s)

/-- BLOCK_RESET_REQ (R31). -/
def execBlockResetReq (path p : Nat) (s : State) : Res :=
  s.heard path (s.onPage p fun ty inst => if s.inBlockReset p then s
    else s.resetWrite path (p * 4096) ty inst (s.freeNowPage (p * 4096) ty inst))

/-- BLOCK_RESET_DONE (R31). -/
def execBlockResetDone (p : Nat) (s : State) : Res :=
  s.live (s.onPage p fun ty inst => if s.inBlockReset p then s.blockResetEnd (p * 4096) ty inst else s)

/-- REFCLK_LOST (R17, R34): the root PLL enters holdover where it is locked to REFCLK. -/
def execRefclkLost (s : State) : Res := s.live s.refclkFalls

/-- REFCLK_RESTORED (R17, R34): the event follows a fall only. -/
def execRefclkRestored (s : State) : Res := s.live s.refclkRises

/-- AUDIT_STAT_READ (R119). -/
def execAuditStatRead (path g : Nat) (s : State) : Res :=
  s.heard path (if s.tilePresent g then State.answer (s.readReg path (TILE_B g + 0xAC)) else s)

/-- TIME_NOW_READ (R274): NOW_HI and NOW_FRAC are captured for the path. -/
def execTimeNowRead (path : Nat) (s : State) : Res := s.heard path (State.answer (s.readReg path (TIME_B + 0x48)))

end Sys2Proof.Machine
end

