-- ==== Sys2Proof/Machine/OpticsCmd.lean ====
section
/-!
DEFINITION. The commands of combs, lanes, ports and beacons (09_optics.md, R370-R382), and of route plans, claims and the
timed switch (10_crossroads.md, 12_reconfiguration.md). Those that can move a lane end with the message engines
following it.
-/
namespace Sys2Proof.Machine

/-! ### Combs (R304, R332, R336, R338) -/

/-- COMB_ARM (R332): a write of 1 to COMB.CTRL.ARM of comb e from an access path. -/
def execCombArm (path e : Nat) (s : State) : Res := s.heard path (if e < 2 then (s.combArm e path).msgSettle else s)

/-- LASER_EN_DROP (R332). -/
def execLaserEnDrop (s : State) : Res := s.live s.laserDrop.msgSettle

/-- The Reeve arms the combs of deferred optics (R518). -/
def State.deferredArm (s : State) : State :=
  if s.power.deferred || s.upd.romPorts then
    (List.range 2).foldl (fun s e => if s.combSt e = cbWAIT_ARM then s.setComb e cbWARMING else s) s
  else s

/-- LASER_EN_STABLE (R332, R518). -/
def execLaserEnStable (s : State) : Res := s.live s.laserStable.deferredArm

/-- COMB_TEC_SETTLED (R304). -/
def execCombTecSettled (e : Nat) (s : State) : Res :=
  s.live (if e < 2 ∧ s.combSt e = cbWARMING then (s.put (COMB_B e) COMB.STAT_TEC_OK 1).setComb e cbLOCKING else s)

/-- COMB_LOCKED (R304). -/
def execCombLocked (e : Nat) (s : State) : Res := s.live (if e < 2 then ((s.combLocked e).deferredCal).msgSettle else s)

/-- COMB_LOCK_LOST (R304): the spacing (0) or the offset (1) loop. -/
def execCombLockLost (e which : Nat) (s : State) : Res := s.live (if e < 2 then (s.combUnlock e which).msgSettle else s)

/-- COMB_FAIL (R338). -/
def execCombFail (e : Nat) (s : State) : Res := s.live (if e < 2 then ((s.combFail e).deferredCal).msgSettle else s)

/-- The engine's controller stops (R334, R336): its lasers are off, its rings uncoupled and its trees at park; its comb
waits to be armed (log entry 64). -/
def State.controllerStop (s : State) (e : Nat) : State :=
  let b := ENGINE_B e
  let s := (s.put b hSTAT_FAULT 1).recErrX b 17 0x8802 pathHw
  let s := if s.combArmed e then s.setComb e cbWAIT_ARM else s
  s.engineApply e

/-- CONTROLLER (R336). -/
def execController (e : Nat) (s : State) : Res := s.live (if e < 2 then (s.controllerStop e).msgSettle else s)

/-! ### Lanes (R303, R321-R323) -/

/-- TONE_CHECK_DONE (R303): a tone integration of a receive (rx 1) or transmit (rx 0) lane finds line k; 16 is none. -/
def execToneCheckDone (p l rx k : Nat) (s : State) : Res :=
  s.live (if p < 36 ∧ l < 9 then (if rx = 1 then s.toneRx p l k else s.toneTx p l k).msgSettle else s)

/-- ERROR_CHECK_DONE (R322, R323): the uncorrectable codewords, the bit error ratio in units of 10^-12 and the received power
in 0.01 dBm, as a signed 16-bit code; of a lane in service, those of the last 1 ms. -/
def execErrorCheckDone (p l uncorr ber power : Nat) (s : State) : Res :=
  s.live (if p < 36 ∧ l < 9 ∧ s.rxSt p l = lnCHECKING then (s.errorCheck p l uncorr ber (signed 16 power)).msgSettle
    else if p < 36 ∧ l < 9 ∧ serving (s.rxSt p l) = true then (s.serviceCheck p l uncorr ber (signed 16 power)).msgSettle else s)

/-- A receive lane leaves service (R323): for RELOCK with a cause, or FAILED after a hardware check. -/
def State.laneLost (s : State) (p l cause : Nat) : State :=
  let i := rxRing p l
  if cause = fcHARDWARE then s.ringHwFail i
  else
    let s := if cause = fcLINE_MISMATCH then s.raise (PORT_B p) 7 else s
    let s := s.rxLeave p l lnRELOCK cause
    if s.slotRuns i then s.slotSettle i else s

/-- LANE_LEAVE_SERVICE (R323). -/
def execLaneLeaveService (p l cause : Nat) (s : State) : Res :=
  s.live (if p < 36 ∧ l < 9 ∧ serving (s.rxSt p l) = true then (s.laneLost p l cause).msgSettle else s)

/-! ### Light (R328-R331) -/

/-- May transmit lane l of a port of p's group light p's fibre under the plan (R300, R373)? -/
def State.addsAt (s : State) (p q l : Nat) : Bool :=
  let i := txRing q l
  (s.ringLine i).isSome && (if s.plan.mode q ≠ mdDISCOVER ∧ s.plan.steered i = true
    then decide (s.plan.steerPath (s.plan.laneSteer i) (p % 3) ≠ 0xFFFF)
    else decide (s.plan.aim i = p % 3))

/-- PROBE_PULSE (R328): a dark port's pulse, from a transmit lane that the plan adds at it, its own before those of its group:
port, and the lane's port and number. -/
def execProbePulse (p : Nat) (s : State) : Res :=
  s.live (if s.portOn p = true ∧ s.bit (PORT_B p) PORT.STAT_RX_LIGHT = false ∧ s.combGood (portEngine p) = true then
    match ((p :: (List.range 3).map (p / 3 * 3 + ·)).flatMap fun q => (List.range 9).map fun l => (q, l)).find? fun x =>
        s.addsAt p x.1 x.2 with
    | some x => s.emit .probe [p, x.1, x.2]
    | none => s
  else s)

/-- LIGHT (R328). -/
def execLight (p : Nat) (s : State) : Res := s.live (if s.portOn p then (s.lightSeen p).msgSettle else s)

/-- OPEN_FIBRE (R329): not on a port lit at drain while the relaxation of R429 is in force, nor on one that had no light
(log entry 65). -/
def execOpenFibre (p : Nat) (s : State) : Res :=
  s.live (if s.portOn p = true ∧ s.bit (PORT_B p) PORT.STAT_RX_LIGHT = true ∧ s.xrds.lit.contains p = false then (s.openFibre p).msgSettle else s)

/-- LOOPBACK_TIMEOUT (R330). -/
def execLoopbackTimeout (p : Nat) (s : State) : Res :=
  s.live (if s.portOn p = true ∧ s.plan.mode p = mdLOOPBACK ∧ s.bit (PORT_B p) PORT.STAT_RX_LIGHT = false then
    ({ s with opt.loopTrip := zset s.opt.loopTrip p true }.openFibre p).msgSettle
  else s)

/-- LAUNCH_LIMIT (R331): of every port of an engine at work, whether the port itself is on or not. -/
def execLaunchLimit (p : Nat) (s : State) : Res :=
  s.live (if p < 36 ∧ s.engineOk (portEngine p) = true then (s.launchLimit p).msgSettle else s)

/-- RELAUNCH (R331): a write of 1 to PORT.CFG.RELAUNCH. -/
def execRelaunch (p : Nat) (s : State) : Res := s.live (if p < 36 then (s.relaunch p).msgSettle else s)

/-! ### Beacons (R370-R375, R380) -/

/-- BEACON_SEND (R370): every transmit lane that is launched sends beacons. -/
def execBeaconSend (p l : Nat) (s : State) : Res :=
  s.live (if s.portOn p = true ∧ l < 9 ∧ (s.txSt p l = lnCHECKING ∨ serving (s.txSt p l) = true) then s.sendBeacon p l else s)

/-- BEACON_RECEIVE (R371-R374). -/
def execBeaconReceive (p l : Nat) (x : Beacon) (s : State) : Res :=
  s.live (if p < 36 ∧ l < 9 then
    (if s.vc3Held p < 32 then (if s.portOn p then s.countIn p else s).beaconIn p l x else s.vc3Drop p).msgSettle else s)

/-- MISSING (R375): DISC_WAIT is over for port p. -/
def execMissing (p : Nat) (s : State) : Res := s.live (if p < 36 then s.missing p else s)

/-- IDENTITY_STALE (R380): no beacon for 35 ms on receive lane i = 9 p + l. -/
def execIdentityStale (i : Nat) (s : State) : Res :=
  let st := s.get (idBase i) XRDS_ID.ID_PATH_STATE
  s.live (if i < 324 ∧ 1 ≤ st ∧ st ≤ 4 then s.put (idBase i) XRDS_ID.ID_PATH_STATE 5 else s)

/-! ### Route plans (R355-R361, R378) -/

/-- STAGE_DATA_WRITE (R356). -/
def execStageDataWrite (path : Nat) (v : Word) (s : State) : Res := s.heard path (s.stageData path v)

/-- ACTIVE_DATA_READ (R378): the value read goes out. -/
def execActiveDataRead (path : Nat) (s : State) : Res := s.heard path (let (v, s) := s.activeRead path; s.emit .read [v])

/-- A write of PLAN_CTRL from a path that carries a claim in CMD_CLAIM (R357, R440). -/
def State.planWrite (s : State) (path claim bits : Nat) : State :=
  (s.pput64 path XRDS_B XRDS.CMD_CLAIM_LO claim).planCtrl path (BitVec.ofNat 32 bits)

/-- CHECK (R361). -/
def execCheck (path claim : Nat) (s : State) : Res := s.heard path (s.planWrite path claim 1)

/-- CHECK_DONE (R361): after us microseconds. -/
def execCheckDone (us : Nat) (s : State) : Res := s.live (s.checkDone us)

/-- ARM (R358). -/
def execArm (path claim : Nat) (s : State) : Res := s.heard path (s.planWrite path claim 2)

/-- CANCEL (R360): launches held by a drain go on. -/
def execCancel (path claim : Nat) (s : State) : Res := s.heard path (s.planWrite path claim 4).msgSettle

/-- CLEAR (R356). -/
def execClear (path claim : Nat) (s : State) : Res := s.heard path (s.planWrite path claim 8)

/-- COPY_ACTIVE (R356). -/
def execCopyActive (path claim : Nat) (s : State) : Res := s.heard path (s.planWrite path claim 16)

/-- PRESENT (R441): a write of 1 to CLAIM.CTRL.PRESENT with the path's PRESENT register. -/
def execPresent (path claim : Nat) (s : State) : Res :=
  s.heard path ((s.pput64 path CLAIM_B CLAIM.PRESENT_LO claim).present path 1)

/-! ### The timed switch (R426-R438) -/

/-- DRAIN_START (R426). -/
def execDrainStart (s : State) : Res := s.live s.drainStart.msgSettle

/-- START_POINT_REFRESH (R406): while a switch is armed. -/
def execStartPointRefresh (s : State) : Res := s.live (if s.stageSt = sgARMED then s.startPoints else s)

/-- OPEN_FIBRE_GUARD_END (R429). -/
def execOpenFibreGuardEnd (s : State) : Res := s.live s.guardEnd

/-- RELEASE (R430, R431). -/
def execRelease (s : State) : Res := s.live s.releaseAll

/-- SWITCH_REPORT (R433). -/
def execSwitchReport (s : State) : Res := s.live s.switchReport

/-- SWITCH_NOTE (R438): a note arrives at port p with T, the sender's new epoch and its coordinate; the module's own
notes leave within 20 µs of its T. -/
def execSwitchNote (p t new x y z : Nat) (s : State) : Res := s.live (if p < 36 then (s.countIn p).noteIn p t new x y z else s)

/-! ### Steering (R365-R367) -/


/-- Has every output of a steered lane that names a path been visited within 500 µs (R366)? -/
def State.allVisited (s : State) (p l : Nat) : Bool :=
  (List.range 3).all fun o => decide (s.plan.steerPath (s.plan.laneSteer (txRing p l)) o = 0xFFFF)
    || decide (s.txOut p l = o) || (zget s.opt.visitAt (outKey p l o)).any fun t => decide (s.time.up ≤ t + 1000000)

/-- An idle steered lane rests on DEFAULT (R366): output 3 parks it with its ring locked, and its state stays. -/
def State.steerRest (s : State) (p l : Nat) : State :=
  let d := s.plan.ent 2 (s.plan.laneSteer (txRing p l)) 2 1
  if s.allVisited p l = false ∨ s.txOut p l = d then s
  else if d < 3 then (if s.canLaunch (treePort p d) then (s.steerTo p l d).msgSettle else s)
  else s.setOut p l 3

/-- The frame boundary's choice (R365); without a waiting frame the lane rests (R366). -/
def State.steerSwitch (s : State) (p l : Nat) : State :=
  let j := s.plan.laneSteer (txRing p l)
  let here := s.outWaits (s.plan.steerPath j (s.txOut p l))
  if here && decide (zget s.opt.visit (9 * p + l) < s.plan.dwell j) then s
  else match s.nextOut p l with
    | some o => (s.steerTo p l o).msgSettle
    | none => if here then s else s.steerRest p l

/-- STEER_SWITCH (R365). A lane in CHECKING carries no frames: it rests when no output has a waiting frame (R366). -/
def execSteerSwitch (p l : Nat) (s : State) : Res :=
  let i := txRing p l
  s.live (if s.portOn p = true ∧ l < 8 ∧ s.plan.role i = 1 ∧ s.plan.mode p ≠ mdDISCOVER ∧ s.plan.steered i = true
      ∧ zget s.opt.tripped (9 * p + l) = 0 then
    (if s.txSt p l = lnIN_SERVICE then s.steerSwitch p l
    else if s.txSt p l = lnCHECKING ∧ ((List.range 3).any fun o => s.outWaits (s.plan.steerPath (s.plan.laneSteer i) o)) = false then
      s.steerRest p l
    else s) else s)

/-- STEER_VISIT (R366): output o's visit is due. -/
def execSteerVisit (p l o : Nat) (s : State) : Res := s.live (if l < 8 ∧ o < 3 then (s.steerVisit p l o).msgSettle else s)

/-- BURST_GAP_TIMEOUT (R367). -/
def execBurstGapTimeout (p l : Nat) (s : State) : Res := s.live (if p < 36 ∧ l < 9 then (s.burstGap p l).msgSettle else s)

end Sys2Proof.Machine
end

