-- ==== Sys2Proof/Machine/Codeword.lean ====
section
/-!
DEFINITION. The codewords of a Zynen lane (R313-R318): error correction, scrambling, alignment, the control word and the
frame stream, with every frame handed to the command that its VC and TYPE name.
-/
namespace Sys2Proof.Machine

/-! ### Decoding RS(240,224) (R313) -/

/-- A polynomial, highest power first, at x. -/
def cwEval (x : Nat) (p : List Nat) : Nat := p.foldl (fun acc c => cwMul acc x ^^^ c) 0

/-- The sixteen syndromes of a word of 240 symbols: symbol i is the coefficient of x^(239 - i). -/
def cwSyndromes (w : List Nat) : List Nat := (List.range 16).map fun j => cwEval (cwAlpha j) w

/-- Sum of two polynomials, lowest power first. -/
def cwAdd (p q : List Nat) : List Nat := (List.range (max p.length q.length)).map fun i => p.getD i 0 ^^^ q.getD i 0

/-- The shortest recurrence of the syndromes: connection polynomial, the last one of another length, shift, the last
discrepancy, length. -/
structure CwReg where
  c : List Nat
  b : List Nat
  m : Nat
  d : Nat
  len : Nat

/-- One step of the recurrence search, for syndrome n. -/
def CwReg.next (syn : List Nat) (r : CwReg) (n : Nat) : CwReg :=
  let d := (List.range (r.len + 1)).foldl (fun acc i => acc ^^^ cwMul (r.c.getD i 0) (syn.getD (n - i) 0)) 0
  if d = 0 then { r with m := r.m + 1 }
  else
    let k := cwMul d (cwInv r.d)
    let c := cwAdd r.c (List.replicate r.m 0 ++ r.b.map (cwMul k))
    if 2 * r.len ≤ n then ⟨c, r.c, 1, d, n + 1 - r.len⟩ else { r with c := c, m := r.m + 1 }

/-- The error locator, lowest power first. -/
def cwLocator (syn : List Nat) : List Nat := ((List.range 16).foldl (CwReg.next syn) ⟨[1], [1], 1, 1, 0⟩).c

/-- The error value at locator x: x times the evaluator over the derivative of the locator, at 1 / x. -/
def cwValue (syn loc : List Nat) (x : Nat) : Nat :=
  let xi := cwInv x
  let omega := (List.range 16).map fun i =>
    (List.range (i + 1)).foldl (fun acc k => acc ^^^ cwMul (loc.getD k 0) (syn.getD (i - k) 0)) 0
  let deriv := (List.range loc.length).map fun i => if i % 2 = 0 then loc.getD (i + 1) 0 else 0
  cwMul (cwMul x (cwEval xi omega.reverse)) (cwInv (cwEval xi deriv.reverse))

/-- A word with its errors corrected where that makes it a codeword and changes at most 8 symbols, with the number of
symbols changed. -/
def cwDecode (w : List Nat) : Option (List Nat × Nat) :=
  let syn := cwSyndromes w
  if syn.all (· = 0) then some (w, 0)
  else
    let loc := cwLocator syn
    let v := (List.range 240).map fun i =>
      let x := cwAlpha (239 - i)
      if cwEval (cwInv x) loc.reverse = 0 then w.getD i 0 ^^^ cwValue syn loc x else w.getD i 0
    let n := ((List.range 240).filter fun i => decide (v.getD i 0 ≠ w.getD i 0)).length
    if n ≤ 8 ∧ (cwSyndromes v).all (· = 0) = true then some (v, n) else none

/-! ### Scrambler, words and control word (R313-R315) -/


/-- The 2,240 data bits of a codeword, descrambled from bit 16 onward. -/
def cwData (w : List Nat) : Nat :=
  let d := (List.range 224).foldl (fun acc i => acc + w.getD i 0 % 1024 * 2 ^ (10 * i)) 0
  d ^^^ cwMask

/-! ### Frames (R316, R228, R229, R284, R370, R437, R539, R581) -/

/-- A field of n bytes at byte o of a body. -/
def fld (b : List Byte) (o n : Nat) : Nat := ofLe ((b.drop o).take n)

/-- The message frame in a body of VC0 or VC1 (R228). -/
def msgOf (b : List Byte) : MsgFrame :=
  { typ := fld b 0 1, flags := fld b 1 1, slice := fld b 2 2 % 4096, srcEpoch := fld b 4 4, dstEpoch := fld b 8 4,
    sx := fld b 12 1, sy := fld b 13 1, sz := fld b 14 1, dies := fld b 15 1 % 16, dx := fld b 16 1, dy := fld b 17 1,
    dz := fld b 18 1, stream := fld b 20 2 % 16384, length := fld b 22 2 % 1024, seq := fld b 24 4, frames := fld b 28 2,
    index := fld b 30 2, target := fld b 32 8 % 2 ^ 40, notifyQ := fld b 40 4 % 2 ^ 18, poison := fld b 44 2,
    path := fld b 46 2, payload := (b.drop 48).map BitVec.toNat }

/-- The beacon in a body (R370). -/
def beaconOf (b : List Byte) : Beacon :=
  { path := fld b 2 2, serial := fld b 4 8, port := fld b 12 1, lane := fld b 13 1, major := fld b 14 1, minor := fld b 15 1,
    fw := fld b 16 4, plan := fld b 20 4, inc := fld b 24 4 }

/-- The state that a command leaves, or the state before it where it stopped. -/
def State.after (s : State) (r : Res) : State :=
  match r with
  | .next t => t
  | _ => s

/-- A frame on VC0 or VC1: the slice filter, on SLICE of the link header, is the first test (R316, R369). One that is no message
frame of R228 is then dropped, and its buffer freed. -/
def State.bulkIn (s : State) (p vc slice : Nat) (b : List Byte) : State :=
  let f := msgOf b
  if s.plan.admits p slice = false ∨ f.fits ∧ (f.typ = 2 ∨ (f.typ = 1 ∧ vc = 1)) then (s.frameOffer p vc slice f).msgSettle
  else (s.freeBuffer f.path vc).msgSettle

/-- A frame on VC2. -/
def State.vc2In (s : State) (p l : Nat) (b : List Byte) : State :=
  let path := fld b 2 2
  let seq := fld b 8 4
  s.after (match fld b 0 1 with
  | 0x10 => execAck path (fld b 1 1) (fld b 4 4) seq (fld b 13 1) s
  | 0x11 => execNack path (fld b 1 1) (fld b 4 4) seq (fld b 12 1) s
  | 0x20 => execResyncReq path (fld b 1 1) l seq s
  | 0x21 => execResync path (fld b 1 1) seq (fld b 14 2) s
  | 0x40 => execZtSyncRx p path seq (fld b 16 8) (fld b 24 4) s
  | 0x41 => execZtDreqRx p seq (fld b 28 2) s
  | 0x42 => execZtDrespRx path seq (fld b 16 8) (fld b 24 4) s
  | 0x50 => execSwitchNote p (fld b 16 8) (fld b 12 4) (fld b 24 1) (fld b 25 1) (fld b 26 1) s
  | 0x60 => execCalStart path (fld b 1 1) (fld b 4 4) seq s
  | 0x61 => execCalEnd path (fld b 1 1) (fld b 4 4) seq s
  | 0x62 => execCalAbort path (fld b 1 1) (fld b 4 4) seq s
  | _ => .next s)

/-- A frame on VC3. -/
def State.vc3In (s : State) (p l : Nat) (b : List Byte) : State :=
  let xfer := fld b 12 4
  match fld b 0 1 with
  | 0x01 => s.after (execBeaconReceive p l (beaconOf b) s)
  | 0x20 => s.chainIn p 0x20 xfer [fld b 16 4, fld b 24 8]
  | 0x21 => s.chainIn p 0x21 xfer [fld b 16 4, fld b 20 2]
  | 0x22 => s.chainIn p 0x22 xfer (fld b 16 4 :: ((b.drop 32).take (fld b 20 2)).map BitVec.toNat)
  | 0x23 => s.chainIn p 0x23 xfer [fld b 16 1]
  | _ => if s.vc3Held p < 32 then s.countIn p else s.vc3Drop p

/-- The words of a frame whose header is h: link header, body, CRC, zeros to the next word. -/
def frameWords (h : Nat) : Nat := (bitsOf h 4 14 + 19) / 8

/-- A whole frame has arrived on lane l: its CRC, then its channel. -/
def State.frameDone (s : State) (p l : Nat) (ws : List Nat) : State :=
  let h := ws.headD 0
  let n := bitsOf h 4 14
  let bytes := ws.flatMap (leBytes 8)
  let body := (bytes.drop 8).take n
  if n < 16 ∨ 560 < n ∨ fld bytes (8 + n) 4 ≠ crc32c (bytes.take (8 + n)) then s.inc (PORT_B p) (laneF PORT.CRC_ERR_COUNT l)
  else match bitsOf h 0 1 with
    | 2 => s.vc2In p l body
    | 3 => s.vc3In p l body
    | vc => s.bulkIn p vc (bitsOf h 32 43) body

/-- The stream's next word, w: a frame starts where it may, and ends with its last word. -/
def State.streamWord (s : State) (p l w : Nat) (ws : List Nat) : State :=
  let k := 9 * p + l
  let put (s : State) (v : List Nat) : State := { s with opt.stream := zset s.opt.stream k (some v) }
  if ws.isEmpty ∧ w = 0 then s
  else
    let ws := ws ++ [w]
    if ws.length = frameWords (ws.headD 0) then (put s []).frameDone p l ws else put s ws

/-- Words 1-34 of a codeword with data d: the stream that waits starts at FRAME_OFF. -/
def State.streamIn (s : State) (p l d : Nat) : State :=
  let off := bitsOf (cwWord d 0) 20 25
  (List.range 34).foldl (fun (s : State) i =>
    match zget s.opt.stream (9 * p + l) with
    | some ws => s.streamWord p l (cwWord d (i + 1)) ws
    | none => if off = i + 1 then s.streamWord p l (cwWord d (i + 1)) [] else s) s

/-! ### Codewords (R314, R315, R318) -/

/-- The alignment of a lane after a codeword: good codewords in a row, next CW_SEQ, wrong SYNCs in a row. -/
def nextAlign (a : Nat × Nat × Nat) (sync seq : Nat) : Nat × Nat × Nat :=
  let ok := decide (sync = cwSYNC)
  let nx := (seq + 1) % 16
  if a.1 = 4 then (if ok then (4, nx, 0) else if a.2.2 + 1 = 8 then (0, 0, 0) else (4, nx, a.2.2 + 1))
  else if ok then (if a.1 = 0 ∨ seq ≠ a.2.1 then (1, nx, 0) else (a.1 + 1, nx, 0))
  else (0, 0, 0)

/-- Set a lane's alignment; without it the frame stream stops. -/
def State.setAlign (s : State) (p l : Nat) (a : Nat × Nat × Nat) : State :=
  let s := { s with opt.align := zset s.opt.align (9 * p + l) a }
  -- the first alignment withdraws the reference path (R428)
  if a.1 = 4 then { s with xrds.refLit := s.xrds.refLit.filter (· ≠ rxRing p l) } else { s with opt.stream := zset s.opt.stream (9 * p + l) none }

/-- The control word of an aligned codeword on lane l of port p: RX_OK of its path, and credits where the lane is one in service of
the return path (R315, R319). -/
def State.controlWordIn (s : State) (p l c : Nat) : State :=
  let path := bitsOf c 26 41
  if path = 0xFFFF then s
  else s.controlIn path (bitsOf c 42 42) (bitsOf c 43 54) (bitsOf c 55 63) fun e =>
    (s.plan.path true e.ret).any fun r => decide (r.port = p) && (s.returnLanes e).contains l

/-- A codeword arrives on lane l of port p, as 240 received symbols. -/
def State.codewordIn (s : State) (p l : Nat) (w : List Nat) : State :=
  let k := 9 * p + l
  let a := zget s.opt.align k
  match cwDecode w with
  | none =>
    let d := cwData w
    let s := s.setAlign p l (nextAlign a (if a.1 = 4 then cwWord d 0 % 2 ^ 16 else 0) a.2.1)
    if a.1 = 4 then
      ({ s with opt.stream := zset s.opt.stream k none }.inc (PORT_B p) (laneF PORT.FEC_UNCORR_COUNT l)).raise (PORT_B p) 6
    else s
  | some (v, n) =>
    let d := cwData v
    let c := cwWord d 0
    let a' := nextAlign a (c % 2 ^ 16) (bitsOf c 16 19)
    let s := s.setAlign p l a'
    if a'.1 = 4 then ((s.incBy (PORT_B p) (laneF PORT.FEC_SYM_COUNT l) n).controlWordIn p l c).streamIn p l d else s

/-- CODEWORD_RECEIVE (R313-R318): 240 symbols of 10 bits on lane l of port p. A burst preamble (1) before the codeword has
given the alignment (R325). -/
def execCodewordReceive (p l preamble : Nat) (w : List Nat) (s : State) : Res :=
  s.live (if s.portOn p = true ∧ l < 9 ∧ s.rxSt p l ≠ lnOFF then
    let s := if preamble % 2 = 1 then (s.setAlign p l (0, 0, 0)).setAlign p l (4, 0, 0) else s
    s.codewordIn p l ((List.range 240).map fun i => w.getD i 0 % 1024)
  else s)

end Sys2Proof.Machine
end

