-- ==== Sys2Proof/Machine/Fabric.lean ====
section
/-!
DEFINITION. Commands of the mesh, the die links and the stacked memory in service: flits (R146-R150), failures (R143),
scrubbing (R173, R174), channel failure (R182) and map-out requests (R185).
-/
namespace Sys2Proof.Machine

/-! ### Die links and mesh -/

/-- Count an uncorrectable flit received on link set k of die d (R147, R148). Fault reporting continues whatever ENABLE
is (R151). -/
def State.flitUncorr (s : State) (d k : Nat) : State :=
  (s.inc (MESH_B d) (MESH.LINK_UNCORR_COUNT.at k 0x10)).raiseAlways (MESH_B d) 1

/-- Poison four words from word 4 j of a list. -/
def poisonFour (j : Nat) (ws : List (Nat × Bool)) : List (Nat × Bool) :=
  ws.mapIdx fun i w => if i / 4 = j then (w.1, true) else w

/-- What the code makes of a flit whose error pattern the command gives; pattern 0 stands for a flit beyond correction, which the
command's name says. -/
def fateOf (e : Nat) : FlitFate := if e = 0 then .uncorrectable else flitFate e

/-- Count a corrected flit received on link set k of die d (R146). -/
def State.flitCorrected (s : State) (d k : Nat) : State := s.inc (MESH_B d) (MESH.LINK_CORR_COUNT.at k 0x10)

/-- FLIT_UNCORR_SCHEDULED (R146, R147): flit j % 2^16 of scheduled flight f arrives at link set k (0 or 1) of die d with the
error pattern j / 2^16. A flit beyond correction is written as poisoned words. -/
def execFlitUncorrScheduled (d k f j : Nat) (s : State) : Res :=
  s.live (match s.flights[f]? with
  | some x =>
    if s.diePresent d ∧ k < 2 ∧ x.sched = true ∧ 4 * (j % 2 ^ 16) < x.words.length then
      match fateOf (j / 2 ^ 16) with
      | .corrected => s.flitCorrected d k
      | .uncorrectable =>
        ({ s with flights := s.flights.set f { x with words := poisonFour (j % 2 ^ 16) x.words } }).flitUncorr d k
      | .clean => s
    else s
  | none => s)

/-- A mesh failure stops every tile, and with it what its message operations wait for (R219, R244). -/
def State.meshStops (s : State) : State := s.meshFails.stopMops fun o => decide (o.kind ≠ 3)

/-- LINK_STAT of link set k of die d once bundle i of it is down (R152). -/
def State.bundleDown (s : State) (d k i : Nat) : State :=
  let m := MESH_B d
  let mask := MESH.LINK_STAT_DOWN_MASK.at k 0x10
  (s.put m mask (s.get m mask ||| 2 ^ i)).put m (MESH.LINK_STAT_UP.at k 0x10) 0

/-- Bundle i of link set k goes down, as die d receives on it (R150). A crossing is a bundle of both its dies, and LINK_STAT of
both shows it down (R152); fault, error and event are the receiving die's. -/
def State.linkDown (s : State) (d k i : Nat) : State :=
  let m := MESH_B d
  let s := s.bundleDown d k i
  let s : State := match linkPartner d k with
    | some e => if s.diePresent e then s.bundleDown e k i else s
    | none => s
  let s := ((s.put m hSTAT_FAULT 1).recErr m 16 0x8101 pathHw (k + 16 * i)).raiseAlways m 2
  (s.put POWER_B POWER.STATE_DEGRADED 1).meshStops

/-- LINK_DOWN (R150): bundle i of link set k goes down at die d. -/
def execLinkDown (d k i : Nat) (s : State) : Res :=
  s.live (if s.diePresent d ∧ i < bundles k then s.linkDown d k i else s)

/-- Key of entry r of the replay buffer of 64 flits of a bundle (R148). -/
def replayKey (d k i r : Nat) : Nat := ((4 * d + k) * 16 + i) * 64 + r

/-- The flit in entry r of the replay buffer of bundle i of link set k of die d, which has been sent again n times, is
uncorrectable (R148). It is sent again, up to four times; when its fourth retry fails the bundle is down. -/
def State.flitRetry (s : State) (d k i r n : Nat) : State :=
  let s := s.flitUncorr d k
  if n < 4 then
    { s.inc (MESH_B d) (MESH.LINK_RETRY_COUNT.at k 0x10) with
      tile.retries := zset s.tile.retries (replayKey d k i r) (n + 1) }
  else s.linkDown d k i

/-- FLIT_RETRY (R146, R148): the flit in entry b / 2^9 % 64 of the sender's replay buffer of bundle b / 16 % 16 of link set
b % 4 of die d arrives with the error pattern b / 2^16. Bit 8 of b is 1 for a flit that has been sent again before. A flit that
arrives leaves the replay buffer. -/
def execFlitRetry (d b : Nat) (s : State) : Res :=
  let k := b % 4
  let i := b / 16 % 16
  let r := b / 2 ^ 9 % 64
  let done (s : State) : State := { s with tile.retries := zset s.tile.retries (replayKey d k i r) 0 }
  s.live (if s.diePresent d ∧ i < bundles k then
    match fateOf (b / 2 ^ 16) with
    | .clean => done s
    | .corrected => done (s.flitCorrected d k)
    | .uncorrectable => s.flitRetry d k i r (if b / 256 % 2 = 1 then zget s.tile.retries (replayKey d k i r) else 0)
  else s)

/-- The logical tile at a physical position of a die, none where the repair map leaves it out (R140). -/
def State.tileAtPhys (s : State) (d row col : Nat) : Option Nat :=
  ((List.range (s.dieRows d * 11)).find? fun t => decide (s.physOf d t = (row, col))).map (256 * d + ·)

/-- TILE_FAILED (R122, R143): the tile at a physical position of die d fails in service. -/
def execTileFailed (d row col : Nat) (s : State) : Res :=
  s.live (if s.diePresent d ∧ row < 10 ∧ col < 12 then
    match s.tileAtPhys d row col with
    | some g => s.tileHwFail g
    | none => s.tilePending d row col
  else s)

/-- ROUTER_FAULT (R143, R154): the router of a tile of die d fails its check. -/
def execRouterFault (d row col : Nat) (s : State) : Res :=
  s.live (if s.diePresent d ∧ row < 10 ∧ col < 12 then
    let m := MESH_B d
    ((s.put m hSTAT_FAULT 1).recErr m 17 0x8102 pathHw (16 * row + col)).meshStops
  else s)

/-! ### Scrubbing -/

/-- Add symbol errors to the protected unit at u: an upset that this visit finds (R167, R168). -/
def State.upsetUnit (s : State) (u e : Nat) : State := { s with upset := zset s.upset u (zget s.upset u ^^^ e) }

/-- The scrubber of a byte address of a tile's memories (R173): of a data bank, of one of the 16 staging sub-banks (R77),
or of the instruction store. -/
def scrubBank (u : Nat) : Nat :=
  let w := u % 0x1000000 / 32
  if u ≥ instrAddr 0 0 then u / 0x1000000 * 64 + 63
  else u / 0x1000000 * 64 + (if w < 0x40000 then w / 8192 else 32 + (w - 0x40000) / 2048)

/-- Does a word that a read has found in error wait for the scrubber of the word at u (R172)? It goes first. -/
def State.scrubElsewhere (s : State) (u : Nat) : Bool :=
  !s.tile.urgent.contains u && s.tile.urgent.any fun x => decide (scrubBank x = scrubBank u)

/-- Words that the scrubbers of a die visit in a pass (R77, R82, R173). -/
def State.scrubWords (s : State) (d : Nat) : Nat := s.dieRows d * 11 * (tileWords + 8192)

/-- The word at u of die d has had its turn: the turn of the last one ends the pass (R173). -/
def State.scrubTurn (s : State) (d u : Nat) : State :=
  let done := zset s.tile.scrubbed u true
  if (done.filter fun e => decide (tileOfAddr e.1 / 256 = d)).length < s.scrubWords d then { s with tile.scrubbed := done }
  else { s.put (DIE_B d) DIE.SRAM_PASS_COUNT (s.get (DIE_B d) DIE.SRAM_PASS_COUNT + 1) with
    tile.scrubbed := done.filter fun e => !decide (tileOfAddr e.1 / 256 = d) }

/-- The error pattern of a 32-byte word with the upset e of its bytes and c of its check bytes (R167, R169). -/
def wordErr (e c : Nat) : Nat := e % 2 ^ 256 + c % 2 ^ 32 * 2 ^ 256

/-- SRAM_SCRUB_TURN (R173): the scrubber visits tile word wa of tile g, or word wa - 0x7C000 of its instruction store,
and finds the upset e of its 32 bytes and c of its four check bytes, added since the last visit. `late`: the turn waited
beyond one interval. -/
def execSramScrubTurn (g wa e late c : Nat) (s : State) : Res :=
  let d := DIE_B (g / 256)
  let u := if wa < tileWords then twAddr g wa else instrAddr g (32 * (wa - 0x7C000))
  s.live (if s.tilePresent g ∧ (wa < tileWords ∨ (0x7C000 ≤ wa ∧ wa < 0x7E000)) ∧ s.get d DIE.SRAM_SCRUB_INTERVAL ≠ 0
      ∧ (s.tiles.all fun t => t / 256 ≠ g / 256 || !s.bit (TILE_B t) hCTRL_BLOCK_RESET) ∧ s.scrubElsewhere u = false then
    let s := s.upsetUnit u (wordErr e c)
    let s := { s with tile.urgent := s.tile.urgent.filter (· ≠ u) }
    let s := if late = 0 then s else s.inc d DIE.SRAM_LATE_COUNT
    let s := s.scrubTurn (g / 256) u
    let (x, st) := s.readUnit u
    match st with
    | .corrected => (s.setUnit u x false).inc d DIE.SRAM_CORR_COUNT
    | .uncorrectable =>
      let s := (s.setUnit u x true).inc d DIE.SRAM_UNCORR_COUNT
      let s := ((s.put d DIE.SRAM_LAST_TILE (g % 256)).put d DIE.SRAM_LAST_TWA wa).put d DIE.SRAM_LAST_VALID 1
      s.raise d 8
    | .ok => s
    | .poisoned => s
  else s)

/-- Blocks of a stack (R157). -/
def stackBlocks : Nat := 562500000

/-- HBM_SCRUB_STEP (R174): the controller of stack m reads its next block, in which it finds the upset e. -/
def execHbmScrubStep (m e : Nat) (s : State) : Res :=
  let b := HBM_B m
  s.live (if s.stackIn m ∧ s.on b ∧ s.bit b hSTAT_QUIESCED = false ∧ s.get b HBM.SCRUB_PERIOD_SECONDS ≠ 0 then
    let n := s.get b HBM.SCRUB_POS_BLOCK
    let u := m * 0x1000000000 + 64 * n
    let s := ((s.upsetUnit u e).readBlock u).2
    if n + 1 < stackBlocks then s.put b HBM.SCRUB_POS_BLOCK (n + 1)
    else ((s.put b HBM.SCRUB_POS_BLOCK 0).put b HBM.SCRUB_PASS_COUNT (s.get b HBM.SCRUB_PASS_COUNT + 1)).raise b 2
  else s)

/-! ### Channels and map-out -/

/-- Mark stack m in the map-out record with a cause, unless it is marked already (R180). -/
def State.markStack (s : State) (m cause : Nat) : State :=
  if s.bit (HBM_B m) HBM.STACK_STAT_MARKED then s
  else { (s.put (HBM_B m) HBM.STACK_STAT_MARKED 1).raise (HBM_B m) 3 with mapoutRec := zset s.mapoutRec m cause }

/-- CHANNEL_FAIL (R182): channel c of stack m fails in service. -/
def execChannelFail (m c : Nat) (s : State) : Res :=
  s.live (if s.stackIn m ∧ c < 32 then
    let b := HBM_B m
    let s := { s with chanFail := zset s.chanFail (m * 32 + c) true }
    ((s.put b hSTAT_FAULT 1).recErr b 17 0x8202 pathHw c).markStack m 4
  else s)

/-- MAPOUT_RETRY (R185): a write of MAPOUT_CTRL.RETRY at stack m's page. -/
def execMapoutRetry (m : Nat) (s : State) : Res :=
  s.live (if m < 8 ∧ s.diePresent (m / 2) then s.put (HBM_B m) HBM.MAPOUT_CTRL_RETRY 1 else s)

/-- MAPOUT_REQ (R185): a write of MAPOUT_CTRL.REQ at stack m's page. -/
def execMapoutReq (m : Nat) (s : State) : Res :=
  s.live (if m < 8 ∧ s.diePresent (m / 2) then s.put (HBM_B m) HBM.MAPOUT_CTRL_REQ 1 else s)

end Sys2Proof.Machine
end

