-- ==== Sys2Proof/Machine/JobCmd.lean ====
section
/-!
DEFINITION. The commands of the job (06_contract.md): JOB_CTRL's four bits, written through the DIE page of die d, and
what the loader, the clock and the reshard engines then do.
-/
namespace Sys2Proof.Machine

/-- LOAD (R211, R212). -/
def execLoad (path d : Nat) (s : State) : Res := s.heard path (if s.diePresent d then s.jobCtrlWrite path (DIE_B d) 1 else s)

/-- LOAD_COMPLETE (R212, R463). The loader is firmware: it waits while the Reeve does not run (R467). -/
def execLoadComplete (s : State) : Res :=
  s.live (if s.jobState = jsLOADING ∧ s.reeve.down = false ∧ s.memHeld s.imgAddr = false then s.loadEnd else s)

/-- START (R211, R216). -/
def execStart (path d : Nat) (s : State) : Res := s.heard path (if s.diePresent d then s.jobCtrlWrite path (DIE_B d) 2 else s)

/-- STOP (R211). -/
def execStop (path d : Nat) (s : State) : Res := s.heard path (if s.diePresent d then s.jobCtrlWrite path (DIE_B d) 4 else s)

/-- UNLOAD (R211). -/
def execUnload (path d : Nat) (s : State) : Res := s.heard path (if s.diePresent d then s.jobCtrlWrite path (DIE_B d) 8 else s)

/-- PHASE_CHANGE (R216, R217): the clock has reached the armed instant; a switch that is due goes first (R427, R436). -/
def execPhaseChange (s : State) : Res := s.live (if s.changeDue then s.fireSwitch.phaseChange.msgSettle else s)

/-- LATE_PHASE_START (R218): no tile is late any more. -/
def execLatePhaseStart (s : State) : Res :=
  s.live (match s.job.late with
  | some (p, t) =>
    if (s.lateTiles.all fun g => decide (s.tstate g = tsFAULTED)) = true ∧ s.jobState ≠ jsFAILED then (s.fireSwitch.lateStart p t).msgSettle
    else s
  | none => s)

/-- SCHEDULE_START (R135, R217): no scheduled word of the earlier phase is on any link. -/
def execScheduleStart (s : State) : Res :=
  s.live (if s.job.starting && s.flights.all fun f => !f.sched then s.scheduleStart else s)

/-- RESHARD_DESC_DONE (R221): descriptor i of the current phase, counted from RESHARD_FIRST. A quiesced engine copies
nothing (R223), and neither does one whose stack holds back its requests (R187). -/
def execReshardDescDone (i : Nat) (s : State) : Res :=
  s.live (if s.rsRunning i && s.rsFinished i && !s.rsHeld i
      && (decide ((s.rsDesc i).kind ≠ 0) || !s.bit (RESHARD_B (s.rsDesc i).die) hCTRL_QUIESCE)
    then s.rsComplete i else s)

/-- RESHARD_TIMEOUT (R221). -/
def execReshardTimeout (i : Nat) (s : State) : Res :=
  s.live (if s.rsRunning i && s.rsLate i then s.reshardFails i 2 else s)

end Sys2Proof.Machine
end

