-- ==== Sys2Proof/Machine/Mgmt.lean ====
section
/-!
DEFINITION. The management protocol over the mailbox and the two Ethernet ports, and the Reeve's return from a warm reset
(R464, R467-R474, R508). Path 0 is the mailbox, path 1 + n is port n.
-/
namespace Sys2Proof.Machine

/-! ### Messages (R470-R472) -/

/-- Four bytes of a payload as a number, and n bytes. -/
def pay (l : List Nat) (o n : Nat) : Nat := ofLe (((l.drop o).take n).map (BitVec.ofNat 8))
def word4 (v : Nat) : List Nat := (leBytes 4 v).map BitVec.toNat

/-- Magic bytes of a message. -/
def mgMAGIC : List Nat := [0x44, 0x4D]

/-- The request in a datagram or buffer: none when its MAGIC is wrong or it is shorter than its LENGTH says. -/
def mgParse (l : List Nat) : Option MReq :=
  let n := pay l 12 2
  if 16 ≤ l.length ∧ l.take 2 = mgMAGIC ∧ 16 + n ≤ l.length then
    some ⟨l.getD 2 0, l.getD 3 0, pay l 4 2, pay l 8 4, (l.drop 16).take n⟩
  else none

/-- A response as bytes. -/
def MResp.bytes (r : MResp) : List Nat :=
  mgMAGIC ++ [1, 1] ++ [r.opcode % 256, r.opcode / 256 % 256, r.status % 256, r.status / 256 % 256] ++ word4 r.seq
    ++ [r.payload.length % 256, r.payload.length / 256 % 256, 0, 0] ++ r.payload

/-- Opcodes. -/
def moHELLO : Nat := 0x0001
def moREG_READ : Nat := 0x0010
def moREG_WRITE : Nat := 0x0011
def moRESET : Nat := 0x0020
def moUPDATE_DATA : Nat := 0x0030

/-- Does LENGTH fit the opcode, with a register count of 1 to 218 (R471)? A LENGTH above 880 fits none (R470). -/
def MReq.fits (r : MReq) : Bool :=
  let n := r.payload.length
  let c := pay r.payload 4 4
  if r.opcode = moHELLO then decide (n = 0)
  else if r.opcode = moREG_READ then decide (n = 8 ∧ 1 ≤ c ∧ c ≤ 218)
  else if r.opcode = moREG_WRITE then decide (8 ≤ n ∧ 1 ≤ c ∧ c ≤ 218 ∧ n = 8 + 4 * c)
  else if r.opcode = moRESET then decide (n = 4)
  else decide (9 ≤ n ∧ n ≤ 880)

/-- The status of a request that is decided before its effect (R472). -/
def MReq.check (r : MReq) : Nat :=
  let a := pay r.payload 0 4
  let c := pay r.payload 4 4
  if r.version ≠ 1 then 2
  else if r.flags % 2 = 1 ∨ [moHELLO, moREG_READ, moREG_WRITE, moRESET, moUPDATE_DATA].contains r.opcode = false then 3
  else if r.fits = false then 4
  else if (r.opcode = moREG_READ ∨ r.opcode = moREG_WRITE) ∧ (a % 4 ≠ 0 ∨ 2 ^ 26 < a + 4 * c) then 5
  else if r.opcode = moRESET ∧ a ≠ 1 ∧ a ≠ 2 then 7
  else 0

/-! ### Operations (R471) -/

/-- The payload of HELLO's response. -/
def State.hello (s : State) : List Nat :=
  word4 (s.get MODULE_B MODULE.SERIAL_LO_VALUE) ++ word4 (s.get MODULE_B MODULE.SERIAL_HI_VALUE)
    ++ [s.get MODULE_B MODULE.PART_NUMBER % 256, s.get MODULE_B MODULE.PART_NUMBER / 256, s.get MODULE_B MODULE.PART_STEP, 0]
    ++ word4 (s.get UPDATE_B UPDATE.RUN_VER_VERSION)
    ++ [s.get SIZE_TABLE_B SIZE_TABLE.CONTRACT_MAJOR, s.get SIZE_TABLE_B SIZE_TABLE.CONTRACT_MINOR,
        s.bindingWord 0x10 / 2 ^ 8 % 2 ^ 8, s.bindingWord 0x10 % 2 ^ 8]
    ++ word4 (s.get BACKUP_B BACKUP.EPOCH_VALUE) ++ word4 (s.get XRDS_B XRDS.ACTIVE_EPOCH_VALUE)

/-- n registers from an address, read in ascending order. -/
def State.regReads (s : State) (path a n : Nat) : List Nat × State :=
  (List.range n).foldl (fun (acc : List Nat × State) i =>
    let (v, s) := acc.2.readReg path (a + 4 * i)
    (acc.1 ++ word4 v, s)) ([], s)

/-- n registers from an address, written in ascending order. -/
def State.regWrites (s : State) (path a : Nat) (vs : List Nat) : State :=
  ((List.range vs.length).foldl (fun (s : State) i => s.writeReg path (a + 4 * i) (BitVec.ofNat 32 (vs.getD i 0))) s)

/-- The values of a REG_WRITE. -/
def MReq.values (r : MReq) : List Nat := (List.range (pay r.payload 4 4)).map fun i => pay r.payload (8 + 4 * i) 4

/-- Carry out a request that has passed its check: the response, and the state before a reset it asks for. -/
def State.mgmtRun (s : State) (path : Nat) (r : MReq) : MResp × State :=
  let a := pay r.payload 0 4
  if r.opcode = moHELLO then (⟨r.opcode, 0, r.seq, s.hello⟩, s)
  else if r.opcode = moREG_READ then
    let (l, s) := s.regReads path a (pay r.payload 4 4)
    (⟨r.opcode, 0, r.seq, l⟩, s)
  else if r.opcode = moREG_WRITE then (⟨r.opcode, 0, r.seq, []⟩, s.regWrites path a r.values)
  else if r.opcode = moRESET then (⟨r.opcode, 0, r.seq, []⟩, s)
  else
    let (ok, s) := s.updData (path + 1) (pay r.payload 0 8) (r.payload.drop 8)
    (⟨r.opcode, if ok then 0 else 6, r.seq, []⟩, s)

/-- Serve a request: its response and the state when it is sent. -/
def State.mgmtServe (s : State) (path : Nat) (r : MReq) : MResp × State :=
  let c := r.check
  if c = 0 then s.mgmtRun path r else (⟨r.opcode, c, r.seq, []⟩, s)

/-- The reset that a request asks for, after its response (R471). -/
def State.mgmtReset (s : State) (r : MReq) : State :=
  if r.check = 0 ∧ r.opcode = moRESET then (if pay r.payload 0 4 = 1 then s.moduleReset 0x80 else s.warmReset 14) else s

/-! ### The Ethernet ports (R467, R468, R473, R474) -/


/-- A request is dropped or answered with a non-OK status. -/
def State.reqErr (s : State) (n : Nat) : State := (s.inc (MGMT_B n) MGMT.REQ_ERR).raise (MGMT_B n) 2


/-- The 16 responses kept, the requester's first. -/
def keepResp (l : List (Nat × MResp)) (who : Nat) (r : MResp) : List (Nat × MResp) :=
  ((who, r) :: l.filter fun e => decide (e.1 ≠ who)).take 16

/-- Answer a request of a port: from its cache when SEQ is that of the requester's last one (R473). A request that has
stopped the Reeve leaves nothing in the emptied cache. -/
def State.mgmtAnswer (s : State) (n who : Nat) (r : MReq) : State :=
  match (zget s.host.cache n).find? fun e => decide (e.1 = who ∧ e.2.seq = r.seq) with
  | some (_, x) =>
    let s := { s with host.cache := zset s.host.cache n (keepResp (zget s.host.cache n) who x) }
    let s := if x.status = 0 then s else s.reqErr n
    (s.inc (MGMT_B n) MGMT.DUP).mgmtSend n .mgmt (who :: x.bytes)
  | none =>
    let was := s.reeve.down
    let (x, s) := { s with host.serving := n + 1 }.mgmtServe (1 + n) r
    let s := { s with host.serving := 0 }
    let s := if s.reeve.down && !was then s
      else { s with host.cache := zset s.host.cache n (keepResp (zget s.host.cache n) who x) }
    let s := if x.status = 0 then s else s.reqErr n
    (s.mgmtSend n .mgmt (who :: x.bytes)).mgmtReset r

/-- The Reeve does not serve requests now (R467); the boot ROM serves them itself (R579). -/
def State.mgmtWaits (s : State) : Bool := s.reeve.down && decide (s.upd.rom = 0)

/-- A request of `who` arrives at port n (R467, R470): it is served, or waits, or is dropped when 64 wait. -/
def State.mgmtIn (s : State) (n who : Nat) (r : MReq) : State :=
  s.mgmtFrame n fun s =>
    if s.bit (MGMT_B n) MGMT.CTRL_PROTO_EN then
      let s := s.inc (MGMT_B n) MGMT.REQUESTS
      if s.mgmtWaits then
        let w := zget s.host.waiting n
        if w.length < 64 then { s with host.waiting := zset s.host.waiting n (w ++ [(who, r)]) }
        else s.inc (MGMT_B n) MGMT.HELD_DROP
      else (s.mgmtAnswer n who r).msgSettle
    else s

/-- HELLO (R471): port, requester, SEQ. -/
def execHello (n who seq : Nat) (s : State) : Res := s.live (s.mgmtIn n who ⟨1, 0, moHELLO, seq, []⟩)

/-- REG_READ (R471): BAR0 address and count. -/
def execRegRead (n who seq a count : Nat) (s : State) : Res :=
  s.live (s.mgmtIn n who ⟨1, 0, moREG_READ, seq, word4 a ++ word4 count⟩)

/-- REG_WRITE (R471): BAR0 address, count and the values carried. -/
def execRegWrite (n who seq a count : Nat) (vs : List Nat) (s : State) : Res :=
  s.live (s.mgmtIn n who ⟨1, 0, moREG_WRITE, seq, word4 a ++ word4 count ++ vs.flatMap word4⟩)

/-- MGMT_RESET_MODULE (R471). -/
def execMgmtResetModule (n who seq : Nat) (s : State) : Res := s.live (s.mgmtIn n who ⟨1, 0, moRESET, seq, word4 1⟩)

/-- MGMT_RESET_WARM (R471). -/
def execMgmtResetWarm (n who seq : Nat) (s : State) : Res := s.live (s.mgmtIn n who ⟨1, 0, moRESET, seq, word4 2⟩)

/-- UPDATE_DATA (R471, R571): staging offset and bytes. -/
def execUpdateData (n who seq o : Nat) (bytes : List Nat) (s : State) : Res :=
  s.live (s.mgmtIn n who ⟨1, 0, moUPDATE_DATA, seq, (leBytes 8 o).map BitVec.toNat ++ bytes⟩)

/-- A frame that carries no datagram for the management protocol's port (R468, R474): 0 its FCS is bad, 1 it is tagged, oversized
or a pause frame, 2 it is for another address or another UDP port. -/
def State.mgmtOther (s : State) (n kind : Nat) : State :=
  if kind = 0 then (if s.mgmtUp n then s.inc (MGMT_B n) MGMT.RX_ERR else s)
  else s.mgmtFrame n fun s => if kind = 1 then s.inc (MGMT_B n) MGMT.RX_DROP else s

/-- MGMT_BAD_REQUEST (R468, R470, R472): a datagram as bytes: dropped when it holds no message, else answered like any request. A
first element of 256 and more is no byte: it says what is wrong with a frame that is no such datagram (log entry 222). -/
def execMgmtBadRequest (n who : Nat) (bytes : List Nat) (s : State) : Res :=
  s.live (if 256 ≤ bytes.headD 0 then s.mgmtOther n (bytes.headD 0 - 256)
    else match mgParse bytes with
  | some r => s.mgmtIn n who r
  | none => s.mgmtFrame n fun s =>
      if s.bit (MGMT_B n) MGMT.CTRL_PROTO_EN then (s.inc (MGMT_B n) MGMT.REQUESTS).reqErr n else s)

/-! ### Neighbours (R468, R469) -/

/-- MAC address of a port (R469). -/
def State.mac (s : State) (n : Nat) : Nat := ofBe ([0x02, 0x4A + n] ++ (word4 (s.get MODULE_B MODULE.SERIAL_LO_VALUE)).reverse)

/-- The link-local address fe80::/64 with the serial as interface identifier, and the further address in use. -/
def State.linkLocal (s : State) : Nat := 0xFE80 * 2 ^ 112 + s.get64 MODULE_B MODULE.SERIAL_LO_VALUE
def State.furtherAddr (s : State) (n : Nat) : Option Nat :=
  if s.bit (MGMT_B n) MGMT.PREFIX_VALID then
    some (ofBe ((List.range 4).flatMap fun i => word4 (s.rd (MGMT_B n + 0x50 + 4 * i)).toNat))
  else none
def State.ownAddr (s : State) (n a : Nat) : Bool := decide (a = s.linkLocal) || decide (s.furtherAddr n = some a)

/-- NEIGHBOR_SOLICITATION (R468): port, target address, source MAC and source address; the answer carries the port's MAC. -/
def execNeighborSolicitation (n target mac src : Nat) (s : State) : Res :=
  s.live (s.mgmtFrame n fun s => if s.ownAddr n target then s.mgmtSend n .arp [mac, src, target, s.mac n] else s)

/-- ICMPV6_ECHO (R468): port, destination, source MAC and address, identifier, sequence number and data, which the answer
repeats. -/
def execIcmpv6Echo (n dst mac src ident seq : Nat) (data : List Nat) (s : State) : Res :=
  s.live (s.mgmtFrame n fun s => if s.ownAddr n dst then s.mgmtSend n .icmp ([mac, src, dst, ident, seq] ++ data) else s)

/-- MGMT_LINK_CHANGE (R474): port n's link comes up (1), which needs ENABLE, or goes down (0). -/
def execMgmtLinkChange (n up : Nat) (s : State) : Res :=
  s.live (if n < 2 then
    let b := MGMT_B n
    let new := decide (up = 1) && s.on b
    if new = s.bit b MGMT.STAT_LINK_UP then s
    else (s.put b MGMT.STAT_LINK_UP (if new then 1 else 0)).raise b (if new then 0 else 1)
  else s)

/-! ### The mailbox (R464) -/

/-- n free bytes. -/
def State.freeBytes : Nat → State → List Nat × State
  | 0, s => ([], s)
  | n + 1, s =>
    let (v, s) := s.freeVal
    let (l, s) := State.freeBytes n s
    (v % 256 :: l, s)

/-- Write bytes from the start of MBOX_RSP. -/
def State.mboxRsp (s : State) (l : List Nat) : State :=
  (List.range ((l.length + 3) / 4)).foldl (fun (s : State) i =>
    s.wr (HOSTWIN_B + 0x480 + 4 * i) (BitVec.ofNat 32 (pay l (4 * i) 4))) s

/-- The response is in place: BUSY clears, DONE sets, vector 2 is sent. -/
def State.mboxEnd (s : State) : State :=
  let s := (s.put HOSTWIN_B HOSTWIN.MBOX_STAT_BUSY 0).put HOSTWIN_B HOSTWIN.MBOX_STAT_DONE 1
  (s.raise HOSTWIN_B 4).msix 2

/-- Serve the mailbox. A request that has changed since its GO, or that is no message, has a free response. -/
def State.mboxServe (s : State) : State :=
  match mgParse s.host.mbox with
  | some r =>
    if s.mboxBytes 0x100 = s.host.mbox then
      let (x, s) := s.mgmtServe 0 r
      (s.mboxRsp x.bytes).mboxEnd.mgmtReset r
    else
      let (l, s) := s.freeBytes 896
      (s.mboxRsp l).mboxEnd
  | none =>
    let (l, s) := s.freeBytes 896
    (s.mboxRsp l).mboxEnd

/-- MBOX_DONE (R464): the Reeve has served the request. -/
def execMboxDone (s : State) : Res :=
  s.live (if s.bit HOSTWIN_B HOSTWIN.MBOX_STAT_BUSY = true ∧ s.mgmtWaits = false then s.mboxServe.msgSettle else s)

/-! ### The Reeve's return (R467, R508, R524) -/

/-- Serve the management requests that have waited, port by port. A request that stops the Reeve leaves the rest waiting. -/
def State.serveWaiting (s : State) (n : Nat) : State :=
  (zget s.host.waiting n).foldl (fun (s : State) e =>
    if s.mgmtWaits then s
    else { s with host.waiting := zset s.host.waiting n ((zget s.host.waiting n).drop 1) }.mgmtAnswer n e.1 e.2) s

/-- Carry out the writes of JOB_CTRL that have waited (R211). -/
def State.replayHeld (s : State) : State :=
  s.reeve.held.foldl (fun (s : State) e => s.jobCtrlWrite e.1 (e.2.1 / 4096 * 4096) e.2.2) { s with reeve.held := [] }

/-- The firmware serves again: records are written, a load restarts, waiting requests are served. -/
def State.reeveServes (s : State) : State :=
  let s := { s with reeve.down := false, upd.suspended := false }.logResume
  let s := if s.jobState = jsLOADING then s.loadBegin else s
  ((s.replayHeld.serveOffers).serveWaiting 0).serveWaiting 1

/-- REEVE_BACK (R524): after a Reeve warm reset, while the boot ROM does not wait for a package. -/
def execReeveBack (s : State) : Res :=
  s.live (if s.reeve.down = true ∧ s.upd.rom = 0 ∧ s.updSt ≠ upHANDOVER then ((s.raise RESET_B 0).reeveServes).msgSettle else s)

end Sys2Proof.Machine
end

