-- ==== Sys2Proof/Machine/MillCmd.lean ====
section
/-!
DEFINITION. The commands of Millrace (11_millrace.md) and of the parish register (17_parish_register.md).
-/
namespace Sys2Proof.Machine

/-! ### Millrace -/

/-- LOOP_FRAME (R390): slot i runs a frame with the converter code m; metric is what its lane's trim metric comes from in that frame,
the mean squared decision error of a receive ring or the modulation amplitude of a transmit ring (R401); dark, whether its receive tap
is dark. -/
def execLoopFrame (i m metric dark : Nat) (s : State) : Res :=
  s.live (if i < 2048 then (s.loopFrame i m metric (decide (dark % 2 = 1))).msgSettle else s)

/-- DEADLINE_MISS (R391). -/
def execDeadlineMiss (i : Nat) (s : State) : Res := s.live (if i < 2048 then (s.frameMiss i).msgSettle else s)

/-- DESC_WRITE (R397): a word at byte offset o of the descriptor table. -/
def execDescWrite (path o : Nat) (v : Word) (s : State) : Res :=
  s.heard path (if o < 2048 * 64 ∧ o % 4 = 0 then (s.descWrite path o v).msgSettle else s)

/-- SETTLE_DONE (R404). -/
def execSettleDone (i : Nat) (s : State) : Res := s.live (s.settleDone i)

/-- ACQ_FAIL (R405). -/
def execAcqFail (i : Nat) (s : State) : Res := s.live (if i < 2048 then (s.acqTimeout i).msgSettle else s)

/-- FEEDBACK_LOST (R408). -/
def execFeedbackLost (i : Nat) (s : State) : Res := s.live (s.feedbackLost i).msgSettle

/-- HEATER_LIMIT_TIMEOUT (R411). -/
def execHeaterLimitTimeout (i : Nat) (s : State) : Res := s.live (s.heaterLimit i).msgSettle

/-- LOOP_HW_FAIL (R412). -/
def execLoopHwFail (i : Nat) (s : State) : Res := s.live (if i < 1628 then (s.loopHwFail i).msgSettle else s)

/-- TELEMETRY_UPDATE (R413, R414): powers in W and hottest sensors in °C of the four dies, ring-area temperatures of the
ports in 1/16 °C. -/
def execTelemetryUpdate (ps ts ports : List Nat) (s : State) : Res := s.live (s.telemetry ps ts ports)

/-- GOVERNOR_ESTIMATE (R415): die d's estimate in W. -/
def execGovernorEstimate (d w : Nat) (s : State) : Res := s.live (if s.diePresent d then s.governor d w else s)

/-- TRACE_ARM (R419): a write of TRACE_CTRL. -/
def execTraceArm (v : Word) (s : State) : Res := s.live (s.traceArm v.toNat)

/-- FLAG_FIFO_READ (R423). -/
def execFlagFifoRead (s : State) : Res := s.live (let (v, s) := s.flagRead; s.emit .read [v])

/-! ### Parish register -/

/-- PAGE_PROGRAM_DONE (R554): the page program completes (ok 1) or fails. -/
def execPageProgramDone (ok : Nat) (s : State) : Res :=
  s.live (if s.log.prog = 0 then s else if ok % 2 = 1 then s.pageDone else s.pageFailed)

/-- CURSOR_WRITE (R559): a write of CURSOR_HI, with the low half written before it. -/
def execCursorWrite (path seq : Nat) (s : State) : Res := s.heard path (s.cursorWrite path (seq % 2 ^ 64))

/-- WINDOW_ADVANCE (R559): a read of word 15. -/
def execWindowAdvance (path : Nat) (s : State) : Res := s.heard path (let (v, s) := s.windowAdvance path; s.emit .read [v])

/-- LOG_CLEAR (R560). -/
def execLogClear (path : Nat) (v : Word) (s : State) : Res := s.heard path (s.logClear path v)

/-- POST_CODE (R561). -/
def execPostCode (path : Nat) (v : Word) (s : State) : Res := s.heard path (s.postCode path v)

/-- TRACE_SNAPSHOT (R563). -/
def execTraceSnapshot (path : Nat) (v : Word) (s : State) : Res := s.heard path (s.traceSel path v)

end Sys2Proof.Machine
end

