-- ==== Sys2Proof/Machine/UpdCmd.lean ====
section
/-!
DEFINITION. The commands of firmware update and of the FRU device (R569-R587, R596).
-/
namespace Sys2Proof.Machine

/-- DOWNLOAD (R570): the path and the key written with the bit. -/
def execDownload (path key : Nat) (s : State) : Res := s.heard path (s.updCtrl path (key % 2 ^ 16 * 2 ^ 16 + 1))

/-- VERIFY (R570). -/
def execVerify (path key : Nat) (s : State) : Res := s.heard path (s.updCtrl path (key % 2 ^ 16 * 2 ^ 16 + 2))

/-- VERIFY_DONE (R572), with the Millrace tables of part 2, by byte offset in the descriptor table. -/
def execVerifyDone (tables : List (Nat × Word)) (s : State) : Res := s.live (s.verifyDone tables).msgSettle

/-- ACTIVATE (R573). -/
def execActivate (path key : Nat) (s : State) : Res := s.heard path (s.updCtrl path (key % 2 ^ 16 * 2 ^ 16 + 4))

/-- The handover's gap begins (R574): the watchdog is kicked, Belfry releases the claims of targets 0-3, and writing of records
pauses (R510, R554). -/
def State.handoverBegin (s : State) : State :=
  let old := s
  let s := { s.wdtKicked with reeve.sleep := [] }.holdOff.logPause
  (s.releaseClaims fun k => decide (k < 4)).line4 old

/-- FLASH_WRITTEN (R573): blocks rewritten, and 0 or 1 + the block that failed a fourth time. -/
def execFlashWritten (rewritten fail : Nat) (s : State) : Res :=
  s.live (let t := s.flashWritten rewritten fail
    (if s.updSt ≠ upHANDOVER ∧ t.updSt = upHANDOVER then t.handoverBegin else t).msgSettle)

/-- The new firmware serves (R573, R574) after a gap of ms milliseconds. -/
def State.handoverEnd (s : State) (ms : Nat) : State :=
  let s := (s.newRun s.upd.flash).setResult 0 0
  let s := (s.put UPDATE_B UPDATE.TIMES_HANDOVER_MS (min ms 65535)).raise UPDATE_B 2
  let s := s.record UPDATE_B 0x0606 [min ms 65535, s.get UPDATE_B UPDATE.RUN_VER_VERSION]
  s.wdtKicked.reeveServes

/-- HANDOVER (R574). -/
def execHandover (ms : Nat) (s : State) : Res := s.live (if s.updSt = upHANDOVER then (s.handoverEnd ms).msgSettle else s)

/-- HANDOVER_TIMEOUT (R574): by the watchdog (1) or by the old firmware's timer (0). -/
def execHandoverTimeout (wdt : Nat) (s : State) : Res :=
  s.live (if s.updSt = upHANDOVER then
    (if wdt = 1 then s.wdtFirst else s.warmReset 14).setResult 0x12 0
  else s)

/-- TABLE_APPLY (R575): slot i takes its new descriptor. -/
def execTableApply (i : Nat) (s : State) : Res := s.live (if s.reeve.down then s else (s.tableApply i).msgSettle)

/-- CONFIRM (R577). -/
def execConfirm (path key : Nat) (s : State) : Res := s.heard path (s.updCtrl path (key % 2 ^ 16 * 2 ^ 16 + 8))

/-- ABORT (R570). -/
def execAbort (path key : Nat) (s : State) : Res := s.heard path (s.updCtrl path (key % 2 ^ 16 * 2 ^ 16 + 16))

/-- STAGE_WRITE (R586): both halves. -/
def execStageWrite (path lo hi : Nat) (s : State) : Res := s.heard path (s.stageWrite path lo hi)

/-- OFFER_SEND (R582). -/
def execOfferSend (s : State) : Res := s.live (if s.reeve.down then s else s.offerSend)

/-- OFFER (R582): port, serial, XFER, LENGTH, VERSION and tag. -/
def execOffer (p _serial xfer len _version tag : Nat) (s : State) : Res :=
  s.live (if p < 36 then s.chainIn p 0x20 xfer [len, tag] else s)

/-- REQ (R583). -/
def execReq (p xfer first count : Nat) (s : State) : Res :=
  s.live (if p < 36 then s.chainIn p 0x21 xfer [first, count] else s)

/-- DATA (R583): the chunk and its bytes. -/
def execData (p xfer c : Nat) (bytes : List Nat) (s : State) : Res :=
  s.live (if p < 36 then s.chainIn p 0x22 xfer (c :: bytes) else s)

/-- END (R583). -/
def execEnd (p xfer code : Nat) (s : State) : Res := s.live (if p < 36 then s.chainIn p 0x23 xfer [code] else s)

/-- CHUNK_REREQUEST (R583). -/
def execChunkRerequest (c : Nat) (s : State) : Res := s.live (s.askAgain c)

/-- END_REPEAT (R583). -/
def execEndRepeat (s : State) : Res := s.live (if s.reeve.down && decide (s.upd.rom = 0) then s else s.endRepeat)

/-- BC_TIMEOUT (R583). -/
def execBcTimeout (s : State) : Res := s.live s.bcTimeout

/-- FRU_WRITE (R596): the data byte at an offset is not acknowledged and changes nothing. -/
def execFruWrite (o b : Nat) (s : State) : Res := s.live (s.emit .na [o, b])

end Sys2Proof.Machine
end

