-- ==== Sys2Proof/Machine/Dispatch.lean ====
section
/-!
DEFINITION. What each command does to the state but for the queue: one call of its meaning.
-/
namespace Sys2Proof.Machine

def exec (i : Instr) (s : State) : Host.Outcome State Fault Refusal :=
  match i with
  | .bar0AccessSize path a n rd => Sys2Proof.Machine.execBar0AccessSize path a n rd s
  | .accessUnmapped path a rd => Sys2Proof.Machine.execAccessUnmapped path a rd s
  | .registerWrite path a v => Sys2Proof.Machine.execRegisterWrite path a v s
  | .pairLowRead path a => Sys2Proof.Machine.execPairLowRead path a s
  | .pairLowWrite path a v => Sys2Proof.Machine.execPairLowWrite path a v s
  | .pairHighWrite path a v => Sys2Proof.Machine.execPairHighWrite path a v s
  | .errStatClear p v => Sys2Proof.Machine.execErrStatClear p v s
  | .evtSetWrite p v => Sys2Proof.Machine.execEvtSetWrite p v s
  | .enableWrite path p v => Sys2Proof.Machine.execEnableWrite path p v s
  | .quiesceReq path p v => Sys2Proof.Machine.execQuiesceReq path p v s
  | .quiesced p => Sys2Proof.Machine.execQuiesced p s
  | .blockResetReq path p => Sys2Proof.Machine.execBlockResetReq path p s
  | .blockResetDone p => Sys2Proof.Machine.execBlockResetDone p s
  | .refclkLost => Sys2Proof.Machine.execRefclkLost s
  | .refclkRestored => Sys2Proof.Machine.execRefclkRestored s
  | .nop g => Sys2Proof.Machine.execNop g s
  | .stall g => Sys2Proof.Machine.execStall g s
  | .seti g => Sys2Proof.Machine.execSeti g s
  | .loop g => Sys2Proof.Machine.execLoop g s
  | .jump g => Sys2Proof.Machine.execJump g s
  | .sete g => Sys2Proof.Machine.execSete g s
  | .halt g => Sys2Proof.Machine.execHalt g s
  | .tileHalted g => Sys2Proof.Machine.execTileHalted g s
  | .waitTok g => Sys2Proof.Machine.execWaitTok g s
  | .waitTokRelease g => Sys2Proof.Machine.execWaitTokRelease g s
  | .waitTime g => Sys2Proof.Machine.execWaitTime g s
  | .waitTimeRelease g => Sys2Proof.Machine.execWaitTimeRelease g s
  | .barrier g => Sys2Proof.Machine.execBarrier g s
  | .barrierRelease b => Sys2Proof.Machine.execBarrierRelease b s
  | .phaseEnd g => Sys2Proof.Machine.execPhaseEnd g s
  | .fence g => Sys2Proof.Machine.execFence g s
  | .fenceRelease g => Sys2Proof.Machine.execFenceRelease g s
  | .wload g => Sys2Proof.Machine.execWload g s
  | .mmaW g => Sys2Proof.Machine.execMmaW g s
  | .mmaS g => Sys2Proof.Machine.execMmaS g s
  | .accBind g => Sys2Proof.Machine.execAccBind g s
  | .accAdd g => Sys2Proof.Machine.execAccAdd g s
  | .accOut g => Sys2Proof.Machine.execAccOut g s
  | .vld g => Sys2Proof.Machine.execVld g s
  | .vst g => Sys2Proof.Machine.execVst g s
  | .vop g => Sys2Proof.Machine.execVop g s
  | .vred g => Sys2Proof.Machine.execVred g s
  | .copy g => Sys2Proof.Machine.execCopy g s
  | .prefetch g => Sys2Proof.Machine.execPrefetch g s
  | .store g => Sys2Proof.Machine.execStore g s
  | .gather g => Sys2Proof.Machine.execGather g s
  | .dataMoverDone g k => Sys2Proof.Machine.execDataMoverDone g k s
  | .gatherDone g k => Sys2Proof.Machine.execGatherDone g k s
  | .send g => Sys2Proof.Machine.execSend g s
  | .sendDeparted g k => Sys2Proof.Machine.execSendDeparted g k s
  | .sendLanded f => Sys2Proof.Machine.execSendLanded f s
  | .post g => Sys2Proof.Machine.execPost g s
  | .put g => Sys2Proof.Machine.execPut g s
  | .illegalInstr g => Sys2Proof.Machine.execIllegalInstr g s
  | .tileFaulted g => Sys2Proof.Machine.execTileFaulted g s
  | .tileHwFail g => Sys2Proof.Machine.execTileHwFail g s
  | .haltReq g => Sys2Proof.Machine.execHaltReq g s
  | .haltReqDone g => Sys2Proof.Machine.execHaltReqDone g s
  | .longWait g => Sys2Proof.Machine.execLongWait g s
  | .auditStatRead path g => Sys2Proof.Machine.execAuditStatRead path g s
  | .governorEstimate d w => Sys2Proof.Machine.execGovernorEstimate d w s
  | .scheduleStart => Sys2Proof.Machine.execScheduleStart s
  | .flitUncorrScheduled d k f j => Sys2Proof.Machine.execFlitUncorrScheduled d k f j s
  | .flitRetry d b => Sys2Proof.Machine.execFlitRetry d b s
  | .linkDown d k n => Sys2Proof.Machine.execLinkDown d k n s
  | .tileFailed d row col => Sys2Proof.Machine.execTileFailed d row col s
  | .routerFault d row col => Sys2Proof.Machine.execRouterFault d row col s
  | .sramScrubTurn g wa e late c => Sys2Proof.Machine.execSramScrubTurn g wa e late c s
  | .hbmScrubStep m e => Sys2Proof.Machine.execHbmScrubStep m e s
  | .channelFail m c => Sys2Proof.Machine.execChannelFail m c s
  | .hbmWipeDone => Sys2Proof.Machine.execHbmWipeDone s
  | .mapoutRetry m => Sys2Proof.Machine.execMapoutRetry m s
  | .mapoutReq m => Sys2Proof.Machine.execMapoutReq m s
  | .critEcc kind addr bad => Sys2Proof.Machine.execCritEcc kind addr bad s
  | .load path d => Sys2Proof.Machine.execLoad path d s
  | .loadComplete => Sys2Proof.Machine.execLoadComplete s
  | .start path d => Sys2Proof.Machine.execStart path d s
  | .stop path d => Sys2Proof.Machine.execStop path d s
  | .unload path d => Sys2Proof.Machine.execUnload path d s
  | .phaseChange => Sys2Proof.Machine.execPhaseChange s
  | .latePhaseStart => Sys2Proof.Machine.execLatePhaseStart s
  | .reshardDescDone n => Sys2Proof.Machine.execReshardDescDone n s
  | .reshardTimeout n => Sys2Proof.Machine.execReshardTimeout n s
  | .rxPost p f => Sys2Proof.Machine.execRxPost p f s
  | .rxStreamData p vc f => Sys2Proof.Machine.execRxStreamData p vc f s
  | .ack path vc epoch seq hold => Sys2Proof.Machine.execAck path vc epoch seq hold s
  | .nack path vc epoch seq code => Sys2Proof.Machine.execNack path vc epoch seq code s
  | .resyncReq path vc l no => Sys2Proof.Machine.execResyncReq path vc l no s
  | .resync path vc no free => Sys2Proof.Machine.execResync path vc no free s
  | .ackTimeout path vc => Sys2Proof.Machine.execAckTimeout path vc s
  | .pathDown path => Sys2Proof.Machine.execPathDown path s
  | .postRetry id => Sys2Proof.Machine.execPostRetry id s
  | .notifyRetry path vc => Sys2Proof.Machine.execNotifyRetry path vc s
  | .holdAckRepeat path vc => Sys2Proof.Machine.execHoldAckRepeat path vc s
  | .rxDiscard k => Sys2Proof.Machine.execRxDiscard k s
  | .streamSlotGrant d => Sys2Proof.Machine.execStreamSlotGrant d s
  | .queueRead d q => Sys2Proof.Machine.execQueueRead d q s
  | .queueCreate d q => Sys2Proof.Machine.execQueueCreate d q s
  | .queueDestroy d q => Sys2Proof.Machine.execQueueDestroy d q s
  | .doorbell d q => Sys2Proof.Machine.execDoorbell d q s
  | .sessInv d => Sys2Proof.Machine.execSessInv d s
  | .peerFlush => Sys2Proof.Machine.execPeerFlush s
  | .arrivalRead d => Sys2Proof.Machine.execArrivalRead d s
  | .failARead d => Sys2Proof.Machine.execFailARead d s
  | .controlWordReceive path vc credits rxok => Sys2Proof.Machine.execControlWordReceive path vc credits rxok s
  | .controlWordSend path vc => Sys2Proof.Machine.execControlWordSend path vc s
  | .codewordReceive p l preamble w => Sys2Proof.Machine.execCodewordReceive p l preamble w s
  | .incWrite ns frac => Sys2Proof.Machine.execIncWrite ns frac s
  | .stepGo v => Sys2Proof.Machine.execStepGo v s
  | .stepApply => Sys2Proof.Machine.execStepApply s
  | .timeNowRead path => Sys2Proof.Machine.execTimeNowRead path s
  | .srcWrite v => Sys2Proof.Machine.execSrcWrite v s
  | .ppsPulse rising merged half => Sys2Proof.Machine.execPpsPulse rising merged half s
  | .ppsLost => Sys2Proof.Machine.execPpsLost s
  | .syncLoss => Sys2Proof.Machine.execSyncLoss s
  | .ztSyncSend path => Sys2Proof.Machine.execZtSyncSend path s
  | .ztSyncRx p path seq ns frac => Sys2Proof.Machine.execZtSyncRx p path seq ns frac s
  | .ztDreqSend => Sys2Proof.Machine.execZtDreqSend s
  | .ztDreqRx p seq reply => Sys2Proof.Machine.execZtDreqRx p seq reply s
  | .ztDrespRx path seq ns frac => Sys2Proof.Machine.execZtDrespRx path seq ns frac s
  | .ptpSyncTx n => Sys2Proof.Machine.execPtpSyncTx n s
  | .ptpAnnounceTx n => Sys2Proof.Machine.execPtpAnnounceTx n s
  | .ptpSyncRx n dom master ns frac => Sys2Proof.Machine.execPtpSyncRx n dom master ns frac s
  | .ptpDelayReqRx n dom slave => Sys2Proof.Machine.execPtpDelayReqRx n dom slave s
  | .ptpDelayRespRx n dom master ns frac => Sys2Proof.Machine.execPtpDelayRespRx n dom master ns frac s
  | .captureEdge c half rising merged => Sys2Proof.Machine.execCaptureEdge c half rising merged s
  | .capTsRead c => Sys2Proof.Machine.execCapTsRead c s
  | .triggerFire u => Sys2Proof.Machine.execTriggerFire u s
  | .triggerCtrlWrite path u v => Sys2Proof.Machine.execTriggerCtrlWrite path u v s
  | .ppsOutEnd => Sys2Proof.Machine.execPpsOutEnd s
  | .combArm path e => Sys2Proof.Machine.execCombArm path e s
  | .laserEnDrop => Sys2Proof.Machine.execLaserEnDrop s
  | .laserEnStable => Sys2Proof.Machine.execLaserEnStable s
  | .combTecSettled e => Sys2Proof.Machine.execCombTecSettled e s
  | .combLocked e => Sys2Proof.Machine.execCombLocked e s
  | .combLockLost e which => Sys2Proof.Machine.execCombLockLost e which s
  | .combFail e => Sys2Proof.Machine.execCombFail e s
  | .toneCheckDone p l rx k => Sys2Proof.Machine.execToneCheckDone p l rx k s
  | .errorCheckDone p l uncorr ber power => Sys2Proof.Machine.execErrorCheckDone p l uncorr ber power s
  | .laneLeaveService p l cause => Sys2Proof.Machine.execLaneLeaveService p l cause s
  | .probePulse p => Sys2Proof.Machine.execProbePulse p s
  | .light p => Sys2Proof.Machine.execLight p s
  | .openFibre p => Sys2Proof.Machine.execOpenFibre p s
  | .loopbackTimeout p => Sys2Proof.Machine.execLoopbackTimeout p s
  | .launchLimit p => Sys2Proof.Machine.execLaunchLimit p s
  | .relaunch p => Sys2Proof.Machine.execRelaunch p s
  | .controller e => Sys2Proof.Machine.execController e s
  | .beaconSend p l => Sys2Proof.Machine.execBeaconSend p l s
  | .beaconReceive p l x => Sys2Proof.Machine.execBeaconReceive p l x s
  | .missing p => Sys2Proof.Machine.execMissing p s
  | .stageDataWrite path v => Sys2Proof.Machine.execStageDataWrite path v s
  | .activeDataRead path => Sys2Proof.Machine.execActiveDataRead path s
  | .check path claim => Sys2Proof.Machine.execCheck path claim s
  | .checkDone us => Sys2Proof.Machine.execCheckDone us s
  | .arm path claim => Sys2Proof.Machine.execArm path claim s
  | .cancel path claim => Sys2Proof.Machine.execCancel path claim s
  | .clear path claim => Sys2Proof.Machine.execClear path claim s
  | .copyActive path claim => Sys2Proof.Machine.execCopyActive path claim s
  | .drainStart => Sys2Proof.Machine.execDrainStart s
  | .startPointRefresh => Sys2Proof.Machine.execStartPointRefresh s
  | .openFibreGuardEnd => Sys2Proof.Machine.execOpenFibreGuardEnd s
  | .release => Sys2Proof.Machine.execRelease s
  | .switchReport => Sys2Proof.Machine.execSwitchReport s
  | .switchNote p t new x y z => Sys2Proof.Machine.execSwitchNote p t new x y z s
  | .steerSwitch p l => Sys2Proof.Machine.execSteerSwitch p l s
  | .steerVisit p l o => Sys2Proof.Machine.execSteerVisit p l o s
  | .burstGapTimeout p l => Sys2Proof.Machine.execBurstGapTimeout p l s
  | .present path claim => Sys2Proof.Machine.execPresent path claim s
  | .loopFrame n m metric dark => Sys2Proof.Machine.execLoopFrame n m metric dark s
  | .deadlineMiss n => Sys2Proof.Machine.execDeadlineMiss n s
  | .descWrite path o v => Sys2Proof.Machine.execDescWrite path o v s
  | .settleDone n => Sys2Proof.Machine.execSettleDone n s
  | .acqFail n => Sys2Proof.Machine.execAcqFail n s
  | .feedbackLost n => Sys2Proof.Machine.execFeedbackLost n s
  | .heaterLimitTimeout n => Sys2Proof.Machine.execHeaterLimitTimeout n s
  | .loopHwFail n => Sys2Proof.Machine.execLoopHwFail n s
  | .telemetryUpdate ps ts ports => Sys2Proof.Machine.execTelemetryUpdate ps ts ports s
  | .traceArm v => Sys2Proof.Machine.execTraceArm v s
  | .flagFifoRead => Sys2Proof.Machine.execFlagFifoRead s
  | .millraceFatal => Sys2Proof.Machine.execMillraceFatal s
  | .bar2Write o bytes => Sys2Proof.Machine.execBar2Write o bytes s
  | .bar2Read o n => Sys2Proof.Machine.execBar2Read o n s
  | .segBaseWrite path k lo hi => Sys2Proof.Machine.execSegBaseWrite path k lo hi s
  | .handoff path v => Sys2Proof.Machine.execHandoff path v s
  | .notifyFifoRead => Sys2Proof.Machine.execNotifyFifoRead s
  | .mboxGo path => Sys2Proof.Machine.execMboxGo path s
  | .mboxDone => Sys2Proof.Machine.execMboxDone s
  | .msixUnmask v => Sys2Proof.Machine.execMsixUnmask v s
  | .pcieHotReset => Sys2Proof.Machine.execPcieHotReset s
  | .linkChange rate width flit => Sys2Proof.Machine.execLinkChange rate width flit s
  | .pcieD3hot enter => Sys2Proof.Machine.execPcieD3hot enter s
  | .perst => Sys2Proof.Machine.execPerst s
  | .perstRelease => Sys2Proof.Machine.execPerstRelease s
  | .hello n who seq => Sys2Proof.Machine.execHello n who seq s
  | .regRead n who seq a count => Sys2Proof.Machine.execRegRead n who seq a count s
  | .regWrite n who seq a count vs => Sys2Proof.Machine.execRegWrite n who seq a count vs s
  | .mgmtResetModule n who seq => Sys2Proof.Machine.execMgmtResetModule n who seq s
  | .mgmtResetWarm n who seq => Sys2Proof.Machine.execMgmtResetWarm n who seq s
  | .updateData n who seq o bytes => Sys2Proof.Machine.execUpdateData n who seq o bytes s
  | .mgmtBadRequest n who bytes => Sys2Proof.Machine.execMgmtBadRequest n who bytes s
  | .neighborSolicitation n target mac src => Sys2Proof.Machine.execNeighborSolicitation n target mac src s
  | .icmpv6Echo n dst mac src ident seq data => Sys2Proof.Machine.execIcmpv6Echo n dst mac src ident seq data s
  | .mgmtLinkChange n up => Sys2Proof.Machine.execMgmtLinkChange n up s
  | .sourceEdge x v n => Sys2Proof.Machine.execSourceEdge x v n s
  | .claim k => Sys2Proof.Machine.execClaim k s
  | .complete path k n => Sys2Proof.Machine.execComplete path k n s
  | .swSet v => Sys2Proof.Machine.execSwSet v s
  | .swClr v => Sys2Proof.Machine.execSwClr v s
  | .globalDisable v => Sys2Proof.Machine.execGlobalDisable v s
  | .srcCfgWrite n v => Sys2Proof.Machine.execSrcCfgWrite n v s
  | .fireClear w => Sys2Proof.Machine.execFireClear w s
  | .auxStart straps lost epoch cool => Sys2Proof.Machine.execAuxStart straps lost epoch cool s
  | .inputRange kind => Sys2Proof.Machine.execInputRange kind s
  | .overvoltageDisconnect => Sys2Proof.Machine.execOvervoltageDisconnect s
  | .switchReclose => Sys2Proof.Machine.execSwitchReclose s
  | .brownout volts w => Sys2Proof.Machine.execBrownout volts w s
  | .auxStop => Sys2Proof.Machine.execAuxStop s
  | .cap => Sys2Proof.Machine.execCap s
  | .thermWarn => Sys2Proof.Machine.execThermWarn s
  | .thermWarnClear => Sys2Proof.Machine.execThermWarnClear s
  | .thermTrip => Sys2Proof.Machine.execThermTrip s
  | .resume path cool => Sys2Proof.Machine.execResume path cool s
  | .stayStandbyWrite v => Sys2Proof.Machine.execStayStandbyWrite v s
  | .resetCtrlModule path key => Sys2Proof.Machine.execResetCtrlModule path key s
  | .resetCtrlReeve path key => Sys2Proof.Machine.execResetCtrlReeve path key s
  | .moduleReset causes => Sys2Proof.Machine.execModuleReset causes s
  | .coldReset causes => Sys2Proof.Machine.execColdReset causes s
  | .reeveWarmReset wdt => Sys2Proof.Machine.execReeveWarmReset wdt s
  | .reeveBack => Sys2Proof.Machine.execReeveBack s
  | .wdtKick key => Sys2Proof.Machine.execWdtKick key s
  | .wdtExpired => Sys2Proof.Machine.execWdtExpired s
  | .lcWrite path key target => Sys2Proof.Machine.execLcWrite path key target s
  | .lcChanged => Sys2Proof.Machine.execLcChanged s
  | .firmware hub sensor lc => Sys2Proof.Machine.execFirmware hub sensor lc s
  | .clock ref => Sys2Proof.Machine.execClock ref s
  | .mainRails fail inlet => Sys2Proof.Machine.execMainRails fail inlet s
  | .memory tiles dead train bist links => Sys2Proof.Machine.execMemory tiles dead train bist links s
  | .optics codes ns combs => Sys2Proof.Machine.execOptics codes ns combs s
  | .calibration rings mzis combs => Sys2Proof.Machine.execCalibration rings mzis combs s
  | .done => Sys2Proof.Machine.execDone s
  | .backupCharged => Sys2Proof.Machine.execBackupCharged s
  | .calFull path => Sys2Proof.Machine.execCalFull path s
  | .laneCalStart path l => Sys2Proof.Machine.execLaneCalStart path l s
  | .calStart path l epoch seq => Sys2Proof.Machine.execCalStart path l epoch seq s
  | .laneCalSweepDone f => Sys2Proof.Machine.execLaneCalSweepDone f s
  | .calEnd path l epoch seq => Sys2Proof.Machine.execCalEnd path l epoch seq s
  | .calAbort path l epoch seq => Sys2Proof.Machine.execCalAbort path l epoch seq s
  | .laneCalTimeout ring => Sys2Proof.Machine.execLaneCalTimeout ring s
  | .avsSample margins => Sys2Proof.Machine.execAvsSample margins s
  | .ledgerSave => Sys2Proof.Machine.execLedgerSave s
  | .errorRateCheck => Sys2Proof.Machine.execErrorRateCheck s
  | .advClear => Sys2Proof.Machine.execAdvClear s
  | .pageProgramDone ok => Sys2Proof.Machine.execPageProgramDone ok s
  | .cursorWrite path seq => Sys2Proof.Machine.execCursorWrite path seq s
  | .windowAdvance path => Sys2Proof.Machine.execWindowAdvance path s
  | .logClear path v => Sys2Proof.Machine.execLogClear path v s
  | .postCode path v => Sys2Proof.Machine.execPostCode path v s
  | .traceSnapshot path v => Sys2Proof.Machine.execTraceSnapshot path v s
  | .download path key => Sys2Proof.Machine.execDownload path key s
  | .verify path key => Sys2Proof.Machine.execVerify path key s
  | .verifyDone tables => Sys2Proof.Machine.execVerifyDone tables s
  | .activate path key => Sys2Proof.Machine.execActivate path key s
  | .flashWritten rewritten fail => Sys2Proof.Machine.execFlashWritten rewritten fail s
  | .handover ms => Sys2Proof.Machine.execHandover ms s
  | .handoverTimeout wdt => Sys2Proof.Machine.execHandoverTimeout wdt s
  | .tableApply n => Sys2Proof.Machine.execTableApply n s
  | .confirm path key => Sys2Proof.Machine.execConfirm path key s
  | .abort path key => Sys2Proof.Machine.execAbort path key s
  | .stageWrite path lo hi => Sys2Proof.Machine.execStageWrite path lo hi s
  | .offerSend => Sys2Proof.Machine.execOfferSend s
  | .offer p serial xfer len version tag => Sys2Proof.Machine.execOffer p serial xfer len version tag s
  | .req p xfer first count => Sys2Proof.Machine.execReq p xfer first count s
  | .data p xfer c bytes => Sys2Proof.Machine.execData p xfer c bytes s
  | .bcEnd p xfer code => Sys2Proof.Machine.execEnd p xfer code s
  | .chunkRerequest c => Sys2Proof.Machine.execChunkRerequest c s
  | .endRepeat => Sys2Proof.Machine.execEndRepeat s
  | .bcTimeout => Sys2Proof.Machine.execBcTimeout s
  | .fruWrite o b => Sys2Proof.Machine.execFruWrite o b s
  | .matrixVectorComplete g u => Sys2Proof.Machine.execMatrixVectorComplete g u s
  | .identityStale n => Sys2Proof.Machine.execIdentityStale n s
  | .mainRailsPermitted high => Sys2Proof.Machine.execMainRailsPermitted high s
  | .capDisengaged => Sys2Proof.Machine.execCapDisengaged s
  | .laneCalSkipped path l => Sys2Proof.Machine.execLaneCalSkipped path l s

end Sys2Proof.Machine
end

