-- ==== Sys2Proof/Machine/Idle.lean ====
section
/-!
DEFINITION. What the module does when no command waits: one time tick (R271, R272).
-/
namespace Sys2Proof.Machine

/-- One 400 MHz tick (log entry 90): the clock, the uptime and the counters of R271-R276; stream slots that a tile cycle
has freed (R241); drained quiesces and switches; the copy step of an activation (R573). A module that is OFF stands still. -/
def State.idleTick (s : State) : State :=
  if s.power.off then s
  else
    let s : State := (List.range 4).foldl State.slotGrant s.tick
    s.drainCheck.copyDue

end Sys2Proof.Machine
end

