-- ==== Sys2Proof/Safety.lean ====
section
/-!
DEFINITION. What claims about the machine are stated in: a command's completion, what a step leaves as it was, and the
form that every state keeps.
-/
namespace Sys2Proof.Machine

/-- Command c completes from s in t: the machine answers t, with the queue of s. -/
def Completes (c : Instr) (s t : State) : Prop := exec c s = .next { t with pending := s.pending }

/-- Every byte of module memory reads in t as in s. -/
def SameBytes (s t : State) : Prop := ∀ a, t.byte a = s.byte a

/-- Every byte of module memory outside the n bytes from a reads in t as in s. -/
def SameBytesBut (a n : Nat) (s t : State) : Prop := ∀ b, b < a ∨ a + n ≤ b → t.byte b = s.byte b

/-- Every BAR0 register but those at the addresses l, and every register of an access path, reads in t as in s. -/
def SameRegsBut (l : List Nat) (s t : State) : Prop :=
  (∀ a, a ∉ l → t.rd a = s.rd a) ∧ ∀ p a, t.prd p a = s.prd p a

/-- The parts of the machine beside its registers and its memory stand in t as in s; free is the supply of free values,
`log` holds the traces. -/
def SameParts (s t : State) : Prop :=
  t.tile = s.tile ∧ t.flights = s.flights ∧ t.job = s.job ∧ t.time = s.time ∧ t.msg = s.msg ∧ t.mill = s.mill ∧ t.opt = s.opt
    ∧ t.xrds = s.xrds ∧ t.host = s.host ∧ t.reeve = s.reeve ∧ t.power = s.power ∧ t.cal = s.cal ∧ t.upd = s.upd

/-- Tile g may issue, and its instruction buffer gives the word w without poison; s' is s after the read (R83, R99). -/
def State.Fetches (s : State) (g w : Nat) (s' : State) : Prop := s.canIssue g = true ∧ s.fetch g = ((w, false), s')

/-- The registers, the registers of the access paths and the module memory are in their canonical form. -/
def State.Canon (s : State) : Prop :=
  mwf regReset s.regs = true ∧ mwf pregReset s.pregs = true ∧ mwf memReset s.mem = true

/-- Every command that waits is well-formed. -/
def State.QueueWf (s : State) : Prop := ∀ c ∈ s.pending, c.wf = true

end Sys2Proof.Machine
end

