-- ==== Sys2Proof/Certificates/Slice0/Obligations.lean ====
section
/-!
DEFINITION. What the provers are asked to settle: rules of the spec, stated of the machine. A statement that rests on a
choice of the model says so in its docstring.
-/

open Sys2Proof Sys2Proof.Machine

/-- For every command c, state s and queue rest: where c stands in front of rest in the queue of s, a step is exec of
c on s with the queue rest. Rests on: 00_scope.md. -/
def Obligations.StepTakesTheFrontCommand : Prop :=
  ∀ (c : Instr) (s : State) (rest : List Instr), s.pending = c :: rest → step s = exec c { s with pending := rest }

/-- The model's choice (log entry 90): where no command waits, a step of a module that is on applies one tick of the
400 MHz clock, grants the stream slots that are free, lets quiesces and drains end, and advances an activation's copy;
a module that is OFF stays as it is. Rests on: 08_time.md, 01_architecture.md. -/
def Obligations.StepOnAnEmptyQueueIsATick : Prop :=
  ∀ s : State, s.pending = [] →
    (s.power.off = true → step s = .next s)
    ∧ (s.power.off = false →
        step s = .next ((List.range 4).foldl State.slotGrant s.tick).drainCheck.copyDue)

/-- For every command and every state, exec answers a next state: the model faults and refuses on no command (log
entry 2). Rests on: 00_scope.md, 95_what_each_step_holds.md. -/
def Obligations.EveryCommandAnswersANextState : Prop :=
  ∀ (c : Instr) (s : State), ∃ t, exec c s = .next t

/-- For every command c and states s, t: where exec of c on s answers t, the queue of t is the queue of s. Rests on:
00_scope.md. -/
def Obligations.NoCommandTouchesTheQueue : Prop :=
  ∀ (c : Instr) (s t : State), exec c s = .next t → t.pending = s.pending

/-- Where the module is OFF, every command but AUX_START leaves the state as it is, and AUX_START begins STANDBY with
the straps, the loss flag, the epoch and the temperature flag it carries. Rests on: 15_power_reset.md. -/
def Obligations.OnlyAuxStartActsOnAModuleThatIsOff : Prop :=
  ∀ s : State, s.power.off = true →
    (∀ c : Instr, (∀ straps lost epoch cool, c ≠ .auxStart straps lost epoch cool) → exec c s = .next s)
    ∧ ∀ straps lost epoch cool, Completes (.auxStart straps lost epoch cool) s (s.auxStart straps lost epoch cool)

/-- Where every command that waits is well-formed, a step from that state answers a next state (never a fault or a
refusal) in which every command that waits is well-formed: with the queue empty, or with any command in front. Rests
on: 00_scope.md. -/
def Obligations.EveryStepKeepsWaitingCommandsWellFormed : Prop :=
  ∀ s : State, s.QueueWf → ∃ t, step s = .next t ∧ t.QueueWf

/-- Where the registers, the per-path registers and the module memory list their addresses in rising order and no
entry equal to what an unlisted address reads as, they do so in every state that a step answers, whatever command
runs. Rests on: 05_memory.md, 01_architecture.md. -/
def Obligations.EveryStepKeepsMemoryAndRegistersCanonical : Prop :=
  ∀ s t : State, s.Canon → step s = .next t → t.Canon

/-- The reset state has an empty queue, lists no memory, is in canonical form, and its registers read what the spec
gives for reset: PART 0x0880; INC 2 ns and 0x80000000; the step threshold, the loss limit, the ZT interval and the pin
delays; the PPS width; the message timeouts and the retry limit; the reshard timeout; the scrub interval and period
and the map-out threshold; the heater limit and the line target; a port's buffers, BER limits, spare lane and path;
the staging owner 7, PROTO 1.0 and DISC_WAIT 100; the loop floors. Rests on: R34, R183, R185, R223, R265, R294, R296,
R335, R340, R378, R423. -/
def Obligations.ResetHoldsTheSpecsValuesInCanonicalForm : Prop :=
  State.reset.Canon ∧ State.reset.QueueWf ∧ State.reset.pending = [] ∧ State.reset.mem = []
  ∧ State.reset.get MODULE_B MODULE.PART_NUMBER = 0x0880
  ∧ State.reset.get TIME_B TIME.INC_NS = 2 ∧ State.reset.get TIME_B TIME.INC_FRAC = 0x80000000
  ∧ State.reset.get TIME_B TIME.STEP_THRESH_NS = 100000 ∧ State.reset.get TIME_B TIME.SYNC_LOSS_MS = 3000
  ∧ State.reset.get TIME_B TIME.ZT_CTRL_LOG_INTERVAL = 0xFA
  ∧ State.reset.get TIME_B TIME.PIN_DELAY_IN = 4000 ∧ State.reset.get TIME_B TIME.PIN_DELAY_OUT = 8750
  ∧ State.reset.get TRIGGERS_B TRIGGERS.PPS_CTRL_WIDTH = 100000
  ∧ State.reset.get MSG_B MSG.ACK_TIMEOUT_US = 20 ∧ State.reset.get MSG_B MSG.RETRY_LIMIT_COUNT = 8
  ∧ State.reset.get MSG_B MSG.PATH_WAIT_US = 2000
  ∧ (∀ d < 4, State.reset.get (RESHARD_B d) RESHARD.TIMEOUT_US = 10000
      ∧ State.reset.get (DIE_B d) DIE.SRAM_SCRUB_INTERVAL = 382)
  ∧ (∀ m < 8, State.reset.get (HBM_B m) HBM.SCRUB_PERIOD_SECONDS = 86400 ∧ State.reset.get (HBM_B m) HBM.MAPOUT_CTRL_THRESH = 64)
  ∧ (∀ e < 2, State.reset.get (ENGINE_B e) ENGINE.HEATER_LIMIT = 300 ∧ State.reset.get (COMB_B e) COMB.LINE_TARGET_POWER = 1600)
  ∧ (∀ p < 36, State.reset.get (PORT_B p) PORT.RXBUF01_VC0 = 1024 ∧ State.reset.get (PORT_B p) PORT.RXBUF01_VC1 = 512
      ∧ State.reset.get (PORT_B p) PORT.BER_IN_LIMIT = 24000000 ∧ State.reset.get (PORT_B p) PORT.BER_OUT_LIMIT = 120000000
      ∧ State.reset.get (PORT_B p) PORT.SPARE_FOR = 0xF ∧ State.reset.get (PORT_B p) PORT.SPARE_PATH = 0xFFFF)
  ∧ State.reset.get XRDS_B XRDS.STAGE_STAT_OWNER = 7 ∧ State.reset.get XRDS_B XRDS.PROTO_MAJOR = 1
  ∧ State.reset.get XRDS_B XRDS.PROTO_MINOR = 0 ∧ State.reset.get XRDS_B XRDS.DISC_WAIT_MS = 100
  ∧ State.reset.get MILLRACE_B MILLRACE.FLOOR_RM_RING = 4 ∧ State.reset.get MILLRACE_B MILLRACE.FLOOR_RM_MZI = 4

/-- On a module that is on: an access that no directory entry covers changes nothing but the DIRECTORY page, which
records ACCESS_UNMAPPED (0x0002), whether it is an aligned 32-bit one or not, and is recorded once; a read returns
0xFFFFFFFF as well. Where the directory lists the page and the page has a header, an access that is not an aligned
32-bit one records ACCESS_SIZE (0x0001) on that page instead (R2). The access comes through a path that reaches the
registers: PCIe does not in D3hot (R454). Rules: R19. -/
def Obligations.UnmappedAndIllSizedAccessesAreRecorded : Prop :=
  ∀ (s : State) (path a n : Nat) (ty : PageTy) (inst : Nat), s.power.off = false → s.hears path = true →
    (s.listed (a / 4096) = false →
      Completes (.accessUnmapped path a 0) s (s.recErr DIRECTORY_B 0 0x0002 path a)
      ∧ Completes (.accessUnmapped path a 1) s ((s.recErr DIRECTORY_B 0 0x0002 path a).emit .read [0xFFFFFFFF]))
    ∧ (s.listed (a / 4096) = false → ¬ (n = 4 ∧ a % 4 = 0) →
      Completes (.bar0AccessSize path a n 0) s (s.recErr DIRECTORY_B 0 0x0002 path a)
      ∧ Completes (.bar0AccessSize path a n 1) s ((s.recErr DIRECTORY_B 0 0x0002 path a).emit .read [0xFFFFFFFF]))
    ∧ (s.listed (a / 4096) = true → ¬ (n = 4 ∧ a % 4 = 0) → pageAt (a / 4096) = some (ty, inst) → hasHeader ty = true →
      Completes (.bar0AccessSize path a n 0) s (s.recErr (a / 4096 * 4096) 0 0x0001 path a)
      ∧ Completes (.bar0AccessSize path a n 1) s ((s.recErr (a / 4096 * 4096) 0 0x0001 path a).emit .read [0xFFFFFFFF]))

/-- For an access that no directory entry covers, on the DIRECTORY page: with ERR_STAT all zero the error sets its
bit, CODE reads 0x0002, PATH the path, ERR_ADDR the address and COUNT 1; with ERR_STAT not zero its bit is set, COUNT
rises by one up to 255, and CODE, PATH and ERR_ADDR keep their values. A write of ERR_STAT clears the bits written as
ones; once all are zero COUNT reads 0 while CODE, PATH and ERR_ADDR keep the values of the released capture. No other
register and no byte of memory changes. The access comes through a path that reaches the registers: PCIe does not in
D3hot (R454). Rests on: R27, R19, 01_architecture.md. -/
def Obligations.FirstErrorIsCaptured : Prop :=
  ∀ (s : State) (path a : Nat), s.power.off = false → s.hears path = true → path < 8 → a < 2 ^ 26 →
    (s.listed (a / 4096) = false → ∃ t, exec (.accessUnmapped path a 0) s = .next t
      ∧ t.bit DIRECTORY_B (bitF 0x20 0) = true
      ∧ (s.rd (DIRECTORY_B + 0x20) = 0 →
          t.rd (DIRECTORY_B + 0x20) = 1 ∧ t.get DIRECTORY_B hERR_CODE = 0x0002 ∧ t.get DIRECTORY_B hERR_PATH = path
          ∧ t.get DIRECTORY_B hERR_COUNT = 1 ∧ t.get64 DIRECTORY_B hERR_ADDR = a)
      ∧ (s.rd (DIRECTORY_B + 0x20) ≠ 0 →
          t.rd (DIRECTORY_B + 0x20) = s.rd (DIRECTORY_B + 0x20) ||| 1
          ∧ t.get DIRECTORY_B hERR_COUNT = min 255 (s.get DIRECTORY_B hERR_COUNT + 1)
          ∧ t.get DIRECTORY_B hERR_CODE = s.get DIRECTORY_B hERR_CODE ∧ t.get DIRECTORY_B hERR_PATH = s.get DIRECTORY_B hERR_PATH
          ∧ t.get64 DIRECTORY_B hERR_ADDR = s.get64 DIRECTORY_B hERR_ADDR)
      ∧ SameRegsBut ((List.range 4).map fun i => DIRECTORY_B + 0x20 + 4 * i) s t ∧ SameBytes s t ∧ SameParts s t)
    ∧ ∀ (p : Nat) (v : Word) (ty : PageTy) (inst : Nat), pageAt p = some (ty, inst) → s.listed p = true → hasHeader ty = true →
      ∃ t, exec (.errStatClear p v) s = .next t
      ∧ t.rd (p * 4096 + 0x20) = s.rd (p * 4096 + 0x20) &&& ~~~v
      ∧ (s.rd (p * 4096 + 0x20) &&& ~~~v = 0 → t.get (p * 4096) hERR_COUNT = 0)
      ∧ (s.rd (p * 4096 + 0x20) &&& ~~~v ≠ 0 → t.get (p * 4096) hERR_COUNT = s.get (p * 4096) hERR_COUNT)
      ∧ t.get (p * 4096) hERR_CODE = s.get (p * 4096) hERR_CODE ∧ t.get (p * 4096) hERR_PATH = s.get (p * 4096) hERR_PATH
      ∧ t.get64 (p * 4096) hERR_ADDR = s.get64 (p * 4096) hERR_ADDR
      ∧ SameRegsBut [p * 4096 + 0x20, p * 4096 + 0x24] s t ∧ SameBytes s t ∧ SameParts s t

/-- On every listed page with a header: a register write of EVT_EN stores the value in the bits of the page's events,
the reserved ones reading zero; of EVT_STAT it clears the bits written as ones (W1C); EVT_SET_WRITE sets in EVT_STAT
the events written as ones. No other register and no byte of memory changes. The access comes through a path that
reaches the registers: PCIe does not in D3hot (R454). Rests on: R1, R7, R23, 00_scope.md, 01_architecture.md. -/
def Obligations.HeaderWritesChangeTheirRegisterAlone : Prop :=
  ∀ (s : State) (path p : Nat) (v : Word) (ty : PageTy) (inst : Nat), s.power.off = false → s.hears path = true → pageAt p = some (ty, inst) →
    s.listed p = true → hasHeader ty = true →
    (∃ t, exec (.registerWrite path (p * 4096 + 0x18) v) s = .next t ∧ t.rd (p * 4096 + 0x18) = v &&& BitVec.ofNat 32 (evtMask ty)
      ∧ SameRegsBut [p * 4096 + 0x18] s t ∧ SameBytes s t ∧ SameParts s t)
    ∧ (∃ t, exec (.registerWrite path (p * 4096 + 0x14) v) s = .next t
      ∧ t.rd (p * 4096 + 0x14) = s.rd (p * 4096 + 0x14) &&& ~~~v
      ∧ SameRegsBut [p * 4096 + 0x14] s t ∧ SameBytes s t ∧ SameParts s t)
    ∧ (∃ t, exec (.evtSetWrite p v) s = .next t ∧ t.rd (p * 4096 + 0x14) = s.rd (p * 4096 + 0x14) ||| v &&& BitVec.ofNat 32 (evtMask ty)
      ∧ SameRegsBut [p * 4096 + 0x14] s t ∧ SameBytes s t ∧ SameParts s t)

/-- A read of the low half of any register pair of a listed page answers it and captures the high half of the same
instant for the path; the path's next read of the high half answers that capture. For MODULE.SERIAL no register, byte
or part changes. A write of the low half is held for its path and changes no register; the write of the high half
hands it, or the pair's reset value where the path has written none (log entry 282), to the pair's write together with
the high half. A half that is read-only takes no write, and STEP_LO while GO reads 1 records STEP_BUSY (0x8501). For
PLAN_T of a plan that is not ARMED both registers then hold the two halves, and no other register, byte or part
changes. The access comes through a path that reaches the registers: PCIe does not in D3hot (R454). Rests on: R3, R4,
R7, R276, 00_scope.md, 01_architecture.md. -/
def Obligations.PairReadsAndWritesAreWhole : Prop :=
  ∀ (s : State) (path : Nat), s.power.off = false → s.hears path = true → path < 7 →
    (∃ t u : State, exec (.pairLowRead path (MODULE_B + 0x40)) s = .next t
      ∧ t.out = s.out ++ [(.read, [(s.rd (MODULE_B + 0x40)).toNat])] ∧ SameRegsBut [] s t ∧ SameBytes s t ∧ SameParts s t
      ∧ exec (.pairLowRead path (MODULE_B + 0x44)) t = .next u
      ∧ u.out = t.out ++ [(.read, [(s.rd (MODULE_B + 0x44)).toNat])] ∧ SameRegsBut [] s u ∧ SameBytes s u ∧ SameParts s u)
    ∧ (∀ lo hi : Word, s.stageSt ≠ sgARMED →
      ∃ t u : State, exec (.pairLowWrite path (XRDS_B + 0x6C) lo) s = .next t ∧ SameRegsBut [] s t ∧ SameBytes s t ∧ SameParts s t
        ∧ exec (.pairHighWrite path (XRDS_B + 0x70) hi) t = .next u
        ∧ u.rd (XRDS_B + 0x6C) = lo ∧ u.rd (XRDS_B + 0x70) = hi
        ∧ SameRegsBut [XRDS_B + 0x6C, XRDS_B + 0x70] s u ∧ SameBytes s u ∧ SameParts s u)
    ∧ ∀ (a : Nat) (lo hi : Word) (ty : PageTy) (inst k j : Nat) (r q : RegRow), s.listed (a / 4096) = true →
      pageAt (a / 4096) = some (ty, inst) → hasHeader ty = true → a % 4 = 0 → 0x40 ≤ a % 4096 → a % 4096 + 4 < 4096 →
      rowIn ty inst (a % 4096) = some (r, k) → pairHalf ty (a % 4096) r = 1 →
      rowIn ty inst (a % 4096 + 4) = some (q, j) → pairHalf ty (a % 4096 + 4) q = 2 →
      (∃ t u : State, exec (.pairLowRead path a) s = .next t
        ∧ t.out = s.out ++ [(.read, [(s.rowValue path ty inst a).1])]
        ∧ exec (.pairLowRead path (a + 4)) t = .next u
        ∧ u.out = t.out ++ [(.read, [((s.rowValue path ty inst a).2.rowValue path ty inst (a + 4)).1 % 2 ^ 32])])
      ∧ (r.readOnly = true → Completes (.pairLowWrite path a lo) s s)
      ∧ (r.readOnly = false → s.lowBusy ty (a % 4096) = true → Completes (.pairLowWrite path a lo) s (s.stepBusy path))
      ∧ (r.readOnly = false → s.lowBusy ty (a % 4096) = false →
        Completes (.pairLowWrite path a lo) s { s with held := zset s.held (pkey path (canon a)) (some lo) })
      ∧ (q.readOnly = true → Completes (.pairHighWrite path (a + 4) hi) s s)
      ∧ (q.readOnly = false → zget s.held (pkey path (canon a)) = some lo →
        Completes (.pairHighWrite path (a + 4) hi) s (s.pairWrite path ty a lo hi))
      ∧ (q.readOnly = false → zget s.held (pkey path (canon a)) = none →
        Completes (.pairHighWrite path (a + 4) hi) s (s.pairWrite path ty a (regReset (canon a)) hi))

/-- On a listed page with a header whose ENABLE is not fixed and that is not in a block reset, with ENABLE at 1:
ENABLE_WRITE of 0 clears ENABLE and lets the block act on it where the page is IDLE or QUIESCED; otherwise it records
DISABLE_REFUSED_BUSY (0x0012) with ERR_STAT.REFUSED and changes nothing else, so ENABLE stays 1. A page counts as IDLE
here whatever management request is being served: it may be the one that carries the write (R474). With ENABLE at 0, a
write of 1 sets it, and a stack or a mesh takes the accesses that were held back for it. The access comes through a
path that reaches the registers: PCIe does not in D3hot (R454). Rules: R29. -/
def Obligations.DisablingABusyPageIsRefused : Prop :=
  ∀ (s : State) (path p v : Nat) (ty : PageTy) (inst : Nat), s.power.off = false → s.hears path = true → pageAt p = some (ty, inst) →
    s.listed p = true → hasHeader ty = true → capEnableFixed ty = false → s.inBlockReset p = false →
    (v % 2 = 0 → s.bit (ctrlBase (p * 4096)) hCTRL_ENABLE = true →
      s.freeNowPage (p * 4096) ty inst = true →
      Completes (.enableWrite path p v) s (((s.put (ctrlBase (p * 4096)) hCTRL_ENABLE 0).enableActs ty inst false).msgSettle))
    ∧ (v % 2 = 0 → s.bit (ctrlBase (p * 4096)) hCTRL_ENABLE = true →
      s.freeNowPage (p * 4096) ty inst = false →
      Completes (.enableWrite path p v) s (s.recErrX (p * 4096) 1 0x0012 path)
      ∧ (s.recErrX (p * 4096) 1 0x0012 path).bit (ctrlBase (p * 4096)) hCTRL_ENABLE = true
      ∧ (s.recErrX (p * 4096) 1 0x0012 path).bit (p * 4096) (bitF 0x20 1) = true
      ∧ (s.get (p * 4096) hERR_STAT = 0 → (s.recErrX (p * 4096) 1 0x0012 path).get (p * 4096) hERR_CODE = 0x0012))
    ∧ (v % 2 = 1 → s.bit (ctrlBase (p * 4096)) hCTRL_ENABLE = false →
      ∃ u : State, u = ((s.put (ctrlBase (p * 4096)) hCTRL_ENABLE 1).enableActs ty inst true).line4 s
        ∧ (ty ≠ .HBM → ty ≠ .MESH → Completes (.enableWrite path p v) s u.msgSettle)
        ∧ ((ty = .HBM ∨ ty = .MESH) → Completes (.enableWrite path p v) s u.serveOffers.msgSettle))
    ∧ (s.freeNowPage (p * 4096) ty inst = true ↔
      ({ s with host.serving := 0 }.idle ty inst = true ∨ s.bit (ctrlBase (p * 4096)) hSTAT_QUIESCED = true))

/-- On a listed page with a header that is not in a block reset: QUIESCE_REQ of 1 begins the quiesce where PAGE_CAPS
gives it and none runs, and of 0 ends it with QUIESCED cleared and the work held back at its sources taken; a page
without quiesce records 0x0013. QUIESCED sets its bit once the page has drained. BLOCK_RESET_REQ resets the block
where PAGE_CAPS gives it and the page is IDLE or QUIESCED, records 0x0010 where it is busy, and 0x0011 where the page
has no block reset; BLOCK_RESET_DONE then ends it, sets READY and takes the work held back; Belfry samples its sources
afresh. The access comes through a path that reaches the registers: PCIe does not in D3hot (R454). Rests on: R28, R30,
R31, R32, 01_architecture.md. -/
def Obligations.QuiesceAndBlockResetFollowTheirRules : Prop :=
  ∀ (s : State) (path p v : Nat) (ty : PageTy) (inst : Nat), s.power.off = false → s.hears path = true → pageAt p = some (ty, inst) →
    s.listed p = true → hasHeader ty = true →
    (s.inBlockReset p = false → v % 2 = 1 → capQuiesce ty = true → s.bit (ctrlBase (p * 4096)) hCTRL_QUIESCE = false →
      Completes (.quiesceReq path p v) s (((s.put (ctrlBase (p * 4096)) hCTRL_QUIESCE 1).quiesceActs ty inst).msgSettle))
    ∧ (s.inBlockReset p = false → v % 2 = 0 → s.bit (ctrlBase (p * 4096)) hCTRL_QUIESCE = true →
      Completes (.quiesceReq path p v) s
        ((((s.put (ctrlBase (p * 4096)) hCTRL_QUIESCE 0).put (ctrlBase (p * 4096)) hSTAT_QUIESCED 0).resumeActs ty inst).msgSettle))
    ∧ (s.inBlockReset p = false → v % 2 = 1 → capQuiesce ty = false →
      Completes (.quiesceReq path p v) s (s.recErrX (p * 4096) 1 0x0013 path))
    ∧ (s.bit (ctrlBase (p * 4096)) hCTRL_QUIESCE = true → s.drained ty inst = true →
      Completes (.quiesced p) s (s.put (ctrlBase (p * 4096)) hSTAT_QUIESCED 1))
    ∧ (s.inBlockReset p = false → capBlockReset ty = true → s.freeNowPage (p * 4096) ty inst = true →
      Completes (.blockResetReq path p) s (s.blockReset (p * 4096) ty inst))
    ∧ (s.inBlockReset p = false → capBlockReset ty = true → s.freeNowPage (p * 4096) ty inst = false →
      Completes (.blockResetReq path p) s (s.recErrX (p * 4096) 1 0x0010 path))
    ∧ (s.inBlockReset p = false → capBlockReset ty = false →
      Completes (.blockResetReq path p) s (s.recErrX (p * 4096) 1 0x0011 path))
    ∧ (s.inBlockReset p = true →
      ∀ t : State, t = (s.put (ctrlBase (p * 4096)) hCTRL_BLOCK_RESET 0).put (ctrlBase (p * 4096)) hSTAT_READY (readyAfter ty) →
      (ty.belfry = false → Completes (.blockResetDone p) s (t.resumeActs ty inst).msgSettle)
      ∧ (ty.belfry = true → Completes (.blockResetDone p) s ((t.belfryOn.line4 s).resumeActs ty inst).msgSettle))

/-- With REFCLK_OK at 1, ROOT_LOCK at 1 and the CLKMODE strap at 0, REFCLK_LOST clears REFCLK_OK, counts the loss,
raises MODULE event 0 and puts the PLL in holdover. With REFCLK_OK at 0 and HOLDOVER at 1, REFCLK_RESTORED sets
REFCLK_OK, ends holdover with ROOT_LOCK, and raises event 1 where REFCLK had fallen. Rests on: R17, R34,
01_architecture.md. -/
def Obligations.ReferenceClockLossHoldsTheRootPll : Prop :=
  ∀ s : State, s.power.off = false →
    (s.bit MODULE_B MODULE.CLK_STAT_REFCLK_OK = true → s.bit MODULE_B MODULE.CLK_STAT_ROOT_LOCK = true →
      s.bit MODULE_B MODULE.STRAPS_CLKMODE = false →
      ∃ t, exec .refclkLost s = .next t ∧ t.bit MODULE_B MODULE.CLK_STAT_REFCLK_OK = false
        ∧ t.bit MODULE_B MODULE.CLK_STAT_ROOT_LOCK = false ∧ t.bit MODULE_B MODULE.CLK_STAT_HOLDOVER = true
        ∧ t.get MODULE_B MODULE.CLK_STAT_LOSS_COUNT = min 65535 (s.get MODULE_B MODULE.CLK_STAT_LOSS_COUNT + 1)
        ∧ (s.on MODULE_B = true → t.bit MODULE_B (bitF 0x14 0) = true)
        ∧ SameRegsBut [ MODULE_B + 0x14, MODULE_B + 0x50] s t ∧ SameBytes s t)
    ∧ (s.bit MODULE_B MODULE.CLK_STAT_REFCLK_OK = false → s.bit MODULE_B MODULE.CLK_STAT_HOLDOVER = true →
      ∃ t, exec .refclkRestored s = .next t ∧ t.bit MODULE_B MODULE.CLK_STAT_REFCLK_OK = true
        ∧ t.bit MODULE_B MODULE.CLK_STAT_ROOT_LOCK = true ∧ t.bit MODULE_B MODULE.CLK_STAT_HOLDOVER = false
        ∧ (s.on MODULE_B = true → s.power.refLost = true → t.bit MODULE_B (bitF 0x14 1) = true)
        ∧ SameRegsBut [ MODULE_B + 0x14, MODULE_B + 0x50] s t ∧ SameBytes s t)

/-- Where tile g may issue and fetches an unpoisoned word w of the opcode: NOP and STALL go on to the next
instruction; SETI sets its index register to the signed 20-bit value; LOOP opens a loop of its END, COUNT, IDX and
STRIDE where fewer than four are open, and faults with LOOP_DEPTH (0x8005) where four are; JUMP sets the pc to its
target; SETE loads EBASE; HALT ends issue, and TILE_HALTED then enters HALTED once nothing is in flight. Rests on:
R95, R96, R97, R98, R100, R101, R112, 03_tile.md. -/
def Obligations.SequencerInstructionsComplete : Prop :=
  ∀ (s s' : State) (g w : Nat), s.power.off = false →
    (s.Fetches g w s' → iOp w = 0x00 → Completes (.nop g) s (s'.advance g))
    ∧ (s.Fetches g w s' → iOp w = 0x01 → Completes (.stall g) s (s'.advance g))
    ∧ (s.Fetches g w s' → iOp w = 0x02 → Completes (.seti g) s ((s'.setIdx g (bf w 34 32) (signed 20 (bf w 55 36))).advance g))
    ∧ (s.Fetches g w s' → iOp w = 0x03 → (zget s'.tile.loops g).length < 4 →
      Completes (.loop g) s ((s'.setLoops g
        (⟨s.pc g + 1, bf w 69 56, bf w 55 32, bf w 74 72, signed 20 (bf w 95 76)⟩ :: zget s'.tile.loops g)).setPc g (s.pc g + 1)))
    ∧ (s.Fetches g w s' → iOp w = 0x03 → 4 ≤ (zget s'.tile.loops g).length → Completes (.loop g) s (s'.tfault g (s.pc g) 0x8005 0))
    ∧ (s.Fetches g w s' → iOp w = 0x04 → Completes (.jump g) s (s'.setPc g (bf w 45 32)))
    ∧ (s.Fetches g w s' → iOp w = 0x05 → Completes (.sete g) s ((s'.put64 (TILE_B g) TILE.EBASE_LO (bf w 79 32)).advance g))
    ∧ (s.Fetches g w s' → iOp w = 0x0F → Completes (.halt g) s ((s'.setPc g (s.pc g + 1)).setStop g 1))
    ∧ (s.tilePresent g = true → s.stopCode g = 1 → s.inflight g = false →
      Completes (.tileHalted g) s
        ((((s.setT g tsHALTED 0).setStop g 0).put (TILE_B g) TILE.CTRL_HALT_REQ 0).raise (TILE_B g) 0).settleJob)

/-- Where tile g fetches the opcode: WAIT_TOK takes COUNT from its token and goes on where the token holds as many,
else the tile waits (kind 1) until WAIT_TOK_RELEASE finds them; WAIT_TIME goes on where the clock has reached its
instant, else the tile waits (kind 2) until WAIT_TIME_RELEASE; BARRIER waits (kind 3), counting an arrival at an
arrival barrier, until BARRIER_RELEASE finds the arrivals and the reshard condition met and releases every tile that
waits there; a BARRIER that needs no arrivals, with the reshard condition met, goes on at once; PHASE_END closes the
loops and ends issue. A release needs a cycle that the governor does not stall. Rests on: R108, R110, R111, R204,
03_tile.md, 06_contract.md. -/
def Obligations.TokenAndTimeWaitsIssueOrHold : Prop :=
  ∀ (s s' : State) (g w b : Nat) (r : BarRec), s.power.off = false →
    (s.Fetches g w s' → iOp w = 0x10 → bf w 47 40 ≤ s'.token g (bf w 35 32) →
      Completes (.waitTok g) s
        ((s'.put (TILE_B g) (tokF (bf w 35 32)) (s'.token g (bf w 35 32) - bf w 47 40)).advance g))
    ∧ (s.Fetches g w s' → iOp w = 0x10 → s'.token g (bf w 35 32) < bf w 47 40 → Completes (.waitTok g) s (s'.setT g tsWAITING 1))
    ∧ (s.stalled = false → s.waiting g 1 = true → bf (s.curWord g) 47 40 ≤ s.token g (bf (s.curWord g) 35 32) →
      Completes (.waitTokRelease g) s
        ((s.takeToken g (bf (s.curWord g) 35 32) (bf (s.curWord g) 47 40)).release g))
    ∧ (s.Fetches g w s' → iOp w = 0x11 → s'.reached (s'.waitInstant w) = true → Completes (.waitTime g) s (s'.advance g))
    ∧ (s.Fetches g w s' → iOp w = 0x11 → s'.reached (s'.waitInstant w) = false → Completes (.waitTime g) s (s'.setT g tsWAITING 2))
    ∧ (s.stalled = false → s.waiting g 2 = true → s.reached (s.waitInstant (s.curWord g)) = true → Completes (.waitTimeRelease g) s (s.release g))
    ∧ (s.Fetches g w s' → iOp w = 0x12 → s'.barrier (bf w 37 32) = some r → r.kind = 0 → r.arrivals ≠ 0 →
      Completes (.barrier g) s
        (({ s' with job.arrivals := zset s'.job.arrivals (bf w 37 32) (zget s'.job.arrivals (bf w 37 32) + 1) }.hold g 3).barrierMask
          (bf w 37 32)))
    ∧ (s.Fetches g w s' → iOp w = 0x12 → s'.barrier (bf w 37 32) = some r → r.kind ≠ 0 →
      Completes (.barrier g) s ((s'.hold g 3).barrierMask (bf w 37 32)))
    ∧ (s.Fetches g w s' → iOp w = 0x12 → s'.barrier (bf w 37 32) = some r → r.kind = 0 → r.arrivals = 0 →
      s'.reshardMet (bf w 37 32) = true → Completes (.barrier g) s (s'.advance g))
    ∧ (s.stalled = false → s.barrier b = some r → r.kind = 0 → r.arrivals ≤ zget s.job.arrivals b → s.reshardMet b = true →
      Completes (.barrierRelease b) s ({ s with job.arrivals := zset s.job.arrivals b 0 }.releaseAt b))
    ∧ (s.Fetches g w s' → iOp w = 0x13 →
      Completes (.phaseEnd g) s ((((s'.setLoops g []).setPc g (s.pc g + 1)).setStop g 4).settleTile g))

/-- Where tile g fetches a FENCE: it goes on where every unit that UNITS names has completed what was issued to it
(bit 0 the two matrix pipes, bit 1 the vector unit, bit 2 the data mover, bit 3 the mesh and message queue); otherwise
the tile waits (kind 4), and a tile that so waits fetches nothing. FENCE_RELEASE lets it go on, in a cycle that the
governor does not stall, exactly when those units are empty, and changes nothing before. Rests on: R109, R115,
03_tile.md. -/
def Obligations.FenceHoldsIssueUntilItsUnitsAreDone : Prop :=
  ∀ (s s' : State) (g w : Nat), s.power.off = false →
    (s.Fetches g w s' → iOp w = 0x14 →
      ((bf w 35 32 % 2 = 1 → s'.queue g 0 = [] ∧ s'.queue g 1 = []) ∧ (bf w 35 32 / 2 % 2 = 1 → s'.queue g 2 = [])
        ∧ (bf w 35 32 / 4 % 2 = 1 → s'.queue g 3 = []) ∧ (bf w 35 32 / 8 % 2 = 1 → s'.queue g 4 = [])) →
      Completes (.fence g) s (s'.advance g))
    ∧ (s.Fetches g w s' → iOp w = 0x14 → s'.fenced g (bf w 35 32) = false → Completes (.fence g) s (s'.setT g tsWAITING 4))
    ∧ (s.waiting g 4 = true → ∀ v t, ¬ s.Fetches g v t)
    ∧ (s.stalled = false → s.waiting g 4 = true → s.fenced g (bf (s.curWord g) 35 32) = true → Completes (.fenceRelease g) s (s.release g))
    ∧ (s.waiting g 4 = true → s.fenced g (bf (s.curWord g) 35 32) = false → Completes (.fenceRelease g) s s)

/-- Where tile g fetches an instruction of a unit, the checks at issue find no fault in it and the unit's queue has
room: the audit is made, the operation with its operands read at issue joins the end of the queue (0 load pipe, 1
compute pipe, 2 vector unit, 3 data mover), and the sequencer goes on. Where the queue is full the tile waits (kind
5); where a check at issue fails, the tile faults with the check's code and address. Rests on: R95, R90, R113, R159,
03_tile.md. -/
def Obligations.UnitInstructionsEnterTheirQueue : Prop :=
  ∀ (s s' : State) (g w : Nat), s.power.off = false → s.Fetches g w s' →
    ∀ x ∈ [(Instr.wload g, 0x20, 0), (.mmaW g, 0x21, 1), (.mmaS g, 0x22, 1), (.accBind g, 0x23, 1), (.accAdd g, 0x24, 1),
      (.accOut g, 0x25, 1), (.vld g, 0x30, 2), (.vst g, 0x31, 2), (.vop g, 0x32, 2), (.vred g, 0x33, 2), (.copy g, 0x40, 3),
      (.prefetch g, 0x41, 3), (.store g, 0x42, 3), (.gather g, 0x43, 3)],
    iOp w = x.2.1 →
    (s'.issueFault (s.mkOp g w) = none → (s'.queue g x.2.2).length < queueCap x.2.2 →
      Completes x.1 s
        (let t := s'.audit g x.2.2 (s.mkOp g w)
         let t := t.setQueue g x.2.2 (t.queue g x.2.2 ++ [s.mkOp g w])
         { t with tile.issued := zset t.tile.issued g ((s.mkOp g w).seq + 1) }.advance g))
    ∧ (s'.issueFault (s.mkOp g w) = none → queueCap x.2.2 ≤ (s'.queue g x.2.2).length → Completes x.1 s (s'.hold g 5))
    ∧ ∀ code addr, s'.issueFault (s.mkOp g w) = some (code, addr) → Completes x.1 s (s'.tfault g (s.pc g) code addr)

/-- MATRIX_VECTOR_COMPLETE applies the oldest operation of a matrix pipe or the vector unit and takes it off the queue
where no interlock of R90 holds it and the governor does not stall. DATA_MOVER_DONE applies a COPY, and a PREFETCH or
STORE whose address the mesh reaches and that follows no PREFETCH or STORE of the tile to the same block. GATHER_DONE
applies a GATHER that its die's running message engine has taken up and none of whose reads is held at a stack or by
the meshes on its way, and fails it with ENGINE_OFF, its words poisoned, where the engine is off and in no block
reset. Rests on: R95, R90, R160, R249, R264, 03_tile.md, 05_memory.md, 07_messaging.md. -/
def Obligations.UnitOperationsComplete : Prop :=
  ∀ (s : State) (g u k : Nat) (o : Op) (rest : List Op), s.power.off = false →
    (s.stalled = false → s.queue g u = o :: rest → u ≤ 2 → (∀ p ∈ s.queue g (1 - u), u = 2 ∨ interlocked o p = false) →
      Completes (.matrixVectorComplete g u) s ((unitEffect g o s).dequeue g u 0))
    ∧ ((s.queue g 3)[k]? = some o → iOp o.word = 0x40 →
      Completes (.dataMoverDone g k) s ((opCopy g o s).completeOp g 3 k o))
    ∧ ((s.queue g 3)[k]? = some o → iOp o.word = 0x41 → ((s.queue g 3).take k).any (sameBlock o) = false → s.reachable g (baddr o 103 64).toNat = true →
      Completes (.dataMoverDone g k) s ((opPrefetch g o s).completeOp g 3 k o))
    ∧ ((s.queue g 3)[k]? = some o → iOp o.word = 0x42 → ((s.queue g 3).take k).any (sameBlock o) = false → s.reachable g (baddr o 103 64).toNat = true →
      Completes (.dataMoverDone g k) s ((opStore g o s).completeOp g 3 k o))
    ∧ ((s.queue g 3)[k]? = some o → iOp o.word = 0x43 → s.engineRuns (g / 256) = true →
      s.msg.walking.contains (g, o.seq) = true → (∀ m ∈ s.walkReads g o, s.gatherHeld g m = false) →
      Completes (.gatherDone g k) s (((opGather g o s).completeOp g 3 k o).walkEnd g o.seq))
    ∧ ((s.queue g 3)[k]? = some o → iOp o.word = 0x43 → s.engineRuns (g / 256) = false → s.diePresent (g / 256) = true →
      s.engineResets (g / 256) = false →
      Completes (.gatherDone g k) s
        ((((s.pushFail (g / 256) ⟨0x16, 2, g % 256, bf o.word 83 64⟩).poisonWords g (waddr o 50 32).toNat
          (512 * bf o.word 107 100)).completeOp g 3 k o).walkEnd g o.seq))

/-- A dynamic SEND (class 1) of tile g with room in the mesh queue joins it and the sequencer goes on. SEND_DEPARTED
reads the words of a SEND that its mesh admits (a dynamic one, or a scheduled one whose slot has come) over meshes
that are enabled, and puts them in flight, the part that a late occurrence cannot take in the dynamic class.
SEND_LANDED writes the words of a flight that none of its source, destination and class precedes, as its code leaves
them, into the destination tile, when present, and counts the token of the flight that ends its SEND; a flight behind
another of its kind, or a scheduled one in a cycle the governor stalls, does not land. Rests on: R105, R131, R133,
R134, R137, R155, 03_tile.md, 04_mesh.md. -/
def Obligations.SendsDepartAndLand : Prop :=
  ∀ (s s' : State) (g w k f : Nat) (o : Op) (x : Flight), s.power.off = false →
    (s.Fetches g w s' → iOp w = 0x50 → bf w 42 42 = 1 → s'.issueFault (s.mkOp g w) = none → (s'.queue g 4).length < queueCap 4 →
      Completes (.send g) s
        (let t := s'.audit g 4 (s.mkOp g w)
         let t := t.setQueue g 4 (t.queue g 4 ++ [{ s.mkOp g w with stage := zget s'.tile.slotUse (g * 2 ^ 21 + bf w 127 108), late := none }])
         { t with tile.issued := zset t.tile.issued g ((s.mkOp g w).seq + 1) }.advance g))
    ∧ ((s.queue g 4)[k]? = some o → iOp o.word = 0x50 →
      s.carried (s.crossed (tilePos g) (tilePos (sendDst o.word))) = true → s.mayEnter g o = true →
      Completes (.sendDeparted g k) s
        (let r := s.readTWs g (waddr o 61 43).toNat (bf o.word 79 64)
         { r.2 with flights := r.2.flights ++ r.2.flightsOf g o r.1 }.completeOp g 4 k o))
    ∧ (s.flights[f]? = some x → (∀ y ∈ s.flights.take f, x.behind y = false) → (x.sched = true → s.stalled = false) →
      s.carried (s.crossed (tilePos x.src) (tilePos x.dst)) = true → s.tilePresent x.dst = true →
      (∀ n, x.rtoken = some n → Completes (.sendLanded f) s
        (({ s with flights := s.flights.eraseIdx f }.writeTWs x.dst x.addr x.landed).bumpToken x.dst n
          ({ s with flights := s.flights.eraseIdx f }.pc x.dst)))
      ∧ (x.rtoken = none → Completes (.sendLanded f) s
        ({ s with flights := s.flights.eraseIdx f }.writeTWs x.dst x.addr x.landed)))
    ∧ (s.flights[f]? = some x → ((∃ y ∈ s.flights.take f, x.behind y = true) ∨ (x.sched = true ∧ s.stalled = true)) →
      Completes (.sendLanded f) s s)

/-- Where tile g fetches a POST or PUT that the checks at issue pass, with room in the mesh and message queue: the
operation joins the queue, the sequencer goes on, and the message engines take it up. Rests on: R95, R105, R230,
03_tile.md, 07_messaging.md. -/
def Obligations.PostsAndPutsBecomeMessageOperations : Prop :=
  ∀ (s s' : State) (g w : Nat), s.power.off = false → s.Fetches g w s' → s'.issueFault (s.mkOp g w) = none →
    (s'.queue g 4).length < queueCap 4 →
    ∀ x ∈ [(Instr.post g, 0x60), (.put g, 0x61)], iOp w = x.2 →
    Completes x.1 s
      (let t := s'.audit g 4 (s.mkOp g w)
       let t := t.setQueue g 4 (t.queue g 4 ++ [s.mkOp g w])
       (({ t with tile.issued := zset t.tile.issued g ((s.mkOp g w).seq + 1) }.advance g).newMop
         (State.tileMop ({ t with tile.issued := zset t.tile.issued g ((s.mkOp g w).seq + 1) }.advance g) g (s.mkOp g w))).msgSettle)

/-- A tile that fetches a reserved opcode faults with ILLEGAL_INSTR (0x8006), and one that fetches a poisoned word
with 0x8007. TILE_HW_FAIL records the tile as failed, sets the page's FAULT and faults the tile with TILE_HW (0x800B).
TILE_FAULTED enters FAULTED, with event 4, once nothing is in flight. HALT_REQ stops a present tile, and HALT_REQ_DONE
enters HALTED with event 5. LONG_WAIT records an audit entry of kind 4 for an audited tile that waits beyond its
limit. Rests on: R99, R112, R113, R122, 03_tile.md. -/
def Obligations.TileFaultsAndHaltRequestsStopTheTile : Prop :=
  ∀ (s s' : State) (g w : Nat), s.power.off = false →
    (s.Fetches g w s' → iOp w ∉ opcodes → Completes (.illegalInstr g) s (s'.tfault g (s.pc g) 0x8006 0))
    ∧ (s.canIssue g = true → s.fetch g = ((w, true), s') → Completes (.illegalInstr g) s (s'.tfault g (s.pc g) 0x8007 0))
    ∧ (s.tilePresent g = true →
      Completes (.tileHwFail g) s
        (((s.tilePending (g / 256) (s.physOf (g / 256) (g % 256)).1 (s.physOf (g / 256) (g % 256)).2).put (TILE_B g)
          hSTAT_FAULT 1).tfault g (s.pc g) 0x800B 0))
    ∧ (s.tilePresent g = true → s.stopCode g = 3 → s.inflight g = false → s.waitsAt g = none →
      Completes (.tileFaulted g) s
        ((((s.setT g tsFAULTED 0).setStop g 0).put (TILE_B g) TILE.CTRL_HALT_REQ 0).raise (TILE_B g) 4))
    ∧ (s.tilePresent g = true → Completes (.haltReq g) s (s.haltTileMsg g).msgSettle)
    ∧ (s.tilePresent g = true → s.stopCode g = 2 → s.inflight g = false →
      Completes (.haltReqDone g) s
        ((((s.setT g tsHALTED 0).setStop g 0).put (TILE_B g) TILE.CTRL_HALT_REQ 0).raise (TILE_B g) 5).settleJob)
    ∧ (s.tilePresent g = true → s.bit (TILE_B g) TILE.CTRL_AUDIT = true → s.get (TILE_B g) TILE.AUDIT_LIMIT_LIMIT ≠ 0 →
      s.tstate g = tsWAITING → 1 ≤ s.get (TILE_B g) TILE.STATUS_WAIT_KIND → s.get (TILE_B g) TILE.STATUS_WAIT_KIND ≤ 4 →
      Completes (.longWait g) s (s.auditRec g 4 (s.pc g) 0 0))

/-- On a present die: the error pattern of a flit (R146) says its fate, up to four wrong symbols being corrected and
counted in CORR. FLIT_UNCORR_SCHEDULED beyond correction poisons four words of a scheduled flight and counts UNCORR
with event LINK_UNCORR; FLIT_RETRY of replay buffer entry b / 512 % 64 of bundle b / 16 % 16 of link set b % 4, with
bit 8 of b set for a flit sent again before, counts UNCORR and RETRY beyond correction, and the fourth retry of one
flit in a row to fail takes its bundle down; a flit that arrives forgets its retries; LINK_DOWN marks the bundle down
on both of its dies, sets FAULT with LINK_DOWN (0x8101), reports degraded and stops the tiles; TILE_FAILED counts and
names a tile that had not failed for the next map, with event 0 and a record, and where a tile runs there it faults
with TILE_HW (0x800B) as well; ROUTER_FAULT sets FAULT with 0x8102 and stops the tiles. AUDIT_STAT_READ answers the
register of a present tile. The access comes through a path that reaches the registers: PCIe does not in D3hot (R454).
Rests on: R119, R143, R147, R148, R150, R154, 04_mesh.md. -/
def Obligations.LinkAndTileFailuresAreReported : Prop :=
  ∀ (s u : State) (d k f j i b n en row col path g : Nat) (x : Flight), s.power.off = false → s.hears path = true →
    (s.diePresent d = true → k < 2 → s.flights[f]? = some x → x.sched = true → 4 * (j % 2 ^ 16) < x.words.length →
      (fateOf (j / 2 ^ 16) = .uncorrectable → Completes (.flitUncorrScheduled d k f j) s
        (({ s with flights := s.flights.set f { x with words := x.words.mapIdx fun n (w : Nat × Bool) => if n / 4 = j % 2 ^ 16 then (w.1, true) else w } }.inc
          (MESH_B d) (MESH.LINK_UNCORR_COUNT.at k 0x10)).raiseAlways (MESH_B d) 1))
      ∧ (fateOf (j / 2 ^ 16) = .corrected →
        Completes (.flitUncorrScheduled d k f j) s (s.inc (MESH_B d) (MESH.LINK_CORR_COUNT.at k 0x10))))
    ∧ (fateOf 0 = .uncorrectable ∧ ∀ e : Nat, e ≠ 0 →
      (fateOf e = .clean ↔ flitSymbols e = 0) ∧ (fateOf e = .uncorrectable ↔ 4 < flitSymbols e))
    ∧ (s.diePresent d = true → k = b % 4 → i = b / 16 % 16 → i < bundles k → en = b / 2 ^ 9 % 64 →
      (fateOf (b / 2 ^ 16) = .uncorrectable →
        n = (if b / 256 % 2 = 1 then zget s.tile.retries (replayKey d k i en) else 0) →
        u = (s.inc (MESH_B d) (MESH.LINK_UNCORR_COUNT.at k 0x10)).raiseAlways (MESH_B d) 1 →
        (n < 4 → Completes (.flitRetry d b) s
          { u.inc (MESH_B d) (MESH.LINK_RETRY_COUNT.at k 0x10) with
            tile.retries := zset u.tile.retries (replayKey d k i en) (n + 1) })
        ∧ (4 ≤ n → Completes (.flitRetry d b) s (u.linkDown d k i)))
      ∧ (fateOf (b / 2 ^ 16) = .corrected → u = s.inc (MESH_B d) (MESH.LINK_CORR_COUNT.at k 0x10) →
        Completes (.flitRetry d b) s { u with tile.retries := zset u.tile.retries (replayKey d k i en) 0 }))
    ∧ (s.diePresent d = true → i < bundles k → (u = match linkPartner d k with
        | some e => if s.diePresent e then (s.bundleDown d k i).bundleDown e k i else s.bundleDown d k i
        | none => s.bundleDown d k i) →
      Completes (.linkDown d k i) s
        ((((u.put (MESH_B d) hSTAT_FAULT 1).recErr (MESH_B d) 16 0x8101 pathHw (k + 16 * i)).raiseAlways (MESH_B d) 2).put POWER_B
          POWER.STATE_DEGRADED 1).meshStops)
    ∧ (s.diePresent d = true → row < 10 → col < 12 → zget s.tile.failed (256 * d + 16 * row + col) = false →
      ∀ r q v : State, r = { s with tile.failed := zset s.tile.failed (256 * d + 16 * row + col) true } →
        q = ((((r.inc (MESH_B d) MESH.PENDING_COUNT).put (MESH_B d) MESH.PENDING_ROW row).put (MESH_B d)
          MESH.PENDING_COLUMN col).put (MESH_B d) MESH.PENDING_VALID 1) →
        v = (q.raiseAlways (MESH_B d) 0).record (MESH_B d) 0x0030 [((q.raiseAlways (MESH_B d) 0).rd (MESH_B d + 0x4C)).toNat] →
        (s.tileAtPhys d row col = none → Completes (.tileFailed d row col) s v)
        ∧ (s.tileAtPhys d row col = some g →
          Completes (.tileFailed d row col) s ((v.put (TILE_B g) hSTAT_FAULT 1).tfault g (v.pc g) 0x800B 0)))
    ∧ (s.diePresent d = true → row < 10 → col < 12 →
      Completes (.routerFault d row col) s
        (((s.put (MESH_B d) hSTAT_FAULT 1).recErr (MESH_B d) 17 0x8102 pathHw (16 * row + col)).meshStops))
    ∧ (s.tilePresent g = true → Completes (.auditStatRead path g) s (State.answer (s.readReg path (TILE_B g + 0xAC))))

/-- SRAM_SCRUB_TURN at a data or staging word of a present tile, on time, with no urgent word waiting in its bank and
no tile of the die in block reset: the visit counts towards the die's pass, which ends with the last word; a clean
word changes nothing else; a correctable upset is written back corrected and counted; an uncorrectable one is
poisoned, counted, named in SRAM_LAST and raised as DIE event 8. HBM_SCRUB_STEP of a stack in service reads the block
at SCRUB_POS and goes on to the next; after the last block the position returns to 0 and the pass is counted with
event 2. Rests on: R167, R173, R174, 05_memory.md. -/
def Obligations.ScrubbersCorrectAndReport : Prop :=
  ∀ (s v : State) (g wa e c m n x : Nat), s.power.off = false →
    (s.tilePresent g = true → wa < tileWords → s.get (DIE_B (g / 256)) DIE.SRAM_SCRUB_INTERVAL ≠ 0 →
      (∀ t ∈ s.tiles, t / 256 = g / 256 → s.bit (TILE_B t) hCTRL_BLOCK_RESET = false) → s.scrubElsewhere (twAddr g wa) = false →
      v = ({ s.upsetUnit (twAddr g wa) (wordErr e c) with tile.urgent := s.tile.urgent.filter (· ≠ twAddr g wa) }).scrubTurn (g / 256) (twAddr g wa) →
      (v.readUnit (twAddr g wa) = (x, .ok) → Completes (.sramScrubTurn g wa e 0 c) s v)
      ∧ (v.readUnit (twAddr g wa) = (x, .corrected) →
        Completes (.sramScrubTurn g wa e 0 c) s
          ((v.setUnit (twAddr g wa) x false).inc (DIE_B (g / 256)) DIE.SRAM_CORR_COUNT))
      ∧ (v.readUnit (twAddr g wa) = (x, .uncorrectable) →
        Completes (.sramScrubTurn g wa e 0 c) s
          ((((((v.setUnit (twAddr g wa) x true).inc (DIE_B (g / 256)) DIE.SRAM_UNCORR_COUNT).put (DIE_B (g / 256))
            DIE.SRAM_LAST_TILE (g % 256)).put (DIE_B (g / 256)) DIE.SRAM_LAST_TWA wa).put (DIE_B (g / 256))
            DIE.SRAM_LAST_VALID 1).raise (DIE_B (g / 256)) 8)))
    ∧ (s.stackIn m = true → s.on (HBM_B m) = true → s.bit (HBM_B m) hSTAT_QUIESCED = false →
      s.get (HBM_B m) HBM.SCRUB_PERIOD_SECONDS ≠ 0 → s.get (HBM_B m) HBM.SCRUB_POS_BLOCK = n →
      v = ((s.upsetUnit (m * 0x1000000000 + 64 * n) e).readBlock (m * 0x1000000000 + 64 * n)).2 →
      (n + 1 < 562500000 → Completes (.hbmScrubStep m e) s (v.put (HBM_B m) HBM.SCRUB_POS_BLOCK (n + 1)))
      ∧ (562500000 ≤ n + 1 →
        Completes (.hbmScrubStep m e) s
          (((v.put (HBM_B m) HBM.SCRUB_POS_BLOCK 0).put (HBM_B m) HBM.SCRUB_PASS_COUNT
            ((v.put (HBM_B m) HBM.SCRUB_POS_BLOCK 0).get (HBM_B m) HBM.SCRUB_PASS_COUNT + 1)).raise (HBM_B m) 2)))

/-- CHANNEL_FAIL of a stack in service records the channel, sets the page's FAULT with CHANNEL_FAIL (0x8202), and
marks the stack with cause 4 where it is not marked. MAPOUT_REQ and MAPOUT_RETRY set their bit on the stack's page and
change no other register and no byte of memory. HBM_WIPE_DONE at bring-up step 4 clears every byte of the stacks and
sets WIPED and READY on their pages. Rests on: R180, R182, R185, 05_memory.md. -/
def Obligations.StackFailuresAndMapOutRequests : Prop :=
  ∀ (s : State) (m c : Nat), s.power.off = false →
    (s.stackIn m = true → c < 32 → s.bit (HBM_B m) HBM.STACK_STAT_MARKED = false →
      ∃ v : State, v = (({ s with chanFail := zset s.chanFail (m * 32 + c) true }.put (HBM_B m) hSTAT_FAULT 1).recErr (HBM_B m) 17
          0x8202 pathHw c)
        ∧ Completes (.channelFail m c) s
          { (v.put (HBM_B m) HBM.STACK_STAT_MARKED 1).raise (HBM_B m) 3 with mapoutRec := zset s.mapoutRec m 4 })
    ∧ (m < 8 → s.diePresent (m / 2) = true →
      (∃ t, exec (.mapoutReq m) s = .next t ∧ t.bit (HBM_B m) HBM.MAPOUT_CTRL_REQ = true
        ∧ t.get (HBM_B m) HBM.MAPOUT_CTRL_RETRY = s.get (HBM_B m) HBM.MAPOUT_CTRL_RETRY
        ∧ SameRegsBut [HBM_B m + HBM.MAPOUT_CTRL_REQ.off] s t ∧ SameBytes s t ∧ SameParts s t)
      ∧ (∃ t, exec (.mapoutRetry m) s = .next t ∧ t.bit (HBM_B m) HBM.MAPOUT_CTRL_RETRY = true
        ∧ t.get (HBM_B m) HBM.MAPOUT_CTRL_REQ = s.get (HBM_B m) HBM.MAPOUT_CTRL_REQ
        ∧ SameRegsBut [HBM_B m + HBM.MAPOUT_CTRL_RETRY.off] s t ∧ SameBytes s t ∧ SameParts s t))
    ∧ (s.bringUp 4 = true →
      Completes .hbmWipeDone s
        ((List.range 8).foldl (fun s m => (s.put (HBM_B m) HBM.STACK_STAT_WIPED 1).put (HBM_B m) hSTAT_READY 1)
          (s.wipeMem 0 0x8000000000)))

/-- On a present die, with the Reeve running: LOAD takes the image area and begins loading, START arms the next phase
at NEXT_TIME (where that phase exists and no armed change is due), STOP halts the tiles and ends the job in STOPPED,
UNLOAD wipes the tiles and empties the job, each in the job states that accept it and without a bring-up hold; in
another state the command records 0x8301 with the command and the state and does nothing else. START of a phase the
image does not have records 0x8302. With the Reeve down a command is held. The access comes through a path that
reaches the registers: PCIe does not in D3hot (R454). Rests on: R211, R212, R216, R467, 06_contract.md. -/
def Obligations.JobCommandsFollowTheJobState : Prop :=
  ∀ (s : State) (path d : Nat), s.power.off = false → s.hears path = true → s.diePresent d = true →
    (s.reeve.down = false → s.bit POWER_B POWER.STATE_HOLD = false →
      (jobAccepts 0 s.jobState = true → Completes (.load path d) s s.jobLoad.msgSettle)
      ∧ (jobAccepts 1 s.jobState = true → s.get jobB DIE.NEXT_PHASE < s.job.img.phases.length → s.changeDue = false →
        Completes (.start path d) s (s.arm (s.get jobB DIE.NEXT_PHASE) (s.get64 jobB DIE.NEXT_TIME_LO_NS) false).msgSettle)
      ∧ (jobAccepts 1 s.jobState = true → s.job.img.phases.length ≤ s.get jobB DIE.NEXT_PHASE →
        Completes (.start path d) s
          (s.recErr (DIE_B d) 17 0x8302 path (s.get jobB DIE.NEXT_PHASE + s.job.img.phases.length * 16)).msgSettle)
      ∧ (jobAccepts 2 s.jobState = true →
        Completes (.stop path d) s ((s.haltAllMsg.reshardAbandon).jobEnds jsSTOPPED).msgSettle)
      ∧ (jobAccepts 3 s.jobState = true → Completes (.unload path d) s s.jobUnload.msgSettle))
    ∧ (s.reeve.down = false → ∀ x ∈ [(Instr.load path d, 0), (.start path d, 1), (.stop path d, 2), (.unload path d, 3)],
      jobAccepts x.2 s.jobState = false →
        Completes x.1 s (s.recErr (DIE_B d) 16 0x8301 path (2 ^ x.2 + s.jobState * 256)).msgSettle)
    ∧ (s.reeve.down = true → ∀ x ∈ [(Instr.load path d, 0), (.start path d, 1), (.stop path d, 2), (.unload path d, 3)],
      Completes x.1 s { s with reeve.held := s.reeve.held ++ [(path, DIE_B d + 0x40, 2 ^ x.2)] })

/-- LOAD_COMPLETE while LOADING, with the Reeve running and no stack of the image or of its contents holding accesses
back, accepts an image that passes every check and refuses one that fails with the check's finding. PHASE_CHANGE with
a change armed and due and no tile faulted starts the phase where no tile is late, waits where a tile is late and the
phase says to wait, and fails the job (1) where it does not; with a tile faulted the job fails (2). LATE_PHASE_START
starts the waiting phase once no tile is late but one that has faulted. A timed plan switch whose instant has come
fires before either. SCHEDULE_START resets the schedule counters and starts the tiles once the old schedule's flights
have landed. Rests on: R135, R212, R213, R217, R218, 06_contract.md. -/
def Obligations.LoadsAndPhaseChangesTakeEffect : Prop :=
  ∀ (s u v : State) (p t : Nat) (r : Refuse), s.power.off = false →
    (s.jobState = jsLOADING → s.reeve.down = false →
      s.memHeld s.imgAddr = false →
      (checkImage s.imgBytes.2 s.imgBytes.2.imgAddr s.imgBytes.2.imgLen s.imgBytes.1 = some r →
        Completes .loadComplete s (s.imgBytes.2.loadRefused r))
      ∧ (checkImage s.imgBytes.2 s.imgBytes.2.imgAddr s.imgBytes.2.imgLen s.imgBytes.1 = none →
        s.imgBytes.2.contentsHeld s.imgBytes.1 = false →
        Completes .loadComplete s (s.imgBytes.2.loadAccepted s.imgBytes.1)))
    ∧ (s.changeDue = true → u = s.fireSwitch → p = u.get jobB DIE.JOB_STAT_ARMED_PHASE → t = u.job.armT →
      v = (u.put jobB DIE.JOB_STAT_ARMED 0).put jobB DIE.JOB_STAT_AUTO 0 →
      ((v.tiles.any fun g => decide (v.tstate g = tsFAULTED)) = true → Completes .phaseChange s ((v.jobFails 2).haltAllMsg).msgSettle)
      ∧ ((v.tiles.any fun g => decide (v.tstate g = tsFAULTED)) = false →
        (v.lateTiles = [] → Completes .phaseChange s ((v.recordLate []).planAndStart p t).msgSettle)
        ∧ (v.lateTiles ≠ [] → ((v.recordLate v.lateTiles).phaseEnt p).flags / 2 % 2 = 1 →
          Completes .phaseChange s { v.recordLate v.lateTiles with job.late := some (p, t) }.msgSettle)
        ∧ (v.lateTiles ≠ [] → ((v.recordLate v.lateTiles).phaseEnt p).flags / 2 % 2 ≠ 1 →
          Completes .phaseChange s (((v.recordLate v.lateTiles).jobFails 1).haltAllMsg).msgSettle)))
    ∧ (s.job.late = some (p, t) → (∀ g ∈ s.lateTiles, s.tstate g = tsFAULTED) → s.jobState ≠ jsFAILED →
      Completes .latePhaseStart s (s.fireSwitch.lateStart p t).msgSettle)
    ∧ ((s.trigArmed 31 = true → s.reached (s.get64 TRIGGERS_B (trigF TRIGGERS.TIME_LO 31)) = true → s.fireSwitch = s.trigFire 31)
      ∧ ((s.trigArmed 31 = false ∨ s.reached (s.get64 TRIGGERS_B (trigF TRIGGERS.TIME_LO 31)) = false) → s.fireSwitch = s))
    ∧ (s.job.starting = true → (∀ f ∈ s.flights, f.sched = false) → Completes .scheduleStart s s.scheduleStart)

/-- RESHARD_DESC_DONE of a running descriptor whose work is done (a copy only while its page is not quiesced) and
whose stacks hold no access back completes it: DESC_DONE counts, and after the die's last one DONE is set with event
0. RESHARD_TIMEOUT of a running descriptor past its limit fails it with code 2. GOVERNOR_ESTIMATE of a present die
keeps the estimate with the 99 before it, reports it and the floor in GOV_P_EST and GOV_FLOOR, and asks for a stall
where the estimate exceeds the floor by more than the limit less two watts. Rests on: R115, R220, R221, R223,
03_tile.md, 06_contract.md. -/
def Obligations.ReshardAndGovernorRunBesideTheJob : Prop :=
  ∀ (s : State) (i d w : Nat), s.power.off = false →
    (s.rsRunning i = true → s.rsFinished i = true → s.rsHeld i = false →
      ((s.rsDesc i).kind ≠ 0 ∨ s.bit (RESHARD_B (s.rsDesc i).die) hCTRL_QUIESCE = false) →
      Completes (.reshardDescDone i) s (s.rsComplete i))
    ∧ (s.rsRunning i = true → s.rsLate i = true → Completes (.reshardTimeout i) s (s.reshardFails i 2))
    ∧ (s.diePresent d = true →
      ∃ t, exec (.governorEstimate d w) s = .next t
        ∧ zget t.mill.ests d = (w :: zget s.mill.ests d).take 100
        ∧ zget t.mill.stall d = decide ((zget s.mill.ests d).foldl min ((zget s.mill.ests d).headD w)
            + min 60 (max 1 (s.get MILLRACE_B MILLRACE.GOV_CTRL_LIMIT_W)) < w + 2)
        ∧ t.get MILLRACE_B (MILLRACE.GOV_P_EST.at d 4) = min w 65535
        ∧ t.get MILLRACE_B (MILLRACE.GOV_FLOOR.at d 4) = min ((zget s.mill.ests d).foldl min ((zget s.mill.ests d).headD w)) 65535
        ∧ SameRegsBut [MILLRACE_B + (MILLRACE.GOV_P_EST.at d 4).off, MILLRACE_B + (MILLRACE.GOV_FLOOR.at d 4).off] s t
        ∧ SameBytes s t ∧ t.tile = s.tile ∧ t.job = s.job ∧ t.flights = s.flights)

/-- RX_POST and RX_STREAM_DATA of a frame of their type whose payload fits, on an enabled port, with no earlier frame
of its path and virtual channel waiting and nothing that holds it: where the port's filter admits its slice the frame
is counted in FRAMES_IN and goes to the receiver; otherwise SLICE_DROP counts, PORT event 21 is raised and the buffer
is freed. A frame admitted that its engine in block reset or a stack holds back waits at the port, in order (log entry
296). CODEWORD_RECEIVE on a lane that is not OFF of an enabled port takes the codeword's 240 symbols into the lane's
stream, from a fresh alignment after a burst preamble. Rests on: R228, R232, R352, 07_messaging.md. -/
def Obligations.FramesArriveWherePortsRun : Prop :=
  ∀ (s : State) (p vc l : Nat) (f : MsgFrame) (w : List Nat), s.power.off = false → s.portOn p = true →
    (f.fits = true → ∀ x ∈ [(Instr.rxPost p f, 1, 1), (.rxStreamData p vc f, 2, vc)], f.typ = x.2.1 → x.2.2 < 2 →
      (s.plan.admits p f.slice = true → ((s.countIn p).msg.offers.any (Offer.onPair f.path x.2.2) || (s.countIn p).frameHeld x.2.2 f) = false →
        Completes x.1 s (((s.countIn p).rxFrame x.2.2 f).2.msgSettle))
      ∧ (s.plan.admits p f.slice = true → ((s.countIn p).msg.offers.any (Offer.onPair f.path x.2.2) || (s.countIn p).frameHeld x.2.2 f) = true →
        Completes x.1 s ((s.countIn p).offer (.frame p x.2.2 f.slice f)).msgSettle)
      ∧ (s.plan.admits p f.slice = false → Completes x.1 s
        ((((s.inc (XRDS_B + 0x4000) (XRDS_FREE.SLICE_DROP_COUNT.at p 4)).raise (PORT_B p) 21).freeBuffer f.path x.2.2).msgSettle)))
    ∧ (l < 9 → s.rxSt p l ≠ lnOFF → w.length = 240 → (∀ x ∈ w, x < 1024) →
      Completes (.codewordReceive p l 0 w) s (s.codewordIn p l w)
      ∧ Completes (.codewordReceive p l 1 w) s (((s.setAlign p l (0, 0, 0)).setAlign p l (4, 0, 0)).codewordIn p l w))

/-- On an outbound path and VC 0 or 1: ACK retires every sent frame up to its sequence number and tells each one's
operation; NACK of a frame in the list takes it out and refuses its operation with the code; RESYNC that answers the
pair's request sets its credits; ACK_TIMEOUT on a path that serves marks the frames to be sent again and asks for a
resync while the retries are below the limit, and fails their operations with NO_ACK (0x22) at the limit; PATH_DOWN on
a path that no longer serves fails what waits on it. POST_RETRY ends an operation's back-off. Rests on: R227, R231,
R243, R245, R259, 07_messaging.md. -/
def Obligations.AcknowledgementsRetireFrames : Prop :=
  ∀ (s : State) (path vc epoch seq code no free hold id : Nat) (r : Rep) (o : MOp), s.power.off = false →
    (s.outPath path = true → vc < 2 →
      Completes (.ack path vc epoch seq hold) s ((s.countReturn path).ackIn path vc epoch seq (decide (hold % 2 = 1))).msgSettle)
    ∧ (s.outPath path = true → vc < 2 →
      ((s.pair path vc).replay.find? fun r => r.frame.seq = seq) = some r →
      Completes (.nack path vc epoch seq code) s ((s.countReturn path).nackIn path vc epoch seq code).msgSettle)
    ∧ (s.outPath path = true → vc < 2 → (s.pair path vc).resync = some no →
      Completes (.resync path vc no free) s
        ((s.countReturn path).setPair path vc
          { s.pair path vc with credits := free, resync := none }).msgSettle)
    ∧ (s.outPath path = true → vc < 2 → s.pathServes path = true → (s.pair path vc).replay ≠ [] →
      (s.pair path vc).timeouts < max 1 (s.get MSG_B MSG.RETRY_LIMIT_COUNT) →
      Completes (.ackTimeout path vc) s
        ((s.setPair path vc { s.pair path vc with
            timeouts := (s.pair path vc).timeouts + 1
            replay := (s.pair path vc).replay.map fun r => { r with sent := false } }).resyncAsk path vc).msgSettle)
    ∧ (s.outPath path = true → vc < 2 → s.pathServes path = true → (s.pair path vc).replay ≠ [] →
      max 1 (s.get MSG_B MSG.RETRY_LIMIT_COUNT) ≤ (s.pair path vc).timeouts →
      Completes (.ackTimeout path vc) s
        ((((s.pair path vc).replay.map Rep.op).eraseDups).foldl (fun s id => s.failMop id 0x22)
          (s.setPair path vc { s.pair path vc with timeouts := 0, replay := [], reset := true })).msgSettle)
    ∧ (s.outPath path = true → s.pathServes path = false → Completes (.pathDown path) s (s.pathDown path).msgSettle)
    ∧ (s.mop id = some o → o.backoff = true → Completes (.postRetry id) s (s.setMop { o with backoff := false }).msgSettle)

/-- RESYNC_REQ of an inbound path's lane is kept under its number and answered once every lane in service has asked;
NOTIFY_RETRY tries the held notify again; HOLD_ACK_REPEAT repeats the acknowledgement of a pair that holds; RX_DISCARD
drops a receive record that is not held, counts it and raises event 4; STREAM_SLOT_GRANT frees the slots that leave; a
control word from a return path with a lane in service returns its credits to the path it names and carries RX_OK; and
CONTROL_WORD_SEND sends a codeword, on the first lane launched towards the return path, whose control word returns the
credits the receiver owes. Rests on: R231, R237, R243, R258, R259, R315, 07_messaging.md, 09_optics.md. -/
def Obligations.ReceiversHoldAnswerAndResync : Prop :=
  ∀ (s : State) (path vc l no k d credits rxok : Nat) (f : MsgFrame) (r : RxRec) (e back : PathEnt), s.power.off = false →
    (vc < 2 → l < 9 → s.plan.path true path = some e →
      Completes (.resyncReq path vc l no) s ((s.countPath path).resyncReqIn path vc l no))
    ∧ (vc < 2 → (s.rpair path vc).held = some f → Completes (.notifyRetry path vc) s (s.notifyRetry path vc).msgSettle)
    ∧ (vc < 2 → (s.rpair path vc).held = some f →
      Completes (.holdAckRepeat path vc) s (s.sendControl ctACK vc path ((f.seq + 2 ^ 32 - 1) % 2 ^ 32) 0 1 0))
    ∧ (s.msg.rx[k]? = some r → r.held = false →
      Completes (.rxDiscard k) s
        (({ s with msg.rx := s.msg.rx.eraseIdx k }.mcount r.die mcRX_DISCARD).raise (MENG_B r.die) 4))
    ∧ (s.diePresent d = true →
      Completes (.streamSlotGrant d) s { s with msg.leaving := s.msg.leaving.filter fun x => decide (x.1 ≠ d) }.msgSettle)
    ∧ (vc < 2 → s.plan.path false path = some e → s.returnLanes e ≠ [] →
      Completes (.controlWordReceive path vc credits rxok) s
        (((s.setPair path vc { s.pair path vc with credits := (s.pair path vc).credits + credits % 4096 }).rxOkIn e rxok).msgSettle))
    ∧ (vc < 2 → s.plan.path true path = some e → s.plan.path false e.ret = some back → (s.launched back).head? = some l →
      Completes (.controlWordSend path vc) s
        ((s.setRpair path vc { s.rpair path vc with pend := (s.rpair path vc).pend - min (s.rpair path vc).pend 4095 }).sendCodeword
          back.port l 0 [] path vc (min (s.rpair path vc).pend 4095) (s.rxOkOut e)))

/-- On a present die: QUEUE_CREATE of a free queue of the die, with LOG2_CAP from 4 to 24 and good areas for the ring
and the index, makes it empty with the owner's epoch, clears its index block and reports 0; of a queue that exists it
reports 1, and changes no queue. QUEUE_READ shows an existing queue, QUEUE_DESTROY removes it; of none, both report 2.
DOORBELL reads the consumer index of a queue of the die; SESS_INV forgets the walker's entries; PEER_FLUSH empties the
peer table. ARRIVAL_READ and FAIL_A_READ answer the oldest entry and take it. All of this where the engine is in no
block reset, no queue command waits and no stack holds the queue's memory back; an engine in block reset holds a queue
command, and a queue whose descriptor holds an uncorrectable error is broken at its use, with STATE_UNCORRECTABLE
(0x0020). Rests on: R239, R240, R246, R253, R265, R268, 07_messaging.md. -/
def Obligations.QueueCommandsActOnTheirQueue : Prop :=
  ∀ (s : State) (d q : Nat) (x : QDesc), s.power.off = false → s.diePresent d = true → q < 2 ^ 18 → queueDie q = d →
    (s.engineResets d = true → Completes (.queueCreate d q) s (s.offer (.queueCmd d 1 q))
      ∧ Completes (.queueRead d q) s (s.offer (.queueCmd d 0 q)) ∧ Completes (.queueDestroy d q) s (s.offer (.queueCmd d 2 q))
      ∧ Completes (.doorbell d q) s (s.offer (.doorbell d q)))
    ∧ (s.engineResets d = false → s.bit (MENG_B d) MENG.QCMD_STAT_BUSY = false →
      s.memHeld (s.get64 (MENG_B d) MENG.QARG_INDEX_LO_ADDR % 2 ^ 40) = false → s.queueAt q = none → 4 ≤ s.get (MENG_B d) MENG.QARG_CFG_LOG2_CAP → s.get (MENG_B d) MENG.QARG_CFG_LOG2_CAP ≤ 24 →
      s.bit (MENG_B d) MENG.QARG_CFG_ENTRY_256 = false →
      s.goodArea (s.get64 (MENG_B d) MENG.QARG_RING_LO_ADDR % 2 ^ 40) (2 ^ s.get (MENG_B d) MENG.QARG_CFG_LOG2_CAP * 64) = true →
      s.goodArea (s.get64 (MENG_B d) MENG.QARG_INDEX_LO_ADDR % 2 ^ 40) 128 = true →
      Completes (.queueCreate d q) s
        (((s.setQueueAt q (some ⟨s.get64 (MENG_B d) MENG.QARG_RING_LO_ADDR % 2 ^ 40, s.get (MENG_B d) MENG.QARG_CFG_LOG2_CAP, false,
          s.bit (MENG_B d) MENG.QARG_CFG_IRQ, false, false, s.get64 (MENG_B d) MENG.QARG_INDEX_LO_ADDR % 2 ^ 40,
          s.get (MENG_B d) MENG.QARG_CFG_SLICE, s.ownEpoch, 0, 0, 0, false⟩)).writeRange
          (s.get64 (MENG_B d) MENG.QARG_INDEX_LO_ADDR % 2 ^ 40) (withPoison false (List.replicate 128 0))).qcmdError d 0))
    ∧ (s.engineResets d = false → s.bit (MENG_B d) MENG.QCMD_STAT_BUSY = false →
      s.memHeld (s.get64 (MENG_B d) MENG.QARG_INDEX_LO_ADDR % 2 ^ 40) = false → s.queueHeld q = false → s.queueAt q = some x →
      x.upset = false → Completes (.queueCreate d q) s (s.qcmdError d 1)
      ∧ Completes (.queueDestroy d q) s ((s.setQueueAt q none).qcmdError d 0)
      ∧ Completes (.queueRead d q) s
        (((((((s.put (MENG_B d) MENG.QRD_POSTED_VALUE x.posted).put (MENG_B d) MENG.QRD_CONSUMED_VALUE x.consumed).put (MENG_B d)
          MENG.QRD_EPOCH_VALUE x.epoch).put (MENG_B d) MENG.QRD_STAT_FLAGS x.flags).put (MENG_B d) MENG.QRD_STAT_LOG2_CAP
          x.log2).put (MENG_B d) MENG.QRD_STAT_FULL_NACKS (min x.fullNacks 65535)).qcmdError d 0)
      ∧ Completes (.doorbell d q) s (s.readConsumer q))
    ∧ (s.engineResets d = false → s.queueHeld q = false → s.queueAt q = some x → x.upset = true →
      Completes (.doorbell d q) s
        (((s.setQueueAt q (some { x with upset := false, broken := true })).recErr (MENG_B d) 2 0x0020 pathHw q).readConsumer q))
    ∧ (s.engineResets d = false → s.bit (MENG_B d) MENG.QCMD_STAT_BUSY = false → s.queueAt q = none →
      Completes (.queueRead d q) s (s.qcmdError d 2) ∧ Completes (.queueDestroy d q) s (s.qcmdError d 2))
    ∧ (s.engineResets d = false →
      Completes (.sessInv d) s { s with msg.walk := mdrop (d * 1024) ((d + 1) * 1024) s.msg.walk })
    ∧ Completes .peerFlush s { s with msg.peers := [] }
    ∧ (∃ t v, exec (.arrivalRead d) s = .next t ∧ t.out = s.out ++ [(.read, [v])]
      ∧ v = (if zget s.msg.arrLost d then 2 ^ 30 else 0) + (match zget s.msg.arrivals d with
        | n :: _ => n % 2 ^ 18 + 2 ^ 31
        | [] => 0)
      ∧ zget t.msg.arrivals d = (zget s.msg.arrivals d).tail ∧ zget t.msg.arrLost d = false ∧ SameRegsBut [] s t ∧ SameBytes s t)
    ∧ Completes (.failARead d) s ((s.failRead d).2.emit .read [(s.failRead d).1])

/-- INC_WRITE stores an increment within 500 ppm of 2.5 ns, and stores the nearer limit with event INC_CLAMP beyond
it. STEP_GO of 1 requests the step and STEP_APPLY applies it at a tick: the clock becomes the clock plus the increment
plus the step, and GO clears. A tick without a step adds the increment to the clock and 2.5 ns to the uptime.
TIME_NOW_READ answers the clock's low nanoseconds and captures NOW_HI and NOW_FRAC of the same tick for the path. The
access comes through a path that reaches the registers: PCIe does not in D3hot (R454). Rests on: R271, R275, R276,
R278, R279, 08_time.md. -/
def Obligations.ClockWritesTrimAndStepTheClock : Prop :=
  ∀ (s : State) (path ns frac : Nat) (v : Word), s.power.off = false → s.hears path = true →
    (2 * 2 ^ 32 + 0x7FAE147B ≤ ns % 256 * 2 ^ 32 + frac % 2 ^ 32 → ns % 256 * 2 ^ 32 + frac % 2 ^ 32 ≤ 2 * 2 ^ 32 + 0x8051EB85 →
      ∃ t, exec (.incWrite ns frac) s = .next t ∧ t.inc400 = ns % 256 * 2 ^ 32 + frac % 2 ^ 32
        ∧ SameRegsBut [TIME_B + 0x5C, TIME_B + 0x60] s t ∧ SameBytes s t ∧ SameParts s t)
    ∧ (ns % 256 * 2 ^ 32 + frac % 2 ^ 32 < 2 * 2 ^ 32 + 0x7FAE147B →
      ∃ t, exec (.incWrite ns frac) s = .next t ∧ t.inc400 = 2 * 2 ^ 32 + 0x7FAE147B ∧ t.bit TIME_B (bitF 0x14 6) = true
        ∧ SameRegsBut [TIME_B + 0x14, TIME_B + 0x5C, TIME_B + 0x60] s t ∧ SameBytes s t ∧ SameParts s t)
    ∧ (2 * 2 ^ 32 + 0x8051EB85 < ns % 256 * 2 ^ 32 + frac % 2 ^ 32 →
      ∃ t, exec (.incWrite ns frac) s = .next t ∧ t.inc400 = 2 * 2 ^ 32 + 0x8051EB85 ∧ t.bit TIME_B (bitF 0x14 6) = true
        ∧ SameRegsBut [TIME_B + 0x14, TIME_B + 0x5C, TIME_B + 0x60] s t ∧ SameBytes s t ∧ SameParts s t)
    ∧ (v.getLsbD 0 = true → Completes (.stepGo v) s (s.put TIME_B TIME.STEP_CTRL_GO 1))
    ∧ (s.bit TIME_B TIME.STEP_CTRL_GO = true →
      Completes .stepApply s s.tick.drainCheck
      ∧ s.tick.time.clock = ((Int.ofNat (s.time.clock + s.inc400) + s.stepVal) % 2 ^ 96).toNat)
    ∧ (s.bit TIME_B TIME.STEP_CTRL_GO = false →
      s.tick.time.clock = (s.time.clock + s.inc400) % 2 ^ 96 ∧ s.tick.time.up = s.time.up + 5)
    ∧ (∃ t, exec (.timeNowRead path) s = .next t ∧ t.out = s.out ++ [(.read, [s.time.clock / 2 ^ 32 % 2 ^ 32])]
      ∧ zget t.shadow (pkey path (TIME_B + 0x4C)) = some (BitVec.ofNat 32 (s.time.clock / 2 ^ 64))
      ∧ zget t.shadow (pkey path (TIME_B + 0x50)) = some (BitVec.ofNat 32 s.time.clock)
      ∧ SameRegsBut [] s t ∧ SameBytes s t ∧ SameParts s t)

/-- SRC_WRITE stores the selection, forgets the servo's history and starts it, FREE for source 0 and ACQUIRING for the
others. A PPS pulse that its unit takes, at least 0.9 s after the last one (no earlier pulse counts), is captured with
its time and marks PPS_OK, raises PPS_RESTORED after a loss, and steers the servo where PPS is the source; one that
comes sooner is counted as ignored. PPS_LOST counts the loss with event 0, and SYNC_LOSS of a network source sends the
servo to holdover. Rests on: R279, R280, R281, R295, 08_time.md. -/
def Obligations.TimeSourcesComeAndGo : Prop :=
  ∀ (s : State) (v : Word) (rising merged half : Nat), s.power.off = false →
    Completes (.srcWrite v) s
      (let t := { s.wr (TIME_B + 0x40) (v &&& 0x10007) with time.good := 0, time.incs := [], time.srcLost := false, time.ztSync := none, time.ptpMaster := [], time.ptpSync := [] }
       t.setServo (if t.timeSrc = 0 then svFREE else svACQUIRING))
    ∧ (s.capTakes 0 (decide (rising % 2 = 1)) = true → (∀ t, s.time.lastPps = some t →
      t + 3600000000 ≤ 2 * s.time.up + (if half = 0 then 0 else 5)) →
      ∃ u v : State, u = { s.capture 0 half (decide (rising % 2 = 1)) (decide (merged % 2 = 1)) with
            time.lastPps := some (2 * s.time.up + (if half = 0 then 0 else 5)) }.put TIME_B TIME.STAT_PPS_OK 1
        ∧ v = (if s.time.ppsLost then { u.raiseAlways TIME_B 1 with time.ppsLost := false } else u)
        ∧ (s.timeSrc ≠ 1 → Completes (.ppsPulse rising merged half) s v)
        ∧ (s.timeSrc = 1 → Completes (.ppsPulse rising merged half) s
          (v.servoSample ((Int.ofNat ((s.stamp half / nsU + 500000000) % 1000000000) - 500000000) * Int.ofNat nsU
            + Int.ofNat (s.stamp half % nsU)))))
    ∧ (∀ t, s.capTakes 0 (decide (rising % 2 = 1)) = true → s.time.lastPps = some t →
      2 * s.time.up + (if half = 0 then 0 else 5) < t + 3600000000 →
      Completes (.ppsPulse rising merged half) s (s.inc TIME_B TIME.PPS_IGNORED_COUNT))
    ∧ (s.time.ppsLost = false → s.timeSrc ≠ 1 →
      ∃ t, exec .ppsLost s = .next t ∧ t.time.ppsLost = true ∧ t.bit TIME_B TIME.STAT_PPS_OK = false
        ∧ t.bit TIME_B (bitF 0x14 0) = true ∧ SameBytes s t)
    ∧ (s.time.ppsLost = false → s.timeSrc = 1 →
      ∃ u : State, u = (({ s with time.ppsLost := true }.put TIME_B TIME.STAT_PPS_OK 0).inc TIME_B TIME.PPS_LOSSES_COUNT).raiseAlways
          TIME_B 0
        ∧ Completes .ppsLost s u.sourceLost)
    ∧ (2 ≤ s.timeSrc → Completes .syncLoss s s.sourceLost)

/-- ZT_SYNC_SEND on a path whose port is a master and serves sends the next sequence number with the send time.
ZT_SYNC_RX on the slave path keeps sequence, t1 and t2; ZT_DREQ_SEND answers it with t3 on the return path; ZT_DREQ_RX
at a master sends DRESP with the arrival time; ZT_DRESP_RX of the same sequence on the slave path gives the servo the
offset, half the difference of the two directions less the asymmetry, where the Zynen source is selected. Rests on:
R284, R285, 08_time.md. -/
def Obligations.TimeFramesCarryTimestamps : Prop :=
  ∀ (s : State) (path p q seq reply ns frac n t1 t2 t3 : Nat), s.power.off = false →
    (s.ztPort path = some p → s.ztMaster p = true →
      Completes (.ztSyncSend path) s
        ({ s with time.ztSeq := zset s.time.ztSeq path ((zget s.time.ztSeq path + 1) % 2 ^ 32) }.ztOut 0x40 path (zget s.time.ztSeq path)
          (s.tsOut p) 0))
    ∧ (s.on TIME_B = true → p < 36 → path = s.get TIME_B TIME.ZT_SLAVE_PATH →
      ∃ u : State, u = { s.countIn p with time.ztSync := some (seq, tsOf ns frac, s.tsIn p, none) }
        ∧ (s.timeSrc = 4 → Completes (.ztSyncRx p path seq ns frac) s u.sourceBack)
        ∧ (s.timeSrc ≠ 4 → Completes (.ztSyncRx p path seq ns frac) s u))
    ∧ (s.time.ztSync = some (seq, t1, t2, none) → s.ztPort (s.get TIME_B TIME.ZT_SLAVE_RPATH) = some p →
      Completes .ztDreqSend s
        ({ s with time.ztSync := some (seq, t1, t2, some (s.tsOut p)) }.ztOut 0x41 (s.get TIME_B TIME.ZT_SLAVE_RPATH) seq (s.tsOut p)
          (s.get TIME_B TIME.ZT_SLAVE_PATH)))
    ∧ (s.ztPort reply = some q → p < 36 → s.ztMaster q = true →
      Completes (.ztDreqRx p seq reply) s ((s.countIn p).ztOut 0x42 reply seq (s.tsIn p) 0))
    ∧ (s.time.ztSync = some (n, t1, t2, some t3) → s.on TIME_B = true → path = s.get TIME_B TIME.ZT_SLAVE_PATH →
      ∃ u : State, u = { s.countPath path with time.ztSync := none }
        ∧ (s.timeSrc = 4 → Completes (.ztDrespRx path n ns frac) s
          (u.servoSample (clockDiff t2 t1 - (clockDiff t2 t1 + clockDiff (tsOf ns frac) t3) / 2 - u.ztAsym)))
        ∧ (s.timeSrc ≠ 4 → Completes (.ztDrespRx path n ns frac) s u))

/-- A management port's frames come and go while its link is up, and each is counted. On a port in the master role
PTP_SYNC_TX sends the send time and PTP_ANNOUNCE_TX the priority, and PTP_DELAY_REQ_RX of its domain is answered with
the arrival time. On a port in the slave role PTP_SYNC_RX of its domain, from the master it follows or from the first
it hears, keeps t1, t2 and t3, sends Delay_Req, and ends a loss of the source where the port is the source, and
PTP_DELAY_RESP_RX from that master gives the servo half the difference where the port is the source. Rests on: R286,
08_time.md. -/
def Obligations.ManagementPortsSpeakPtp : Prop :=
  ∀ (s r : State) (n ty id t dom master slave ns frac t1 t2 t3 : Nat), s.power.off = false →
    (s.ptpRole n = 2 →
      Completes (.ptpSyncTx n) s (s.ptpOut n 0 0 (s.tsOut (36 + n))) ∧ Completes (.ptpAnnounceTx n) s (s.ptpOut n 11 248 0))
    ∧ ((s.mgmtUp n = false → s.ptpOut n ty id t = s)
      ∧ (s.mgmtUp n = true → ∃ l, s.ptpOut n ty id t = (s.inc (MGMT_B n) MGMT.TX_FRAMES).emit .ptpFrame
        (n :: ty :: s.get TIME_B TIME.PTP_CTRL_DOMAIN :: id :: t / nsU / 1000000000 :: t / nsU % 1000000000 :: l)))
    ∧ (s.mgmtUp n = false → ∀ x ∈ [Instr.ptpDelayReqRx n dom slave, .ptpSyncRx n dom master ns frac, .ptpDelayRespRx n dom master ns frac],
      Completes x s s)
    ∧ (s.mgmtUp n = true → r = s.inc (MGMT_B n) MGMT.RX_FRAMES → dom = r.get TIME_B TIME.PTP_CTRL_DOMAIN →
      (r.ptpRole n = 2 → Completes (.ptpDelayReqRx n dom slave) s (r.ptpOut n 9 slave (r.tsIn (36 + n))))
      ∧ (r.ptpRole n = 1 → (zget r.time.ptpMaster n = none ∨ zget r.time.ptpMaster n = some master) →
        ∀ u : State, u = { r with
            time.ptpMaster := zset r.time.ptpMaster n (some master),
            time.ptpSync := zset r.time.ptpSync n (some (tsOf ns frac % 2 ^ 96, r.tsIn (36 + n), r.tsOut (36 + n))) } →
          (r.timeSrc ≠ 2 + n → Completes (.ptpSyncRx n dom master ns frac) s (u.ptpOut n 1 master (r.tsOut (36 + n))))
          ∧ (r.timeSrc = 2 + n → Completes (.ptpSyncRx n dom master ns frac) s (u.sourceBack.ptpOut n 1 master (r.tsOut (36 + n)))))
      ∧ (r.ptpRole n = 1 → zget r.time.ptpMaster n = some master → zget r.time.ptpSync n = some (t1, t2, t3) →
        ∃ u : State, u = { r with time.ptpSync := zset r.time.ptpSync n none }
          ∧ (r.timeSrc = 2 + n → Completes (.ptpDelayRespRx n dom master ns frac) s
            (u.servoSample ((clockDiff t2 t1 - clockDiff (tsOf ns frac % 2 ^ 96) t3) / 2)))
          ∧ (r.timeSrc ≠ 2 + n → Completes (.ptpDelayRespRx n dom master ns frac) s u)))

/-- CAPTURE_EDGE of unit 1 or 2 that its enables take stamps the edge while the FIFO holds fewer than 16, with event
CAPTURE, and sets its overflow bit when full. CAP_TS_READ answers the oldest stamp and takes it. TRIGGER_CTRL_WRITE of
units 0-30 writes the bits of an unarmed unit, and arms it on an enabled page; unit 31 is reserved. TRIGGER_FIRE fires
an armed unit whose instant has come, on an enabled page or for unit 31. PPS_OUT_END ends the pulse. The access comes
through a path that reaches the registers: PCIe does not in D3hot (R454). Rests on: R287, R288, R289, R290, R291,
08_time.md. -/
def Obligations.CapturesAndTriggersMarkInstants : Prop :=
  ∀ (s : State) (c u path half rising merged : Nat) (v : Word), s.power.off = false → s.hears path = true →
    ((c = 1 ∨ c = 2) → s.capTakes c (decide (rising % 2 = 1)) = true → (zget s.time.caps c).length < 16 →
      Completes (.captureEdge c half rising merged) s
        (({ s with
            time.caps := zset s.time.caps c (zget s.time.caps c ++ [Stamp.mk (s.stamp half) (decide (rising % 2 = 1)) (decide (merged % 2 = 1))]) }.put TIME_B
          (TIME.CAP_STAT_DEPTH.at c 0x20) ((zget s.time.caps c).length + 1)).raiseAlways TIME_B 7))
    ∧ ((c = 1 ∨ c = 2) → s.capTakes c (decide (rising % 2 = 1)) = true → 16 ≤ (zget s.time.caps c).length →
      Completes (.captureEdge c half rising merged) s (s.put TIME_B (TIME.CAP_STAT_FIFO_OVF.at c 0x20) 1))
    ∧ (c < 3 → ∃ t, exec (.capTsRead c) s = .next t ∧ zget t.time.caps c = (zget s.time.caps c).tail
      ∧ t.out = s.out ++ [(.read, [match zget s.time.caps c with | [] => 0 | x :: _ => x.clock / 2 ^ 32 % 2 ^ 32])]
      ∧ SameRegsBut [TIME_B + 0x284 + 0x20 * c, TIME_B + 0x28C + 0x20 * c, TIME_B + 0x290 + 0x20 * c] s t ∧ SameBytes s t)
    ∧ (u < 31 → s.trigArmed u = false → v.getLsbD 0 = false → Completes (.triggerCtrlWrite path u v) s (s.trigBits u v))
    ∧ (u < 31 → s.trigArmed u = false → v.getLsbD 0 = true → s.on TRIGGERS_B = true →
      Completes (.triggerCtrlWrite path u v) s ((s.trigBits u v).setArm u 1))
    ∧ Completes (.triggerCtrlWrite path 31 v) s (s.trigReserved path)
    ∧ (u < 32 → s.trigArmed u = true → s.reached (s.get64 TRIGGERS_B (trigF TRIGGERS.TIME_LO u)) = true → (s.on TRIGGERS_B = true ∨ u = 31) →
      Completes (.triggerFire u) s (s.trigFire u).msgSettle)
    ∧ (s.time.ppsOut = true →
      Completes .ppsOutEnd s
        ({ s with time.ppsOut := false }.emit .pin [pinPPS, if s.bit TRIGGERS_B TRIGGERS.PPS_CTRL_OE then 0 else 2]))

/-- COMB_ARM on an enabled page with LASER_EN stable, outside the hold state, starts WARMING from WAIT_ARM, and is
refused with 0x8902 otherwise; COMB_TEC_SETTLED goes from WARMING to LOCKING; COMB_LOCKED from LOCKING or HOLDOVER to
LOCKED with event 0; COMB_LOCK_LOST from LOCKED to HOLDOVER, counted, with event 1; COMB_FAIL to FAULT with 0x8901.
LASER_EN_DROP puts both combs out; LASER_EN_STABLE marks it stable and arms deferred combs. CONTROLLER faults the
engine, stops its comb and parks it. The access comes through a path that reaches the registers: PCIe does not in
D3hot (R454). Rests on: R302, R304, R332, R336, R338, 09_optics.md. -/
def Obligations.CombsFollowTheLaserInterlock : Prop :=
  ∀ (s : State) (path e which : Nat), s.power.off = false → s.hears path = true →
    (e < 2 →
      (s.bit (COMB_B e) COMB.STAT_EN_STABLE = true → s.on (COMB_B e) = true → s.bit POWER_B POWER.STATE_HOLD = false →
        s.combSt e = cbWAIT_ARM → Completes (.combArm path e) s (s.setComb e cbWARMING).msgSettle)
      ∧ ((s.bit (COMB_B e) COMB.STAT_EN_STABLE = false ∨ s.on (COMB_B e) = false ∨ s.bit POWER_B POWER.STATE_HOLD = true) → Completes (.combArm path e) s (s.recErrX (COMB_B e) 17 0x8902 path).msgSettle)
      ∧ (s.combSt e = cbWARMING → Completes (.combTecSettled e) s ((s.put (COMB_B e) COMB.STAT_TEC_OK 1).setComb e cbLOCKING))
      ∧ ((s.combSt e = cbLOCKING ∨ s.combSt e = cbHOLDOVER) →
        Completes (.combLocked e) s
          ((((((s.put (COMB_B e) COMB.STAT_SPACING_LOCK 1).put (COMB_B e) COMB.STAT_OFFSET_LOCK 1).setComb e cbLOCKED).raise
            (COMB_B e) 0).deferredCal).msgSettle))
      ∧ (∀ u : State, u = (if which = 0 then s.put (COMB_B e) COMB.STAT_SPACING_LOCK 0 else s.put (COMB_B e) COMB.STAT_OFFSET_LOCK 0) →
        s.combSt e = cbLOCKED →
        Completes (.combLockLost e which) s
          ((((u.setComb e cbHOLDOVER).inc (COMB_B e) COMB.DROPS_LOCK_LOSSES).raise (COMB_B e) 1).msgSettle))
      ∧ Completes (.combFail e) s
        (((((s.setComb e cbFAULT).put (COMB_B e) hSTAT_FAULT 1).recErrX (COMB_B e) 16 0x8901 pathHw).deferredCal).msgSettle)
      ∧ ∃ u : State, u = ((s.put (ENGINE_B e) hSTAT_FAULT 1).recErrX (ENGINE_B e) 17 0x8802 pathHw)
        ∧ (s.combArmed e = true → Completes (.controller e) s (((u.setComb e cbWAIT_ARM).engineApply e).msgSettle))
        ∧ (s.combArmed e = false → Completes (.controller e) s ((u.engineApply e).msgSettle)))
    ∧ Completes .laserEnDrop s s.laserDrop.msgSettle
    ∧ Completes .laserEnStable s
      ((List.range 2).foldl (fun s e => s.put (COMB_B e) COMB.STAT_EN_STABLE 1) (s.setPin 147 true)).deferredArm

/-- TONE_CHECK_DONE that finds the planned line with tones on marks the lane TONE_OK and lets it try service (receive)
or launch (transmit); another line clears TONE_OK, sends the transmit lane to RELOCK with LINE_MISMATCH and event 7,
and its slot settles again at its next frame. ERROR_CHECK_DONE of a CHECKING lane hands its counts, bit error rate and
power to the error check, and of a serving lane to the check in service. LANE_LEAVE_SERVICE of a serving lane sends it
to RELOCK with the cause, and its running slot settles again; a hardware cause fails its ring. Rests on: R303, R321,
R322, R323, R327, 09_optics.md. -/
def Obligations.LaneChecksDecideService : Prop :=
  ∀ (s : State) (p l k uncorr ber power cause : Nat), s.power.off = false → p < 36 → l < 9 →
    (s.ringLine (rxRing p l) = some k → s.bit (COMB_B (portEngine p)) COMB.CTRL_TONE_EN = true →
      (s.checked p l 0 true).bit (PORT_B p) (laneF PORT.LSTAT_TONE_OK l) = true
      ∧ Completes (.toneCheckDone p l 1 k) s (((s.checked p l 0 true).tryRxService p l).msgSettle))
    ∧ (s.ringLine (txRing p l) = some k → s.bit (COMB_B (portEngine p)) COMB.CTRL_TONE_EN = true →
      Completes (.toneCheckDone p l 0 k) s
        ((({ s.put (PORT_B p) (laneF PORT.LSTAT_TONE_OK l) 1 with opt.txTone := zset s.opt.txTone (txRing p l) true }.reparked p
          l).tryLaunch p l).msgSettle))
    ∧ (s.ringLine (txRing p l) ≠ some k →
      ∃ u : State, u = ((s.put (PORT_B p) (laneF PORT.LSTAT_TONE_OK l) 0).raise (PORT_B p) 7).laneRelock (txRing p l) fcLINE_MISMATCH
        ∧ Completes (.toneCheckDone p l 0 k) s (if u.slotRuns (txRing p l) then
            u.modSlot (txRing p l) fun x => { x with resettle := true } else u).msgSettle)
    ∧ (s.rxSt p l = lnCHECKING →
      Completes (.errorCheckDone p l uncorr ber power) s ((s.errorCheck p l uncorr ber (signed 16 power)).msgSettle))
    ∧ (serving (s.rxSt p l) = true →
      Completes (.errorCheckDone p l uncorr ber power) s ((s.serviceCheck p l uncorr ber (signed 16 power)).msgSettle))
    ∧ (serving (s.rxSt p l) = true → cause ≠ fcHARDWARE → cause ≠ fcLINE_MISMATCH →
      ∃ u : State, u = s.rxLeave p l lnRELOCK cause
        ∧ Completes (.laneLeaveService p l cause) s (if u.slotRuns (rxRing p l) then u.slotSettle (rxRing p l) else u).msgSettle)
    ∧ (serving (s.rxSt p l) = true →
      Completes (.laneLeaveService p l fcHARDWARE) s (s.ringHwFail (rxRing p l)).msgSettle)

/-- On a running port: PROBE_PULSE, while dark with the comb good, sends a pulse on the first lane that adds at the
port, of its own or of its group's ports; LIGHT marks RX_LIGHT, clears OPEN_FIBRE, raises event 4 where the port was
dark, and launches; OPEN_FIBRE on a port that had light and is not lit at drain, and LOOPBACK_TIMEOUT of a dark
loopback port, clear RX_LIGHT, set and count OPEN_FIBRE, raise event 3 and park the port. Whether the port is enabled
or not, LAUNCH_LIMIT trips, counts, parks the lanes aimed at the port and keeps them as tripped. RELAUNCH clears the
trip and launches the port and those lanes again. Rests on: R328, R329, R330, R331, 09_optics.md. -/
def Obligations.LightAtAPortStartsAndStopsItsLaunch : Prop :=
  ∀ (s : State) (p q l : Nat), s.power.off = false →
    (s.portOn p = true →
      (s.bit (PORT_B p) PORT.STAT_RX_LIGHT = false → s.combGood (portEngine p) = true →
        (((p :: (List.range 3).map (p / 3 * 3 + ·)).flatMap fun n => (List.range 9).map fun k => (n, k)).find? fun x =>
          s.addsAt p x.1 x.2) = some (q, l) →
        Completes (.probePulse p) s (s.emit .probe [p, q, l]))
      ∧ (s.bit (PORT_B p) PORT.STAT_RX_LIGHT = false →
        Completes (.light p) s
          ((((((s.put (PORT_B p) PORT.STAT_RX_LIGHT 1).put (PORT_B p) PORT.STAT_OPEN_FIBRE 0).raise (PORT_B p) 4).extraUpdate
            p).launchAll p).msgSettle))
      ∧ (s.bit (PORT_B p) PORT.STAT_RX_LIGHT = true → s.xrds.lit.contains p = false →
        Completes (.openFibre p) s
          (((((s.put (PORT_B p) PORT.STAT_RX_LIGHT 0).put (PORT_B p) PORT.STAT_OPEN_FIBRE 1).inc (PORT_B p)
            PORT.OPEN_FIBRE_CNT_COUNT).raise (PORT_B p) 3).parkPort p lnACQUIRING fcOPEN_FIBRE).msgSettle)
      ∧ (s.plan.mode p = mdLOOPBACK → s.bit (PORT_B p) PORT.STAT_RX_LIGHT = false →
        Completes (.loopbackTimeout p) s ({ s with opt.loopTrip := zset s.opt.loopTrip p true }.openFibre p).msgSettle)
      )
    ∧ (p < 36 → s.engineOk (portEngine p) = true → ∀ u v : State,
        u = ((s.put (PORT_B p) PORT.STAT_LAUNCH_LIMIT 1).inc (PORT_B p) PORT.LAUNCH_LIMIT_CNT_COUNT).raise (PORT_B p) 5 →
        v = u.parkPort p lnPARKED 0 →
        Completes (.launchLimit p) s
          { v with opt.tripped := (u.aimedAt p).foldl (fun m (x : Nat × Nat) => zset m (9 * x.1 + x.2) (p + 1)) v.opt.tripped }.msgSettle)
    ∧ (p < 36 → ∀ u : State,
      u = { s.put (PORT_B p) PORT.STAT_LAUNCH_LIMIT 0 with opt.tripped := s.opt.tripped.filter fun e => decide (e.2 ≠ p + 1) } →
      Completes (.relaunch p) s
        ((((s.opt.tripped.filter fun e => decide (e.2 = p + 1)).map Prod.fst).foldl (fun s k => s.tryLaunch (k / 9) (k % 9))
          (u.launchAll p)).msgSettle))

/-- BEACON_SEND on a checking or serving lane of a running port sends the lane's beacon. A beacon received on a
planned lane of an inbound path, outside DISCOVER mode, is counted and counts as a match where its path, serial, port,
lane and major version agree, and as a mismatch where one of the first four does not, after a check of its minor
version, while fewer than the 32 frames of VC3 that the port can hold wait there; the frame that finds them all held
is dropped. MISSING of a port with an inbound path that is not up marks the port, with event 19 the first time.
IDENTITY_STALE turns a known identity record stale. Rests on: R370, R371, R372, R373, R375, R380, 10_crossroads.md. -/
def Obligations.BeaconsIdentifyThePeer : Prop :=
  ∀ (s u : State) (p l i : Nat) (x : Beacon) (e : PathEnt), s.power.off = false →
    (s.portOn p = true → l < 9 → (s.txSt p l = lnCHECKING ∨ serving (s.txSt p l) = true) →
      Completes (.beaconSend p l) s (s.sendBeacon p l))
    ∧ (p < 36 → l < 9 → 32 ≤ s.vc3Held p → Completes (.beaconReceive p l x) s (s.vc3Drop p).msgSettle)
    ∧ (s.portOn p = true → p < 36 → l < 9 → s.vc3Held p < 32 → u = (s.countIn p).minorCheck p x → (s.countIn p).portOn p = true →
      (s.countIn p).plan.mode p ≠ mdDISCOVER → ((s.countIn p).ringLine (rxRing p l)).isSome = true →
      (s.countIn p).plan.path true ((s.countIn p).plan.lanePath (rxRing p l)) = some e →
      (x.path = e.id → x.serial = e.peerSerial → x.port = e.peerPort → x.lane = l → x.major = u.get XRDS_B XRDS.PROTO_MAJOR →
        Completes (.beaconReceive p l x) s ((u.matchBeacon p l (9 * p + l) x).msgSettle))
      ∧ (¬ (x.path = e.id ∧ x.serial = e.peerSerial ∧ x.port = e.peerPort ∧ x.lane = l) →
        x.major = (u.mismatchBeacon p l (9 * p + l) x).get XRDS_B XRDS.PROTO_MAJOR →
        Completes (.beaconReceive p l x) s ((u.mismatchBeacon p l (9 * p + l) x).msgSettle)))
    ∧ (p < 36 → (s.plan.paths.any fun e => e.inbound && decide (e.port = p) && !s.pathUp e) = true →
      s.bit XRDS_B (maskF 0x90 p) = false → Completes (.missing p) s ((s.raise (PORT_B p) 19).markPort 0x90 p 5))
    ∧ (i < 324 → 1 ≤ s.get (idBase i) XRDS_ID.ID_PATH_STATE → s.get (idBase i) XRDS_ID.ID_PATH_STATE ≤ 4 →
      Completes (.identityStale i) s (s.put (idBase i) XRDS_ID.ID_PATH_STATE 5))

/-- STAGE_DATA_WRITE by the staging owner, outside CHECKING and ARMED, stores the four bytes at the stage address and
goes on; by another path it is refused with code 6. ACTIVE_DATA_READ answers the four bytes of ACTIVE at the path's
address and advances it. CHECK_DONE in CHECKING stores the time and goes to CHECKED with event 0 where the plan
passes, and to REJECTED with the finding and event 1 where it does not. The access comes through a path that reaches
the registers: PCIe does not in D3hot (R454). Rests on: R355, R356, R357, R361, R378, R379, 10_crossroads.md. -/
def Obligations.PlanBankIsWrittenAndChecked : Prop :=
  ∀ (s u : State) (path us : Nat) (v : Word) (f : PlanFail), s.power.off = false → s.hears path = true →
    (s.stageOwner path = true → s.stageSt ≠ sgCHECKING → s.stageSt ≠ sgARMED →
      ∃ m : SMap Byte, m = (((leBytes 4 v.toNat).mapIdx fun i b => (s.get XRDS_B XRDS.STAGE_ADDR_OFFSET + i, b)).foldl
          (fun (m : SMap Byte) (x : Nat × Byte) => zset m x.1 x.2) s.xrds.staged)
        ∧ Completes (.stageDataWrite path v) s
          (({ s with xrds.staged := m, xrds.stagedEnd := max s.xrds.stagedEnd (s.get XRDS_B XRDS.STAGE_ADDR_OFFSET + 4) }.setStage
            sgWRITING).stageNext))
    ∧ (s.stageOwner path = false →
      Completes (.stageDataWrite path v) s ((s.recErrX XRDS_B 16 0x8A06 path).raiseAlways XRDS_B 9))
    ∧ Completes (.activeDataRead path) s ((s.activeRead path).2.emit .read [(s.activeRead path).1])
    ∧ (s.pget path XRDS_B XRDS.ACTIVE_ADDR_OFFSET + 4 ≤ 131072 →
      (s.activeRead path).2 = s.pput path XRDS_B XRDS.ACTIVE_ADDR_OFFSET (s.pget path XRDS_B XRDS.ACTIVE_ADDR_OFFSET + 4)
      ∧ (s.activeRead path).1 = Bank.num s.xrds.active (s.pget path XRDS_B XRDS.ACTIVE_ADDR_OFFSET) 4)
    ∧ (s.stageSt = sgCHECKING → u = s.put XRDS_B XRDS.CHK_TIME_US us →
      (checkPlan u.stagedPlan u.xrds.stagedEnd (u.get XRDS_B XRDS.ACTIVE_EPOCH_VALUE) u.xrds.roles = none →
        Completes (.checkDone us) s
          ((((u.wr (XRDS_B + 0x74) 0).setStage sgCHECKED).put XRDS_B XRDS.STAGED_EPOCH_VALUE
            ((u.wr (XRDS_B + 0x74) 0).setStage sgCHECKED).stagedPlan.epoch).raise XRDS_B 0))
      ∧ (checkPlan u.stagedPlan u.xrds.stagedEnd (u.get XRDS_B XRDS.ACTIVE_EPOCH_VALUE) u.xrds.roles = some f → f.code ≠ 13 →
        Completes (.checkDone us) s
          ((((u.wr (XRDS_B + 0x74) (BitVec.ofNat 32 { f with line := f.line % 16 }.word)).setStage sgREJECTED).raise XRDS_B 1))))

/-- With the claim not lost and the page enabled, a plan command that carries the current claim acts and reports its
code in the path's CMD_STAT; a code other than 0 also records 0x8A00 with the code and raises event 9. A command that
carries an older claim is refused with code 1. PRESENT of a newer claim, with the claim not lost, makes it the current
one; of an older one, it is refused as stale with 0x8C01. The access comes through a path that reaches the registers:
PCIe does not in D3hot (R454). Rests on: R357, R358, R360, R440, R441, R442, R444, 10_crossroads.md,
12_reconfiguration.md. -/
def Obligations.PlanCommandsObeyTheClaim : Prop :=
  ∀ (s u : State) (path claim : Nat), s.power.off = false → s.hears path = true →
    (u = s.pput64 path XRDS_B XRDS.CMD_CLAIM_LO claim → s.bit CLAIM_B CLAIM.STAT_LOST = false →
      u.pget64 path XRDS_B XRDS.CMD_CLAIM_LO = u.claim → s.on XRDS_B = true →
      Completes (.check path claim) s (u.check.2.cmdDone path 1 u.check.1)
      ∧ Completes (.arm path claim) s (u.armPlan.2.cmdDone path 2 u.armPlan.1)
      ∧ Completes (.cancel path claim) s (u.cancelPlan.2.cmdDone path 4 u.cancelPlan.1).msgSettle
      ∧ Completes (.clear path claim) s ((u.clearPlan path).2.cmdDone path 8 (u.clearPlan path).1)
      ∧ Completes (.copyActive path claim) s ((u.copyPlan path).2.cmdDone path 16 (u.copyPlan path).1))
    ∧ (u = s.pput64 path XRDS_B XRDS.CMD_CLAIM_LO claim → u.pget64 path XRDS_B XRDS.CMD_CLAIM_LO < u.claim →
      ∀ x ∈ [(Instr.check path claim, 1), (.arm path claim, 2), (.clear path claim, 8), (.copyActive path claim, 16)],
        Completes x.1 s ((u.staleClaim path (u.pget64 path XRDS_B XRDS.CMD_CLAIM_LO) x.2 0).cmdDone path x.2 1)
        ∧ Completes (.cancel path claim) s ((u.staleClaim path (u.pget64 path XRDS_B XRDS.CMD_CLAIM_LO) 4 0).cmdDone path 4 1).msgSettle)
    ∧ (∀ bits code, u.cmdDone path bits 0 = u.pwr path (XRDS_B + 0x4C) (BitVec.ofNat 32 (bits * 2 ^ 8))
      ∧ (code ≠ 0 → u.cmdDone path bits code =
        ((u.pwr path (XRDS_B + 0x4C) (BitVec.ofNat 32 (code + bits * 2 ^ 8))).recErrX XRDS_B 16 (0x8A00 + code) path).raiseAlways XRDS_B 9))
    ∧ (u = s.pput64 path CLAIM_B CLAIM.PRESENT_LO claim → s.bit CLAIM_B CLAIM.STAT_LOST = false →
      (u.claim < u.pget64 path CLAIM_B CLAIM.PRESENT_LO →
        Completes (.present path claim) s
          ((u.raiseClaim path (u.pget64 path CLAIM_B CLAIM.PRESENT_LO)).pwr path (CLAIM_B + 0x54) 0x100))
      ∧ (u.pget64 path CLAIM_B CLAIM.PRESENT_LO < u.claim →
        Completes (.present path claim) s
          (((u.staleClaim path (u.pget64 path CLAIM_B CLAIM.PRESENT_LO) 0 1).pwr path (CLAIM_B + 0x54) 1).recErrX CLAIM_B 16 0x8C01 path)))

/-- For the operation behind ARM: outside CHECKED it answers code 3 and changes nothing; in CHECKED with the instant
less than 5 ms ahead, or past, it answers code 4 and changes nothing; otherwise it answers 0, STAGED is ARMED, trigger
unit 31 is armed with the instant and no period, the switch is armed under the current claim, and no byte of memory
changes. Rests on: R358, R360, R379, 10_crossroads.md. -/
def Obligations.ArmedPlansRequireACheckedBank : Prop :=
  ∀ s : State,
    (s.stageSt ≠ sgCHECKED → s.armPlan = (3, s))
    ∧ (s.stageSt = sgCHECKED →
      ((s.get64 XRDS_B XRDS.PLAN_T_LO + 2 ^ 64 - s.nowNs) % 2 ^ 64 < 5000000
        ∨ 2 ^ 63 ≤ (s.get64 XRDS_B XRDS.PLAN_T_LO + 2 ^ 64 - s.nowNs) % 2 ^ 64) → s.armPlan = (4, s))
    ∧ (s.stageSt = sgCHECKED → 5000000 ≤ (s.get64 XRDS_B XRDS.PLAN_T_LO + 2 ^ 64 - s.nowNs) % 2 ^ 64 →
      (s.get64 XRDS_B XRDS.PLAN_T_LO + 2 ^ 64 - s.nowNs) % 2 ^ 64 < 2 ^ 63 →
      s.armPlan.1 = 0 ∧ s.armPlan.2.stageSt = sgARMED ∧ s.armPlan.2.trigArmed 31 = true
      ∧ s.armPlan.2.get64 TRIGGERS_B (trigF TRIGGERS.TIME_LO 31) = s.get64 XRDS_B XRDS.PLAN_T_LO
      ∧ s.armPlan.2.get TRIGGERS_B (trigF TRIGGERS.PERIOD_NS 31) = 0
      ∧ s.armPlan.2.bit CLAIM_B CLAIM.STAT_ARMED = true ∧ s.armPlan.2.get64 CLAIM_B CLAIM.SW_CLAIM_LO = s.claim
      ∧ SameBytes s s.armPlan.2)

/-- With the switch armed and 200 microseconds to go, DRAIN_START notes the lit ports and, with the message engines
running, reports DRAINING with event 3. START_POINT_REFRESH of an ARMED plan computes the start points. 500
microseconds after the switch OPEN_FIBRE_GUARD_END forgets the lit ports, unless those of a next drain are noted; at
900 RELEASE releases the lanes and applies the new shares; at 1200 SWITCH_REPORT counts the lanes not up, reports done
(4) where none is, and writes the record. SWITCH_NOTE of another instant than this module's counts the skew and raises
event 6. Rests on: R404, R426, R429, R430, R433, R438, 12_reconfiguration.md. -/
def Obligations.TheTimedSwitchRunsItsCourse : Prop :=
  ∀ (s : State) (p t new x y z : Nat), s.power.off = false →
    (s.stageSt = sgARMED → s.xrds.litArmed = false → s.reached ((s.armT + 2 ^ 64 - 200000) % 2 ^ 64) = true →
      { s with xrds.lit := s.litPorts, xrds.litArmed := true }.msgRuns = true →
      Completes .drainStart s
        (({ s with xrds.lit := s.litPorts, xrds.litArmed := true }.put CLAIM_B CLAIM.SW_STAT_STATE 2).raise CLAIM_B 3).msgSettle)
    ∧ (s.stageSt = sgARMED → Completes .startPointRefresh s s.startPoints)
    ∧ (s.xrds.litArmed = false → s.reached ((s.swT + 500000) % 2 ^ 64) = true →
      Completes .openFibreGuardEnd s { s with xrds.lit := [] })
    ∧ (s.xrds.toRelease = true → s.reached ((s.swT + 900000) % 2 ^ 64) = true →
      Completes .release s s.releaseLanes.applyShares.msgSettle)
    ∧ (s.xrds.toReport = true → s.reached ((s.swT + 1200000) % 2 ^ 64) = true → s.notUp = [] →
      ∃ u : State, u = ((({ s with xrds := { s.xrds with toReport := false, refLit := [], before := if s.xrds.before = 3 then 4 else s.xrds.before } }.put CLAIM_B CLAIM.SW_STAT_NOT_UP 0).put CLAIM_B
            CLAIM.SW_STAT_STATE 4).raise CLAIM_B 4)
        ∧ Completes .switchReport s
          (u.record CLAIM_B 0x0041 [(u.rd (CLAIM_B + 0x80)).toNat, (u.rd (CLAIM_B + 0x9C)).toNat, (u.rd (CLAIM_B + 0xA0)).toNat,
            (u.rd (CLAIM_B + 0xA4)).toNat]))
    ∧ (p < 36 → t ≠ s.swT →
      Completes (.switchNote p t new x y z) s
        ((((((((((s.countIn p).inc CLAIM_B CLAIM.SW_SKEW_COUNT).put CLAIM_B CLAIM.SW_SKEW_PORT p).put CLAIM_B CLAIM.SW_SKEW_VALID
          1).put CLAIM_B CLAIM.SW_SKEW_PEER_X x).put CLAIM_B CLAIM.SW_SKEW_PEER_Y y).put CLAIM_B CLAIM.SW_SKEW_PEER_Z z).put CLAIM_B
          CLAIM.SW_SKEW_EPOCH_VALUE new)).raise CLAIM_B 6))

/-- Outside DISCOVER mode: STEER_SWITCH of a steered lane in service that no launch limit parked, whose present output
has nothing to send or has had its dwell, steers it to the next output, where one waits, and lets it rest where
nothing waits, as it does a checking lane. STEER_VISIT of an output that has a path and can launch steers there with
four idle codewords where the lane is elsewhere, and sends a beacon where one is due there. BURST_GAP_TIMEOUT of a
checking or serving lane of a burst path sends it to RELOCK, and its running slot settles again. Rests on: R325, R365,
R366, R367, 10_crossroads.md. -/
def Obligations.SteeredLanesVisitTheirOutputs : Prop :=
  ∀ (s : State) (p l o : Nat) (e : PathEnt), s.power.off = false →
    (s.portOn p = true → l < 8 → zget s.opt.tripped (9 * p + l) = 0 → s.plan.role (txRing p l) = 1 → s.plan.mode p ≠ mdDISCOVER →
      s.plan.steered (txRing p l) = true → s.txSt p l = lnCHECKING →
      (∀ o < 3, s.outWaits (s.plan.steerPath (s.plan.laneSteer (txRing p l)) o) = false) →
      Completes (.steerSwitch p l) s (s.steerRest p l))
    ∧ (s.portOn p = true → l < 8 → zget s.opt.tripped (9 * p + l) = 0 → s.plan.role (txRing p l) = 1 → s.plan.mode p ≠ mdDISCOVER →
      s.plan.steered (txRing p l) = true → s.txSt p l = lnIN_SERVICE →
      ((s.outWaits (s.plan.steerPath (s.plan.laneSteer (txRing p l)) (s.txOut p l)) = false
        ∨ s.plan.dwell (s.plan.laneSteer (txRing p l)) ≤ zget s.opt.visit (9 * p + l)) →
        s.nextOut p l = some o → Completes (.steerSwitch p l) s (s.steerTo p l o).msgSettle)
      ∧ (s.outWaits (s.plan.steerPath (s.plan.laneSteer (txRing p l)) (s.txOut p l)) = false → s.nextOut p l = none →
        Completes (.steerSwitch p l) s (s.steerRest p l)))
    ∧ (l < 8 → o < 3 → s.portOn p = true → s.plan.role (txRing p l) = 1 → s.plan.mode p ≠ mdDISCOVER → s.plan.steered (txRing p l) = true →
      s.plan.steerPath (s.plan.laneSteer (txRing p l)) o ≠ 0xFFFF → (s.txSt p l = lnIN_SERVICE ∨ s.txSt p l = lnCHECKING) →
      s.canLaunch (treePort p o) = true → zget s.opt.tripped (9 * p + l) = 0 →
      ∀ u : State, u = (if s.txOut p l = o then s else (s.steerTo p l o).sendIdle p l 4) →
        (u.beaconDue p l o = true → Completes (.steerVisit p l o) s (u.sendBeacon p l).msgSettle)
        ∧ (u.beaconDue p l o = false → Completes (.steerVisit p l o) s u.msgSettle))
    ∧ (p < 36 → l < 9 → s.plan.path true (s.plan.lanePath (rxRing p l)) = some e → e.burst = true → e.port = p →
      (serving (s.rxSt p l) = true ∨ s.rxSt p l = lnCHECKING) →
      ∃ u : State, u = s.rxLeave p l lnRELOCK fcLOCK
        ∧ Completes (.burstGapTimeout p l) s (if u.slotRuns (rxRing p l) then u.slotSettle (rxRing p l) else u).msgSettle)

/-- LOOP_FRAME of a ready slot (triggered slots only when due) takes the line, hold and gap into account, computes the
frame from the converter code and puts the output on its line. DEADLINE_MISS of a ready slot counts the miss, flags it
and raises event 1, and 64 misses in a row lose the loop, of a line power slot all its lines. SETTLE_DONE goes from
SETTLE to ACQUIRE with the comb good; ACQ_FAIL and HEATER_LIMIT_TIMEOUT count a failed acquisition and settle a ring
again; FEEDBACK_LOST of a FROZEN or HELD slot loses the loop; both act on those lines of a line power slot that are in
the state (the model's choice, log entry 338); LOOP_HW_FAIL stops the slot, and records a ring or a Mach-Zehnder
modulator as failed at its port. Rests on: R389, R390, R391, R406, R408, R411, R412, 11_millrace.md. -/
def Obligations.LoopSlotsRunFramesAndTimers : Prop :=
  ∀ (s : State) (i m metric dark : Nat), s.power.off = false →
    (i < 2048 → s.frameReady i = true → (s.dTrig i = false ∨ (s.slot i).due = true) →
      Completes (.loopFrame i m metric dark) s
        (let s := (s.descUse (64 * i)).descUse (64 * i + 32)
         let m := s.monitor i m
         let t := s.frameStart i m (decide (dark % 2 = 1))
         let t := t.modSlot i fun x =>
           { x with ff := t.ffNow i x, due := false, started := if t.dTrig i then (t.slot i).started else some t.time.up }
         let t := ((((t.frameStep i m).trimFrame i metric).supervise i).endSample i m).lineOut i
         (t.traceAll i (t.slot i).frames (t.slotNodes i m)).msgSettle))
    ∧ (i < 2048 → s.frameReady i = true →
      ∀ u v : State, u = ((s.frameLoad i).modSlot i fun x => { x with
          misses := min 65535 (x.misses + 1), mPrev := none, missRun := x.missRun + 1, due := false }) →
        v = (((if isLinePower i then u.modSlot (lineKey i (zget u.mill.turn i)) fun x => { x with mPrev := none } else u).slotFlag i
          fgDEADLINE_MISS).inc MILLRACE_B MILLRACE.DEADLINE_MISS_COUNT).raise MILLRACE_B 1 →
        ((v.slot i).missRun < 64 → Completes (.deadlineMiss i) s v.msgSettle)
        ∧ (64 ≤ (v.slot i).missRun → isLinePower i = false →
          Completes (.deadlineMiss i) s ((v.modSlot i fun x => { x with missRun := 0 }).loopLost i fcFEEDBACK_LOST).msgSettle)
        ∧ (64 ≤ (v.slot i).missRun → isLinePower i = true →
          Completes (.deadlineMiss i) s ((v.modSlot i fun x => { x with missRun := 0 }).linesLost i (List.range 16)).msgSettle))
    ∧ (i < 648 → (s.slot i).st = slSETTLE → s.slotRuns i = true → s.combGood (portEngine (ringPort i)) = true →
      Completes (.settleDone i) s (s.modSlot i fun x => { x with st := slACQUIRE }))
    ∧ (i < 648 → (s.slot i).st = slACQUIRE → s.slotRuns i = true →
      Completes (.acqFail i) s (((s.countAcqFail i).slotSettle i).acqFailed i).msgSettle)
    ∧ (648 ≤ i → i < 1620 → (s.slot i).st = slACQUIRE → s.slotRuns i = true →
      Completes (.acqFail i) s (((s.countAcqFail i).slotAcquire i).acqFailed i).msgSettle)
    ∧ (1620 ≤ i → i < 2048 → isLinePower i = false → (s.slot i).st = slACQUIRE → s.slotRuns i = true →
      Completes (.acqFail i) s ((s.countAcqFail i).slotAcquire i).msgSettle)
    ∧ (i < 2048 → isLinePower i = true → s.slotRuns i = true → (s.linesOf i fun x => decide (x.st = slACQUIRE)) ≠ [] →
      Completes (.acqFail i) s ((s.countAcqFail i).linesClose i (s.linesOf i fun x => decide (x.st = slACQUIRE))).msgSettle)
    ∧ (isLinePower i = false → ((s.slot i).st = slFROZEN ∨ (s.slot i).st = slHELD) →
      Completes (.feedbackLost i) s (s.loopLost i fcFEEDBACK_LOST).msgSettle)
    ∧ (isLinePower i = true → Completes (.feedbackLost i) s (s.linesLost i (s.linesOf i Slot.stuck)).msgSettle)
    ∧ (i < 648 → ((s.slot i).st = slACQUIRE ∨ (s.slot i).st = slLOCKED) →
      Completes (.heaterLimitTimeout i) s
        (((((s.countAcqFail i).laneRelock i fcHEATER_LIMIT).slotSettle i).acqFailed i).msgSettle))
    ∧ (i < 1628 → ∀ u : State, u = ((s.slotFlag i fgHW).slotIdle i).modSlot i (fun x => { x with dead := true }) →
        (slotKind i = .ring → Completes (.loopHwFail i) s (u.ringHwFail i).msgSettle)
        ∧ (slotKind i = .mzi → Completes (.loopHwFail i) s
          ((((u.recErr (PORT_B (ringPort (slotRing i))) 17 0x8702 pathHw (i - 648)).inc
            (ENGINE_B (portEngine (ringPort (slotRing i)))) ENGINE.MZI_FAILED).laneFail (mziRing i) fcHARDWARE).msgSettle))
        ∧ (slotKind i ≠ .ring → slotKind i ≠ .mzi → Completes (.loopHwFail i) s u.msgSettle))

/-- A write of a word of slot i's descriptor that would change a field that a running slot may not change is refused
with DESC_BUSY (0x8B01), but for one of word 0 that clears ENABLE; one whose value is out of range is refused with
DESC_RANGE (0x8B02): the word keeps its value and no byte of memory changes. Any other write stores the value under
the word's mask and refreshes the slot; a correctable error in the descriptor is corrected and counted first; in word
0, TRIM_EN at 0 clears the slot's trim, and ENABLE going from 0 to 1 takes the filtered values as the slot's
references. The access comes through a path that reaches the registers: PCIe does not in D3hot (R454). Rests on: R384,
R386, R387, R396, R397, 11_millrace.md. -/
def Obligations.DescriptorWritesKeepTheirRanges : Prop :=
  ∀ (s₀ s : State) (path o : Nat) (v w : Word), s₀.power.off = false → s₀.hears path = true → o < 2048 * 64 → o % 4 = 0 →
    s = s₀.descUse o → w = v &&& BitVec.ofNat 32 (descMask (o % 64)) →
    (s.dRun (o / 64) = true → ¬ (o % 64 = 0 ∧ w.getLsbD 0 = false) →
      s.rd (DESC_B + o) &&& BitVec.ofNat 32 (busyMask (o % 64)) ≠ w &&& BitVec.ofNat 32 (busyMask (o % 64)) →
      Completes (.descWrite path o v) s₀ (s.recErr MILLRACE_B 16 0x8B01 path o).msgSettle
      ∧ (s.recErr MILLRACE_B 16 0x8B01 path o).rd (DESC_B + o) = s₀.rd (DESC_B + o)
      ∧ SameBytes s₀ (s.recErr MILLRACE_B 16 0x8B01 path o))
    ∧ ((s.dRun (o / 64) = false ∨ (o % 64 = 0 ∧ w.getLsbD 0 = false)
        ∨ s.rd (DESC_B + o) &&& BitVec.ofNat 32 (busyMask (o % 64)) = w &&& BitVec.ofNat 32 (busyMask (o % 64))) →
      (descRange (o / 64) (o % 64) w.toNat = true →
        Completes (.descWrite path o v) s₀ (s.recErr MILLRACE_B 17 0x8B02 path o).msgSettle
        ∧ (s.recErr MILLRACE_B 17 0x8B02 path o).rd (DESC_B + o) = s₀.rd (DESC_B + o)
        ∧ SameBytes s₀ (s.recErr MILLRACE_B 17 0x8B02 path o))
      ∧ (descRange (o / 64) (o % 64) w.toNat = false → 4 ≤ o % 64 →
        Completes (.descWrite path o v) s₀ (((s.wr (DESC_B + o) w).slotRefresh (o / 64)).msgSettle))
      ∧ (descRange (o / 64) (o % 64) w.toNat = false → o % 64 = 0 →
        ∃ t u : State, t = (if w.getLsbD 6 then s.wr (DESC_B + o) w else (s.wr (DESC_B + o) w).modSlot (o / 64) fun x => { x with trim := 0 })
          ∧ u = (if w.getLsbD 0 && !(s.rd (DESC_B + o)).getLsbD 0 then
              t.modSlot (o / 64) fun x => { x with refW := t.filtW (o / 64), refE := t.filtE (o / 64) } else t)
          ∧ Completes (.descWrite path o v) s₀ ((u.slotRefresh (o / 64)).msgSettle)))

/-- TELEMETRY_UPDATE stores the dies' and ports' values; TRACE_ARM starts the channels again; FLAG_FIFO_READ answers
the oldest flag and takes it. PAGE_PROGRAM_DONE with a program in progress moves its records to flash, or counts a
failed page; CURSOR_WRITE places the path's window; WINDOW_ADVANCE answers the window's last word and moves on;
LOG_CLEAR with the key clears or waits, and without it is refused with 0x9201; POST_CODE of a code from 0xF000 writes
a record and below it is refused with 0x9203; TRACE_SNAPSHOT copies a page's trace, or none. The access comes through
a path that reaches the registers: PCIe does not in D3hot (R454). Rests on: R395, R413, R419, R424, R551, R554, R558,
R560, R561, R563, 17_parish_register.md. -/
def Obligations.TelemetryTracesAndTheLogAct : Prop :=
  ∀ (s : State) (path seq pg : Nat) (v : Word) (ps ts ports : List Nat), s.power.off = false → s.hears path = true →
    Completes (.telemetryUpdate ps ts ports) s (s.telemetry ps ts ports)
    ∧ Completes (.traceArm v) s
      ((List.range 16).foldl (fun s c => if v.toNat.testBit c then
        { (s.wr (MILLRACE_B + 0x104 + 8 * c) 0).put MILLRACE_B ⟨0x0D0, 16 + c, 16 + c⟩ 0 with
          mill.freeze := zset s.mill.freeze c none } else s) s)
    ∧ (∀ x q, s.mill.flagQ = x :: q → ∃ t, exec .flagFifoRead s = .next t ∧ t.mill.flagQ = q ∧ t.mill.flagLost = false
      ∧ t.out = s.out ++ [(.read, [x.1 + x.2 * 2 ^ 12 + (if s.mill.flagLost then 2 ^ 30 else 0) + 2 ^ 31])]
      ∧ SameRegsBut [] s t ∧ SameBytes s t)
    ∧ (s.log.prog ≠ 0 → Completes (.pageProgramDone 1) s s.pageDone ∧ Completes (.pageProgramDone 0) s s.pageFailed)
    ∧ (seq < 2 ^ 64 → Completes (.cursorWrite path seq) s ((s.pput64 path LOG_B LOG.CURSOR_LO seq).loadWindow path))
    ∧ Completes (.windowAdvance path) s
      (((s.pput64 path LOG_B LOG.CURSOR_LO ((s.pget64 path LOG_B LOG.CURSOR_LO + 1) % 2 ^ 64)).loadWindow path).emit .read
        [(s.prd path (LOG_B + 0x13C)).toNat])
    ∧ (v.toNat % 2 ^ 16 = 0x434C → s.log.fifo.length < 64 → s.log.dead = false →
      ∃ u : State, u = (s.inc LOG_B LOG.CLEARS_COUNT).raise LOG_B 2
        ∧ Completes (.logClear path v) s (u.enterClear path))
    ∧ (v.toNat % 2 ^ 16 ≠ 0x434C → Completes (.logClear path v) s (s.recErrX LOG_B 16 0x9201 path))
    ∧ (0xF000 ≤ v.toNat % 2 ^ 16 →
      Completes (.postCode path v) s
        (s.pushRec LOG_B (v.toNat % 2 ^ 16) (8 + path * 16) ((List.range 6).map fun i => (s.prd path (LOG_B + 0x78 + 4 * i)).toNat)))
    ∧ (v.toNat % 2 ^ 16 < 0xF000 → Completes (.postCode path v) s (s.recErrX LOG_B 18 0x9203 path))
    ∧ (s.pageOf (v.toNat / 2 ^ 16) (v.toNat % 2 ^ 16) = some pg →
      ∃ u : State, u = s.pwr path (LOG_B + 0x90) v
        ∧ Completes (.traceSnapshot path v) s
          ((u.pwr path (LOG_B + 0x94) (BitVec.ofNat 32 ((zget u.log.trace pg).length + 2 ^ 31))).pwrs path (LOG_B + 0x200)
            (((zget u.log.trace pg).flatMap TraceEnt.words) ++ List.replicate (64 - 4 * (zget u.log.trace pg).length) 0)))

/-- In STANDBY no byte of BAR2 is mapped. In D0 a BAR2 write acts on the mapped bytes that the host owns; where no
byte of it is one, no byte of memory changes; in D3hot it does nothing. A BAR2 read answers its bytes, each that the
host does not own or that no slot maps as 255. SEG_BASE_WRITE of segment k is refused with 0x8D01 while the module
owns a slot of it, and with 0x8D02 for an enabled base that is not in present memory; otherwise the base is stored,
and no other register and no byte changes. HANDOFF of slots that the named owner holds passes them all and reports 0;
with another owner's slot among them, or beyond the last slot, it changes only the path's HANDOFF_STAT; one by the
host behind accesses of its own that a stack holds back waits for them. The access comes through a path that reaches
the registers: PCIe does not in D3hot (R454). Rests on: R458, R459, R460, R461, 13_host_mgmt.md. -/
def Obligations.HostWindowAccessesObeyOwnership : Prop :=
  ∀ (s : State) (path o n k lo hi i : Nat) (bytes : List Nat) (v : Word), s.power.off = false → s.hears path = true →
    (s.get POWER_B POWER.STATE_STATE < 2 → (s.bar2At o).1 = 0)
    ∧ (s.host.d3 = false → Completes (.bar2Write o bytes) s ((s.windowSource o bytes).bar2Write o bytes))
    ∧ (s.host.d3 = false → (∀ e ∈ bar2Bytes o bytes, (s.bar2At e.1).1 ≠ 2) →
      ∃ t, exec (.bar2Write o bytes) s = .next t ∧ SameBytes s t)
    ∧ (s.host.d3 = true → Completes (.bar2Write o bytes) s s ∧ Completes (.bar2Read o n) s s)
    ∧ (s.host.d3 = false → Completes (.bar2Read o n) s (s.bar2Read o n))
    ∧ (s.host.d3 = false → (∀ i < n, (s.bar2At ((o + i) % 2 ^ 30)).1 ≠ 2) → (∀ x ∈ s.msg.offers, x.host = false) →
      ∃ t, exec (.bar2Read o n) s = .next t ∧ t.out = s.out ++ [(.bar2, List.replicate n 255)] ∧ SameBytes s t ∧ SameParts s t)
    ∧ (k < 16 → (∀ j < 1024, s.owned (1024 * k + j) = false) → (lo % 2 = 0 ∨ s.presentRange (segAddr lo hi) (2 ^ 26) = true) →
      ∃ t, exec (.segBaseWrite path k lo hi) s = .next t
        ∧ t.rd (HOSTWIN_B + 0x80 + 8 * k) = BitVec.ofNat 32 (lo / 2 ^ 26 * 2 ^ 26 + lo % 2)
        ∧ t.rd (HOSTWIN_B + 0x84 + 8 * k) = BitVec.ofNat 32 (hi % 256)
        ∧ SameRegsBut [HOSTWIN_B + 0x80 + 8 * k, HOSTWIN_B + 0x84 + 8 * k] s t ∧ SameBytes s t ∧ SameParts s t)
    ∧ (k < 16 → (∃ j < 1024, s.owned (1024 * k + j) = true) →
      Completes (.segBaseWrite path k lo hi) s (s.recErr HOSTWIN_B 16 0x8D01 path k))
    ∧ (k < 16 → (∀ j < 1024, s.owned (1024 * k + j) = false) → lo % 2 = 1 → s.presentRange (segAddr lo hi) (2 ^ 26) = false →
      Completes (.segBaseWrite path k lo hi) s (s.recErr HOSTWIN_B 17 0x8D02 path k))
    ∧ (s.host.d3 = false → (∃ x ∈ s.msg.offers, x.host = true) → Completes (.handoff 0 v) s (s.offer (.handoff v)))
    ∧ ((path ≠ 0 ∨ ∀ x ∈ s.msg.offers, x.host = false) →
      fget v HOSTWIN.HANDOFF_SLOT + fget v HOSTWIN.HANDOFF_COUNT ≤ 16383 →
      (∀ j ≤ fget v HOSTWIN.HANDOFF_COUNT, s.owned (fget v HOSTWIN.HANDOFF_SLOT + j) = decide (fget v HOSTWIN.HANDOFF_FROM = 1)) →
      Completes (.handoff path v) s
        ((s.pwr path (HOSTWIN_B + 0x48) 0).passSlots (fget v HOSTWIN.HANDOFF_SLOT) (fget v HOSTWIN.HANDOFF_COUNT)
          (fget v HOSTWIN.HANDOFF_FROM) (decide (fget v HOSTWIN.HANDOFF_NOTIFY = 1))))
    ∧ ((path ≠ 0 ∨ ∀ x ∈ s.msg.offers, x.host = false) →
      fget v HOSTWIN.HANDOFF_SLOT + fget v HOSTWIN.HANDOFF_COUNT ≤ 16383 → i ≤ fget v HOSTWIN.HANDOFF_COUNT →
      (∀ j < i, s.owned (fget v HOSTWIN.HANDOFF_SLOT + j) = decide (fget v HOSTWIN.HANDOFF_FROM = 1)) →
      s.owned (fget v HOSTWIN.HANDOFF_SLOT + i) ≠ decide (fget v HOSTWIN.HANDOFF_FROM = 1) →
      Completes (.handoff path v) s
        (s.pwr path (HOSTWIN_B + 0x48) (BitVec.ofNat 32 (1 + (fget v HOSTWIN.HANDOFF_SLOT + i) * 2 ^ 16))))
    ∧ ((path ≠ 0 ∨ ∀ x ∈ s.msg.offers, x.host = false) → 16383 < fget v HOSTWIN.HANDOFF_SLOT + fget v HOSTWIN.HANDOFF_COUNT →
      Completes (.handoff path v) s (s.pwr path (HOSTWIN_B + 0x48) 2))

/-- NOTIFY_FIFO_READ answers the oldest notice and takes it. MBOX_GO with the mailbox free takes the request and sets
BUSY, and while it is BUSY is refused with 0x8D03; MBOX_DONE serves the request. MSIX_UNMASK of a vector clears its
mask bit, or sets it, and sends the vector where it is pending and nothing masks it; the words of BAR4 are written and
read at the PCIe path's addresses from 0x400_0000 on (the model's choice, log entry 137). D3hot is entered and left,
and vector 0 is then flushed; in it no command that comes over PCIe has an effect. PERST and a hot reset reset the
function, PERST as a module reset of cause 2 with the link down; PERST_RELEASE samples the pin's source and lets the
rails rise. LINK_CHANGE to another rate or width sets the link's fields and raises event 5; while PERST_N is low the
link does not train. MILLRACE_FATAL on an enabled page is a module reset of cause 8. The access comes through a path
that reaches the registers: PCIe does not in D3hot (R454). Rests on: R455, R457, R462, R464, R466, R487,
13_host_mgmt.md. -/
def Obligations.HostFunctionEventsAct : Prop :=
  ∀ (s : State) (path v rate width flit f c : Nat) (l : List (Nat × Nat)), s.power.off = false → s.hears path = true →
    (s.host.notify = (f, c) :: l →
      ∃ t, exec .notifyFifoRead s = .next t ∧ t.host.notify = l ∧ t.host.notifyLost = false
        ∧ t.out = s.out ++ [(.read, [f + c * 2 ^ 14 + (if s.host.notifyLost then 2 ^ 30 else 0) + 2 ^ 31])]
        ∧ SameRegsBut [] s t ∧ SameBytes s t)
    ∧ (s.bit HOSTWIN_B HOSTWIN.MBOX_STAT_BUSY = false →
      ∃ u : State, u = (s.put HOSTWIN_B HOSTWIN.MBOX_STAT_BUSY 1).raise HOSTWIN_B 3
        ∧ Completes (.mboxGo path) s { u with host.mbox := s.mboxBytes 0x100 })
    ∧ (s.bit HOSTWIN_B HOSTWIN.MBOX_STAT_BUSY = true → Completes (.mboxGo path) s (s.recErrX HOSTWIN_B 18 0x8D03 path))
    ∧ (s.bit HOSTWIN_B HOSTWIN.MBOX_STAT_BUSY = true → s.mgmtWaits = false → Completes .mboxDone s s.mboxServe.msgSettle)
    ∧ (s.host.d3 = false → v < 64 →
      Completes (.msixUnmask v) s ({ s with host.unmasked := zset s.host.unmasked v true }.msixFlush v)
      ∧ Completes (.msixUnmask (64 + v)) s ({ s with host.unmasked := zset s.host.unmasked v false }.msixFlush v))
    ∧ (s.host.d3 = false → v < 4096 → ∀ w : Word,
      Completes (.registerWrite 0 (2 ^ 26 + 4 * v) w) s (s.bar4Write (4 * v) w)
      ∧ Completes (.pairLowRead 0 (2 ^ 26 + 4 * v)) s (s.emit .read [s.bar4Read (4 * v)]))
    ∧ (s.host.d3 = true → ∀ (a n k : Nat) (w : Word), ∀ x ∈ [Instr.bar0AccessSize 0 a n k, .accessUnmapped 0 a k, .registerWrite 0 a w,
        .pairLowRead 0 a, .pairLowWrite 0 a w, .pairHighWrite 0 a w, .enableWrite 0 a k, .quiesceReq 0 a k, .blockResetReq 0 a,
        .auditStatRead 0 a, .timeNowRead 0, .calFull 0, .segBaseWrite 0 a n k, .handoff 0 w, .mboxGo 0, .complete 0 a n, .load 0 a,
        .start 0 a, .stop 0 a, .unload 0 a, .descWrite 0 a w, .cursorWrite 0 a, .windowAdvance 0, .logClear 0 w, .postCode 0 w,
        .traceSnapshot 0 w, .combArm 0 a, .stageDataWrite 0 w, .activeDataRead 0, .check 0 a, .arm 0 a, .cancel 0 a, .clear 0 a,
        .copyActive 0 a, .present 0 a, .resume 0 a, .resetCtrlModule 0 a, .resetCtrlReeve 0 a, .lcWrite 0 a k, .triggerCtrlWrite 0 a w,
        .download 0 a, .verify 0 a, .activate 0 a, .confirm 0 a, .abort 0 a, .stageWrite 0 a k, .msixUnmask a, .claim 4],
      Completes x s s)
    ∧ Completes (.pcieD3hot 1) s { s with host.d3 := true }
    ∧ Completes (.pcieD3hot 0) s ({ s with host.d3 := false }.msixFlush 0)
    ∧ Completes .pcieHotReset s ((s.hostReset.releaseClaims fun k => decide (k = 4)).line4 s)
    ∧ Completes .perst s (((s.perstPin true).moduleReset 4).pcieReset.linkTo 0 0 0)
    ∧ Completes .perstRelease s (((s.perstPin false).line4 s).tryRails)
    ∧ (s.pinLevel 148 = false → 0 < rate → Completes (.linkChange rate width flit) s s)
    ∧ (s.get HOSTWIN_B HOSTWIN.LINK_RATE = 0 → 0 < rate → rate < 8 → width < 32 → s.pinLevel 148 = true →
      Completes (.linkChange rate width flit) s ((s.linkSet rate width flit).raise HOSTWIN_B 5))
    ∧ (s.get HOSTWIN_B HOSTWIN.LINK_RATE ≠ 0 → 0 < rate → s.pinLevel 148 = true →
      (rate % 8, width % 32) ≠ (s.get HOSTWIN_B HOSTWIN.LINK_RATE, s.get HOSTWIN_B HOSTWIN.LINK_WIDTH) →
      Completes (.linkChange rate width flit) s
        (((s.inc HOSTWIN_B HOSTWIN.LINK_RETRAINS).linkSet rate width flit).raise HOSTWIN_B 5))
    ∧ (s.on MILLRACE_B = true → Completes .millraceFatal s (s.moduleReset 0x100))

/-- On an up port with the protocol enabled: HELLO, REG_READ, REG_WRITE, RESET_MODULE, RESET_WARM and UPDATE_DATA are
counted and answered while the Reeve serves; while it does not, each waits, in order, up to 64, and beyond that is
counted in HELD_DROP. Bytes that are no message are counted as a request in error; a frame with a bad FCS counts in
RX_ERR, one that is tagged, oversized or a pause frame in RX_FRAMES and RX_DROP (the model's encoding, log entry 222).
A Neighbor Solicitation of the port's address is answered with its MAC address (0x02, 0x4A + n and the serial number's
low word, high byte first), an Echo Request with its data. MGMT_LINK_CHANGE up on an enabled page sets LINK_UP with
event 0; down, it clears it with event 1. Rests on: R467, R468, R469, R470, R471, R472, R473, 13_host_mgmt.md. -/
def Obligations.ManagementRequestsAreServedOrHeld : Prop :=
  ∀ (s u : State) (n who seq a count o target mac src ident : Nat) (vs bytes data : List Nat), s.power.off = false →
    (s.mgmtUp n = true → s.bit (MGMT_B n) MGMT.CTRL_PROTO_EN = true →
      u = (s.inc (MGMT_B n) MGMT.RX_FRAMES).inc (MGMT_B n) MGMT.REQUESTS →
      (∀ x ∈ [(Instr.hello n who seq, (⟨1, 0, moHELLO, seq, []⟩ : MReq)), (.regRead n who seq a count, ⟨1, 0, moREG_READ, seq, word4 a ++ word4 count⟩),
          (.regWrite n who seq a count vs, ⟨1, 0, moREG_WRITE, seq, word4 a ++ word4 count ++ vs.flatMap word4⟩),
          (.mgmtResetModule n who seq, ⟨1, 0, moRESET, seq, word4 1⟩), (.mgmtResetWarm n who seq, ⟨1, 0, moRESET, seq, word4 2⟩),
          (.updateData n who seq o bytes, ⟨1, 0, moUPDATE_DATA, seq, (leBytes 8 o).map BitVec.toNat ++ bytes⟩)],
        (s.mgmtWaits = false → Completes x.1 s (u.mgmtAnswer n who x.2).msgSettle)
        ∧ (s.mgmtWaits = true → (zget s.host.waiting n).length < 64 →
          Completes x.1 s { u with host.waiting := zset u.host.waiting n (zget u.host.waiting n ++ [(who, x.2)]) })
        ∧ (s.mgmtWaits = true → 64 ≤ (zget s.host.waiting n).length → Completes x.1 s (u.inc (MGMT_B n) MGMT.HELD_DROP)))
      ∧ (mgParse bytes = none → bytes.headD 0 < 256 →
        Completes (.mgmtBadRequest n who bytes) s ((u.inc (MGMT_B n) MGMT.REQ_ERR).raise (MGMT_B n) 2)))
    ∧ (s.mgmtUp n = true → Completes (.mgmtBadRequest n who (256 :: bytes)) s (s.inc (MGMT_B n) MGMT.RX_ERR)
      ∧ Completes (.mgmtBadRequest n who (257 :: bytes)) s ((s.inc (MGMT_B n) MGMT.RX_FRAMES).inc (MGMT_B n) MGMT.RX_DROP))
    ∧ (s.mgmtUp n = true → u = s.inc (MGMT_B n) MGMT.RX_FRAMES → u.ownAddr n target = true →
      Completes (.neighborSolicitation n target mac src) s (u.mgmtSend n .arp [mac, src, target, u.mac n])
      ∧ Completes (.icmpv6Echo n target mac src ident seq data) s (u.mgmtSend n .icmp ([mac, src, target, ident, seq] ++ data)))
    ∧ (n < 2 → s.on (MGMT_B n) = true → s.bit (MGMT_B n) MGMT.STAT_LINK_UP = false →
      Completes (.mgmtLinkChange n 1) s ((s.put (MGMT_B n) MGMT.STAT_LINK_UP 1).raise (MGMT_B n) 0))
    ∧ (n < 2 → s.bit (MGMT_B n) MGMT.STAT_LINK_UP = true →
      Completes (.mgmtLinkChange n 0) s ((s.put (MGMT_B n) MGMT.STAT_LINK_UP 0).raise (MGMT_B n) 1))

/-- A CLAIM of target k with no eligible source answers 0 and changes no register and no byte; a core that the wake
condition had woken then goes back to sleep, and wakes again while the condition holds; whether another core goes to
sleep is a free value (log entry 134). With a winner it answers it, clears its pending bit and marks it claimed by k
at its priority, changing no other register and no byte. COMPLETE of a source that target k (0-3) has claimed ends the
claim; of another it records 0x8E01. A claim while GCTRL.DISABLE is 1 answers 0. SW_SET and SW_CLR change the 16
latches by the ones written and sample their sources; SRC_CFG_WRITE, SOURCE_EDGE and FIRE_CLEAR act on their source.
The access comes through a path that reaches the registers: PCIe does not in D3hot (R454). Rests on: R477, R479, R482,
R483, R485, R494, R495, 14_belfry.md. -/
def Obligations.BelfryClaimsAndCompletes : Prop :=
  ∀ (s : State) (path k i w n : Nat) (v : Word), s.power.off = false → s.hears path = true →
    (k < 4 → s.winner k = 0 → Completes (.claim k) s ((s.coreIdle k).emit .read [0]))
    ∧ (s.winner 4 = 0 → s.host.d3 = false → Completes (.claim 4) s (s.emit .read [0]))
    ∧ (k < 4 → s.bit BELFRY_B BELFRY.GCTRL_DISABLE = true → Completes (.claim k) s ((s.coreIdle k).emit .read [0]))
    ∧ (k < 4 → zget s.reeve.sleep k = 2 →
      zget (s.coreIdle k).reeve.sleep k = (if { s with reeve.sleep := zset s.reeve.sleep k 1 }.wake k then 2 else 1))
    ∧ (k < 4 → SameRegsBut [] s (s.coreIdle k) ∧ SameBytes s (s.coreIdle k))
    ∧ (k < 5 → (k = 4 → s.host.d3 = false) → 0 < s.winner k → s.winner k < 1024 →
      ∃ t, exec (.claim k) s = .next t ∧ t.out = s.out ++ [(.read, [s.winner k])] ∧ t.pend (s.winner k) = false
        ∧ t.claimed (s.winner k) = true ∧ t.claimant (s.winner k) = k
        ∧ t.src (s.winner k) BELFRY_SRC.SRC_CFG_CLAIM_PRIO = s.src (s.winner k) BELFRY_SRC.SRC_CFG_PRIO
        ∧ SameRegsBut [srcBase (s.winner k) + 0x40 + 4 * (s.winner k % 512)] s t ∧ SameBytes s t
        ∧ t.host = s.host ∧ t.tile = s.tile ∧ t.job = s.job ∧ t.msg = s.msg ∧ t.opt = s.opt ∧ t.mill = s.mill)
    ∧ (k < 4 → 0 < n → n < 1024 → s.claimed n = true → s.claimant n = k → Completes (.complete path k n) s ((s.endClaim n).line4 s))
    ∧ (k < 5 → n < 1024 → (s.claimed n = false ∨ s.claimant n ≠ k) →
      Completes (.complete path k n) s (s.recErr BELFRY_B 16 0x8E01 path (k % 8 + n * 2 ^ 16)))
    ∧ Completes (.globalDisable v) s ((s.put BELFRY_B BELFRY.GCTRL_DISABLE (v.toNat % 2)).line4 s)
    ∧ Completes (.swSet v) s
      (((List.range 16).foldl (fun s b => if v.getLsbD b then s.sampleNow (128 + b) 0 else s)
        (s.wr (BELFRY_B + 0x48) (s.rd (BELFRY_B + 0x48) ||| v &&& 0xFFFF))).line4 s)
    ∧ Completes (.swClr v) s
      (((List.range 16).foldl (fun s b => if v.getLsbD b then s.sampleNow (128 + b) 0 else s)
        (s.wr (BELFRY_B + 0x48) (s.rd (BELFRY_B + 0x48) &&& ~~~(v &&& 0xFFFF)))).line4 s)
    ∧ (i < 1024 → Completes (.srcCfgWrite i v) s ((s.srcCfgWrite i v).line4 s))
    ∧ (i < 1024 → ¬ (144 ≤ i ∧ i ≤ 148) →
      Completes (.sourceEdge i (if s.srcInput i then 1 else 0) n) s ((s.sampleNow i n).line4 s))
    ∧ (w < 512 → Completes (.fireClear w) s (s.wr (srcBase (2 * w) + 0x840 + 4 * (w % 256)) 0))

/-- INPUT_RANGE low or high marks the input, event 1; OVERVOLTAGE_DISCONNECT opens the switch and SWITCH_RECLOSE
closes it; MAIN_RAILS_PERMITTED within range lets the rails rise; BROWNOUT resets the module (cause 1) with a record;
AUX_STOP flushes the log, puts the optics out, and the module is OFF. CAP engages, with event 3, as an average exceeds
the cap (CAP_W held to 1,000 to 4,000 W over 10 ms, 400 W more over 1 ms), and CAP_DISENGAGED ends it with both below;
THERM_WARN sets its bit with event 2 and THERM_WARN_CLEAR clears it, neither changing another register; THERM_TRIP
holds the module in STANDBY and resets it (cause 4). RESUME of a cool module ends the hold, and is refused with 0x8F02
otherwise. STAY_STANDBY_WRITE stores its bit. BACKUP_CHARGED sets CHARGED with event 1. Once the firmware is verified
THERM_N is low (0) while WARN or TRIPPED is 1, and ALERT_N while an enabled condition of ALERT_STAT holds; before, and
while OFF, both are high-impedance (2). The access comes through a path that reaches the registers: PCIe does not in
D3hot (R454). Rests on: R498, R500, R501, R502, R503, R504, R525, 15_power_reset.md. -/
def Obligations.PowerEventsSetTheirConditions : Prop :=
  ∀ (s : State) (path volts w v : Nat), s.power.off = false → s.hears path = true →
    (∃ t, exec .thermWarnClear s = .next t ∧ t.bit POWER_B POWER.THERM_WARN = false
      ∧ SameRegsBut [POWER_B + POWER.THERM_WARN.off] s t ∧ SameBytes s t ∧ SameParts s t)
    ∧ (s.bit POWER_B POWER.THERM_WARN = false → ∃ t, exec .thermWarn s = .next t ∧ t.bit POWER_B POWER.THERM_WARN = true
      ∧ (s.on POWER_B = true → t.bit POWER_B (bitF 0x14 2) = true)
      ∧ SameRegsBut [POWER_B + 0x14, POWER_B + POWER.THERM_WARN.off] s t ∧ SameBytes s t ∧ SameParts s t)
    ∧ (s.bit POWER_B POWER.CAP_STAT_ENGAGED = false → ∃ t, exec .cap s = .next t ∧ t.bit POWER_B POWER.CAP_STAT_ENGAGED = true
      ∧ (s.on POWER_B = true → t.bit POWER_B (bitF 0x14 3) = true)
      ∧ (max 1000 (min 4000 (s.get POWER_B POWER.CTRL_CAP_W)) < t.power.avg10
        ∨ max 1000 (min 4000 (s.get POWER_B POWER.CTRL_CAP_W)) + 400 < t.power.avg1)
      ∧ SameRegsBut [POWER_B + 0x14, POWER_B + POWER.CAP_STAT_ENGAGED.off] s t ∧ SameBytes s t ∧ t.tile = s.tile ∧ t.job = s.job)
    ∧ (∃ t, exec .capDisengaged s = .next t ∧ t.bit POWER_B POWER.CAP_STAT_ENGAGED = false
      ∧ t.power.avg10 < max 1000 (min 4000 (s.get POWER_B POWER.CTRL_CAP_W))
      ∧ t.power.avg1 < max 1000 (min 4000 (s.get POWER_B POWER.CTRL_CAP_W)) + 400
      ∧ SameRegsBut [POWER_B + POWER.CAP_STAT_ENGAGED.off] s t ∧ SameBytes s t ∧ t.tile = s.tile ∧ t.job = s.job)
    ∧ (s.pinsDriven = true → ((s.bit POWER_B POWER.THERM_WARN = true ∨ s.bit POWER_B POWER.THERM_TRIPPED = true) → s.thermN = 0)
      ∧ ((s.bit POWER_B POWER.THERM_WARN = false ∧ s.bit POWER_B POWER.THERM_TRIPPED = false) → s.thermN = 1)
      ∧ (s.alertN = 0 ↔ s.alertStat &&& s.get POWER_B ⟨0x64, 7, 0⟩ ≠ 0))
    ∧ (s.pinsDriven = false → s.thermN = 2 ∧ s.alertN = 2)
    ∧ Completes (.inputRange 0) s ({ s with power.inLow := true, power.railsOk := false }.raise POWER_B 1)
    ∧ Completes (.inputRange 1) s ({ s with power.inHigh := true }.raise POWER_B 1)
    ∧ Completes .overvoltageDisconnect s { s with power.switchOpen := true }
    ∧ Completes .switchReclose s { s with power.switchOpen := false, power.inHigh := false }
    ∧ Completes (.mainRailsPermitted 0) s ({ s with power.inLow := false, power.inHigh := false, power.railsOk := true }.tryRails)
    ∧ Completes (.brownout volts w) s (({ s with power.railsOk := false }.moduleReset 2).record POWER_B 0x0013 [volts, w])
    ∧ Completes .auxStop s { s.logFlush.opticsOff with power.off := true }
    ∧ Completes .thermTrip s (((s.put POWER_B POWER.STATE_THERM_HOLD 1).put POWER_B POWER.THERM_TRIPPED 1).moduleReset 0x10)
    ∧ (s.bit POWER_B POWER.STATE_THERM_HOLD = true →
      Completes (.resume path 1) s (((s.put POWER_B POWER.STATE_THERM_HOLD 0).put POWER_B POWER.THERM_TRIPPED 0).tryRails)
      ∧ Completes (.resume path 0) s (s.recErrX POWER_B 17 0x8F02 path))
    ∧ (s.bit POWER_B POWER.STATE_THERM_HOLD = false → Completes (.resume path 1) s (s.recErrX POWER_B 17 0x8F02 path))
    ∧ Completes (.stayStandbyWrite v) s ((s.put POWER_B POWER.CTRL_STAY_STANDBY (v % 2)).tryRails)
    ∧ (s.bit BACKUP_B BACKUP.STAT_CHARGED = false →
      Completes .backupCharged s ((s.put BACKUP_B BACKUP.STAT_CHARGED 1).raise BACKUP_B 1))

/-- RESET_CTRL with key 0x5253 resets the module (cause 6) or the Reeve, and with another key records 0x9001;
MODULE_RESET acts for its causes, COLD_RESET for power-on and watchdog, REEVE_WARM_RESET for the Reeve, with event 1
and stage 1 when the watchdog makes it; a WDT_KICK with key 0x4B49 clears the stage and restarts the period;
WDT_EXPIRED resets the Reeve at stage 0 and is a cold reset at stage 1. CRIT_ECC of kinds 1-5 corrects an error that
the word's check symbols, or the claim's copies, let it survive; otherwise it stores what it hit, restores it and
resets the module (cause 5). LC_WRITE with key 0x4C43 of an allowed target, outside LOADING and RUNNING, resets the
module towards it, and is refused with 0x8F01 otherwise; LC_CHANGED enters it at bring-up step 5. The access comes
through a path that reaches the registers: PCIe does not in D3hot (R454). Rests on: R175, R505, R506, R507, R508,
R509, R510, R511, R522, R523, R524, 15_power_reset.md. -/
def Obligations.ResetsNeedTheirKeyAndCause : Prop :=
  ∀ (s : State) (path key causes kind addr e target : Nat), s.power.off = false → s.hears path = true →
    Completes (.resetCtrlModule path 0x5253) s (s.moduleReset 0x40)
    ∧ Completes (.resetCtrlReeve path 0x5253) s (s.warmReset 14)
    ∧ (key % 2 ^ 16 ≠ 0x5253 → Completes (.resetCtrlModule path key) s (s.recErrX RESET_B 16 0x9001 path)
      ∧ Completes (.resetCtrlReeve path key) s (s.recErrX RESET_B 16 0x9001 path))
    ∧ (causes &&& 0x1F6 ≠ 0 →
      Completes (.moduleReset causes) s ((s.setCauses (causes &&& 8)).causedReset (causes &&& 0x1F6)))
    ∧ (causes &&& 9 ≠ 0 →
      Completes (.coldReset causes) s ((s.setCauses (causes &&& 0x1F6)).coldReset (causes &&& 9) s.resetting))
    ∧ Completes (.reeveWarmReset 1) s ((((s.raise RESET_B 1).put RESET_B RESET.WDT_STAT_STAGE 1).setCauses 8).warmReset 3).wdtRestart
    ∧ Completes (.reeveWarmReset 0) s (s.warmReset 14)
    ∧ Completes (.wdtKick 0x4B49) s { s.put RESET_B RESET.WDT_STAT_STAGE 0 with power.wdtAt := s.upNs, power.wdtGone := 0 }
    ∧ (s.bit RESET_B RESET.WDT_CTRL_EN = true →
      ∃ u : State, u = s.raise RESET_B 1
        ∧ (s.get RESET_B RESET.WDT_STAT_STAGE = 0 →
          Completes .wdtExpired s (((u.put RESET_B RESET.WDT_STAT_STAGE 1).setCauses 8).warmReset 3).wdtRestart)
        ∧ (s.get RESET_B RESET.WDT_STAT_STAGE ≠ 0 → Completes .wdtExpired s (u.coldReset 8 u.resetting)))
    ∧ (1 ≤ kind → kind ≤ 5 → critHarmless kind e = false → ∀ u : State,
      u = (({ (s.wr (BACKUP_B + 0x54) (BitVec.ofNat 32 (critType kind + kind * 2 ^ 16 + 2 ^ 31))).put64 BACKUP_B BACKUP.CRIT_ADDR_LO
          addr with power.critOwed := true }.critRestore kind false).moduleReset 0x20) →
      (kind ≠ 5 → Completes (.critEcc kind addr (2 * e)) s u)
      ∧ (kind = 5 → Completes (.critEcc kind addr (2 * e)) s (u.raise CLAIM_B 2)))
    ∧ (1 ≤ kind → kind ≤ 5 → critHarmless kind e = true → Completes (.critEcc kind addr (2 * e)) s (s.critCorrect kind addr e))
    ∧ (lcAllowed (s.get POWER_B POWER.LC_STATE) (target % 4) = true → s.jobState ≠ jsLOADING → s.jobState ≠ jsRUNNING →
      Completes (.lcWrite path 0x4C43 target) s ({ s with power.lcTarget := some (target % 4) }.moduleReset 0x40))
    ∧ ((lcAllowed (s.get POWER_B POWER.LC_STATE) (target % 4) = false ∨ s.jobState = jsLOADING ∨ s.jobState = jsRUNNING
        ∨ key % 2 ^ 16 ≠ 0x4C43) → Completes (.lcWrite path key target) s (s.recErrX POWER_B 16 0x8F01 path))
    ∧ (s.power.lcTarget = some target → 5 ≤ s.bstep →
      Completes .lcChanged s ({ s with power.lcTarget := none }.enterLc (s.get POWER_B POWER.LC_STATE) target))

/-- With the Reeve running: FIRMWARE at step 0 or 1 with no finding loads the tables, makes the hub pages ready,
writes the reset record and ends step 1; CLOCK at step 2 with REFCLK in tolerance, or CLKMODE 1, locks the root PLL
and waits for the rails at step 3; MAIN_RAILS at step 3, no longer waiting, sets the rails and ends step 3; MEMORY,
OPTICS and DONE run theirs at steps 4, 5 and 7; CALIBRATION hands its findings to the calibration. REEVE_BACK ends a
warm reset: event 0, and what was held is served. Rests on: R175, R512, R515, R517, R518, R520, R531,
15_power_reset.md, 95_what_each_step_holds.md. -/
def Obligations.BringUpRunsItsSteps : Prop :=
  ∀ (s : State) (dead train bist ns combs ref : Nat) (tiles : List (Nat × Nat × Nat)) (links : List (Nat × Nat × Nat × Nat))
    (codes : List Nat) (rings : List RingFound) (mzis : List (Nat × Nat × Nat)) (lks : List (Nat × Nat)), s.power.off = false →
    ((s.bringUp 0 = true ∨ s.bringUp 1 = true) → s.upd.rom = 0 → s.reeve.down = false →
      ∃ u : State, u = s.loadTables.setReady hubPages
        ∧ Completes (.firmware 0 0 0) s
          (((u.record RESET_B 0x0010 [(u.rd (RESET_B + 0x40)).toNat, (u.rd (BACKUP_B + 0x50)).toNat, (u.rd (MODULE_B + 0x4C)).toNat,
            (u.rd (UPDATE_B + 0x58)).toNat]).owedRecs).stepEnd 1))
    ∧ (s.bringUp 2 = true → s.reeve.down = false → (s.bit MODULE_B MODULE.STRAPS_CLKMODE = true ∨ ref = 1) →
      ∃ u : State, u = (if ref = 1 then s.refclkRises else s.refclkFalls).put MODULE_B MODULE.CLK_STAT_ROOT_LOCK 1
        ∧ Completes (.clock ref) s { u.put POWER_B POWER.STATE_STEP 3 with power.waitRails := true }.tryRails)
    ∧ (s.bringUp 3 = true → s.power.waitRails = false →
      Completes (.mainRails 0 25) s
        (((((((s.put POWER_B POWER.RAILS_MAIN_OK 1).put POWER_B POWER.RAILS_CORE_OK 15).put POWER_B POWER.RAILS_HBM_OK 255).put POWER_B
          POWER.RAILS_OE_OK 3).savedVolts.owedRecs.setItem 0 0 0).setItem 4 0 25).stepEnd 3))
    ∧ (s.bringUp 4 = true → s.reeve.down = false →
      Completes (.memory tiles dead train bist links) s (s.memoryStep ⟨tiles, dead, train, bist, links⟩))
    ∧ (s.bringUp 5 = true → s.reeve.down = false → Completes (.optics codes ns combs) s (s.opticsStep codes ns combs).msgSettle)
    ∧ (s.reeve.down = false → (s.bringUp 6 = true ∨ 2 ≤ s.pstate) →
      Completes (.calibration rings mzis lks) s (s.calibration ⟨rings, mzis, lks⟩).msgSettle)
    ∧ (s.bringUp 7 = true → s.reeve.down = false → Completes .done s s.doneStep.msgSettle)
    ∧ (s.reeve.down = true → s.upd.rom = 0 → s.updSt ≠ upHANDOVER → Completes .reeveBack s ((s.raise RESET_B 0).reeveServes).msgSettle)

/-- CAL_FULL runs a full calibration after READY with no calibration running and every port disabled, and is refused
with 0x9101 otherwise. LANE_CAL_START leads the oldest lane that may be calibrated; CAL_START at the drop module takes
the lane; LANE_CAL_SWEEP_DONE, CAL_END, CAL_ABORT and LANE_CAL_TIMEOUT move the calibration that they name;
LANE_CAL_SKIPPED counts a lane whose calibration is two periods late. AVS_SAMPLE gives each present die its margin;
LEDGER_SAVE saves the steps after an hour; ERROR_RATE_CHECK compares the counts of dies and stacks; ADV_CLEAR empties
the advisories. The access comes through a path that reaches the registers: PCIe does not in D3hot (R454). Rests on:
R537, R538, R539, R540, R544, R545, R546, R548, 16_calibration.md. -/
def Obligations.CalibrationsRunAndEnd : Prop :=
  ∀ (s u : State) (path l epoch seq ring : Nat) (e : PathEnt) (c : LaneCal) (f : RingFound) (ms : List Int), s.power.off = false → s.hears path = true →
    (2 ≤ s.pstate → s.get CAL_B CAL.STAT_STATE ≠ 1 → s.get CAL_B CAL.STAT_STATE ≠ 3 → (∀ p < 36, s.on (PORT_B p) = false) →
      Completes (.calFull path) s (s.calBegin 3))
    ∧ (∀ p < 36, s.on (PORT_B p) = true → Completes (.calFull path) s (s.recErrX CAL_B 16 0x9101 path))
    ∧ (s.plan.path false path = some e → s.calMay e l = true → s.calOldest (txRing e.port l) = true →
      Completes (.laneCalStart path l) s (s.calLead e l).msgSettle)
    ∧ (s.plan.path true path = some e → l < 9 → e.has l = true → serving (s.rxSt e.port l) = true →
      s.inCal (rxRing e.port l) = false →
      Completes (.calStart path l epoch seq) s ((s.countPath path).calDropEnd e l seq).msgSettle)
    ∧ ((s.cal.lanes.find? fun c => decide (c.ring = f.ring) && !c.swept) = some c →
      Completes (.laneCalSweepDone f) s (s.calSwept c f).msgSettle)
    ∧ Completes (.calEnd path l epoch seq) s
      ((s.countPath path).setCals (s.cal.lanes.map fun c =>
        if c.lead = false ∧ c.path = path ∧ c.lane = l ∧ c.seq = seq then { c with ended := true } else c))
    ∧ ((s.cal.lanes.find? fun c => decide (c.path = path ∧ c.lane = l ∧ c.seq = seq)) = some c → c.lead = true →
      Completes (.calAbort path l epoch seq) s ((s.countReturn path).calAborted c).msgSettle)
    ∧ ((s.cal.lanes.find? fun c => decide (c.ring = ring)) = some c → Completes (.laneCalTimeout ring) s (s.calAbandon c).msgSettle)
    ∧ (s.plan.path false path = some e → s.calLane e l = true → s.inCal (txRing e.port l) = false →
      2 * s.calPeriod ≤ s.upNs - s.calUp (txRing e.port l) → Completes (.laneCalSkipped path l) s (s.inc CAL_B CAL.SKIPPED_COUNT))
    ∧ Completes (.avsSample ms) s
      ((List.range 4).foldl (fun s d => if s.diePresent d then s.avsDie d (clampI (-64) 63 (ms.getD d 0)) else s) s)
    ∧ (s.since s.cal.savedAt 3600000000000 = true →
      Completes .ledgerSave s
        { ((List.range 4).filter s.diePresent).foldl (fun s d => { s with cal.steps := zset s.cal.steps d (s.avsSteps d) }) s with
          cal.savedAt := some s.upNs })
    ∧ (u = ((List.range 4).filter s.diePresent).foldl (fun s d =>
        s.errCheck d (s.get (DIE_B d) DIE.SRAM_CORR_COUNT) (s.get AGEING_B AGEING.THRESH_ERR_SRAM_PER_H) 0x21 d) s →
      Completes .errorRateCheck s
        (((List.range 8).filter u.stackIn).foldl (fun s m =>
          s.errCheck (16 + m) (s.get (HBM_B m) HBM.CORR_COUNT) (s.get AGEING_B AGEING.THRESH_ERR_HBM_PER_H) 0x22 m) u))
    ∧ Completes .advClear s { s.put AGEING_B AGEING.ADV_STAT_COUNT 0 with cal.adv := [] }

/-- DOWNLOAD, VERIFY, ACTIVATE, CONFIRM and ABORT act with key 0x5550, UPDATE enabled, in a state that accepts them,
and record 0x9301 with the command and the state otherwise. VERIFY_DONE in VERIFYING decides by the package's checks;
FLASH_WRITTEN in ACTIVATING goes on to HANDOVER, or rejects a failed write; HANDOVER in that state begins the new
firmware, HANDOVER_TIMEOUT falls back with result 0x12, by the watchdog with its first stage; TABLE_APPLY applies a
slot's table under HOLD; STAGE_WRITE takes a 64 KiB-aligned base of 16 MiB of present HBM in IDLE or REJECTED, and is
refused with 0x9302 otherwise. The access comes through a path that reaches the registers: PCIe does not in D3hot
(R454). Rests on: R570, R571, R572, R573, R576, R577, R578, 18_update.md. -/
def Obligations.UpdateCommandsNeedKeyAndState : Prop :=
  ∀ (s : State) (path key ms i lo hi n fail a : Nat) (tables : List (Nat × Word)), s.power.off = false → s.hears path = true →
    (∀ x ∈ [(Instr.download path key, 1), (.verify path key, 2), (.activate path key, 4), (.confirm path key, 8), (.abort path key, 16)],
      (key % 2 ^ 16 = 0x5550 → s.updOn = true → s.updAccepts x.2 = true → Completes x.1 s (s.updCmd x.2))
      ∧ ((key % 2 ^ 16 ≠ 0x5550 ∨ s.updOn = false ∨ s.updAccepts x.2 = false) →
        Completes x.1 s (s.recErr UPDATE_B 16 0x9301 path (x.2 + s.updSt * 2 ^ 8))))
    ∧ (s.updSt = upVERIFYING → Completes (.verifyDone tables) s (s.verifyDone tables).msgSettle)
    ∧ (s.updSt = upACTIVATING →
      (s.flashWritten n fail).updSt = upHANDOVER →
        Completes (.flashWritten n fail) s (s.flashWritten n fail).handoverBegin.msgSettle)
    ∧ (s.updSt = upACTIVATING → (s.flashWritten n fail).updSt ≠ upHANDOVER →
        Completes (.flashWritten n fail) s (s.flashWritten n fail).msgSettle)
    ∧ (s.updSt = upHANDOVER → Completes (.handover ms) s (s.handoverEnd ms).msgSettle
      ∧ Completes (.handoverTimeout 1) s
        (((((s.raise RESET_B 1).put RESET_B RESET.WDT_STAT_STAGE 1).setCauses 8).warmReset 3).wdtRestart.setResult 0x12 0)
      ∧ Completes (.handoverTimeout 0) s ((s.warmReset 14).setResult 0x12 0))
    ∧ (s.reeve.down = false → s.upd.due.contains i = true →
      ∃ r u : State, r = s.modLines i Slot.onHold
        ∧ u = { (r.tableDiff s.upd.run i).foldl (fun (t : State) o => t.wr (DESC_B + 64 * i + o) (s.upd.run.word (64 * i + o) (t.rd (DESC_B + 64 * i + o)))) r with
          upd.due := r.upd.due.filter (· ≠ i) }.slotRefresh i
        ∧ (u.upd.due ≠ [] → Completes (.tableApply i) s u.msgSettle))
    ∧ (a = lo % 2 ^ 32 + hi % 256 * 2 ^ 32 →
      ((s.updSt = upIDLE ∨ s.updSt = upREJECTED) → a % 65536 = 0 → isHbm a = true → s.presentRange a (2 ^ 24) = true →
        Completes (.stageWrite path lo hi) s ((s.put UPDATE_B UPDATE.STAGE_LO lo).put UPDATE_B UPDATE.STAGE_HI hi))
      ∧ ((s.updSt ≠ upIDLE ∧ s.updSt ≠ upREJECTED ∨ a % 65536 ≠ 0 ∨ isHbm a = false ∨ s.presentRange a (2 ^ 24) = false) →
        Completes (.stageWrite path lo hi) s (s.recErrX UPDATE_B 17 0x9302 path)))

/-- With the Reeve running (or the boot ROM in its place) and fewer than 32 frames of VC3 waiting at the port; with
the Reeve down a chain frame waits at the port, and the frame that finds 32 there is dropped. OFFER_SEND with a
verified package offers it on every port that relays. An OFFER of another image that is taken begins a download from
the port and asks for its first chunks. REQ on a relaying port of its transfer reads and sends up to 64 chunks, or
waits while the staging stack holds back requests. DATA of the transfer stores the chunk's bytes in the staging area,
the last one going to VERIFYING. END of the transfer stops the port's relay, with event 5 where it succeeded, and
writes a record. A timed-out window's chunk is asked for again, the last END is repeated, and a silent transfer is
given up with result 0x20. FRU_WRITE emits a NACK. Rests on: R581, R582, R583, R596, 18_update.md, 19_connectors.md.
-/
def Obligations.TheBucketChainOffersAndTransfers : Prop :=
  ∀ (s : State) (p serial xfer len version tag first count c code o b : Nat) (bytes : List Nat) (k : PkgInfo) (x : Xfer),
    s.power.off = false →
    (∀ y ∈ [(Instr.offer p serial xfer len version tag, 0x20, [len, tag]), (.req p xfer first count, 0x21, [first, count]),
        (.data p xfer c bytes, 0x22, c :: bytes), (.bcEnd p xfer code, 0x23, [code])], p < 36 →
      (32 ≤ s.vc3Held p → Completes y.1 s (s.vc3Drop p))
      ∧ (s.vc3Held p < 32 → s.reeve.down = true → s.upd.rom = 0 → Completes y.1 s (s.offer (.chain p y.2.1 xfer y.2.2))))
    ∧ (s.reeve.down = false → s.upd.pkg = some k →
      Completes .offerSend s
        (((List.range 36).filter s.offers).foldl (fun s p =>
          s.chainSend 0x20 p (zget s.upd.xfers p) [s.pkgLen, k.vers.getD 0 0, k.tag]) s))
    ∧ ((s.reeve.down = false ∨ s.upd.rom ≠ 0) → s.vc3Held p < 32 →
    (p < 36 → s.updOn = true → s.upd.inc = none → s.hasEnded p xfer = false →
      ¬ (s.upd.rom = 0 ∧ tag = s.upd.run.tag) → s.takesOffer len = true →
      Completes (.offer p serial xfer len version tag) s
        ((((({ (s.countIn p).updStart 5 len with upd.inc := some ⟨p, xfer, [], []⟩ }.put UPDATE_B UPDATE.BC_STAT_ACTIVE 1).put UPDATE_B
          UPDATE.BC_STAT_PORT p).put UPDATE_B UPDATE.BC_STAT_CHUNKS 0)).ask))
    ∧ (p < 36 → s.stageHeld = false → (s.countIn p).offers p = true → zget (s.countIn p).upd.xfers p = xfer →
      Completes (.req p xfer first count) s
        ((((List.range (min 64 count)).map (first + ·)).filter fun c => decide (c < (s.countIn p).chunks)).foldl (fun s c =>
          (s.pkgRead (512 * c) (s.chunkLen c)).chainSend 0x22 p xfer ([c, (s.pkgRead (512 * c) (s.chunkLen c)).chunkLen c]
            ++ (List.range ((s.pkgRead (512 * c) (s.chunkLen c)).chunkLen c)).map fun i =>
              (s.pkgRead (512 * c) (s.chunkLen c)).stageByte (512 * c + i))) (s.countIn p)))
    ∧ (p < 36 → s.stageHeld = true → Completes (.req p xfer first count) s (s.offer (.chain p 0x21 xfer [first, count])))
    ∧ (p < 36 → s.upd.inc = some x → s.updSt = upDOWNLOADING → x.port = p → x.xfer = xfer →
      c < s.chunks → bytes.length = s.chunkLen c → x.got.contains c = false →
      ∃ u : State, u = { (s.countIn p).stageBytes (512 * c) bytes with
          upd.inc := some { x with got := c :: x.got, asked := x.asked.filter (· ≠ c) } }.put UPDATE_B UPDATE.BC_STAT_CHUNKS (x.got.length + 1)
        ∧ (x.got.length + 1 = u.chunks → Completes (.data p xfer c bytes) s (u.setUpd upVERIFYING))
        ∧ (x.got.length + 1 ≠ u.chunks → Completes (.data p xfer c bytes) s u.ask))
    ∧ (p < 36 → s.offers p = true → zget s.upd.xfers p = xfer → code ≠ 0 → code ≠ 0x21 →
      Completes (.bcEnd p xfer code) s
        ({ s.countIn p with upd.stopped := zset s.upd.stopped p true }.record UPDATE_B 0x060A [p, code]))
    ∧ (p < 36 → s.offers p = true → zget s.upd.xfers p = xfer → (code = 0 ∨ code = 0x21) →
      Completes (.bcEnd p xfer code) s
        ((({ s.countIn p with upd.stopped := zset s.upd.stopped p true }.put UPDATE_B (bitF (0x7C + p / 32 * 4) (p % 32)) 1).raise
          UPDATE_B 5).record UPDATE_B 0x060A [p, code])))
    ∧ ((s.reeve.down = false ∨ s.upd.rom ≠ 0) → s.upd.ended = some (p, xfer, code) →
      Completes .endRepeat s (s.endSend p xfer code))
    ∧ (s.upd.inc = some x → x.asked.contains c = true → Completes (.chunkRerequest c) s (s.chainSend 0x21 x.port x.xfer [c, 1]))
    ∧ (s.upd.inc = some x → s.updSt = upDOWNLOADING →
      Completes .bcTimeout s
        ((((s.setResult 0x20 0).record UPDATE_B 0x060B [x.port, s.get UPDATE_B UPDATE.BC_STAT_CHUNKS]).updDiscard).updIdle))
    ∧ Completes (.fruWrite o b) s (s.emit .na [o, b])
end

