-- ==== Sys2Proof/Laws/SMap.lean ====
section
/-!
SUPPORT. The laws of sparse maps: a read after a write, and the canonical form.
-/
namespace Sys2Proof.Machine

variable {α : Type}

theorem mget_merase_same (d : Nat → α) (m : SMap α) (k : Nat) : mget d (merase m k) k = d k := by
  induction m with
  | nil => rfl
  | cons p m ih =>
    obtain ⟨a, v⟩ := p
    by_cases h : a = k
    · subst h; simpa [merase] using ih
    · have : (a == k) = false := by simpa using h
      simp only [merase, List.filter_cons, this, Bool.not_false, if_true, mget, h, if_false]
      exact ih

theorem mget_merase_ne (d : Nat → α) (m : SMap α) {k j : Nat} (h : j ≠ k) : mget d (merase m k) j = mget d m j := by
  induction m with
  | nil => rfl
  | cons p m ih =>
    obtain ⟨a, v⟩ := p
    by_cases hk : a = k
    · subst hk
      have : ¬ a = j := fun e => h e.symm
      simp only [merase, List.filter_cons, beq_self_eq_true, Bool.not_true, mget, this, if_false]
      exact ih
    · have : (a == k) = false := by simpa using hk
      simp only [merase, List.filter_cons, this, Bool.not_false, if_true, mget]
      split
      · rfl
      · exact ih

theorem mget_minsert_same (d : Nat → α) (m : SMap α) (k : Nat) (v : α) (h : ∀ p ∈ m, p.1 ≠ k) :
    mget d (minsert m k v) k = v := by
  induction m with
  | nil => simp [minsert, mget]
  | cons p m ih =>
    obtain ⟨a, w⟩ := p
    have ha : a ≠ k := h (a, w) (by simp)
    have ih := ih fun p hp => h p (by simp [hp])
    simp only [minsert]
    split
    · simp [mget]
    · simp [mget, ha, ih]

theorem mget_minsert_ne (d : Nat → α) (m : SMap α) {k j : Nat} (v : α) (h : j ≠ k) :
    mget d (minsert m k v) j = mget d m j := by
  induction m with
  | nil => simp [minsert, mget, Ne.symm h]
  | cons p m ih =>
    obtain ⟨a, w⟩ := p
    simp only [minsert]
    split
    · simp [mget, Ne.symm h]
    · simp only [mget]; split
      · rfl
      · exact ih

theorem merase_keys (m : SMap α) (k : Nat) : ∀ p ∈ merase m k, p.1 ≠ k := by
  intro p hp
  simp only [merase, List.mem_filter, Bool.not_eq_true', beq_eq_false_iff_ne] at hp
  exact hp.2

variable [DecidableEq α]

/-- A read after a write of the same key gives what was written. -/
@[simp] theorem mget_mset_same (d : Nat → α) (m : SMap α) (k : Nat) (v : α) : mget d (mset d m k v) k = v := by
  unfold mset
  split
  · rename_i h; rw [mget_merase_same]; exact h.symm
  · exact mget_minsert_same d _ k v (merase_keys m k)

/-- A write leaves every other key alone. -/
theorem mget_mset_ne (d : Nat → α) (m : SMap α) {k j : Nat} (v : α) (h : j ≠ k) : mget d (mset d m k v) j = mget d m j := by
  unfold mset
  split
  · exact mget_merase_ne d m h
  · rw [mget_minsert_ne d _ v h, mget_merase_ne d m h]

theorem mget_mset (d : Nat → α) (m : SMap α) (k j : Nat) (v : α) :
    mget d (mset d m k v) j = if j = k then v else mget d m j := by
  split
  · rename_i h; subst h; simp
  · rename_i h; exact mget_mset_ne d m v h

theorem mwfFrom_mono (d : Nat → α) (m : SMap α) {a b : Nat} (h : a ≤ b) (hm : mwfFrom d b m = true) : mwfFrom d a m = true := by
  cases m with
  | nil => rfl
  | cons p m =>
    obtain ⟨k, v⟩ := p
    simp only [mwfFrom, Bool.and_eq_true, decide_eq_true_eq] at hm ⊢
    exact ⟨⟨by omega, hm.1.2⟩, hm.2⟩

theorem mwfFrom_filter (d : Nat → α) (q : Nat × α → Bool) (m : SMap α) (a : Nat) (hm : mwfFrom d a m = true) :
    mwfFrom d a (m.filter q) = true := by
  induction m generalizing a with
  | nil => rfl
  | cons p m ih =>
    obtain ⟨k, v⟩ := p
    simp only [mwfFrom, Bool.and_eq_true, decide_eq_true_eq] at hm
    have h := ih (k + 1) hm.2
    rw [List.filter_cons]
    split
    · simp only [mwfFrom, Bool.and_eq_true, decide_eq_true_eq]; exact ⟨hm.1, h⟩
    · exact mwfFrom_mono d _ (by omega) h

/-- Dropping entries keeps the canonical form. -/
theorem mwf_filter (d : Nat → α) (q : Nat × α → Bool) {m : SMap α} (hm : mwf d m = true) : mwf d (m.filter q) = true :=
  mwfFrom_filter d q m 0 hm

theorem mwfFrom_minsert (d : Nat → α) (m : SMap α) (a k : Nat) (v : α) (hv : v ≠ d k) (ha : a ≤ k)
    (hk : ∀ p ∈ m, p.1 ≠ k) (hm : mwfFrom d a m = true) : mwfFrom d a (minsert m k v) = true := by
  induction m generalizing a with
  | nil => simp [minsert, mwfFrom, hv, ha]
  | cons p m ih =>
    obtain ⟨b, w⟩ := p
    have hb : b ≠ k := hk (b, w) (by simp)
    simp only [mwfFrom, Bool.and_eq_true, decide_eq_true_eq] at hm
    simp only [minsert]
    split
    · simp only [mwfFrom, Bool.and_eq_true, decide_eq_true_eq]
      exact ⟨⟨ha, hv⟩, ⟨by omega, hm.1.2⟩, hm.2⟩
    · simp only [mwfFrom, Bool.and_eq_true, decide_eq_true_eq]
      exact ⟨hm.1, ih (b + 1) (by omega) (fun p hp => hk p (by simp [hp])) hm.2⟩

/-- A write keeps the canonical form. -/
theorem mwf_mset (d : Nat → α) {m : SMap α} (k : Nat) (v : α) (hm : mwf d m = true) : mwf d (mset d m k v) = true := by
  unfold mset
  split
  · exact mwf_filter d _ hm
  · rename_i h
    exact mwfFrom_minsert d _ 0 k v h (by omega) (merase_keys m k) (mwf_filter d _ hm)

/-- The empty map has the canonical form. -/
@[simp] theorem mwf_nil (d : Nat → α) : mwf d [] = true := rfl

section Default
variable [Inhabited α]

@[simp] theorem zget_zset_same (m : SMap α) (k : Nat) (v : α) : zget (zset m k v) k = v := mget_mset_same _ m k v

theorem zget_zset_ne (m : SMap α) {k j : Nat} (v : α) (h : j ≠ k) : zget (zset m k v) j = zget m j := mget_mset_ne _ m v h

theorem zget_zset (m : SMap α) (k j : Nat) (v : α) : zget (zset m k v) j = if j = k then v else zget m j := mget_mset _ m k j v

end Default

end Sys2Proof.Machine
end

