-- ==== Sys2Proof/Laws/State.lean ====
section
/-!
SUPPORT. What each update of the state leaves alone: one lemma for each field and update.
-/
namespace Sys2Proof.Machine

/-! ### State.wr -/

@[simp] theorem State.wr_pending (s : State) (a : Nat) (v : Word) : (s.wr a v).pending = s.pending := rfl
@[simp] theorem State.wr_free (s : State) (a : Nat) (v : Word) : (s.wr a v).free = s.free := rfl
@[simp] theorem State.wr_out (s : State) (a : Nat) (v : Word) : (s.wr a v).out = s.out := rfl
@[simp] theorem State.wr_pregs (s : State) (a : Nat) (v : Word) : (s.wr a v).pregs = s.pregs := rfl
@[simp] theorem State.wr_shadow (s : State) (a : Nat) (v : Word) : (s.wr a v).shadow = s.shadow := rfl
@[simp] theorem State.wr_held (s : State) (a : Nat) (v : Word) : (s.wr a v).held = s.held := rfl
@[simp] theorem State.wr_mem (s : State) (a : Nat) (v : Word) : (s.wr a v).mem = s.mem := rfl
@[simp] theorem State.wr_upset (s : State) (a : Nat) (v : Word) : (s.wr a v).upset = s.upset := rfl
@[simp] theorem State.wr_poison (s : State) (a : Nat) (v : Word) : (s.wr a v).poison = s.poison := rfl
@[simp] theorem State.wr_chanFail (s : State) (a : Nat) (v : Word) : (s.wr a v).chanFail = s.chanFail := rfl
@[simp] theorem State.wr_mapoutRec (s : State) (a : Nat) (v : Word) : (s.wr a v).mapoutRec = s.mapoutRec := rfl
@[simp] theorem State.wr_tile (s : State) (a : Nat) (v : Word) : (s.wr a v).tile = s.tile := rfl
@[simp] theorem State.wr_flights (s : State) (a : Nat) (v : Word) : (s.wr a v).flights = s.flights := rfl
@[simp] theorem State.wr_job (s : State) (a : Nat) (v : Word) : (s.wr a v).job = s.job := rfl
@[simp] theorem State.wr_time (s : State) (a : Nat) (v : Word) : (s.wr a v).time = s.time := rfl
@[simp] theorem State.wr_log (s : State) (a : Nat) (v : Word) : (s.wr a v).log = s.log := rfl
@[simp] theorem State.wr_msg (s : State) (a : Nat) (v : Word) : (s.wr a v).msg = s.msg := rfl
@[simp] theorem State.wr_mill (s : State) (a : Nat) (v : Word) : (s.wr a v).mill = s.mill := rfl
@[simp] theorem State.wr_opt (s : State) (a : Nat) (v : Word) : (s.wr a v).opt = s.opt := rfl
@[simp] theorem State.wr_xrds (s : State) (a : Nat) (v : Word) : (s.wr a v).xrds = s.xrds := rfl
@[simp] theorem State.wr_host (s : State) (a : Nat) (v : Word) : (s.wr a v).host = s.host := rfl
@[simp] theorem State.wr_reeve (s : State) (a : Nat) (v : Word) : (s.wr a v).reeve = s.reeve := rfl
@[simp] theorem State.wr_power (s : State) (a : Nat) (v : Word) : (s.wr a v).power = s.power := rfl
@[simp] theorem State.wr_cal (s : State) (a : Nat) (v : Word) : (s.wr a v).cal = s.cal := rfl
@[simp] theorem State.wr_upd (s : State) (a : Nat) (v : Word) : (s.wr a v).upd = s.upd := rfl

/-! ### State.pwr -/

@[simp] theorem State.pwr_pending (s : State) (p a : Nat) (v : Word) : (s.pwr p a v).pending = s.pending := by cases s; rfl
@[simp] theorem State.pwr_free (s : State) (p a : Nat) (v : Word) : (s.pwr p a v).free = s.free := by cases s; rfl
@[simp] theorem State.pwr_out (s : State) (p a : Nat) (v : Word) : (s.pwr p a v).out = s.out := by cases s; rfl
@[simp] theorem State.pwr_regs (s : State) (p a : Nat) (v : Word) : (s.pwr p a v).regs = s.regs := by cases s; rfl
@[simp] theorem State.pwr_shadow (s : State) (p a : Nat) (v : Word) : (s.pwr p a v).shadow = s.shadow := by cases s; rfl
@[simp] theorem State.pwr_held (s : State) (p a : Nat) (v : Word) : (s.pwr p a v).held = s.held := by cases s; rfl
@[simp] theorem State.pwr_mem (s : State) (p a : Nat) (v : Word) : (s.pwr p a v).mem = s.mem := by cases s; rfl
@[simp] theorem State.pwr_upset (s : State) (p a : Nat) (v : Word) : (s.pwr p a v).upset = s.upset := by cases s; rfl
@[simp] theorem State.pwr_poison (s : State) (p a : Nat) (v : Word) : (s.pwr p a v).poison = s.poison := by cases s; rfl
@[simp] theorem State.pwr_chanFail (s : State) (p a : Nat) (v : Word) : (s.pwr p a v).chanFail = s.chanFail := by cases s; rfl
@[simp] theorem State.pwr_mapoutRec (s : State) (p a : Nat) (v : Word) : (s.pwr p a v).mapoutRec = s.mapoutRec := by cases s; rfl
@[simp] theorem State.pwr_tile (s : State) (p a : Nat) (v : Word) : (s.pwr p a v).tile = s.tile := by cases s; rfl
@[simp] theorem State.pwr_flights (s : State) (p a : Nat) (v : Word) : (s.pwr p a v).flights = s.flights := by cases s; rfl
@[simp] theorem State.pwr_job (s : State) (p a : Nat) (v : Word) : (s.pwr p a v).job = s.job := by cases s; rfl
@[simp] theorem State.pwr_time (s : State) (p a : Nat) (v : Word) : (s.pwr p a v).time = s.time := by cases s; rfl
@[simp] theorem State.pwr_log (s : State) (p a : Nat) (v : Word) : (s.pwr p a v).log = s.log := by cases s; rfl
@[simp] theorem State.pwr_msg (s : State) (p a : Nat) (v : Word) : (s.pwr p a v).msg = s.msg := by cases s; rfl
@[simp] theorem State.pwr_mill (s : State) (p a : Nat) (v : Word) : (s.pwr p a v).mill = s.mill := by cases s; rfl
@[simp] theorem State.pwr_opt (s : State) (p a : Nat) (v : Word) : (s.pwr p a v).opt = s.opt := by cases s; rfl
@[simp] theorem State.pwr_xrds (s : State) (p a : Nat) (v : Word) : (s.pwr p a v).xrds = s.xrds := by cases s; rfl
@[simp] theorem State.pwr_host (s : State) (p a : Nat) (v : Word) : (s.pwr p a v).host = s.host := by cases s; rfl
@[simp] theorem State.pwr_reeve (s : State) (p a : Nat) (v : Word) : (s.pwr p a v).reeve = s.reeve := by cases s; rfl
@[simp] theorem State.pwr_power (s : State) (p a : Nat) (v : Word) : (s.pwr p a v).power = s.power := by cases s; rfl
@[simp] theorem State.pwr_cal (s : State) (p a : Nat) (v : Word) : (s.pwr p a v).cal = s.cal := by cases s; rfl
@[simp] theorem State.pwr_upd (s : State) (p a : Nat) (v : Word) : (s.pwr p a v).upd = s.upd := by cases s; rfl

/-! ### State.setByte -/

@[simp] theorem State.setByte_pending (s : State) (a : Nat) (v : Byte) : (s.setByte a v).pending = s.pending := rfl
@[simp] theorem State.setByte_free (s : State) (a : Nat) (v : Byte) : (s.setByte a v).free = s.free := rfl
@[simp] theorem State.setByte_out (s : State) (a : Nat) (v : Byte) : (s.setByte a v).out = s.out := rfl
@[simp] theorem State.setByte_regs (s : State) (a : Nat) (v : Byte) : (s.setByte a v).regs = s.regs := rfl
@[simp] theorem State.setByte_pregs (s : State) (a : Nat) (v : Byte) : (s.setByte a v).pregs = s.pregs := rfl
@[simp] theorem State.setByte_shadow (s : State) (a : Nat) (v : Byte) : (s.setByte a v).shadow = s.shadow := rfl
@[simp] theorem State.setByte_held (s : State) (a : Nat) (v : Byte) : (s.setByte a v).held = s.held := rfl
@[simp] theorem State.setByte_upset (s : State) (a : Nat) (v : Byte) : (s.setByte a v).upset = s.upset := rfl
@[simp] theorem State.setByte_poison (s : State) (a : Nat) (v : Byte) : (s.setByte a v).poison = s.poison := rfl
@[simp] theorem State.setByte_chanFail (s : State) (a : Nat) (v : Byte) : (s.setByte a v).chanFail = s.chanFail := rfl
@[simp] theorem State.setByte_mapoutRec (s : State) (a : Nat) (v : Byte) : (s.setByte a v).mapoutRec = s.mapoutRec := rfl
@[simp] theorem State.setByte_tile (s : State) (a : Nat) (v : Byte) : (s.setByte a v).tile = s.tile := rfl
@[simp] theorem State.setByte_flights (s : State) (a : Nat) (v : Byte) : (s.setByte a v).flights = s.flights := rfl
@[simp] theorem State.setByte_job (s : State) (a : Nat) (v : Byte) : (s.setByte a v).job = s.job := rfl
@[simp] theorem State.setByte_time (s : State) (a : Nat) (v : Byte) : (s.setByte a v).time = s.time := rfl
@[simp] theorem State.setByte_log (s : State) (a : Nat) (v : Byte) : (s.setByte a v).log = s.log := rfl
@[simp] theorem State.setByte_msg (s : State) (a : Nat) (v : Byte) : (s.setByte a v).msg = s.msg := rfl
@[simp] theorem State.setByte_mill (s : State) (a : Nat) (v : Byte) : (s.setByte a v).mill = s.mill := rfl
@[simp] theorem State.setByte_opt (s : State) (a : Nat) (v : Byte) : (s.setByte a v).opt = s.opt := rfl
@[simp] theorem State.setByte_xrds (s : State) (a : Nat) (v : Byte) : (s.setByte a v).xrds = s.xrds := rfl
@[simp] theorem State.setByte_host (s : State) (a : Nat) (v : Byte) : (s.setByte a v).host = s.host := rfl
@[simp] theorem State.setByte_reeve (s : State) (a : Nat) (v : Byte) : (s.setByte a v).reeve = s.reeve := rfl
@[simp] theorem State.setByte_power (s : State) (a : Nat) (v : Byte) : (s.setByte a v).power = s.power := rfl
@[simp] theorem State.setByte_cal (s : State) (a : Nat) (v : Byte) : (s.setByte a v).cal = s.cal := rfl
@[simp] theorem State.setByte_upd (s : State) (a : Nat) (v : Byte) : (s.setByte a v).upd = s.upd := rfl

/-! ### State.put -/

@[simp] theorem State.put_pending (s : State) (a : Nat) (f : Fld) (v : Nat) : (s.put a f v).pending = s.pending := rfl
@[simp] theorem State.put_free (s : State) (a : Nat) (f : Fld) (v : Nat) : (s.put a f v).free = s.free := rfl
@[simp] theorem State.put_out (s : State) (a : Nat) (f : Fld) (v : Nat) : (s.put a f v).out = s.out := rfl
@[simp] theorem State.put_pregs (s : State) (a : Nat) (f : Fld) (v : Nat) : (s.put a f v).pregs = s.pregs := rfl
@[simp] theorem State.put_shadow (s : State) (a : Nat) (f : Fld) (v : Nat) : (s.put a f v).shadow = s.shadow := rfl
@[simp] theorem State.put_held (s : State) (a : Nat) (f : Fld) (v : Nat) : (s.put a f v).held = s.held := rfl
@[simp] theorem State.put_mem (s : State) (a : Nat) (f : Fld) (v : Nat) : (s.put a f v).mem = s.mem := rfl
@[simp] theorem State.put_upset (s : State) (a : Nat) (f : Fld) (v : Nat) : (s.put a f v).upset = s.upset := rfl
@[simp] theorem State.put_poison (s : State) (a : Nat) (f : Fld) (v : Nat) : (s.put a f v).poison = s.poison := rfl
@[simp] theorem State.put_chanFail (s : State) (a : Nat) (f : Fld) (v : Nat) : (s.put a f v).chanFail = s.chanFail := rfl
@[simp] theorem State.put_mapoutRec (s : State) (a : Nat) (f : Fld) (v : Nat) : (s.put a f v).mapoutRec = s.mapoutRec := rfl
@[simp] theorem State.put_tile (s : State) (a : Nat) (f : Fld) (v : Nat) : (s.put a f v).tile = s.tile := rfl
@[simp] theorem State.put_flights (s : State) (a : Nat) (f : Fld) (v : Nat) : (s.put a f v).flights = s.flights := rfl
@[simp] theorem State.put_job (s : State) (a : Nat) (f : Fld) (v : Nat) : (s.put a f v).job = s.job := rfl
@[simp] theorem State.put_time (s : State) (a : Nat) (f : Fld) (v : Nat) : (s.put a f v).time = s.time := rfl
@[simp] theorem State.put_log (s : State) (a : Nat) (f : Fld) (v : Nat) : (s.put a f v).log = s.log := rfl
@[simp] theorem State.put_msg (s : State) (a : Nat) (f : Fld) (v : Nat) : (s.put a f v).msg = s.msg := rfl
@[simp] theorem State.put_mill (s : State) (a : Nat) (f : Fld) (v : Nat) : (s.put a f v).mill = s.mill := rfl
@[simp] theorem State.put_opt (s : State) (a : Nat) (f : Fld) (v : Nat) : (s.put a f v).opt = s.opt := rfl
@[simp] theorem State.put_xrds (s : State) (a : Nat) (f : Fld) (v : Nat) : (s.put a f v).xrds = s.xrds := rfl
@[simp] theorem State.put_host (s : State) (a : Nat) (f : Fld) (v : Nat) : (s.put a f v).host = s.host := rfl
@[simp] theorem State.put_reeve (s : State) (a : Nat) (f : Fld) (v : Nat) : (s.put a f v).reeve = s.reeve := rfl
@[simp] theorem State.put_power (s : State) (a : Nat) (f : Fld) (v : Nat) : (s.put a f v).power = s.power := rfl
@[simp] theorem State.put_cal (s : State) (a : Nat) (f : Fld) (v : Nat) : (s.put a f v).cal = s.cal := rfl
@[simp] theorem State.put_upd (s : State) (a : Nat) (f : Fld) (v : Nat) : (s.put a f v).upd = s.upd := rfl

/-! ### State.put64 -/

@[simp] theorem State.put64_pending (s : State) (a : Nat) (f : Fld) (v : Nat) : (s.put64 a f v).pending = s.pending := rfl
@[simp] theorem State.put64_free (s : State) (a : Nat) (f : Fld) (v : Nat) : (s.put64 a f v).free = s.free := rfl
@[simp] theorem State.put64_out (s : State) (a : Nat) (f : Fld) (v : Nat) : (s.put64 a f v).out = s.out := rfl
@[simp] theorem State.put64_pregs (s : State) (a : Nat) (f : Fld) (v : Nat) : (s.put64 a f v).pregs = s.pregs := rfl
@[simp] theorem State.put64_shadow (s : State) (a : Nat) (f : Fld) (v : Nat) : (s.put64 a f v).shadow = s.shadow := rfl
@[simp] theorem State.put64_held (s : State) (a : Nat) (f : Fld) (v : Nat) : (s.put64 a f v).held = s.held := rfl
@[simp] theorem State.put64_mem (s : State) (a : Nat) (f : Fld) (v : Nat) : (s.put64 a f v).mem = s.mem := rfl
@[simp] theorem State.put64_upset (s : State) (a : Nat) (f : Fld) (v : Nat) : (s.put64 a f v).upset = s.upset := rfl
@[simp] theorem State.put64_poison (s : State) (a : Nat) (f : Fld) (v : Nat) : (s.put64 a f v).poison = s.poison := rfl
@[simp] theorem State.put64_chanFail (s : State) (a : Nat) (f : Fld) (v : Nat) : (s.put64 a f v).chanFail = s.chanFail := rfl
@[simp] theorem State.put64_mapoutRec (s : State) (a : Nat) (f : Fld) (v : Nat) : (s.put64 a f v).mapoutRec = s.mapoutRec := rfl
@[simp] theorem State.put64_tile (s : State) (a : Nat) (f : Fld) (v : Nat) : (s.put64 a f v).tile = s.tile := rfl
@[simp] theorem State.put64_flights (s : State) (a : Nat) (f : Fld) (v : Nat) : (s.put64 a f v).flights = s.flights := rfl
@[simp] theorem State.put64_job (s : State) (a : Nat) (f : Fld) (v : Nat) : (s.put64 a f v).job = s.job := rfl
@[simp] theorem State.put64_time (s : State) (a : Nat) (f : Fld) (v : Nat) : (s.put64 a f v).time = s.time := rfl
@[simp] theorem State.put64_log (s : State) (a : Nat) (f : Fld) (v : Nat) : (s.put64 a f v).log = s.log := rfl
@[simp] theorem State.put64_msg (s : State) (a : Nat) (f : Fld) (v : Nat) : (s.put64 a f v).msg = s.msg := rfl
@[simp] theorem State.put64_mill (s : State) (a : Nat) (f : Fld) (v : Nat) : (s.put64 a f v).mill = s.mill := rfl
@[simp] theorem State.put64_opt (s : State) (a : Nat) (f : Fld) (v : Nat) : (s.put64 a f v).opt = s.opt := rfl
@[simp] theorem State.put64_xrds (s : State) (a : Nat) (f : Fld) (v : Nat) : (s.put64 a f v).xrds = s.xrds := rfl
@[simp] theorem State.put64_host (s : State) (a : Nat) (f : Fld) (v : Nat) : (s.put64 a f v).host = s.host := rfl
@[simp] theorem State.put64_reeve (s : State) (a : Nat) (f : Fld) (v : Nat) : (s.put64 a f v).reeve = s.reeve := rfl
@[simp] theorem State.put64_power (s : State) (a : Nat) (f : Fld) (v : Nat) : (s.put64 a f v).power = s.power := rfl
@[simp] theorem State.put64_cal (s : State) (a : Nat) (f : Fld) (v : Nat) : (s.put64 a f v).cal = s.cal := rfl
@[simp] theorem State.put64_upd (s : State) (a : Nat) (f : Fld) (v : Nat) : (s.put64 a f v).upd = s.upd := rfl

/-! ### State.incBy -/

@[simp] theorem State.incBy_pending (s : State) (a : Nat) (f : Fld) (n : Nat) : (s.incBy a f n).pending = s.pending := rfl
@[simp] theorem State.incBy_free (s : State) (a : Nat) (f : Fld) (n : Nat) : (s.incBy a f n).free = s.free := rfl
@[simp] theorem State.incBy_out (s : State) (a : Nat) (f : Fld) (n : Nat) : (s.incBy a f n).out = s.out := rfl
@[simp] theorem State.incBy_pregs (s : State) (a : Nat) (f : Fld) (n : Nat) : (s.incBy a f n).pregs = s.pregs := rfl
@[simp] theorem State.incBy_shadow (s : State) (a : Nat) (f : Fld) (n : Nat) : (s.incBy a f n).shadow = s.shadow := rfl
@[simp] theorem State.incBy_held (s : State) (a : Nat) (f : Fld) (n : Nat) : (s.incBy a f n).held = s.held := rfl
@[simp] theorem State.incBy_mem (s : State) (a : Nat) (f : Fld) (n : Nat) : (s.incBy a f n).mem = s.mem := rfl
@[simp] theorem State.incBy_upset (s : State) (a : Nat) (f : Fld) (n : Nat) : (s.incBy a f n).upset = s.upset := rfl
@[simp] theorem State.incBy_poison (s : State) (a : Nat) (f : Fld) (n : Nat) : (s.incBy a f n).poison = s.poison := rfl
@[simp] theorem State.incBy_chanFail (s : State) (a : Nat) (f : Fld) (n : Nat) : (s.incBy a f n).chanFail = s.chanFail := rfl
@[simp] theorem State.incBy_mapoutRec (s : State) (a : Nat) (f : Fld) (n : Nat) : (s.incBy a f n).mapoutRec = s.mapoutRec := rfl
@[simp] theorem State.incBy_tile (s : State) (a : Nat) (f : Fld) (n : Nat) : (s.incBy a f n).tile = s.tile := rfl
@[simp] theorem State.incBy_flights (s : State) (a : Nat) (f : Fld) (n : Nat) : (s.incBy a f n).flights = s.flights := rfl
@[simp] theorem State.incBy_job (s : State) (a : Nat) (f : Fld) (n : Nat) : (s.incBy a f n).job = s.job := rfl
@[simp] theorem State.incBy_time (s : State) (a : Nat) (f : Fld) (n : Nat) : (s.incBy a f n).time = s.time := rfl
@[simp] theorem State.incBy_log (s : State) (a : Nat) (f : Fld) (n : Nat) : (s.incBy a f n).log = s.log := rfl
@[simp] theorem State.incBy_msg (s : State) (a : Nat) (f : Fld) (n : Nat) : (s.incBy a f n).msg = s.msg := rfl
@[simp] theorem State.incBy_mill (s : State) (a : Nat) (f : Fld) (n : Nat) : (s.incBy a f n).mill = s.mill := rfl
@[simp] theorem State.incBy_opt (s : State) (a : Nat) (f : Fld) (n : Nat) : (s.incBy a f n).opt = s.opt := rfl
@[simp] theorem State.incBy_xrds (s : State) (a : Nat) (f : Fld) (n : Nat) : (s.incBy a f n).xrds = s.xrds := rfl
@[simp] theorem State.incBy_host (s : State) (a : Nat) (f : Fld) (n : Nat) : (s.incBy a f n).host = s.host := rfl
@[simp] theorem State.incBy_reeve (s : State) (a : Nat) (f : Fld) (n : Nat) : (s.incBy a f n).reeve = s.reeve := rfl
@[simp] theorem State.incBy_power (s : State) (a : Nat) (f : Fld) (n : Nat) : (s.incBy a f n).power = s.power := rfl
@[simp] theorem State.incBy_cal (s : State) (a : Nat) (f : Fld) (n : Nat) : (s.incBy a f n).cal = s.cal := rfl
@[simp] theorem State.incBy_upd (s : State) (a : Nat) (f : Fld) (n : Nat) : (s.incBy a f n).upd = s.upd := rfl

/-! ### State.inc -/

@[simp] theorem State.inc_pending (s : State) (a : Nat) (f : Fld) : (s.inc a f).pending = s.pending := rfl
@[simp] theorem State.inc_free (s : State) (a : Nat) (f : Fld) : (s.inc a f).free = s.free := rfl
@[simp] theorem State.inc_out (s : State) (a : Nat) (f : Fld) : (s.inc a f).out = s.out := rfl
@[simp] theorem State.inc_pregs (s : State) (a : Nat) (f : Fld) : (s.inc a f).pregs = s.pregs := rfl
@[simp] theorem State.inc_shadow (s : State) (a : Nat) (f : Fld) : (s.inc a f).shadow = s.shadow := rfl
@[simp] theorem State.inc_held (s : State) (a : Nat) (f : Fld) : (s.inc a f).held = s.held := rfl
@[simp] theorem State.inc_mem (s : State) (a : Nat) (f : Fld) : (s.inc a f).mem = s.mem := rfl
@[simp] theorem State.inc_upset (s : State) (a : Nat) (f : Fld) : (s.inc a f).upset = s.upset := rfl
@[simp] theorem State.inc_poison (s : State) (a : Nat) (f : Fld) : (s.inc a f).poison = s.poison := rfl
@[simp] theorem State.inc_chanFail (s : State) (a : Nat) (f : Fld) : (s.inc a f).chanFail = s.chanFail := rfl
@[simp] theorem State.inc_mapoutRec (s : State) (a : Nat) (f : Fld) : (s.inc a f).mapoutRec = s.mapoutRec := rfl
@[simp] theorem State.inc_tile (s : State) (a : Nat) (f : Fld) : (s.inc a f).tile = s.tile := rfl
@[simp] theorem State.inc_flights (s : State) (a : Nat) (f : Fld) : (s.inc a f).flights = s.flights := rfl
@[simp] theorem State.inc_job (s : State) (a : Nat) (f : Fld) : (s.inc a f).job = s.job := rfl
@[simp] theorem State.inc_time (s : State) (a : Nat) (f : Fld) : (s.inc a f).time = s.time := rfl
@[simp] theorem State.inc_log (s : State) (a : Nat) (f : Fld) : (s.inc a f).log = s.log := rfl
@[simp] theorem State.inc_msg (s : State) (a : Nat) (f : Fld) : (s.inc a f).msg = s.msg := rfl
@[simp] theorem State.inc_mill (s : State) (a : Nat) (f : Fld) : (s.inc a f).mill = s.mill := rfl
@[simp] theorem State.inc_opt (s : State) (a : Nat) (f : Fld) : (s.inc a f).opt = s.opt := rfl
@[simp] theorem State.inc_xrds (s : State) (a : Nat) (f : Fld) : (s.inc a f).xrds = s.xrds := rfl
@[simp] theorem State.inc_host (s : State) (a : Nat) (f : Fld) : (s.inc a f).host = s.host := rfl
@[simp] theorem State.inc_reeve (s : State) (a : Nat) (f : Fld) : (s.inc a f).reeve = s.reeve := rfl
@[simp] theorem State.inc_power (s : State) (a : Nat) (f : Fld) : (s.inc a f).power = s.power := rfl
@[simp] theorem State.inc_cal (s : State) (a : Nat) (f : Fld) : (s.inc a f).cal = s.cal := rfl
@[simp] theorem State.inc_upd (s : State) (a : Nat) (f : Fld) : (s.inc a f).upd = s.upd := rfl

/-! ### State.emit -/

@[simp] theorem State.emit_pending (s : State) (k : OutKind) (l : List Nat) : (s.emit k l).pending = s.pending := rfl
@[simp] theorem State.emit_free (s : State) (k : OutKind) (l : List Nat) : (s.emit k l).free = s.free := rfl
@[simp] theorem State.emit_regs (s : State) (k : OutKind) (l : List Nat) : (s.emit k l).regs = s.regs := rfl
@[simp] theorem State.emit_pregs (s : State) (k : OutKind) (l : List Nat) : (s.emit k l).pregs = s.pregs := rfl
@[simp] theorem State.emit_shadow (s : State) (k : OutKind) (l : List Nat) : (s.emit k l).shadow = s.shadow := rfl
@[simp] theorem State.emit_held (s : State) (k : OutKind) (l : List Nat) : (s.emit k l).held = s.held := rfl
@[simp] theorem State.emit_mem (s : State) (k : OutKind) (l : List Nat) : (s.emit k l).mem = s.mem := rfl
@[simp] theorem State.emit_upset (s : State) (k : OutKind) (l : List Nat) : (s.emit k l).upset = s.upset := rfl
@[simp] theorem State.emit_poison (s : State) (k : OutKind) (l : List Nat) : (s.emit k l).poison = s.poison := rfl
@[simp] theorem State.emit_chanFail (s : State) (k : OutKind) (l : List Nat) : (s.emit k l).chanFail = s.chanFail := rfl
@[simp] theorem State.emit_mapoutRec (s : State) (k : OutKind) (l : List Nat) : (s.emit k l).mapoutRec = s.mapoutRec := rfl
@[simp] theorem State.emit_tile (s : State) (k : OutKind) (l : List Nat) : (s.emit k l).tile = s.tile := rfl
@[simp] theorem State.emit_flights (s : State) (k : OutKind) (l : List Nat) : (s.emit k l).flights = s.flights := rfl
@[simp] theorem State.emit_job (s : State) (k : OutKind) (l : List Nat) : (s.emit k l).job = s.job := rfl
@[simp] theorem State.emit_time (s : State) (k : OutKind) (l : List Nat) : (s.emit k l).time = s.time := rfl
@[simp] theorem State.emit_log (s : State) (k : OutKind) (l : List Nat) : (s.emit k l).log = s.log := rfl
@[simp] theorem State.emit_msg (s : State) (k : OutKind) (l : List Nat) : (s.emit k l).msg = s.msg := rfl
@[simp] theorem State.emit_mill (s : State) (k : OutKind) (l : List Nat) : (s.emit k l).mill = s.mill := rfl
@[simp] theorem State.emit_opt (s : State) (k : OutKind) (l : List Nat) : (s.emit k l).opt = s.opt := rfl
@[simp] theorem State.emit_xrds (s : State) (k : OutKind) (l : List Nat) : (s.emit k l).xrds = s.xrds := rfl
@[simp] theorem State.emit_host (s : State) (k : OutKind) (l : List Nat) : (s.emit k l).host = s.host := rfl
@[simp] theorem State.emit_reeve (s : State) (k : OutKind) (l : List Nat) : (s.emit k l).reeve = s.reeve := rfl
@[simp] theorem State.emit_power (s : State) (k : OutKind) (l : List Nat) : (s.emit k l).power = s.power := rfl
@[simp] theorem State.emit_cal (s : State) (k : OutKind) (l : List Nat) : (s.emit k l).cal = s.cal := rfl
@[simp] theorem State.emit_upd (s : State) (k : OutKind) (l : List Nat) : (s.emit k l).upd = s.upd := rfl

/-! ### State.traceEntry -/

@[simp] theorem State.traceEntry_pending (s : State) (a k b c x : Nat) : (s.traceEntry a k b c x).pending = s.pending := rfl
@[simp] theorem State.traceEntry_free (s : State) (a k b c x : Nat) : (s.traceEntry a k b c x).free = s.free := rfl
@[simp] theorem State.traceEntry_out (s : State) (a k b c x : Nat) : (s.traceEntry a k b c x).out = s.out := rfl
@[simp] theorem State.traceEntry_regs (s : State) (a k b c x : Nat) : (s.traceEntry a k b c x).regs = s.regs := rfl
@[simp] theorem State.traceEntry_pregs (s : State) (a k b c x : Nat) : (s.traceEntry a k b c x).pregs = s.pregs := rfl
@[simp] theorem State.traceEntry_shadow (s : State) (a k b c x : Nat) : (s.traceEntry a k b c x).shadow = s.shadow := rfl
@[simp] theorem State.traceEntry_held (s : State) (a k b c x : Nat) : (s.traceEntry a k b c x).held = s.held := rfl
@[simp] theorem State.traceEntry_mem (s : State) (a k b c x : Nat) : (s.traceEntry a k b c x).mem = s.mem := rfl
@[simp] theorem State.traceEntry_upset (s : State) (a k b c x : Nat) : (s.traceEntry a k b c x).upset = s.upset := rfl
@[simp] theorem State.traceEntry_poison (s : State) (a k b c x : Nat) : (s.traceEntry a k b c x).poison = s.poison := rfl
@[simp] theorem State.traceEntry_chanFail (s : State) (a k b c x : Nat) : (s.traceEntry a k b c x).chanFail = s.chanFail := rfl
@[simp] theorem State.traceEntry_mapoutRec (s : State) (a k b c x : Nat) : (s.traceEntry a k b c x).mapoutRec = s.mapoutRec := rfl
@[simp] theorem State.traceEntry_tile (s : State) (a k b c x : Nat) : (s.traceEntry a k b c x).tile = s.tile := rfl
@[simp] theorem State.traceEntry_flights (s : State) (a k b c x : Nat) : (s.traceEntry a k b c x).flights = s.flights := rfl
@[simp] theorem State.traceEntry_job (s : State) (a k b c x : Nat) : (s.traceEntry a k b c x).job = s.job := rfl
@[simp] theorem State.traceEntry_time (s : State) (a k b c x : Nat) : (s.traceEntry a k b c x).time = s.time := rfl
@[simp] theorem State.traceEntry_msg (s : State) (a k b c x : Nat) : (s.traceEntry a k b c x).msg = s.msg := rfl
@[simp] theorem State.traceEntry_mill (s : State) (a k b c x : Nat) : (s.traceEntry a k b c x).mill = s.mill := rfl
@[simp] theorem State.traceEntry_opt (s : State) (a k b c x : Nat) : (s.traceEntry a k b c x).opt = s.opt := rfl
@[simp] theorem State.traceEntry_xrds (s : State) (a k b c x : Nat) : (s.traceEntry a k b c x).xrds = s.xrds := rfl
@[simp] theorem State.traceEntry_host (s : State) (a k b c x : Nat) : (s.traceEntry a k b c x).host = s.host := rfl
@[simp] theorem State.traceEntry_reeve (s : State) (a k b c x : Nat) : (s.traceEntry a k b c x).reeve = s.reeve := rfl
@[simp] theorem State.traceEntry_power (s : State) (a k b c x : Nat) : (s.traceEntry a k b c x).power = s.power := rfl
@[simp] theorem State.traceEntry_cal (s : State) (a k b c x : Nat) : (s.traceEntry a k b c x).cal = s.cal := rfl
@[simp] theorem State.traceEntry_upd (s : State) (a k b c x : Nat) : (s.traceEntry a k b c x).upd = s.upd := rfl

/-! ### The fields an update changes -/

@[simp] theorem State.wr_regs (s : State) (a : Nat) (v : Word) : (s.wr a v).regs = mset regReset s.regs a v := rfl
@[simp] theorem State.setByte_mem (s : State) (a : Nat) (v : Byte) : (s.setByte a v).mem = mset memReset s.mem a v := rfl
@[simp] theorem State.emit_out (s : State) (k : OutKind) (l : List Nat) : (s.emit k l).out = s.out ++ [(k, l)] := rfl

end Sys2Proof.Machine
end

