-- ==== Sys2Proof/Laws/Ops.lean ====
section
/-!
SUPPORT. What the named operations do: registers and their fields, bytes of memory, events, errors and outputs, and what a
command's answer is.
-/
namespace Sys2Proof.Machine

/-! ### Registers -/

/-- A register reads as it was written. -/
@[simp] theorem State.rd_wr_same (s : State) (a : Nat) (v : Word) : (s.wr a v).rd a = v := by simp [State.rd]

/-- A write changes no other register. -/
theorem State.rd_wr_ne (s : State) {a b : Nat} (v : Word) (h : b ≠ a) : (s.wr a v).rd b = s.rd b := by
  simp only [State.rd, State.wr_regs]; exact mget_mset_ne _ _ v h

theorem State.rd_wr (s : State) (a b : Nat) (v : Word) : (s.wr a v).rd b = if b = a then v else s.rd b := by
  split
  · rename_i h; subst h; simp
  · rename_i h; exact s.rd_wr_ne v h

/-- Reads of registers depend on the register map alone. -/
theorem State.rd_congr {s t : State} (h : t.regs = s.regs) (a : Nat) : t.rd a = s.rd a := by simp [State.rd, h]
theorem State.get_congr {s t : State} (h : t.regs = s.regs) (a : Nat) (f : Fld) : t.get a f = s.get a f := by
  simp [State.get, State.rd, h]

@[simp] theorem State.rd_setByte (s : State) (a b : Nat) (v : Byte) : (s.setByte a v).rd b = s.rd b := rfl
@[simp] theorem State.rd_emit (s : State) (k : OutKind) (l : List Nat) (b : Nat) : (s.emit k l).rd b = s.rd b := rfl
@[simp] theorem State.rd_traceEntry (s : State) (a k b c x o : Nat) : (s.traceEntry a k b c x).rd o = s.rd o := rfl
@[simp] theorem State.get_emit (s : State) (k : OutKind) (l : List Nat) (b : Nat) (f : Fld) : (s.emit k l).get b f = s.get b f := rfl
@[simp] theorem State.get_traceEntry (s : State) (a k b c x o : Nat) (f : Fld) : (s.traceEntry a k b c x).get o f = s.get o f := rfl

/-! ### Fields -/

theorem fput_toNat (w : Word) (f : Fld) (v : Nat) (h1 : f.lo ≤ f.hi) (h2 : f.hi < 32) :
    (fput w f v).toNat = w.toNat % 2 ^ f.lo + v % 2 ^ (f.hi + 1 - f.lo) * 2 ^ f.lo + w.toNat / 2 ^ (f.hi + 1) * 2 ^ (f.hi + 1) := by
  have hp : 2 ^ (f.hi + 1 - f.lo) * 2 ^ f.lo = 2 ^ (f.hi + 1) := by rw [← Nat.pow_add]; congr 1; omega
  have hq : 2 ^ (32 - (f.hi + 1)) * 2 ^ (f.hi + 1) = 2 ^ 32 := by rw [← Nat.pow_add]; congr 1; omega
  have hw : w.toNat < 2 ^ 32 := w.isLt
  have h3 : w.toNat % 2 ^ f.lo < 2 ^ f.lo := Nat.mod_lt _ (Nat.two_pow_pos _)
  have h4 : v % 2 ^ (f.hi + 1 - f.lo) < 2 ^ (f.hi + 1 - f.lo) := Nat.mod_lt _ (Nat.two_pow_pos _)
  have h5 : w.toNat / 2 ^ (f.hi + 1) < 2 ^ (32 - (f.hi + 1)) := by
    rw [Nat.div_lt_iff_lt_mul (Nat.two_pow_pos _), hq]; exact hw
  have h6 : v % 2 ^ (f.hi + 1 - f.lo) * 2 ^ f.lo + 2 ^ f.lo ≤ 2 ^ (f.hi + 1) := by
    rw [← hp, ← Nat.succ_mul]; exact Nat.mul_le_mul_right _ h4
  have h7 : w.toNat / 2 ^ (f.hi + 1) * 2 ^ (f.hi + 1) + 2 ^ (f.hi + 1) ≤ 2 ^ 32 := by
    rw [← hq, ← Nat.succ_mul]; exact Nat.mul_le_mul_right _ h5
  rw [fput, BitVec.toNat_ofNat]
  exact Nat.mod_eq_of_lt (by omega)

/-- A field reads as it was written. -/
theorem fget_fput_same (w : Word) (f : Fld) (v : Nat) (h1 : f.lo ≤ f.hi) (h2 : f.hi < 32) :
    fget (fput w f v) f = v % 2 ^ (f.hi + 1 - f.lo) := by
  have hp : 2 ^ (f.hi + 1) = 2 ^ f.lo * 2 ^ (f.hi + 1 - f.lo) := by rw [← Nat.pow_add]; congr 1; omega
  have h3 : w.toNat % 2 ^ f.lo < 2 ^ f.lo := Nat.mod_lt _ (Nat.two_pow_pos _)
  rw [fget, fput_toNat w f v h1 h2, hp]
  have e : w.toNat % 2 ^ f.lo + v % 2 ^ (f.hi + 1 - f.lo) * 2 ^ f.lo
      + w.toNat / (2 ^ f.lo * 2 ^ (f.hi + 1 - f.lo)) * (2 ^ f.lo * 2 ^ (f.hi + 1 - f.lo))
      = w.toNat % 2 ^ f.lo + 2 ^ f.lo * (v % 2 ^ (f.hi + 1 - f.lo)
        + 2 ^ (f.hi + 1 - f.lo) * (w.toNat / (2 ^ f.lo * 2 ^ (f.hi + 1 - f.lo)))) := by ring
  rw [e, Nat.add_mul_div_left _ _ (Nat.two_pow_pos _), Nat.div_eq_of_lt h3, Nat.zero_add, Nat.add_mul_mod_self_left, Nat.mod_mod]

/-- Bit i of a word with a field replaced. -/
theorem fput_testBit (w : Word) (f : Fld) (v i : Nat) (h1 : f.lo ≤ f.hi) (h2 : f.hi < 32) :
    (fput w f v).toNat.testBit i =
      if i < f.lo then w.toNat.testBit i else if i ≤ f.hi then v.testBit (i - f.lo) else w.toNat.testBit i := by
  have hp : 2 ^ (f.hi + 1) = 2 ^ f.lo * 2 ^ (f.hi + 1 - f.lo) := by rw [← Nat.pow_add]; congr 1; omega
  have h3 : w.toNat % 2 ^ f.lo < 2 ^ f.lo := Nat.mod_lt _ (Nat.two_pow_pos _)
  have h4 : v % 2 ^ (f.hi + 1 - f.lo) < 2 ^ (f.hi + 1 - f.lo) := Nat.mod_lt _ (Nat.two_pow_pos _)
  rw [fput_toNat w f v h1 h2]
  have hlow : w.toNat % 2 ^ f.lo + v % 2 ^ (f.hi + 1 - f.lo) * 2 ^ f.lo < 2 ^ (f.hi + 1) := by
    rw [hp]
    calc _ < 2 ^ f.lo + v % 2 ^ (f.hi + 1 - f.lo) * 2 ^ f.lo := by omega
      _ = (v % 2 ^ (f.hi + 1 - f.lo) + 1) * 2 ^ f.lo := by ring
      _ ≤ 2 ^ (f.hi + 1 - f.lo) * 2 ^ f.lo := Nat.mul_le_mul_right _ h4
      _ = _ := by ring
  rw [Nat.add_comm, Nat.mul_comm _ (2 ^ (f.hi + 1)), Nat.testBit_two_pow_mul_add _ hlow]
  by_cases a : i < f.lo
  · have : i < f.hi + 1 := by omega
    rw [if_pos this, if_pos a, Nat.add_comm, Nat.mul_comm _ (2 ^ f.lo), Nat.testBit_two_pow_mul_add _ h3, if_pos a, Nat.testBit_mod_two_pow]
    simp [a]
  · by_cases b : i ≤ f.hi
    · have : i < f.hi + 1 := by omega
      have c : i - f.lo < f.hi + 1 - f.lo := by omega
      rw [if_pos this, if_neg a, if_pos b, Nat.add_comm, Nat.mul_comm _ (2 ^ f.lo), Nat.testBit_two_pow_mul_add _ h3, if_neg a,
        Nat.testBit_mod_two_pow]
      simp [c]
    · have : ¬ i < f.hi + 1 := by omega
      rw [if_neg this, if_neg a, if_neg b, Nat.testBit_div_two_pow]
      congr 1; omega

/-- Writing a field changes no field beside it. -/
theorem fget_fput_ne (w : Word) (f g : Fld) (v : Nat) (h1 : f.lo ≤ f.hi) (h2 : f.hi < 32) (h : g.hi < f.lo ∨ f.hi < g.lo) :
    fget (fput w f v) g = fget w g := by
  apply Nat.eq_of_testBit_eq
  intro i
  simp only [fget, Nat.testBit_mod_two_pow, Nat.testBit_div_two_pow, fput_testBit w f v _ h1 h2]
  by_cases c : i < g.hi + 1 - g.lo
  · rcases h with h | h
    · have : i + g.lo < f.lo := by omega
      simp [this]
    · have : ¬ i + g.lo < f.lo := by omega
      have : ¬ i + g.lo ≤ f.hi := by omega
      simp [*]
  · simp [c]

/-- A field reads as it was written. -/
theorem State.get_put_same (s : State) (a : Nat) (f : Fld) (v : Nat) (h1 : f.lo ≤ f.hi) (h2 : f.hi < 32) :
    (s.put a f v).get a f = v % 2 ^ (f.hi + 1 - f.lo) := by
  simp only [State.get, State.put, State.rd_wr_same]; exact fget_fput_same _ f v h1 h2

/-- Writing a field changes no field of another register. -/
theorem State.get_put_ne (s : State) (a b : Nat) (f g : Fld) (v : Nat) (h : b + g.off ≠ a + f.off) :
    (s.put a f v).get b g = s.get b g := by
  simp only [State.get, State.put, State.rd_wr_ne _ _ h]

/-- Writing a field changes no field of the same register beside it. -/
theorem State.get_put_beside (s : State) (a b : Nat) (f g : Fld) (v : Nat) (h1 : f.lo ≤ f.hi) (h2 : f.hi < 32)
    (h : g.hi < f.lo ∨ f.hi < g.lo) : (s.put a f v).get b g = s.get b g := by
  by_cases e : b + g.off = a + f.off
  · simp only [State.get, State.put, e, State.rd_wr_same]; exact fget_fput_ne _ f g v h1 h2 h
  · exact s.get_put_ne a b f g v e

/-- Writing a field changes no other register. -/
theorem State.rd_put_ne (s : State) (a b : Nat) (f : Fld) (v : Nat) (h : b ≠ a + f.off) : (s.put a f v).rd b = s.rd b :=
  s.rd_wr_ne _ h

/-! ### Bytes of memory -/

@[simp] theorem State.byte_setByte_same (s : State) (a : Nat) (v : Byte) : (s.setByte a v).byte a = v := by simp [State.byte]

theorem State.byte_setByte_ne (s : State) {a b : Nat} (v : Byte) (h : b ≠ a) : (s.setByte a v).byte b = s.byte b := by
  simp only [State.byte, State.setByte_mem]; exact mget_mset_ne _ _ v h

/-- Bytes outside those stored keep their values. -/
theorem State.byte_setBytes_out (s : State) (a b : Nat) (l : List Byte) (h : b < a ∨ a + l.length ≤ b) :
    (s.setBytes a l).byte b = s.byte b := by
  induction l generalizing s a with
  | nil => rfl
  | cons x l ih =>
    simp only [State.setBytes]
    rw [ih, State.byte_setByte_ne]
    · simp only [List.length_cons] at h; omega
    · simp only [List.length_cons] at h; omega

@[simp] theorem State.setBytes_regs (s : State) (a : Nat) (l : List Byte) : (s.setBytes a l).regs = s.regs := by
  induction l generalizing s a with
  | nil => rfl
  | cons x l ih => simp only [State.setBytes]; rw [ih]; rfl

@[simp] theorem State.byte_wr (s : State) (a b : Nat) (v : Word) : (s.wr a v).byte b = s.byte b := rfl
@[simp] theorem State.byte_put (s : State) (a b : Nat) (f : Fld) (v : Nat) : (s.put a f v).byte b = s.byte b := rfl
@[simp] theorem State.byte_emit (s : State) (k : OutKind) (l : List Nat) (b : Nat) : (s.emit k l).byte b = s.byte b := rfl

/-! ### The canonical form of memory -/

theorem State.wf_setByte {s : State} (h : mwf memReset s.mem = true) (a : Nat) (v : Byte) :
    mwf memReset (s.setByte a v).mem = true := mwf_mset _ a v h

theorem State.wf_setBytes {s : State} (h : mwf memReset s.mem = true) (a : Nat) (l : List Byte) :
    mwf memReset (s.setBytes a l).mem = true := by
  induction l generalizing s a with
  | nil => exact h
  | cons x l ih => exact ih (State.wf_setByte h a x) (a + 1)

/-! ### Events and answers -/

/-- A block whose ENABLE is 0 raises no event (R23). -/
theorem State.raise_off {s : State} {a : Nat} (h : s.on a = false) (i : Nat) : s.raise a i = s := by simp [State.raise, h]

/-- A command completes unless the module is OFF, and leaves the queue. -/
theorem State.live_on {s t : State} (h : s.power.off = false) : s.live t = .next { t with pending := s.pending } := by
  simp [State.live, h]

theorem State.live_off {s t : State} (h : s.power.off = true) : s.live t = .next s := by simp [State.live, h]

theorem State.live_next (s t : State) : ∃ u, s.live t = .next u ∧ u.pending = s.pending := by
  unfold State.live; split <;> exact ⟨_, rfl, rfl⟩

end Sys2Proof.Machine
end

