-- ==== Sys2Proof/Laws/Completion.lean ====
section
/-!
SUPPORT. How a command's completion is shown: its meaning answers through State.live, so on a module that is on it is enough
to show what the state there is equal to.
-/
namespace Sys2Proof.Machine

/-- A command whose meaning answers b on a module that is on completes in every t equal to b; he is rfl for a constructor. -/
theorem completes_of_live {c : Instr} {s b t : State} (h0 : s.power.off = false) (he : exec c s = s.live b) (h : b = t) :
    Completes c s t := by rw [Completes, he, State.live_on h0, h]

/-- The same for a statement that names the next state. -/
theorem exec_of_live {c : Instr} {s b : State} (h0 : s.power.off = false) (he : exec c s = s.live b) :
    exec c s = .next { b with pending := s.pending } := by rw [he, State.live_on h0]

/-- What a tile issues where it fetches an unpoisoned word of the opcode. -/
theorem issue_of_fetches {s s' : State} {g w opc : Nat} (h : s.Fetches g w s') (ho : iOp w = opc) (k : Op → State → State) :
    s.issue g opc k = k (s.mkOp g w) s' := by simp [State.issue, h.1, h.2, ho]

end Sys2Proof.Machine
end

