-- ==== Sys2Proof/Tests/Slice0.lean ====
section
/-!
SUPPORT. The model's own tests. For every statement with hypotheses one theorem shows, clause by clause, a state and operands
that meet them; then the ill-formed terms that WellFormed refuses, and single commands on small states whose results are read
off the spec.
-/

namespace Sys2Proof.Tests
set_option maxRecDepth 100000
set_option Elab.async false
open Sys2Proof Sys2Proof.Machine

/-! ### Small states, each a module that is on with a few fields set beside their reset values -/

/-- Several fields set. -/
def puts (s : State) (l : List (Nat × Fld × Nat)) : State := l.foldl (fun s e => s.put e.1 e.2.1 e.2.2) s

/-- Reset with fields set. -/
def rs (l : List (Nat × Fld × Nat)) : State := puts State.reset l

/-- Die 0 present with its ten rows. -/
def dieL : List (Nat × Fld × Nat) :=
  [(SIZE_TABLE_B, SIZE_TABLE.DIE_SHAPE_PRESENT.at 0 4, 1), (SIZE_TABLE_B, SIZE_TABLE.DIE_SHAPE_LOG_ROWS.at 0 4, 10)]

/-- Tile 0 of die 0 in a state, with its page enabled. -/
def tileL (st : Nat) : List (Nat × Fld × Nat) := dieL ++ [(TILE_B 0, hCTRL_ENABLE, 1), (TILE_B 0, TILE.STATUS_STATE, st)]

/-- Tile 0 runs and its next instruction is w. -/
def runS (w : Nat) : State := (rs (tileL tsRUNNING)).setBytes (instrAddr 0 0) (leBytes 16 w)

/-- Tile 0 waits at w for a kind of event. -/
def waitS (w kind : Nat) : State :=
  (rs (tileL tsWAITING ++ [(TILE_B 0, TILE.STATUS_WAIT_KIND, kind)])).setBytes (instrAddr 0 0) (leBytes 16 w)

/-- An instruction word: opcode and the bits of its fields above it. -/
def iw (opc rest : Nat) : Nat := opc + rest * 2 ^ 8

/-- An operation of tile 0. -/
def op (w : Nat) : Op := ⟨0, w, 0, 0, 0, 0, none⟩

/-- Tile 0 runs at w with operations in the queue of a unit. -/
def busyS (w u : Nat) (l : List Op) : State :=
  let s := runS w
  { s with tile.queue := [(u, l)] }

/-- Ports 0 and 1 and their engine enabled, with the comb locked. -/
def portL : List (Nat × Fld × Nat) :=
  [(PORT_B 0, hCTRL_ENABLE, 1), (ENGINE_B 0, hCTRL_ENABLE, 1), (COMB_B 0, COMB.STAT_STATE, cbLOCKED), (COMB_B 0, hCTRL_ENABLE, 1)]

/-- A plan whose port 0 has a mode, a filter, the outbound path 1 and the inbound path 2 on all its lanes, lane l on line
l + 1, and one steering set with outputs 0 and 1 on path 1; flags of the inbound path; a filter that admits slice 1;
the destination (1, 0, 0) of slice 0 by path 1. -/
def bank (mode filter steer burst : Nat) : Bank :=
  [(30, 2#8), (32, 1#8), (34, 1#8), (36, 1#8), (44, 0x00#8), (45, 0x20#8), (48, 0x00#8), (49, 0x30#8), (53, 0x50#8), (56, 0x00#8), (57, 0x40#8),
    (64, BitVec.ofNat 8 mode), (65, BitVec.ofNat 8 filter)]
  ++ ((List.range 9).flatMap fun l => [(352 + 8 * l, 1#8), (353 + 8 * l, BitVec.ofNat 8 (l + 1)), (354 + 8 * l, 1#8),
    (356 + 8 * l, BitVec.ofNat 8 (if l = 0 then steer else 0xFF)), (357 + 8 * l, BitVec.ofNat 8 (if l = 0 then steer else 0xFF))])
  ++ ((List.range 9).flatMap fun l => [(352 + 8 * (324 + l), 1#8), (353 + 8 * (324 + l), BitVec.ofNat 8 (l + 1)), (354 + 8 * (324 + l), 2#8)])
  ++ [(0x2000, 1#8), (0x2004, 0xFF#8), (0x2005, 1#8), (0x2010, 2#8),
    (0x2018, 2#8), (0x201A, 1#8), (0x201C, 0xFF#8), (0x201D, 1#8), (0x2020, 7#8), (0x2028, 1#8), (0x202C, BitVec.ofNat 8 burst),
    (0x3004, 1#8), (0x3006, 1#8), (0x3008, 0xFF#8), (0x3009, 0xFF#8), (0x4000, 2#8), (0x5002, 1#8), (0x5006, 1#8)]

/-- The two paths of the plan. -/
def pOut : PathEnt := ⟨1, false, 0, 0x1FF, 0, 0, 0, 2, 0, false⟩
def pIn (burst : Bool) : PathEnt := ⟨2, true, 0, 0x1FF, 0, 0, 7, 1, 0, burst⟩

/-- Port 0 runs under a plan. -/
def portS (b : Bank) (l : List (Nat × Fld × Nat)) : State :=
  let s := rs (portL ++ l)
  { s with xrds.active := b }

/-- The plan in NORMAL mode. -/
def planN : Bank := bank mdNORMAL 0 0xFF 0

/-- Transmit and receive lanes 0 of port 0 in given states, the far end's RX_OK for it set. -/
def laneL (tx rx : Nat) : List (Nat × Fld × Nat) :=
  [(PORT_B 0, laneF PORT.LSTAT_TX_STATE 0, tx), (PORT_B 0, laneF PORT.LSTAT_RX_STATE 0, rx), (PORT_B 0, laneF PORT.LSTAT_RX_OK_FAR 0, 1)]

/-! ### A program image that loads: no streams, no tensors, one phase -/

/-- The image with its CRC field c. -/
def image (c : Nat) : List Byte :=
  leBytes 4 0x474D494A ++ leBytes 4 0x800001 ++ leBytes 8 232 ++ leBytes 8 0 ++ leBytes 4 0x30000 ++ leBytes 4 c
    ++ List.replicate 96 0 ++ ([2, 3].flatMap fun t => leBytes 8 t ++ leBytes 8 200 ++ leBytes 8 0)
    ++ leBytes 4 7 ++ leBytes 4 1 ++ leBytes 8 200 ++ leBytes 8 32 ++ List.replicate 32 0

/-- A module that loads that image from stack 0. -/
def loadS (c : Nat) : State :=
  let s := (rs [(HBM_B 0, HBM.STACK_STAT_PRESENT, 1), (jobB, DIE.JOB_STAT_STATE, jsLOADING)]).setBytes 0 (image c)
  { s with job.area := (0, 232) }

/-! ### A plan that passes the checker -/

/-- The bytes of a plan before byte 356, whose CRC field is c: one transmit lane, one steering set, one filter. -/
def planHead (c : Nat) : Bank :=
  [(0, 0x43#8), (1, 0x52#8), (2, 0x50#8), (3, 0x4C#8), (4, 1#8), (8, 0xB0#8), (9, 0x17#8), (12, BitVec.ofNat 8 c),
   (13, BitVec.ofNat 8 (c / 2 ^ 8)), (14, BitVec.ofNat 8 (c / 2 ^ 16)), (15, BitVec.ofNat 8 (c / 2 ^ 24)), (16, 1#8), (24, 1#8),
   (25, 1#8), (26, 1#8), (32, 1#8), (36, 1#8), (48, 0xA0#8), (49, 0x15#8), (56, 0xB0#8), (57, 0x15#8), (352, 1#8), (354, 0xFF#8), (355, 0xFF#8)]
/-- A plan that passes the checker. -/
def goodPlan : Bank :=
  planHead 3372980677 ++ [(5540, 0xFF#8), (5541, 0xFF#8), (5542, 0xFF#8), (5543, 0xFF#8), (5544, 0xFF#8), (5545, 0xFF#8)]

theorem zget_gap {i : Nat} (h1 : 356 ≤ i) (h2 : i < 5540) : zget goodPlan i = 0 := by
  simp only [zget, goodPlan, planHead, List.cons_append, List.nil_append, mget]
  repeat rw [if_neg (by omega)]
  rfl

theorem zget_end {i : Nat} (h1 : 5546 ≤ i) : zget goodPlan i = 0 := by
  simp only [zget, goodPlan, planHead, List.cons_append, List.nil_append, mget]
  repeat rw [if_neg (by omega)]
  rfl

theorem ofLe_zero (n : Nat) : ofLe (List.replicate n (0 : Byte)) = 0 := by
  induction n with
  | zero => rfl
  | succ n ih => rw [List.replicate_succ]; simp only [ofLe, List.foldr_cons] at ih ⊢; rw [ih]; rfl

theorem num_gap {o n : Nat} (h1 : 356 ≤ o) (h2 : o + n ≤ 5540) : goodPlan.num o n = 0 := by
  have : ((List.range n).map fun i => zget goodPlan (o + i)) = List.replicate n 0 := by
    rw [List.eq_replicate_iff]
    refine ⟨by simp, fun x hx => ?_⟩
    obtain ⟨i, hi, rfl⟩ := List.mem_map.1 hx
    have := List.mem_range.1 hi
    exact zget_gap (by omega) (by omega)
  rw [Bank.num, this, ofLe_zero]

theorem field_ok : planField goodPlan = none := by
  have hl : ∀ i, i < 648 → 1 ≤ i → (if i < 324 then badTxLane goodPlan i else badRxLane goodPlan i) = false := by
    intro i h1 h2
    have h : ∀ o n, o + n ≤ 8 → goodPlan.lane i o n = 0 := fun o n ho => num_gap (by omega) (by omega)
    split
    · simp [badTxLane, Bank.role, Bank.line, Bank.lanePath, Bank.steered, Bank.laneSteer, Bank.launch, h, signed]
    · simp [badRxLane, Bank.role, Bank.line, Bank.lanePath, h]
  have h2 : planBad 3 2 648 (fun i => if i < 324 then badTxLane goodPlan i else badRxLane goodPlan i) = none := by
    rw [planBad, Option.map_eq_none_iff, List.find?_eq_none]
    intro i hi
    rcases Nat.eq_zero_or_pos i with rfl | h
    · decide +kernel
    · simp [hl i (List.mem_range.1 hi) h]
  have h1 : planIf 3 0 (goodPlan.dirty 18 2 || goodPlan.dirty 23 1 || goodPlan.dirty 27 1 || goodPlan.dirty 38 2 || goodPlan.dirty 60 4)
    = none := by decide +kernel
  have h3 : planBad 3 1 36 (fun p => decide (3 < goodPlan.mode p) || (decide (15 < goodPlan.filter p) && decide (goodPlan.filter p ≠ 0xFF))
    || goodPlan.dirty (66 + 8 * p) 6) = none := by decide +kernel
  rw [planField, h1, h2, h3]
  decide +kernel

theorem bad_none {code sec : Nat} {bad : Nat → Bool} (h0 : bad 0 = false)
    (h : ∀ i, 1 ≤ i → i < 648 → goodPlan.role i = 0 → bad i = false) : planBad code sec 648 bad = none := by
  rw [planBad, Option.map_eq_none_iff, List.find?_eq_none]
  intro i hi
  have := List.mem_range.1 hi
  rcases Nat.eq_zero_or_pos i with rfl | hp
  · simp [h0]
  · simp [h i hp this (num_gap (by omega) (by omega))]

theorem lane_ok : planLane goodPlan = none := by
  rw [planLane, bad_none (by decide +kernel) fun i _ _ h => by simp [badLane, h]]; decide +kernel

theorem reach_ok : planReach goodPlan = none := bad_none (by decide +kernel) fun i _ _ h => by simp [h]

theorem map_split (n m : Nat) (f : Nat → Byte) :
    (List.range (n + m)).map f = (List.range n).map f ++ (List.range m).map fun i => f (n + i) := by
  simp [List.range_add, Function.comp_def]

theorem map_zeros (m : Nat) (f : Nat → Byte) (h : ∀ i, i < m → f i = 0) : (List.range m).map f = List.replicate m 0 := by
  rw [List.eq_replicate_iff]
  refine ⟨by simp, fun x hx => ?_⟩
  obtain ⟨i, hi, rfl⟩ := List.mem_map.1 hx
  exact h i (List.mem_range.1 hi)

theorem crc_bytes (f : Nat → Byte) (hf : f = fun i => if 12 ≤ i ∧ i < 16 then 0 else zget goodPlan i) :
    (List.range 6064).map f = (List.range 356).map f ++ (List.replicate 5184 0
      ++ ((List.range 6).map (fun i => f (5540 + i)) ++ List.replicate 518 0)) := by
  have hg : ∀ i, 356 ≤ i → i < 5540 ∨ 5546 ≤ i → f i = 0 := by
    intro i h1 h2
    subst hf
    show (if 12 ≤ i ∧ i < 16 then 0 else zget goodPlan i) = 0
    rw [if_neg (by omega)]
    exact h2.elim (zget_gap h1) zget_end
  have e1 := map_split 356 5708 f
  have e2 := map_split 5184 524 fun i => f (356 + i)
  have e3 := map_split 6 518 fun i => f (356 + (5184 + i))
  have z1 := map_zeros 5184 (fun i => f (356 + i)) fun i h => hg _ (by omega) (by omega)
  have z2 := map_zeros 518 (fun i => f (356 + (5184 + (6 + i)))) fun i h => hg _ (by omega) (by omega)
  rw [e1, e2, e3, z1, z2]
  congr 3

theorem crc_ok : goodPlan.crc = 3372980677 := by
  have hl : goodPlan.length = 6064 := by decide +kernel
  rw [Bank.crc, hl, crc_bytes _ rfl]
  decide +kernel

theorem header_ok : planHeader goodPlan 6064 0 = none := by
  rw [planHeader, crc_ok]; decide +kernel

theorem plan_ok : checkPlan goodPlan 6064 0 [] = none := by
  have h1 : planLayout goodPlan = none := by decide +kernel
  have h2 : planCoord goodPlan = none := by decide +kernel
  have h3 : planPath goodPlan = none := by decide +kernel
  have h6 : planReuse goodPlan = none := by decide +kernel
  have h7 : planChain goodPlan = none := by decide +kernel
  have h8 : planService goodPlan [] = none := by decide +kernel
  have h9 : planSteer goodPlan = none := by decide +kernel
  have h10 : planUnreserved goodPlan = none := by decide +kernel
  have h11 : planLaunch goodPlan = none := by decide +kernel
  have h12 : planDest goodPlan = none := by decide +kernel
  have h13 : planFilter goodPlan = none := by decide +kernel
  rw [checkPlan, header_ok, h1, field_ok, h2, h3, lane_ok, reach_ok, h6, h7, h8, h9, h10, h11, h12, h13]
  rfl

/-- The module checks that plan. -/
def planS : State :=
  let s := rs [(XRDS_B, XRDS.STAGE_STAT_STATE, sgCHECKING)]
  { s with xrds.staged := goodPlan, xrds.stagedEnd := 6064 }

theorem plan_checks : checkPlan (planS.put XRDS_B XRDS.CHK_TIME_US 5).stagedPlan (planS.put XRDS_B XRDS.CHK_TIME_US 5).xrds.stagedEnd
    ((planS.put XRDS_B XRDS.CHK_TIME_US 5).get XRDS_B XRDS.ACTIVE_EPOCH_VALUE) (planS.put XRDS_B XRDS.CHK_TIME_US 5).xrds.roles
    = none := by
  have h : (planS.put XRDS_B XRDS.CHK_TIME_US 5).get XRDS_B XRDS.ACTIVE_EPOCH_VALUE = 0 := by decide +kernel
  rw [h]
  exact plan_ok

/-- No slot of a segment is the guest's when the segment's 32 ownership words read 0. -/
theorem unowned {s : State} {k : Nat} (h : ∀ w < 32, s.rd (HOSTWIN_B + (0x800 + 4 * (32 * k + w))) = 0) :
    ∀ j < 1024, s.owned (1024 * k + j) = false := by
  intro j hj
  have e : (1024 * k + j) / 32 = 32 * k + j / 32 := by omega
  simp only [State.owned, State.bit, State.get, ownF, e, h (j / 32) (by omega)]
  simp [fget]

/-! ### A state and operands for every clause of every statement with hypotheses -/

theorem witness_StepTakesTheFrontCommand :
    (∃ (c : Instr) (s : State) (rest : List Instr), s.pending = c :: rest) :=
  ⟨.flagFifoRead, { State.reset with pending := [.flagFifoRead] }, [], by decide +kernel⟩

theorem witness_StepOnAnEmptyQueueIsATick :
    (∃ (s : State), s.pending = [] ∧ s.power.off = true)
    ∧ (∃ (s : State), s.pending = [] ∧ s.power.off = false) :=
  ⟨⟨{ State.reset with power.off := true }, by decide +kernel⟩,
    ⟨State.reset, by decide +kernel⟩⟩

theorem witness_NoCommandTouchesTheQueue :
    (∃ (c : Instr) (s : State) (t : State), exec c s = .next t) :=
  ⟨.flagFifoRead, State.reset, _, rfl⟩

theorem witness_OnlyAuxStartActsOnAModuleThatIsOff :
    (∃ (s : State) (c : Instr), s.power.off = true ∧ (∀ straps lost epoch cool, c ≠ .auxStart straps lost epoch cool))
    ∧ (∃ (s : State), s.power.off = true) :=
  ⟨⟨{ State.reset with power.off := true }, .flagFifoRead, by decide +kernel, fun _ _ _ _ h => by cases h⟩,
    ⟨{ State.reset with power.off := true }, by decide +kernel⟩⟩

theorem witness_EveryStepKeepsWaitingCommandsWellFormed :
    (∃ (s : State), s.QueueWf) :=
  ⟨{ State.reset with pending := [.flagFifoRead] }, fun c h => by simp at h; subst h; rfl⟩

theorem witness_EveryStepKeepsMemoryAndRegistersCanonical :
    (∃ (s : State) (t : State), s.Canon ∧ step s = .next t) :=
  ⟨{ State.reset with pending := [.flagFifoRead] }, _, ⟨by decide +kernel, by decide +kernel, by decide +kernel⟩, rfl⟩

theorem witness_ResetHoldsTheSpecsValuesInCanonicalForm :
    (∃ (d : Nat), d < 4)
    ∧ (∃ (m : Nat), m < 8)
    ∧ (∃ (e : Nat), e < 2)
    ∧ (∃ (p : Nat), p < 36) :=
  ⟨⟨3, by decide +kernel⟩,
    ⟨7, by decide +kernel⟩,
    ⟨1, by decide +kernel⟩,
    ⟨35, by decide +kernel⟩⟩

theorem witness_UnmappedAndIllSizedAccessesAreRecorded :
    (∃ (s : State) (path : Nat) (a : Nat), s.power.off = false ∧ s.hears path = true ∧ s.listed (a / 4096) = false)
    ∧ (∃ (s : State) (path : Nat) (a : Nat) (n : Nat), s.power.off = false ∧ s.hears path = true ∧ s.listed (a / 4096) = false ∧
      ¬ (n = 4 ∧ a % 4 = 0))
    ∧ (∃ (s : State) (path : Nat) (a : Nat) (n : Nat) (ty : PageTy) (inst : Nat), s.power.off = false ∧ s.hears path = true ∧
      s.listed (a / 4096) = true ∧ ¬ (n = 4 ∧ a % 4 = 0) ∧ pageAt (a / 4096) = some (ty, inst) ∧ hasHeader ty = true) :=
  ⟨⟨State.reset, 0, 0x3000, by decide +kernel⟩,
    ⟨State.reset, 0, 0x3001, 4, by decide +kernel⟩,
    ⟨State.reset, 0, 0x1044, 8, .MODULE, 0, by decide +kernel⟩⟩

theorem witness_FirstErrorIsCaptured :
    (∃ (s : State) (path : Nat) (a : Nat), s.power.off = false ∧ s.hears path = true ∧ path < 8 ∧ a < 2 ^ 26 ∧
      s.listed (a / 4096) = false)
    ∧ (∃ (s : State) (path : Nat) (a : Nat) (p : Nat) (ty : PageTy) (inst : Nat), s.power.off = false ∧ s.hears path = true ∧
      path < 8 ∧ a < 2 ^ 26 ∧ pageAt p = some (ty, inst) ∧ s.listed p = true ∧ hasHeader ty = true) :=
  ⟨⟨State.reset, 7, 0x3FFFFFC, by decide +kernel⟩,
    ⟨State.reset, 7, 0x3FFFFFC, 1, .MODULE, 0, by decide +kernel⟩⟩

theorem witness_HeaderWritesChangeTheirRegisterAlone :
    (∃ (s : State) (path : Nat) (p : Nat) (ty : PageTy) (inst : Nat), s.power.off = false ∧ s.hears path = true ∧
      pageAt p = some (ty, inst) ∧ s.listed p = true ∧ hasHeader ty = true) :=
  ⟨State.reset, 0, 0x11, .POWER, 0, by decide +kernel⟩

theorem witness_PairReadsAndWritesAreWhole :
    (∃ (s : State) (path : Nat), s.power.off = false ∧ s.hears path = true ∧ path < 7)
    ∧ (∃ (s : State) (path : Nat), s.power.off = false ∧ s.hears path = true ∧ path < 7 ∧ s.stageSt ≠ sgARMED)
    ∧ (∃ (s : State) (path : Nat) (a : Nat) (ty : PageTy) (inst : Nat) (k : Nat) (j : Nat) (r : RegRow) (q : RegRow),
      (s.power.off = false ∧ s.hears path = true ∧ path < 7 ∧ s.listed (a / 4096) = true ∧ pageAt (a / 4096) = some (ty, inst) ∧
      hasHeader ty = true ∧ a % 4 = 0 ∧ 0x40 ≤ a % 4096 ∧ a % 4096 + 4 < 4096) ∧ rowIn ty inst (a % 4096) = some (r, k) ∧
      pairHalf ty (a % 4096) r = 1 ∧ rowIn ty inst (a % 4096 + 4) = some (q, j) ∧ pairHalf ty (a % 4096 + 4) q = 2)
    ∧ (∃ (s : State) (path : Nat) (a : Nat) (ty : PageTy) (inst : Nat) (k : Nat) (j : Nat) (r : RegRow) (q : RegRow),
      (s.power.off = false ∧ s.hears path = true ∧ path < 7 ∧ s.listed (a / 4096) = true ∧ pageAt (a / 4096) = some (ty, inst) ∧
      hasHeader ty = true ∧ a % 4 = 0 ∧ 0x40 ≤ a % 4096 ∧ a % 4096 + 4 < 4096) ∧ rowIn ty inst (a % 4096) = some (r, k) ∧
      pairHalf ty (a % 4096) r = 1 ∧ rowIn ty inst (a % 4096 + 4) = some (q, j) ∧ pairHalf ty (a % 4096 + 4) q = 2 ∧
      r.readOnly = true)
    ∧ (∃ (s : State) (path : Nat) (a : Nat) (ty : PageTy) (inst : Nat) (k : Nat) (j : Nat) (r : RegRow) (q : RegRow),
      (s.power.off = false ∧ s.hears path = true ∧ path < 7 ∧ s.listed (a / 4096) = true ∧ pageAt (a / 4096) = some (ty, inst) ∧
      hasHeader ty = true ∧ a % 4 = 0 ∧ 0x40 ≤ a % 4096 ∧ a % 4096 + 4 < 4096) ∧ rowIn ty inst (a % 4096) = some (r, k) ∧
      pairHalf ty (a % 4096) r = 1 ∧ rowIn ty inst (a % 4096 + 4) = some (q, j) ∧ pairHalf ty (a % 4096 + 4) q = 2 ∧
      r.readOnly = false ∧ s.lowBusy ty (a % 4096) = true)
    ∧ (∃ (s : State) (path : Nat) (a : Nat) (ty : PageTy) (inst : Nat) (k : Nat) (j : Nat) (r : RegRow) (q : RegRow),
      (s.power.off = false ∧ s.hears path = true ∧ path < 7 ∧ s.listed (a / 4096) = true ∧ pageAt (a / 4096) = some (ty, inst) ∧
      hasHeader ty = true ∧ a % 4 = 0 ∧ 0x40 ≤ a % 4096 ∧ a % 4096 + 4 < 4096) ∧ rowIn ty inst (a % 4096) = some (r, k) ∧
      pairHalf ty (a % 4096) r = 1 ∧ rowIn ty inst (a % 4096 + 4) = some (q, j) ∧ pairHalf ty (a % 4096 + 4) q = 2 ∧
      r.readOnly = false ∧ s.lowBusy ty (a % 4096) = false)
    ∧ (∃ (s : State) (path : Nat) (a : Nat) (ty : PageTy) (inst : Nat) (k : Nat) (j : Nat) (r : RegRow) (q : RegRow),
      (s.power.off = false ∧ s.hears path = true ∧ path < 7 ∧ s.listed (a / 4096) = true ∧ pageAt (a / 4096) = some (ty, inst) ∧
      hasHeader ty = true ∧ a % 4 = 0 ∧ 0x40 ≤ a % 4096 ∧ a % 4096 + 4 < 4096) ∧ rowIn ty inst (a % 4096) = some (r, k) ∧
      pairHalf ty (a % 4096) r = 1 ∧ rowIn ty inst (a % 4096 + 4) = some (q, j) ∧ pairHalf ty (a % 4096 + 4) q = 2 ∧
      q.readOnly = true)
    ∧ (∃ (s : State) (path : Nat) (a : Nat) (lo : Word) (ty : PageTy) (inst : Nat) (k : Nat) (j : Nat) (r : RegRow) (q : RegRow),
      (s.power.off = false ∧ s.hears path = true ∧ path < 7 ∧ s.listed (a / 4096) = true ∧ pageAt (a / 4096) = some (ty, inst) ∧
      hasHeader ty = true ∧ a % 4 = 0 ∧ 0x40 ≤ a % 4096 ∧ a % 4096 + 4 < 4096) ∧ rowIn ty inst (a % 4096) = some (r, k) ∧
      pairHalf ty (a % 4096) r = 1 ∧ rowIn ty inst (a % 4096 + 4) = some (q, j) ∧ pairHalf ty (a % 4096 + 4) q = 2 ∧
      q.readOnly = false ∧ zget s.held (pkey path (canon a)) = some lo)
    ∧ (∃ (s : State) (path : Nat) (a : Nat) (ty : PageTy) (inst : Nat) (k : Nat) (j : Nat) (r : RegRow) (q : RegRow),
      (s.power.off = false ∧ s.hears path = true ∧ path < 7 ∧ s.listed (a / 4096) = true ∧ pageAt (a / 4096) = some (ty, inst) ∧
      hasHeader ty = true ∧ a % 4 = 0 ∧ 0x40 ≤ a % 4096 ∧ a % 4096 + 4 < 4096) ∧ rowIn ty inst (a % 4096) = some (r, k) ∧
      pairHalf ty (a % 4096) r = 1 ∧ rowIn ty inst (a % 4096 + 4) = some (q, j) ∧ pairHalf ty (a % 4096 + 4) q = 2 ∧
      q.readOnly = false ∧ zget s.held (pkey path (canon a)) = none) :=
  ⟨⟨State.reset, 6, by decide +kernel⟩,
    ⟨State.reset, 6, by decide +kernel⟩,
    ⟨State.reset, 3, 0x21100, .TRIGGERS, 0, _, _, _, _, by decide +kernel, rfl, by decide +kernel, rfl, by decide +kernel⟩,
    ⟨State.reset, 3, (LOG_B + 0x54), .LOG, 0, _, _, _, _, by decide +kernel, rfl, by decide +kernel, rfl, by decide +kernel⟩,
    ⟨(rs ([(TIME_B, TIME.STEP_CTRL_GO, 1)])), 3, (TIME_B + 0x68), .TIME, 0, _, _, _, _, by decide +kernel, rfl,
      by decide +kernel, rfl, by decide +kernel⟩,
    ⟨State.reset, 3, 0x21100, .TRIGGERS, 0, _, _, _, _, by decide +kernel, rfl, by decide +kernel, rfl, by decide +kernel⟩,
    ⟨State.reset, 3, (LOG_B + 0x54), .LOG, 0, _, _, _, _, by decide +kernel, rfl, by decide +kernel, rfl, by decide +kernel⟩,
    ⟨{ State.reset with held := [(pkey 3 (canon 0x21100), some 5#32)] }, 3, 0x21100, 5#32, .TRIGGERS, 0, _, _, _, _,
      by decide +kernel, rfl, by decide +kernel, rfl, by decide +kernel⟩,
    ⟨State.reset, 3, 0x21100, .TRIGGERS, 0, _, _, _, _, by decide +kernel, rfl, by decide +kernel, rfl, by decide +kernel⟩⟩

theorem witness_DisablingABusyPageIsRefused :
    (∃ (s : State) (path : Nat) (p : Nat) (v : Nat) (ty : PageTy) (inst : Nat), s.power.off = false ∧ s.hears path = true ∧
      pageAt p = some (ty, inst) ∧ s.listed p = true ∧ hasHeader ty = true ∧ capEnableFixed ty = false ∧
      s.inBlockReset p = false ∧ v % 2 = 0 ∧ s.bit (ctrlBase (p * 4096)) hCTRL_ENABLE = true ∧
      s.freeNowPage (p * 4096) ty inst = true)
    ∧ (∃ (s : State) (path : Nat) (p : Nat) (v : Nat) (ty : PageTy) (inst : Nat), s.power.off = false ∧ s.hears path = true ∧
      pageAt p = some (ty, inst) ∧ s.listed p = true ∧ hasHeader ty = true ∧ capEnableFixed ty = false ∧
      s.inBlockReset p = false ∧ v % 2 = 0 ∧ s.bit (ctrlBase (p * 4096)) hCTRL_ENABLE = true ∧
      s.freeNowPage (p * 4096) ty inst = false)
    ∧ (∃ (s : State) (path : Nat) (p : Nat) (v : Nat) (ty : PageTy) (inst : Nat), s.power.off = false ∧ s.hears path = true ∧
      pageAt p = some (ty, inst) ∧ s.listed p = true ∧ hasHeader ty = true ∧ capEnableFixed ty = false ∧
      s.inBlockReset p = false ∧ v % 2 = 0 ∧ s.bit (ctrlBase (p * 4096)) hCTRL_ENABLE = true ∧
      s.freeNowPage (p * 4096) ty inst = false ∧ s.get (p * 4096) hERR_STAT = 0)
    ∧ (∃ (s : State) (path : Nat) (p : Nat) (v : Nat) (ty : PageTy) (inst : Nat), s.power.off = false ∧ s.hears path = true ∧
      pageAt p = some (ty, inst) ∧ s.listed p = true ∧ hasHeader ty = true ∧ capEnableFixed ty = false ∧
      s.inBlockReset p = false ∧ v % 2 = 1 ∧ s.bit (ctrlBase (p * 4096)) hCTRL_ENABLE = false)
    ∧ (∃ (s : State) (path : Nat) (p : Nat) (ty : PageTy) (inst : Nat), s.power.off = false ∧ s.hears path = true ∧
      pageAt p = some (ty, inst) ∧ s.listed p = true ∧ hasHeader ty = true ∧ capEnableFixed ty = false ∧
      s.inBlockReset p = false) :=
  ⟨⟨(rs ([(MSG_B, hCTRL_ENABLE, 1)])), 0, 0x60, 0, .MSG, 0, by decide +kernel⟩,
    ⟨{ (rs ([(MSG_B, hCTRL_ENABLE, 1)])) with msg.ops := [{ (default : MOp) with opened := true }] }, 0, 0x60, 0, .MSG, 0,
      by decide +kernel⟩,
    ⟨{ (rs ([(MSG_B, hCTRL_ENABLE, 1)])) with msg.ops := [{ (default : MOp) with opened := true }] }, 0, 0x60, 0, .MSG, 0,
      by decide +kernel⟩,
    ⟨(rs ([(MSG_B, hCTRL_ENABLE, 0)])), 0, 0x60, 1, .MSG, 0, by decide +kernel⟩,
    ⟨State.reset, 0, 0x60, .MSG, 0, by decide +kernel⟩⟩

theorem witness_QuiesceAndBlockResetFollowTheirRules :
    (∃ (s : State) (path : Nat) (p : Nat) (v : Nat) (ty : PageTy) (inst : Nat), s.power.off = false ∧ s.hears path = true ∧
      pageAt p = some (ty, inst) ∧ s.listed p = true ∧ hasHeader ty = true ∧ s.inBlockReset p = false ∧ v % 2 = 1 ∧
      capQuiesce ty = true ∧ s.bit (ctrlBase (p * 4096)) hCTRL_QUIESCE = false)
    ∧ (∃ (s : State) (path : Nat) (p : Nat) (v : Nat) (ty : PageTy) (inst : Nat), s.power.off = false ∧ s.hears path = true ∧
      pageAt p = some (ty, inst) ∧ s.listed p = true ∧ hasHeader ty = true ∧ s.inBlockReset p = false ∧ v % 2 = 0 ∧
      s.bit (ctrlBase (p * 4096)) hCTRL_QUIESCE = true)
    ∧ (∃ (s : State) (path : Nat) (p : Nat) (v : Nat) (ty : PageTy) (inst : Nat), s.power.off = false ∧ s.hears path = true ∧
      pageAt p = some (ty, inst) ∧ s.listed p = true ∧ hasHeader ty = true ∧ s.inBlockReset p = false ∧ v % 2 = 1 ∧
      capQuiesce ty = false)
    ∧ (∃ (s : State) (path : Nat) (p : Nat) (ty : PageTy) (inst : Nat), s.power.off = false ∧ s.hears path = true ∧
      pageAt p = some (ty, inst) ∧ s.listed p = true ∧ hasHeader ty = true ∧ s.bit (ctrlBase (p * 4096)) hCTRL_QUIESCE = true ∧
      s.drained ty inst = true)
    ∧ (∃ (s : State) (path : Nat) (p : Nat) (ty : PageTy) (inst : Nat), s.power.off = false ∧ s.hears path = true ∧
      pageAt p = some (ty, inst) ∧ s.listed p = true ∧ hasHeader ty = true ∧ s.inBlockReset p = false ∧
      capBlockReset ty = true ∧ s.freeNowPage (p * 4096) ty inst = true)
    ∧ (∃ (s : State) (path : Nat) (p : Nat) (ty : PageTy) (inst : Nat), s.power.off = false ∧ s.hears path = true ∧
      pageAt p = some (ty, inst) ∧ s.listed p = true ∧ hasHeader ty = true ∧ s.inBlockReset p = false ∧
      capBlockReset ty = true ∧ s.freeNowPage (p * 4096) ty inst = false)
    ∧ (∃ (s : State) (path : Nat) (p : Nat) (ty : PageTy) (inst : Nat), s.power.off = false ∧ s.hears path = true ∧
      pageAt p = some (ty, inst) ∧ s.listed p = true ∧ hasHeader ty = true ∧ s.inBlockReset p = false ∧
      capBlockReset ty = false)
    ∧ (∃ (s : State) (path : Nat) (p : Nat) (ty : PageTy) (inst : Nat) (t : State), (s.power.off = false ∧ s.hears path = true ∧
      pageAt p = some (ty, inst) ∧ s.listed p = true ∧ hasHeader ty = true ∧ s.inBlockReset p = true) ∧
      t = (s.put (ctrlBase (p * 4096)) hCTRL_BLOCK_RESET 0).put (ctrlBase (p * 4096)) hSTAT_READY (readyAfter ty) ∧
      ty.belfry = false)
    ∧ (∃ (s : State) (path : Nat) (p : Nat) (ty : PageTy) (inst : Nat) (t : State), (s.power.off = false ∧ s.hears path = true ∧
      pageAt p = some (ty, inst) ∧ s.listed p = true ∧ hasHeader ty = true ∧ s.inBlockReset p = true) ∧
      t = (s.put (ctrlBase (p * 4096)) hCTRL_BLOCK_RESET 0).put (ctrlBase (p * 4096)) hSTAT_READY (readyAfter ty) ∧
      ty.belfry = true) :=
  ⟨⟨State.reset, 0, 0x90, 1, .PORT, 0, by decide +kernel⟩,
    ⟨(rs ([(PORT_B 0, hCTRL_QUIESCE, 1)])), 0, 0x90, 0, .PORT, 0, by decide +kernel⟩,
    ⟨State.reset, 0, 0x11, 1, .POWER, 0, by decide +kernel⟩,
    ⟨(rs ([(PORT_B 0, hCTRL_QUIESCE, 1)])), 0, 0x90, .PORT, 0, by decide +kernel⟩,
    ⟨State.reset, 0, 0x90, .PORT, 0, by decide +kernel⟩,
    ⟨{ portS planN [] with msg.rpairs := [(4, { (default : RPair) with held := some default })] }, 0, 0x90, .PORT, 0,
      by decide +kernel⟩,
    ⟨State.reset, 0, 0x11, .POWER, 0, by decide +kernel⟩,
    ⟨(rs ([(PORT_B 0, hCTRL_BLOCK_RESET, 1)])), 0, 0x90, .PORT, 0, (((rs ([(PORT_B 0, hCTRL_BLOCK_RESET,
      1)])).put (ctrlBase (0x90 * 4096)) hCTRL_BLOCK_RESET 0).put (ctrlBase (0x90 * 4096)) hSTAT_READY (readyAfter .PORT)),
      by decide +kernel, rfl, by decide +kernel⟩,
    ⟨(rs [(BELFRY_B, hCTRL_BLOCK_RESET, 1)]), 0, (BELFRY_B / 4096), .BELFRY, 0, (((rs [(BELFRY_B, hCTRL_BLOCK_RESET,
      1)]).put (ctrlBase (BELFRY_B / 4096 * 4096)) hCTRL_BLOCK_RESET 0).put (ctrlBase (BELFRY_B / 4096 * 4096)) hSTAT_READY (readyAfter .BELFRY)),
      by decide +kernel, rfl, by decide +kernel⟩⟩

theorem witness_ReferenceClockLossHoldsTheRootPll :
    (∃ (s : State), s.power.off = false ∧ s.bit MODULE_B MODULE.CLK_STAT_REFCLK_OK = true ∧
      s.bit MODULE_B MODULE.CLK_STAT_ROOT_LOCK = true ∧ s.bit MODULE_B MODULE.STRAPS_CLKMODE = false)
    ∧ (∃ (s : State), s.power.off = false ∧ s.bit MODULE_B MODULE.CLK_STAT_REFCLK_OK = false ∧
      s.bit MODULE_B MODULE.CLK_STAT_HOLDOVER = true) :=
  ⟨⟨(rs ([(MODULE_B, MODULE.CLK_STAT_REFCLK_OK, 1), (MODULE_B, MODULE.CLK_STAT_ROOT_LOCK, 1)])), by decide +kernel⟩,
    ⟨(rs ([(MODULE_B, MODULE.CLK_STAT_REFCLK_OK, 0), (MODULE_B, MODULE.CLK_STAT_HOLDOVER, 1)])), by decide +kernel⟩⟩

theorem witness_SequencerInstructionsComplete :
    (∃ (s : State) (s' : State) (g : Nat) (w : Nat), s.power.off = false ∧ s.Fetches g w s' ∧ iOp w = 0x00)
    ∧ (∃ (s : State) (s' : State) (g : Nat) (w : Nat), s.power.off = false ∧ s.Fetches g w s' ∧ iOp w = 0x01)
    ∧ (∃ (s : State) (s' : State) (g : Nat) (w : Nat), s.power.off = false ∧ s.Fetches g w s' ∧ iOp w = 0x02)
    ∧ (∃ (s : State) (s' : State) (g : Nat) (w : Nat), s.power.off = false ∧ s.Fetches g w s' ∧ iOp w = 0x03 ∧
      ((zget s'.tile.loops g).length < 4))
    ∧ (∃ (s : State) (s' : State) (g : Nat) (w : Nat), s.power.off = false ∧ s.Fetches g w s' ∧ iOp w = 0x03 ∧
      4 ≤ (zget s'.tile.loops g).length)
    ∧ (∃ (s : State) (s' : State) (g : Nat) (w : Nat), s.power.off = false ∧ s.Fetches g w s' ∧ iOp w = 0x04)
    ∧ (∃ (s : State) (s' : State) (g : Nat) (w : Nat), s.power.off = false ∧ s.Fetches g w s' ∧ iOp w = 0x05)
    ∧ (∃ (s : State) (s' : State) (g : Nat) (w : Nat), s.power.off = false ∧ s.Fetches g w s' ∧ iOp w = 0x0F)
    ∧ (∃ (s : State) (g : Nat), s.power.off = false ∧ s.tilePresent g = true ∧ s.stopCode g = 1 ∧ s.inflight g = false) :=
  ⟨⟨(runS 0), ((runS 0).fetch 0).2, 0, 0, by decide +kernel, ⟨by decide +kernel, Prod.ext (by decide +kernel) rfl⟩,
      by decide +kernel⟩,
    ⟨(runS (iw 1 0)), ((runS (iw 1 0)).fetch 0).2, 0, (iw 1 0), by decide +kernel, ⟨by decide +kernel,
      Prod.ext (by decide +kernel) rfl⟩, by decide +kernel⟩,
    ⟨(runS (iw 2 0)), ((runS (iw 2 0)).fetch 0).2, 0, (iw 2 0), by decide +kernel, ⟨by decide +kernel,
      Prod.ext (by decide +kernel) rfl⟩, by decide +kernel⟩,
    ⟨(runS (iw 3 0)), ((runS (iw 3 0)).fetch 0).2, 0, (iw 3 0), by decide +kernel, ⟨by decide +kernel,
      Prod.ext (by decide +kernel) rfl⟩, by decide +kernel⟩,
    ⟨{ runS (iw 3 0) with tile.loops := [(0, List.replicate 4 default)] },
      ({ runS (iw 3 0) with tile.loops := [(0, List.replicate 4 default)] }.fetch 0).2, 0, (iw 3 0), by decide +kernel,
      ⟨by decide +kernel, Prod.ext (by decide +kernel) rfl⟩, by decide +kernel⟩,
    ⟨(runS (iw 4 0)), ((runS (iw 4 0)).fetch 0).2, 0, (iw 4 0), by decide +kernel, ⟨by decide +kernel,
      Prod.ext (by decide +kernel) rfl⟩, by decide +kernel⟩,
    ⟨(runS (iw 5 0)), ((runS (iw 5 0)).fetch 0).2, 0, (iw 5 0), by decide +kernel, ⟨by decide +kernel,
      Prod.ext (by decide +kernel) rfl⟩, by decide +kernel⟩,
    ⟨(runS (iw 0xF 0)), ((runS (iw 0xF 0)).fetch 0).2, 0, (iw 0xF 0), by decide +kernel, ⟨by decide +kernel,
      Prod.ext (by decide +kernel) rfl⟩, by decide +kernel⟩,
    ⟨{ runS 0 with tile.stop := [(0, 1)] }, 0, by decide +kernel⟩⟩

theorem witness_TokenAndTimeWaitsIssueOrHold :
    (∃ (s : State) (s' : State) (g : Nat) (w : Nat), s.power.off = false ∧ s.Fetches g w s' ∧ iOp w = 0x10 ∧
      bf w 47 40 ≤ s'.token g (bf w 35 32))
    ∧ (∃ (s : State) (s' : State) (g : Nat) (w : Nat), s.power.off = false ∧ s.Fetches g w s' ∧ iOp w = 0x10 ∧
      s'.token g (bf w 35 32) < bf w 47 40)
    ∧ (∃ (s : State) (g : Nat), s.power.off = false ∧ s.stalled = false ∧ s.waiting g 1 = true ∧
      bf (s.curWord g) 47 40 ≤ s.token g (bf (s.curWord g) 35 32))
    ∧ (∃ (s : State) (s' : State) (g : Nat) (w : Nat), s.power.off = false ∧ s.Fetches g w s' ∧ iOp w = 0x11 ∧
      s'.reached (s'.waitInstant w) = true)
    ∧ (∃ (s : State) (s' : State) (g : Nat) (w : Nat), s.power.off = false ∧ s.Fetches g w s' ∧ iOp w = 0x11 ∧
      s'.reached (s'.waitInstant w) = false)
    ∧ (∃ (s : State) (g : Nat), s.power.off = false ∧ s.stalled = false ∧ s.waiting g 2 = true ∧
      s.reached (s.waitInstant (s.curWord g)) = true)
    ∧ (∃ (s : State) (s' : State) (g : Nat) (w : Nat) (r : BarRec), s.power.off = false ∧ s.Fetches g w s' ∧ iOp w = 0x12 ∧
      s'.barrier (bf w 37 32) = some r ∧ r.kind = 0 ∧ r.arrivals ≠ 0)
    ∧ (∃ (s : State) (s' : State) (g : Nat) (w : Nat) (r : BarRec), s.power.off = false ∧ s.Fetches g w s' ∧ iOp w = 0x12 ∧
      s'.barrier (bf w 37 32) = some r ∧ r.kind ≠ 0)
    ∧ (∃ (s : State) (s' : State) (g : Nat) (w : Nat) (r : BarRec), s.power.off = false ∧ s.Fetches g w s' ∧ iOp w = 0x12 ∧
      s'.barrier (bf w 37 32) = some r ∧ r.kind = 0 ∧ r.arrivals = 0 ∧ s'.reshardMet (bf w 37 32) = true)
    ∧ (∃ (s : State) (b : Nat) (r : BarRec), s.power.off = false ∧ s.stalled = false ∧ s.barrier b = some r ∧ r.kind = 0 ∧
      r.arrivals ≤ zget s.job.arrivals b ∧ s.reshardMet b = true)
    ∧ (∃ (s : State) (s' : State) (g : Nat) (w : Nat), s.power.off = false ∧ s.Fetches g w s' ∧ iOp w = 0x13) :=
  ⟨⟨(runS (iw 0x10 0)), ((runS (iw 0x10 0)).fetch 0).2, 0, (iw 0x10 0), by decide +kernel, ⟨by decide +kernel,
      Prod.ext (by decide +kernel) rfl⟩, by decide +kernel⟩,
    ⟨(runS (0x10 + 7 * 2 ^ 40)), ((runS (0x10 + 7 * 2 ^ 40)).fetch 0).2, 0, (0x10 + 7 * 2 ^ 40), by decide +kernel,
      ⟨by decide +kernel, Prod.ext (by decide +kernel) rfl⟩, by decide +kernel⟩,
    ⟨waitS (iw 0x10 0) 1, 0, by decide +kernel⟩,
    ⟨(runS (iw 0x11 0)), ((runS (iw 0x11 0)).fetch 0).2, 0, (iw 0x11 0), by decide +kernel, ⟨by decide +kernel,
      Prod.ext (by decide +kernel) rfl⟩, by decide +kernel⟩,
    ⟨(runS (0x11 + 1000 * 2 ^ 32)), ((runS (0x11 + 1000 * 2 ^ 32)).fetch 0).2, 0, (0x11 + 1000 * 2 ^ 32), by decide +kernel,
      ⟨by decide +kernel, Prod.ext (by decide +kernel) rfl⟩, by decide +kernel⟩,
    ⟨waitS (iw 0x11 0) 2, 0, by decide +kernel⟩,
    ⟨{ runS (iw 0x12 0) with job.img.bars := [⟨0, 0, 0, 2, 1⟩] },
      ({ runS (iw 0x12 0) with job.img.bars := [⟨0, 0, 0, 2, 1⟩] }.fetch 0).2, 0, (iw 0x12 0), ⟨0, 0, 0, 2, 1⟩,
      by decide +kernel, ⟨by decide +kernel, Prod.ext (by decide +kernel) rfl⟩, by decide +kernel⟩,
    ⟨{ runS (iw 0x12 0) with job.img.bars := [⟨0, 1, 3, 0, 1⟩] },
      ({ runS (iw 0x12 0) with job.img.bars := [⟨0, 1, 3, 0, 1⟩] }.fetch 0).2, 0, (iw 0x12 0), ⟨0, 1, 3, 0, 1⟩,
      by decide +kernel, ⟨by decide +kernel, Prod.ext (by decide +kernel) rfl⟩, by decide +kernel⟩,
    ⟨{ runS (iw 0x12 0) with job.img.bars := [⟨0, 0, 0, 0, 1⟩] },
      ({ runS (iw 0x12 0) with job.img.bars := [⟨0, 0, 0, 0, 1⟩] }.fetch 0).2, 0, (iw 0x12 0), ⟨0, 0, 0, 0, 1⟩,
      by decide +kernel, ⟨by decide +kernel, Prod.ext (by decide +kernel) rfl⟩, by decide +kernel⟩,
    ⟨{ waitS (iw 0x12 0) 3 with job.img.bars := [⟨5, 0, 0, 2, 1⟩], job.arrivals := [(5, 2)] }, 5, ⟨5, 0, 0, 2, 1⟩,
      by decide +kernel⟩,
    ⟨(runS (iw 0x13 0)), ((runS (iw 0x13 0)).fetch 0).2, 0, (iw 0x13 0), by decide +kernel, ⟨by decide +kernel,
      Prod.ext (by decide +kernel) rfl⟩, by decide +kernel⟩⟩

theorem witness_FenceHoldsIssueUntilItsUnitsAreDone :
    (∃ (s : State) (s' : State) (g : Nat) (w : Nat), s.power.off = false ∧ s.Fetches g w s' ∧ iOp w = 0x14 ∧
      ((bf w 35 32 % 2 = 1 → s'.queue g 0 = [] ∧ s'.queue g 1 = []) ∧ (bf w 35 32 / 2 % 2 = 1 → s'.queue g 2 = []) ∧
      (bf w 35 32 / 4 % 2 = 1 → s'.queue g 3 = []) ∧ (bf w 35 32 / 8 % 2 = 1 → s'.queue g 4 = [])))
    ∧ (∃ (s : State) (s' : State) (g : Nat) (w : Nat), s.power.off = false ∧ s.Fetches g w s' ∧ iOp w = 0x14 ∧
      s'.fenced g (bf w 35 32) = false)
    ∧ (∃ (s : State) (g : Nat), s.power.off = false ∧ s.waiting g 4 = true)
    ∧ (∃ (s : State) (g : Nat), s.power.off = false ∧ s.stalled = false ∧ s.waiting g 4 = true ∧
      s.fenced g (bf (s.curWord g) 35 32) = true)
    ∧ (∃ (s : State) (g : Nat), s.power.off = false ∧ s.waiting g 4 = true ∧ s.fenced g (bf (s.curWord g) 35 32) = false) :=
  ⟨⟨(runS (0x14 + 15 * 2 ^ 32)), ((runS (0x14 + 15 * 2 ^ 32)).fetch 0).2, 0, (0x14 + 15 * 2 ^ 32), by decide +kernel,
      ⟨by decide +kernel, Prod.ext (by decide +kernel) rfl⟩, by decide +kernel⟩,
    ⟨(busyS (0x14 + 8 * 2 ^ 32) 4 [op 0x50]), ((busyS (0x14 + 8 * 2 ^ 32) 4 [op 0x50]).fetch 0).2, 0, (0x14 + 8 * 2 ^ 32),
      by decide +kernel, ⟨by decide +kernel, Prod.ext (by decide +kernel) rfl⟩, by decide +kernel⟩,
    ⟨waitS (0x14 + 8 * 2 ^ 32) 4, 0, by decide +kernel⟩,
    ⟨waitS (0x14 + 8 * 2 ^ 32) 4, 0, by decide +kernel⟩,
    ⟨{ waitS (0x14 + 8 * 2 ^ 32) 4 with tile.queue := [(4, [op 0x50])] }, 0, by decide +kernel⟩⟩

theorem witness_UnitInstructionsEnterTheirQueue :
    (∃ (s : State) (s' : State) (g : Nat) (w : Nat) (x : Instr × Nat × Nat), s.power.off = false ∧ s.Fetches g w s' ∧
      x ∈ [(Instr.wload g, 0x20, 0), (.mmaW g, 0x21, 1), (.mmaS g, 0x22, 1), (.accBind g, 0x23, 1), (.accAdd g, 0x24, 1),
      (.accOut g, 0x25, 1), (.vld g, 0x30, 2), (.vst g, 0x31, 2), (.vop g, 0x32, 2), (.vred g, 0x33, 2), (.copy g, 0x40, 3),
      (.prefetch g, 0x41, 3), (.store g, 0x42, 3), (.gather g, 0x43, 3)] ∧ iOp w = x.2.1 ∧ s'.issueFault (s.mkOp g w) = none ∧
      ((s'.queue g x.2.2).length < queueCap x.2.2))
    ∧ (∃ (s : State) (s' : State) (g : Nat) (w : Nat) (x : Instr × Nat × Nat), s.power.off = false ∧ s.Fetches g w s' ∧
      x ∈ [(Instr.wload g, 0x20, 0), (.mmaW g, 0x21, 1), (.mmaS g, 0x22, 1), (.accBind g, 0x23, 1), (.accAdd g, 0x24, 1),
      (.accOut g, 0x25, 1), (.vld g, 0x30, 2), (.vst g, 0x31, 2), (.vop g, 0x32, 2), (.vred g, 0x33, 2), (.copy g, 0x40, 3),
      (.prefetch g, 0x41, 3), (.store g, 0x42, 3), (.gather g, 0x43, 3)] ∧ iOp w = x.2.1 ∧ s'.issueFault (s.mkOp g w) = none ∧
      queueCap x.2.2 ≤ (s'.queue g x.2.2).length)
    ∧ (∃ (s : State) (s' : State) (g : Nat) (w : Nat) (x : Instr × Nat × Nat) (code : Nat) (addr : Nat), s.power.off = false ∧
      s.Fetches g w s' ∧ x ∈ [(Instr.wload g, 0x20, 0), (.mmaW g, 0x21, 1), (.mmaS g, 0x22, 1), (.accBind g, 0x23, 1),
      (.accAdd g, 0x24, 1), (.accOut g, 0x25, 1), (.vld g, 0x30, 2), (.vst g, 0x31, 2), (.vop g, 0x32, 2), (.vred g, 0x33, 2),
      (.copy g, 0x40, 3), (.prefetch g, 0x41, 3), (.store g, 0x42, 3), (.gather g, 0x43, 3)] ∧ iOp w = x.2.1 ∧
      s'.issueFault (s.mkOp g w) = some (code, addr)) :=
  ⟨⟨(runS (0x40 + 2 ^ 104)), ((runS (0x40 + 2 ^ 104)).fetch 0).2, 0, (0x40 + 2 ^ 104), (Instr.copy 0, 0x40, 3),
      by decide +kernel, ⟨by decide +kernel, Prod.ext (by decide +kernel) rfl⟩, by decide +kernel⟩,
    ⟨(busyS (0x40 + 2 ^ 104) 3 (List.replicate 16 (op 0x40))),
      ((busyS (0x40 + 2 ^ 104) 3 (List.replicate 16 (op 0x40))).fetch 0).2, 0, (0x40 + 2 ^ 104), (Instr.copy 0, 0x40, 3),
      by decide +kernel, ⟨by decide +kernel, Prod.ext (by decide +kernel) rfl⟩, by decide +kernel⟩,
    ⟨(runS (0x40 + 0x47FFF * 2 ^ 32 + 2 * 2 ^ 104)), ((runS (0x40 + 0x47FFF * 2 ^ 32 + 2 * 2 ^ 104)).fetch 0).2, 0,
      (0x40 + 0x47FFF * 2 ^ 32 + 2 * 2 ^ 104), (Instr.copy 0, 0x40, 3), 0x8001, 0x48000, by decide +kernel, ⟨by decide +kernel,
      Prod.ext (by decide +kernel) rfl⟩, by decide +kernel⟩⟩

theorem witness_UnitOperationsComplete :
    (∃ (s : State) (g : Nat) (u : Nat) (o : Op) (rest : List Op), s.power.off = false ∧ s.stalled = false ∧
      s.queue g u = o :: rest ∧ u ≤ 2 ∧ (∀ p ∈ s.queue g (1 - u), u = 2 ∨ interlocked o p = false))
    ∧ (∃ (s : State) (g : Nat) (k : Nat) (o : Op), s.power.off = false ∧ ((s.queue g 3)[k]? = some o) ∧ iOp o.word = 0x40)
    ∧ (∃ (s : State) (g : Nat) (k : Nat) (o : Op), s.power.off = false ∧ ((s.queue g 3)[k]? = some o) ∧ iOp o.word = 0x41 ∧
      (((s.queue g 3).take k).any (sameBlock o) = false) ∧ s.reachable g (baddr o 103 64).toNat = true)
    ∧ (∃ (s : State) (g : Nat) (k : Nat) (o : Op), s.power.off = false ∧ ((s.queue g 3)[k]? = some o) ∧ iOp o.word = 0x42 ∧
      (((s.queue g 3).take k).any (sameBlock o) = false) ∧ s.reachable g (baddr o 103 64).toNat = true)
    ∧ (∃ (s : State) (g : Nat) (k : Nat) (o : Op), s.power.off = false ∧ ((s.queue g 3)[k]? = some o) ∧ iOp o.word = 0x43 ∧
      s.engineRuns (g / 256) = true ∧ s.msg.walking.contains (g, o.seq) = true ∧ (∀ m ∈ s.walkReads g o,
      s.gatherHeld g m = false))
    ∧ (∃ (s : State) (g : Nat) (k : Nat) (o : Op), s.power.off = false ∧ ((s.queue g 3)[k]? = some o) ∧ iOp o.word = 0x43 ∧
      s.engineRuns (g / 256) = false ∧ s.diePresent (g / 256) = true ∧ s.engineResets (g / 256) = false) :=
  ⟨⟨busyS 0 1 [op 0x22], 0, 1, op 0x22, [], by decide +kernel⟩,
    ⟨busyS 0 3 [op 0x40], 0, 0, op 0x40, by decide +kernel⟩,
    ⟨puts (busyS 0 3 [op (0x41 + 2 ^ 105)]) [(MESH_B 0, hCTRL_ENABLE, 1), (HBM_B 0, hCTRL_ENABLE, 1), (HBM_B 0,
      HBM.STACK_STAT_PRESENT, 1)], 0, 0, op (0x41 + 2 ^ 105), by decide +kernel⟩,
    ⟨puts (busyS 0 3 [op (0x42 + 2 ^ 105)]) [(MESH_B 0, hCTRL_ENABLE, 1), (HBM_B 0, hCTRL_ENABLE, 1), (HBM_B 0,
      HBM.STACK_STAT_PRESENT, 1)], 0, 0, op (0x42 + 2 ^ 105), by decide +kernel⟩,
    ⟨{ puts (busyS 0 3 [op 0x43]) [(MSG_B, hCTRL_ENABLE, 1), (MENG_B 0, hCTRL_ENABLE, 1), (MESH_B 0, hCTRL_ENABLE, 1)] with msg.walking := [(0, 0)] },
      0, 0, op 0x43, by decide +kernel⟩,
    ⟨busyS 0 3 [op 0x43], 0, 0, op 0x43, by decide +kernel⟩⟩

theorem witness_SendsDepartAndLand :
    (∃ (s : State) (s' : State) (g : Nat) (w : Nat), s.power.off = false ∧ s.Fetches g w s' ∧ iOp w = 0x50 ∧ bf w 42 42 = 1 ∧
      s'.issueFault (s.mkOp g w) = none ∧ ((s'.queue g 4).length < queueCap 4))
    ∧ (∃ (s : State) (g : Nat) (k : Nat) (o : Op), s.power.off = false ∧ ((s.queue g 4)[k]? = some o) ∧ iOp o.word = 0x50 ∧
      s.carried (s.crossed (tilePos g) (tilePos (sendDst o.word))) = true ∧ s.mayEnter g o = true)
    ∧ (∃ (s : State) (f : Nat) (x : Flight) (n : Nat), s.power.off = false ∧ s.flights[f]? = some x ∧ (∀ y ∈ s.flights.take f,
      x.behind y = false) ∧ (x.sched = true → s.stalled = false) ∧
      s.carried (s.crossed (tilePos x.src) (tilePos x.dst)) = true ∧ s.tilePresent x.dst = true ∧ x.rtoken = some n)
    ∧ (∃ (s : State) (f : Nat) (x : Flight), s.power.off = false ∧ s.flights[f]? = some x ∧ (∀ y ∈ s.flights.take f,
      x.behind y = false) ∧ (x.sched = true → s.stalled = false) ∧
      s.carried (s.crossed (tilePos x.src) (tilePos x.dst)) = true ∧ s.tilePresent x.dst = true ∧ x.rtoken = none)
    ∧ (∃ (s : State) (f : Nat) (x : Flight), s.power.off = false ∧ s.flights[f]? = some x ∧ ((∃ y ∈ s.flights.take f,
      x.behind y = true) ∨ (x.sched = true ∧ s.stalled = true))) :=
  ⟨⟨(runS (0x50 + 2 ^ 42 + 2 ^ 64)), ((runS (0x50 + 2 ^ 42 + 2 ^ 64)).fetch 0).2, 0, (0x50 + 2 ^ 42 + 2 ^ 64),
      by decide +kernel, ⟨by decide +kernel, Prod.ext (by decide +kernel) rfl⟩, by decide +kernel⟩,
    ⟨puts (busyS 0 4 [op (0x50 + 2 ^ 42 + 2 ^ 64)]) [(MESH_B 0, hCTRL_ENABLE, 1)], 0, 0, op (0x50 + 2 ^ 42 + 2 ^ 64),
      by decide +kernel⟩,
    ⟨{ puts (runS 0) [(MESH_B 0, hCTRL_ENABLE, 1)] with flights := [⟨0, 1, 5, [(7, false)], some 0, false, false, []⟩] }, 0, ⟨0,
      1, 5, [(7, false)], some 0, false, false, []⟩, 0, by decide +kernel⟩,
    ⟨{ puts (runS 0) [(MESH_B 0, hCTRL_ENABLE, 1)] with flights := [⟨0, 1, 5, [(7, false)], none, true, false, []⟩] }, 0, ⟨0, 1,
      5, [(7, false)], none, true, false, []⟩, by decide +kernel⟩,
    ⟨{ puts (runS 0) [(MESH_B 0, hCTRL_ENABLE, 1)] with flights := [⟨0, 1, 5, [(7, false)], some 0, false, false, []⟩, ⟨0, 1, 5, [(7, false)], some 0, false, false, []⟩] },
      1, ⟨0, 1, 5, [(7, false)], some 0, false, false, []⟩, by decide +kernel⟩⟩

theorem witness_PostsAndPutsBecomeMessageOperations :
    (∃ (s : State) (s' : State) (g : Nat) (w : Nat) (x : Instr × Nat), s.power.off = false ∧ s.Fetches g w s' ∧
      s'.issueFault (s.mkOp g w) = none ∧ ((s'.queue g 4).length < queueCap 4) ∧ x ∈ [(Instr.post g, 0x60), (.put g, 0x61)] ∧
      iOp w = x.2) :=
  ⟨(runS (iw 0x60 0)), ((runS (iw 0x60 0)).fetch 0).2, 0, (iw 0x60 0), (Instr.post 0, 0x60), by decide +kernel,
    ⟨by decide +kernel, Prod.ext (by decide +kernel) rfl⟩, by decide +kernel⟩

theorem witness_TileFaultsAndHaltRequestsStopTheTile :
    (∃ (s : State) (s' : State) (g : Nat) (w : Nat), s.power.off = false ∧ s.Fetches g w s' ∧ iOp w ∉ opcodes)
    ∧ (∃ (s : State) (s' : State) (g : Nat) (w : Nat), (s.power.off = false ∧ s.canIssue g = true) ∧ s.fetch g = ((w, true), s'))
    ∧ (∃ (s : State) (g : Nat), s.power.off = false ∧ s.tilePresent g = true)
    ∧ (∃ (s : State) (g : Nat), s.power.off = false ∧ s.tilePresent g = true ∧ s.stopCode g = 3 ∧ s.inflight g = false ∧
      s.waitsAt g = none)
    ∧ (∃ (s : State) (g : Nat), s.power.off = false ∧ s.tilePresent g = true)
    ∧ (∃ (s : State) (g : Nat), s.power.off = false ∧ s.tilePresent g = true ∧ s.stopCode g = 2 ∧ s.inflight g = false)
    ∧ (∃ (s : State) (g : Nat), s.power.off = false ∧ s.tilePresent g = true ∧ s.bit (TILE_B g) TILE.CTRL_AUDIT = true ∧
      s.get (TILE_B g) TILE.AUDIT_LIMIT_LIMIT ≠ 0 ∧ s.tstate g = tsWAITING ∧ 1 ≤ s.get (TILE_B g) TILE.STATUS_WAIT_KIND ∧
      s.get (TILE_B g) TILE.STATUS_WAIT_KIND ≤ 4) :=
  ⟨⟨(runS 0xFF), ((runS 0xFF).fetch 0).2, 0, 0xFF, by decide +kernel, ⟨by decide +kernel, Prod.ext (by decide +kernel) rfl⟩,
      by decide +kernel⟩,
    ⟨{ runS 0 with poison := [(instrAddr 0 0, true)] }, ({ runS 0 with poison := [(instrAddr 0 0, true)] }.fetch 0).2, 0, 0,
      by decide +kernel, Prod.ext (by decide +kernel) rfl⟩,
    ⟨runS 0, 0, by decide +kernel⟩,
    ⟨{ runS 0 with tile.stop := [(0, 3)] }, 0, by decide +kernel⟩,
    ⟨runS 0, 0, by decide +kernel⟩,
    ⟨{ runS 0 with tile.stop := [(0, 2)] }, 0, by decide +kernel⟩,
    ⟨puts (waitS (iw 0x10 0) 1) [(TILE_B 0, TILE.CTRL_AUDIT, 1), (TILE_B 0, TILE.AUDIT_LIMIT_LIMIT, 10)], 0, by decide +kernel⟩⟩

theorem witness_LinkAndTileFailuresAreReported :
    (∃ (s : State) (d : Nat) (k : Nat) (f : Nat) (j : Nat) (path : Nat) (x : Flight), s.power.off = false ∧
      s.hears path = true ∧ s.diePresent d = true ∧ k < 2 ∧ s.flights[f]? = some x ∧ x.sched = true ∧
      4 * (j % 2 ^ 16) < x.words.length ∧ fateOf (j / 2 ^ 16) = .uncorrectable)
    ∧ (∃ (s : State) (d : Nat) (k : Nat) (f : Nat) (j : Nat) (path : Nat) (x : Flight), s.power.off = false ∧
      s.hears path = true ∧ s.diePresent d = true ∧ k < 2 ∧ s.flights[f]? = some x ∧ x.sched = true ∧
      4 * (j % 2 ^ 16) < x.words.length ∧ fateOf (j / 2 ^ 16) = .corrected)
    ∧ (∃ (s : State) (path : Nat), s.power.off = false ∧ s.hears path = true)
    ∧ (∃ (s : State) (path : Nat) (e : Nat), s.power.off = false ∧ s.hears path = true ∧ e ≠ 0)
    ∧ (∃ (s : State) (u : State) (d : Nat) (k : Nat) (i : Nat) (b : Nat) (n : Nat) (en : Nat) (path : Nat), (s.power.off = false ∧
      s.hears path = true ∧ s.diePresent d = true ∧ k = b % 4 ∧ i = b / 16 % 16 ∧ i < bundles k ∧ en = b / 2 ^ 9 % 64 ∧
      fateOf (b / 2 ^ 16) = .uncorrectable ∧ n = (if b / 256 % 2 = 1 then zget s.tile.retries (replayKey d k i en) else 0)) ∧
      u = (s.inc (MESH_B d) (MESH.LINK_UNCORR_COUNT.at k 0x10)).raiseAlways (MESH_B d) 1 ∧ n < 4)
    ∧ (∃ (s : State) (u : State) (d : Nat) (k : Nat) (i : Nat) (b : Nat) (n : Nat) (en : Nat) (path : Nat), (s.power.off = false ∧
      s.hears path = true ∧ s.diePresent d = true ∧ k = b % 4 ∧ i = b / 16 % 16 ∧ i < bundles k ∧ en = b / 2 ^ 9 % 64 ∧
      fateOf (b / 2 ^ 16) = .uncorrectable ∧ n = (if b / 256 % 2 = 1 then zget s.tile.retries (replayKey d k i en) else 0)) ∧
      u = (s.inc (MESH_B d) (MESH.LINK_UNCORR_COUNT.at k 0x10)).raiseAlways (MESH_B d) 1 ∧ 4 ≤ n)
    ∧ (∃ (s : State) (u : State) (d : Nat) (k : Nat) (i : Nat) (b : Nat) (en : Nat) (path : Nat), (s.power.off = false ∧
      s.hears path = true ∧ s.diePresent d = true ∧ k = b % 4 ∧ i = b / 16 % 16 ∧ i < bundles k ∧ en = b / 2 ^ 9 % 64 ∧
      fateOf (b / 2 ^ 16) = .corrected) ∧ u = s.inc (MESH_B d) (MESH.LINK_CORR_COUNT.at k 0x10))
    ∧ (∃ (s : State) (u : State) (d : Nat) (k : Nat) (i : Nat) (path : Nat), (s.power.off = false ∧ s.hears path = true ∧
      s.diePresent d = true ∧ i < bundles k) ∧
      (u = match linkPartner d k with | some e => if s.diePresent e then (s.bundleDown d k i).bundleDown e k i else s.bundleDown d k i | none => s.bundleDown d k i))
    ∧ (∃ (s : State) (d : Nat) (row : Nat) (col : Nat) (path : Nat) (r : State) (q : State) (v : State), (s.power.off = false ∧
      s.hears path = true ∧ s.diePresent d = true ∧ row < 10 ∧ col < 12 ∧
      zget s.tile.failed (256 * d + 16 * row + col) = false) ∧
      r = { s with tile.failed := zset s.tile.failed (256 * d + 16 * row + col) true } ∧
      q = ((((r.inc (MESH_B d) MESH.PENDING_COUNT).put (MESH_B d) MESH.PENDING_ROW row).put (MESH_B d) MESH.PENDING_COLUMN col).put (MESH_B d) MESH.PENDING_VALID 1) ∧
      v = (q.raiseAlways (MESH_B d) 0).record (MESH_B d) 0x0030 [((q.raiseAlways (MESH_B d) 0).rd (MESH_B d + 0x4C)).toNat] ∧
      s.tileAtPhys d row col = none)
    ∧ (∃ (s : State) (d : Nat) (row : Nat) (col : Nat) (path : Nat) (g : Nat) (r : State) (q : State) (v : State),
      (s.power.off = false ∧ s.hears path = true ∧ s.diePresent d = true ∧ row < 10 ∧ col < 12 ∧
      zget s.tile.failed (256 * d + 16 * row + col) = false) ∧
      r = { s with tile.failed := zset s.tile.failed (256 * d + 16 * row + col) true } ∧
      q = ((((r.inc (MESH_B d) MESH.PENDING_COUNT).put (MESH_B d) MESH.PENDING_ROW row).put (MESH_B d) MESH.PENDING_COLUMN col).put (MESH_B d) MESH.PENDING_VALID 1) ∧
      v = (q.raiseAlways (MESH_B d) 0).record (MESH_B d) 0x0030 [((q.raiseAlways (MESH_B d) 0).rd (MESH_B d + 0x4C)).toNat] ∧
      s.tileAtPhys d row col = some g)
    ∧ (∃ (s : State) (d : Nat) (row : Nat) (col : Nat) (path : Nat), s.power.off = false ∧ s.hears path = true ∧
      s.diePresent d = true ∧ row < 10 ∧ col < 12)
    ∧ (∃ (s : State) (path : Nat) (g : Nat), s.power.off = false ∧ s.hears path = true ∧ s.tilePresent g = true) :=
  ⟨⟨{ rs dieL with flights := [⟨0, 1, 5, [(7, false)], some 0, true, false, []⟩] }, 0, 1, 0, 0, 0, ⟨0, 1, 5, [(7, false)],
      some 0, true, false, []⟩, by decide +kernel⟩,
    ⟨{ rs dieL with flights := [⟨0, 1, 5, [(7, false)], some 0, true, false, []⟩] }, 0, 1, 0, 65536, 0, ⟨0, 1, 5, [(7, false)],
      some 0, true, false, []⟩, by decide +kernel⟩,
    ⟨State.reset, 0, by decide +kernel⟩,
    ⟨State.reset, 0, 1, by decide +kernel⟩,
    ⟨rs dieL, (((rs dieL).inc (MESH_B 0) (MESH.LINK_UNCORR_COUNT.at 0 0x10)).raiseAlways (MESH_B 0) 1), 0, 0, 9, 144, 0, 0, 0,
      by decide +kernel, rfl, by decide +kernel⟩,
    ⟨{ rs dieL with tile.retries := [(replayKey 0 0 9 0, 4)] },
      (({ rs dieL with tile.retries := [(replayKey 0 0 9 0, 4)] }.inc (MESH_B 0) (MESH.LINK_UNCORR_COUNT.at 0 0x10)).raiseAlways (MESH_B 0) 1),
      0, 0, 9, 400, 4, 0, 0, by decide +kernel, rfl, by decide +kernel⟩,
    ⟨rs dieL, ((rs dieL).inc (MESH_B 0) (MESH.LINK_CORR_COUNT.at 0 0x10)), 0, 0, 9, 65680, 0, 0, by decide +kernel, rfl⟩,
    ⟨rs dieL, ((rs dieL).bundleDown 0 0 9), 0, 0, 9, 0, by decide +kernel, rfl⟩,
    ⟨rs dieL, 0, 0, 11, 0, { (rs dieL) with tile.failed := zset (rs dieL).tile.failed (256 * 0 + 16 * 0 + 11) true },
      (((({ (rs dieL) with tile.failed := zset (rs dieL).tile.failed (256 * 0 + 16 * 0 + 11) true }.inc (MESH_B 0) MESH.PENDING_COUNT).put (MESH_B 0) MESH.PENDING_ROW 0).put (MESH_B 0) MESH.PENDING_COLUMN 11).put (MESH_B 0) MESH.PENDING_VALID 1),
      (((((({ (rs dieL) with tile.failed := zset (rs dieL).tile.failed (256 * 0 + 16 * 0 + 11) true }.inc (MESH_B 0) MESH.PENDING_COUNT).put (MESH_B 0) MESH.PENDING_ROW 0).put (MESH_B 0) MESH.PENDING_COLUMN 11).put (MESH_B 0) MESH.PENDING_VALID 1).raiseAlways (MESH_B 0) 0).record (MESH_B 0) 0x0030 [(((((({ (rs dieL) with tile.failed := zset (rs dieL).tile.failed (256 * 0 + 16 * 0 + 11) true }.inc (MESH_B 0) MESH.PENDING_COUNT).put (MESH_B 0) MESH.PENDING_ROW 0).put (MESH_B 0) MESH.PENDING_COLUMN 11).put (MESH_B 0) MESH.PENDING_VALID 1).raiseAlways (MESH_B 0) 0).rd (MESH_B 0 + 0x4C)).toNat]),
      by decide +kernel, rfl, rfl, rfl, by decide +kernel⟩,
    ⟨rs dieL, 0, 1, 1, 0, 0, { (rs dieL) with tile.failed := zset (rs dieL).tile.failed (256 * 0 + 16 * 1 + 1) true },
      (((({ (rs dieL) with tile.failed := zset (rs dieL).tile.failed (256 * 0 + 16 * 1 + 1) true }.inc (MESH_B 0) MESH.PENDING_COUNT).put (MESH_B 0) MESH.PENDING_ROW 1).put (MESH_B 0) MESH.PENDING_COLUMN 1).put (MESH_B 0) MESH.PENDING_VALID 1),
      (((((({ (rs dieL) with tile.failed := zset (rs dieL).tile.failed (256 * 0 + 16 * 1 + 1) true }.inc (MESH_B 0) MESH.PENDING_COUNT).put (MESH_B 0) MESH.PENDING_ROW 1).put (MESH_B 0) MESH.PENDING_COLUMN 1).put (MESH_B 0) MESH.PENDING_VALID 1).raiseAlways (MESH_B 0) 0).record (MESH_B 0) 0x0030 [(((((({ (rs dieL) with tile.failed := zset (rs dieL).tile.failed (256 * 0 + 16 * 1 + 1) true }.inc (MESH_B 0) MESH.PENDING_COUNT).put (MESH_B 0) MESH.PENDING_ROW 1).put (MESH_B 0) MESH.PENDING_COLUMN 1).put (MESH_B 0) MESH.PENDING_VALID 1).raiseAlways (MESH_B 0) 0).rd (MESH_B 0 + 0x4C)).toNat]),
      by decide +kernel, rfl, rfl, rfl, by decide +kernel⟩,
    ⟨rs dieL, 0, 9, 11, 0, by decide +kernel⟩,
    ⟨rs dieL, 0, 109, by decide +kernel⟩⟩

theorem witness_ScrubbersCorrectAndReport :
    (∃ (s : State) (v : State) (g : Nat) (wa : Nat) (e : Nat) (c : Nat) (x : Nat), (s.power.off = false ∧
      s.tilePresent g = true ∧ wa < tileWords ∧ s.get (DIE_B (g / 256)) DIE.SRAM_SCRUB_INTERVAL ≠ 0 ∧ (∀ t ∈ s.tiles,
      t / 256 = g / 256 → s.bit (TILE_B t) hCTRL_BLOCK_RESET = false) ∧ s.scrubElsewhere (twAddr g wa) = false) ∧
      v = ({ s.upsetUnit (twAddr g wa) (wordErr e c) with tile.urgent := s.tile.urgent.filter (· ≠ twAddr g wa) }).scrubTurn (g / 256) (twAddr g wa) ∧
      v.readUnit (twAddr g wa) = (x, .ok))
    ∧ (∃ (s : State) (v : State) (g : Nat) (wa : Nat) (e : Nat) (c : Nat) (x : Nat), (s.power.off = false ∧
      s.tilePresent g = true ∧ wa < tileWords ∧ s.get (DIE_B (g / 256)) DIE.SRAM_SCRUB_INTERVAL ≠ 0 ∧ (∀ t ∈ s.tiles,
      t / 256 = g / 256 → s.bit (TILE_B t) hCTRL_BLOCK_RESET = false) ∧ s.scrubElsewhere (twAddr g wa) = false) ∧
      v = ({ s.upsetUnit (twAddr g wa) (wordErr e c) with tile.urgent := s.tile.urgent.filter (· ≠ twAddr g wa) }).scrubTurn (g / 256) (twAddr g wa) ∧
      v.readUnit (twAddr g wa) = (x, .corrected))
    ∧ (∃ (s : State) (v : State) (g : Nat) (wa : Nat) (e : Nat) (c : Nat) (x : Nat), (s.power.off = false ∧
      s.tilePresent g = true ∧ wa < tileWords ∧ s.get (DIE_B (g / 256)) DIE.SRAM_SCRUB_INTERVAL ≠ 0 ∧ (∀ t ∈ s.tiles,
      t / 256 = g / 256 → s.bit (TILE_B t) hCTRL_BLOCK_RESET = false) ∧ s.scrubElsewhere (twAddr g wa) = false) ∧
      v = ({ s.upsetUnit (twAddr g wa) (wordErr e c) with tile.urgent := s.tile.urgent.filter (· ≠ twAddr g wa) }).scrubTurn (g / 256) (twAddr g wa) ∧
      v.readUnit (twAddr g wa) = (x, .uncorrectable))
    ∧ (∃ (s : State) (v : State) (e : Nat) (m : Nat) (n : Nat), (s.power.off = false ∧ s.stackIn m = true ∧
      s.on (HBM_B m) = true ∧ s.bit (HBM_B m) hSTAT_QUIESCED = false ∧ s.get (HBM_B m) HBM.SCRUB_PERIOD_SECONDS ≠ 0 ∧
      s.get (HBM_B m) HBM.SCRUB_POS_BLOCK = n) ∧
      v = ((s.upsetUnit (m * 0x1000000000 + 64 * n) e).readBlock (m * 0x1000000000 + 64 * n)).2 ∧ n + 1 < 562500000)
    ∧ (∃ (s : State) (v : State) (e : Nat) (m : Nat) (n : Nat), (s.power.off = false ∧ s.stackIn m = true ∧
      s.on (HBM_B m) = true ∧ s.bit (HBM_B m) hSTAT_QUIESCED = false ∧ s.get (HBM_B m) HBM.SCRUB_PERIOD_SECONDS ≠ 0 ∧
      s.get (HBM_B m) HBM.SCRUB_POS_BLOCK = n) ∧
      v = ((s.upsetUnit (m * 0x1000000000 + 64 * n) e).readBlock (m * 0x1000000000 + 64 * n)).2 ∧ 562500000 ≤ n + 1) :=
  ⟨⟨puts (runS 0) [(DIE_B 0, DIE.SRAM_SCRUB_INTERVAL, 1)],
      ({ (puts (runS 0) [(DIE_B 0, DIE.SRAM_SCRUB_INTERVAL, 1)]).upsetUnit (twAddr 0 0) (wordErr 0 0) with tile.urgent := (puts (runS 0) [(DIE_B 0, DIE.SRAM_SCRUB_INTERVAL, 1)]).tile.urgent.filter (· ≠ twAddr 0 0) }.scrubTurn (0 / 256) (twAddr 0 0)),
      0, 0, 0, 0,
      (({ (puts (runS 0) [(DIE_B 0, DIE.SRAM_SCRUB_INTERVAL, 1)]).upsetUnit (twAddr 0 0) (wordErr 0 0) with tile.urgent := (puts (runS 0) [(DIE_B 0, DIE.SRAM_SCRUB_INTERVAL, 1)]).tile.urgent.filter (· ≠ twAddr 0 0) }.scrubTurn (0 / 256) (twAddr 0 0)).readUnit (twAddr 0 0)).1,
      by decide +kernel, rfl, by decide +kernel⟩,
    ⟨puts (runS 0) [(DIE_B 0, DIE.SRAM_SCRUB_INTERVAL, 1)],
      ({ (puts (runS 0) [(DIE_B 0, DIE.SRAM_SCRUB_INTERVAL, 1)]).upsetUnit (twAddr 0 0) (wordErr 1 0) with tile.urgent := (puts (runS 0) [(DIE_B 0, DIE.SRAM_SCRUB_INTERVAL, 1)]).tile.urgent.filter (· ≠ twAddr 0 0) }.scrubTurn (0 / 256) (twAddr 0 0)),
      0, 0, 1, 0,
      (({ (puts (runS 0) [(DIE_B 0, DIE.SRAM_SCRUB_INTERVAL, 1)]).upsetUnit (twAddr 0 0) (wordErr 1 0) with tile.urgent := (puts (runS 0) [(DIE_B 0, DIE.SRAM_SCRUB_INTERVAL, 1)]).tile.urgent.filter (· ≠ twAddr 0 0) }.scrubTurn (0 / 256) (twAddr 0 0)).readUnit (twAddr 0 0)).1,
      by decide +kernel, rfl, by decide +kernel⟩,
    ⟨puts (runS 0) [(DIE_B 0, DIE.SRAM_SCRUB_INTERVAL, 1)],
      ({ (puts (runS 0) [(DIE_B 0, DIE.SRAM_SCRUB_INTERVAL, 1)]).upsetUnit (twAddr 0 0) (wordErr 0x0101010101 0) with tile.urgent := (puts (runS 0) [(DIE_B 0, DIE.SRAM_SCRUB_INTERVAL, 1)]).tile.urgent.filter (· ≠ twAddr 0 0) }.scrubTurn (0 / 256) (twAddr 0 0)),
      0, 0, 0x0101010101, 0,
      (({ (puts (runS 0) [(DIE_B 0, DIE.SRAM_SCRUB_INTERVAL, 1)]).upsetUnit (twAddr 0 0) (wordErr 0x0101010101 0) with tile.urgent := (puts (runS 0) [(DIE_B 0, DIE.SRAM_SCRUB_INTERVAL, 1)]).tile.urgent.filter (· ≠ twAddr 0 0) }.scrubTurn (0 / 256) (twAddr 0 0)).readUnit (twAddr 0 0)).1,
      by decide +kernel, rfl, by decide +kernel⟩,
    ⟨(rs ([(HBM_B 7, HBM.STACK_STAT_PRESENT, 1), (HBM_B 7, hCTRL_ENABLE, 1), (HBM_B 7, HBM.SCRUB_PERIOD_SECONDS, 86400),
      (HBM_B 7, HBM.SCRUB_POS_BLOCK, 562499998)])), ((((rs ([(HBM_B 7, HBM.STACK_STAT_PRESENT, 1), (HBM_B 7, hCTRL_ENABLE, 1),
      (HBM_B 7, HBM.SCRUB_PERIOD_SECONDS, 86400), (HBM_B 7, HBM.SCRUB_POS_BLOCK,
      562499998)])).upsetUnit (7 * 0x1000000000 + 64 * 562499998) 0).readBlock (7 * 0x1000000000 + 64 * 562499998)).2), 0, 7,
      562499998, by decide +kernel, rfl, by decide +kernel⟩,
    ⟨(rs ([(HBM_B 7, HBM.STACK_STAT_PRESENT, 1), (HBM_B 7, hCTRL_ENABLE, 1), (HBM_B 7, HBM.SCRUB_PERIOD_SECONDS, 86400),
      (HBM_B 7, HBM.SCRUB_POS_BLOCK, 562499999)])), ((((rs ([(HBM_B 7, HBM.STACK_STAT_PRESENT, 1), (HBM_B 7, hCTRL_ENABLE, 1),
      (HBM_B 7, HBM.SCRUB_PERIOD_SECONDS, 86400), (HBM_B 7, HBM.SCRUB_POS_BLOCK,
      562499999)])).upsetUnit (7 * 0x1000000000 + 64 * 562499999) 0).readBlock (7 * 0x1000000000 + 64 * 562499999)).2), 0, 7,
      562499999, by decide +kernel, rfl, by decide +kernel⟩⟩

theorem witness_StackFailuresAndMapOutRequests :
    (∃ (s : State) (m : Nat) (c : Nat), s.power.off = false ∧ s.stackIn m = true ∧ c < 32 ∧
      s.bit (HBM_B m) HBM.STACK_STAT_MARKED = false)
    ∧ (∃ (s : State) (m : Nat), s.power.off = false ∧ m < 8 ∧ s.diePresent (m / 2) = true)
    ∧ (∃ (s : State), s.power.off = false ∧ s.bringUp 4 = true) :=
  ⟨⟨(rs ([(HBM_B 7, HBM.STACK_STAT_PRESENT, 1)])), 7, 31, by decide +kernel⟩,
    ⟨rs dieL, 1, by decide +kernel⟩,
    ⟨(rs ([(POWER_B, POWER.STATE_STATE, 1), (POWER_B, POWER.STATE_STEP, 4)])), by decide +kernel⟩⟩

theorem witness_JobCommandsFollowTheJobState :
    (∃ (s : State) (path : Nat) (d : Nat), s.power.off = false ∧ s.hears path = true ∧ s.diePresent d = true ∧
      s.reeve.down = false ∧ s.bit POWER_B POWER.STATE_HOLD = false ∧ jobAccepts 0 s.jobState = true)
    ∧ (∃ (s : State) (path : Nat) (d : Nat), s.power.off = false ∧ s.hears path = true ∧ s.diePresent d = true ∧
      s.reeve.down = false ∧ s.bit POWER_B POWER.STATE_HOLD = false ∧ jobAccepts 1 s.jobState = true ∧
      s.get jobB DIE.NEXT_PHASE < s.job.img.phases.length ∧ s.changeDue = false)
    ∧ (∃ (s : State) (path : Nat) (d : Nat), s.power.off = false ∧ s.hears path = true ∧ s.diePresent d = true ∧
      s.reeve.down = false ∧ s.bit POWER_B POWER.STATE_HOLD = false ∧ jobAccepts 1 s.jobState = true ∧
      s.job.img.phases.length ≤ s.get jobB DIE.NEXT_PHASE)
    ∧ (∃ (s : State) (path : Nat) (d : Nat), s.power.off = false ∧ s.hears path = true ∧ s.diePresent d = true ∧
      s.reeve.down = false ∧ s.bit POWER_B POWER.STATE_HOLD = false ∧ jobAccepts 2 s.jobState = true)
    ∧ (∃ (s : State) (path : Nat) (d : Nat), s.power.off = false ∧ s.hears path = true ∧ s.diePresent d = true ∧
      s.reeve.down = false ∧ s.bit POWER_B POWER.STATE_HOLD = false ∧ jobAccepts 3 s.jobState = true)
    ∧ (∃ (s : State) (path : Nat) (d : Nat) (x : Instr × Nat), s.power.off = false ∧ s.hears path = true ∧ s.diePresent d = true ∧
      s.reeve.down = false ∧ x ∈ [(Instr.load path d, 0), (.start path d, 1), (.stop path d, 2), (.unload path d, 3)] ∧
      jobAccepts x.2 s.jobState = false)
    ∧ (∃ (s : State) (path : Nat) (d : Nat) (x : Instr × Nat), s.power.off = false ∧ s.hears path = true ∧ s.diePresent d = true ∧
      s.reeve.down = true ∧ x ∈ [(Instr.load path d, 0), (.start path d, 1), (.stop path d, 2), (.unload path d, 3)]) :=
  ⟨⟨(rs (dieL ++ [(jobB, DIE.JOB_STAT_STATE, jsFAILED)])), 0, 0, by decide +kernel⟩,
    ⟨{ (rs (dieL ++ [(jobB, DIE.JOB_STAT_STATE, jsLOADED)])) with job.img.phases := [default] }, 0, 0, by decide +kernel⟩,
    ⟨{ (rs (dieL ++ [(jobB, DIE.JOB_STAT_STATE, jsRUNNING), (jobB, DIE.NEXT_PHASE, 1)])) with job.img.phases := [default] }, 0,
      0, by decide +kernel⟩,
    ⟨(rs (dieL ++ [(jobB, DIE.JOB_STAT_STATE, jsLOADING)])), 0, 0, by decide +kernel⟩,
    ⟨(rs (dieL ++ [(jobB, DIE.JOB_STAT_STATE, jsREFUSED)])), 0, 0, by decide +kernel⟩,
    ⟨(rs (dieL ++ [(jobB, DIE.JOB_STAT_STATE, jsRUNNING)])), 0, 0, (Instr.load 0 0, 0), by decide +kernel⟩,
    ⟨{ (rs (dieL ++ [(jobB, DIE.JOB_STAT_STATE, jsEMPTY)])) with reeve.down := true }, 0, 0, (Instr.load 0 0, 0),
      by decide +kernel⟩⟩

theorem witness_LoadsAndPhaseChangesTakeEffect :
    (∃ (s : State) (r : Refuse), s.power.off = false ∧ s.jobState = jsLOADING ∧ s.reeve.down = false ∧
      s.memHeld s.imgAddr = false ∧ checkImage s.imgBytes.2 s.imgBytes.2.imgAddr s.imgBytes.2.imgLen s.imgBytes.1 = some r)
    ∧ (∃ (s : State), s.power.off = false ∧ s.jobState = jsLOADING ∧ s.reeve.down = false ∧ s.memHeld s.imgAddr = false ∧
      checkImage s.imgBytes.2 s.imgBytes.2.imgAddr s.imgBytes.2.imgLen s.imgBytes.1 = none ∧
      s.imgBytes.2.contentsHeld s.imgBytes.1 = false)
    ∧ (∃ (s : State) (u : State) (v : State) (p : Nat) (t : Nat), (s.power.off = false ∧ s.changeDue = true) ∧ u = s.fireSwitch ∧
      p = u.get jobB DIE.JOB_STAT_ARMED_PHASE ∧ t = u.job.armT ∧
      v = (u.put jobB DIE.JOB_STAT_ARMED 0).put jobB DIE.JOB_STAT_AUTO 0 ∧
      ((v.tiles.any fun g => decide (v.tstate g = tsFAULTED)) = true))
    ∧ (∃ (s : State) (u : State) (v : State) (p : Nat) (t : Nat), (s.power.off = false ∧ s.changeDue = true) ∧ u = s.fireSwitch ∧
      p = u.get jobB DIE.JOB_STAT_ARMED_PHASE ∧ t = u.job.armT ∧
      v = (u.put jobB DIE.JOB_STAT_ARMED 0).put jobB DIE.JOB_STAT_AUTO 0 ∧
      ((v.tiles.any fun g => decide (v.tstate g = tsFAULTED)) = false) ∧ v.lateTiles = [])
    ∧ (∃ (s : State) (u : State) (v : State) (p : Nat) (t : Nat), (s.power.off = false ∧ s.changeDue = true) ∧ u = s.fireSwitch ∧
      p = u.get jobB DIE.JOB_STAT_ARMED_PHASE ∧ t = u.job.armT ∧
      v = (u.put jobB DIE.JOB_STAT_ARMED 0).put jobB DIE.JOB_STAT_AUTO 0 ∧
      ((v.tiles.any fun g => decide (v.tstate g = tsFAULTED)) = false) ∧ v.lateTiles ≠ [] ∧
      (((v.recordLate v.lateTiles).phaseEnt p).flags / 2 % 2 = 1))
    ∧ (∃ (s : State) (u : State) (v : State) (p : Nat) (t : Nat), (s.power.off = false ∧ s.changeDue = true) ∧ u = s.fireSwitch ∧
      p = u.get jobB DIE.JOB_STAT_ARMED_PHASE ∧ t = u.job.armT ∧
      v = (u.put jobB DIE.JOB_STAT_ARMED 0).put jobB DIE.JOB_STAT_AUTO 0 ∧
      ((v.tiles.any fun g => decide (v.tstate g = tsFAULTED)) = false) ∧ v.lateTiles ≠ [] ∧
      (((v.recordLate v.lateTiles).phaseEnt p).flags / 2 % 2 ≠ 1))
    ∧ (∃ (s : State) (p : Nat) (t : Nat), s.power.off = false ∧ s.job.late = some (p, t) ∧ (∀ g ∈ s.lateTiles,
      s.tstate g = tsFAULTED) ∧ s.jobState ≠ jsFAILED)
    ∧ (∃ (s : State), s.power.off = false ∧ s.trigArmed 31 = true ∧
      s.reached (s.get64 TRIGGERS_B (trigF TRIGGERS.TIME_LO 31)) = true)
    ∧ (∃ (s : State), s.power.off = false ∧
      (s.trigArmed 31 = false ∨ s.reached (s.get64 TRIGGERS_B (trigF TRIGGERS.TIME_LO 31)) = false))
    ∧ (∃ (s : State), s.power.off = false ∧ s.job.starting = true ∧ (∀ f ∈ s.flights, f.sched = false)) :=
  ⟨⟨(rs (dieL ++ [(jobB, DIE.JOB_STAT_STATE, jsLOADING)])), (1, 0, 0, 0), by decide +kernel⟩,
    ⟨loadS 1495732917, by decide +kernel⟩,
    ⟨{ (rs (tileL tsFAULTED ++ [(jobB, DIE.JOB_STAT_STATE, jsRUNNING), (jobB, DIE.JOB_STAT_ARMED, 1)])) with job.img.streams := [⟨0, 1, [0]⟩], job.img.phases := [default] },
      { (rs (tileL tsFAULTED ++ [(jobB, DIE.JOB_STAT_STATE, jsRUNNING), (jobB, DIE.JOB_STAT_ARMED, 1)])) with job.img.streams := [⟨0, 1, [0]⟩], job.img.phases := [default] },
      ((({ (rs (tileL tsFAULTED ++ [(jobB, DIE.JOB_STAT_STATE, jsRUNNING), (jobB, DIE.JOB_STAT_ARMED, 1)])) with job.img.streams := [⟨0, 1, [0]⟩], job.img.phases := [default] }).put jobB DIE.JOB_STAT_ARMED 0).put jobB DIE.JOB_STAT_AUTO 0),
      0, 0, by decide +kernel, rfl, by decide +kernel, rfl, rfl, by decide +kernel⟩,
    ⟨{ (rs (tileL tsPHASE_END ++ [(jobB, DIE.JOB_STAT_STATE, jsRUNNING), (jobB, DIE.JOB_STAT_ARMED, 1)])) with job.img.streams := [⟨0, 1, [0]⟩], job.img.phases := [default] },
      { (rs (tileL tsPHASE_END ++ [(jobB, DIE.JOB_STAT_STATE, jsRUNNING), (jobB, DIE.JOB_STAT_ARMED, 1)])) with job.img.streams := [⟨0, 1, [0]⟩], job.img.phases := [default] },
      ((({ (rs (tileL tsPHASE_END ++ [(jobB, DIE.JOB_STAT_STATE, jsRUNNING), (jobB, DIE.JOB_STAT_ARMED, 1)])) with job.img.streams := [⟨0, 1, [0]⟩], job.img.phases := [default] }).put jobB DIE.JOB_STAT_ARMED 0).put jobB DIE.JOB_STAT_AUTO 0),
      0, 0, by decide +kernel, rfl, by decide +kernel, rfl, rfl, by decide +kernel⟩,
    ⟨{ (rs (tileL tsRUNNING ++ [(jobB, DIE.JOB_STAT_STATE, jsRUNNING), (jobB, DIE.JOB_STAT_ARMED, 1)])) with job.img.streams := [⟨0, 1, [0]⟩], job.img.phases := [{ (default : PhaseEnt) with flags := 2 }] },
      { (rs (tileL tsRUNNING ++ [(jobB, DIE.JOB_STAT_STATE, jsRUNNING), (jobB, DIE.JOB_STAT_ARMED, 1)])) with job.img.streams := [⟨0, 1, [0]⟩], job.img.phases := [{ (default : PhaseEnt) with flags := 2 }] },
      ((({ (rs (tileL tsRUNNING ++ [(jobB, DIE.JOB_STAT_STATE, jsRUNNING), (jobB, DIE.JOB_STAT_ARMED, 1)])) with job.img.streams := [⟨0, 1, [0]⟩], job.img.phases := [{ (default : PhaseEnt) with flags := 2 }] }).put jobB DIE.JOB_STAT_ARMED 0).put jobB DIE.JOB_STAT_AUTO 0),
      0, 0, by decide +kernel, rfl, by decide +kernel, rfl, rfl, by decide +kernel⟩,
    ⟨{ (rs (tileL tsRUNNING ++ [(jobB, DIE.JOB_STAT_STATE, jsRUNNING), (jobB, DIE.JOB_STAT_ARMED, 1)])) with job.img.streams := [⟨0, 1, [0]⟩], job.img.phases := [default] },
      { (rs (tileL tsRUNNING ++ [(jobB, DIE.JOB_STAT_STATE, jsRUNNING), (jobB, DIE.JOB_STAT_ARMED, 1)])) with job.img.streams := [⟨0, 1, [0]⟩], job.img.phases := [default] },
      ((({ (rs (tileL tsRUNNING ++ [(jobB, DIE.JOB_STAT_STATE, jsRUNNING), (jobB, DIE.JOB_STAT_ARMED, 1)])) with job.img.streams := [⟨0, 1, [0]⟩], job.img.phases := [default] }).put jobB DIE.JOB_STAT_ARMED 0).put jobB DIE.JOB_STAT_AUTO 0),
      0, 0, by decide +kernel, rfl, by decide +kernel, rfl, rfl, by decide +kernel⟩,
    ⟨{ State.reset with job.late := some (1, 5) }, 1, 5, by decide +kernel⟩,
    ⟨(puts (State.reset.put64 TRIGGERS_B (trigF TRIGGERS.TIME_LO 31) 0) [(TRIGGERS_B, trigF TRIGGERS.CTRL_ARM 31, 1)]),
      by decide +kernel⟩,
    ⟨State.reset, by decide +kernel⟩,
    ⟨{ State.reset with job.starting := true }, by decide +kernel⟩⟩

theorem witness_ReshardAndGovernorRunBesideTheJob :
    (∃ (s : State) (i : Nat), s.power.off = false ∧ s.rsRunning i = true ∧ s.rsFinished i = true ∧ s.rsHeld i = false ∧
      ((s.rsDesc i).kind ≠ 0 ∨ s.bit (RESHARD_B (s.rsDesc i).die) hCTRL_QUIESCE = false))
    ∧ (∃ (s : State) (i : Nat), s.power.off = false ∧ s.rsRunning i = true ∧ s.rsLate i = true)
    ∧ (∃ (s : State) (d : Nat), s.power.off = false ∧ s.diePresent d = true) :=
  ⟨
      ⟨{ rs [(MESH_B 0, hCTRL_ENABLE, 1), (RESHARD_B 0, hCTRL_ENABLE, 1), (RESHARD_B 0, RESHARD.STAT_ACTIVE, 1), (RESHARD_B 0, RESHARD.TIMEOUT_US, 0)] with job.rsRun := true, job.img.phases := [{ (default : PhaseEnt) with rsCount := 1 }], time.clock := 0 },
      0, by decide +kernel⟩,
    ⟨{ rs [(RESHARD_B 0, hCTRL_ENABLE, 1), (RESHARD_B 0, RESHARD.STAT_ACTIVE, 1), (RESHARD_B 0, RESHARD.TIMEOUT_US, 1)] with job.rsRun := true, job.img.phases := [{ (default : PhaseEnt) with rsCount := 1 }], time.clock := 10000 * 2 ^ 32 },
      0, by decide +kernel⟩,
    ⟨rs dieL, 0, by decide +kernel⟩⟩

theorem witness_FramesArriveWherePortsRun :
    (∃ (s : State) (p : Nat) (vc : Nat) (f : MsgFrame) (x : Instr × Nat × Nat), s.power.off = false ∧ s.portOn p = true ∧
      f.fits = true ∧ x ∈ [(Instr.rxPost p f, 1, 1), (.rxStreamData p vc f, 2, vc)] ∧ f.typ = x.2.1 ∧ x.2.2 < 2 ∧
      s.plan.admits p f.slice = true ∧
      (((s.countIn p).msg.offers.any (Offer.onPair f.path x.2.2) || (s.countIn p).frameHeld x.2.2 f) = false))
    ∧ (∃ (s : State) (p : Nat) (vc : Nat) (f : MsgFrame) (x : Instr × Nat × Nat), s.power.off = false ∧ s.portOn p = true ∧
      f.fits = true ∧ x ∈ [(Instr.rxPost p f, 1, 1), (.rxStreamData p vc f, 2, vc)] ∧ f.typ = x.2.1 ∧ x.2.2 < 2 ∧
      s.plan.admits p f.slice = true ∧
      (((s.countIn p).msg.offers.any (Offer.onPair f.path x.2.2) || (s.countIn p).frameHeld x.2.2 f) = true))
    ∧ (∃ (s : State) (p : Nat) (vc : Nat) (f : MsgFrame) (x : Instr × Nat × Nat), s.power.off = false ∧ s.portOn p = true ∧
      f.fits = true ∧ x ∈ [(Instr.rxPost p f, 1, 1), (.rxStreamData p vc f, 2, vc)] ∧ f.typ = x.2.1 ∧ x.2.2 < 2 ∧
      s.plan.admits p f.slice = false)
    ∧ (∃ (s : State) (p : Nat) (l : Nat) (w : List Nat), s.power.off = false ∧ s.portOn p = true ∧ l < 9 ∧ s.rxSt p l ≠ lnOFF ∧
      w.length = 240 ∧ (∀ x ∈ w, x < 1024)) :=
  ⟨⟨portS planN [], 0, 1, { (default : MsgFrame) with typ := 1, slice := 1 },
      (Instr.rxPost 0 ({ (default : MsgFrame) with typ := 1, slice := 1 }), 1, 1), by decide +kernel⟩,
    ⟨portS planN [(MENG_B 0, hCTRL_BLOCK_RESET, 1)], 0, 1, { (default : MsgFrame) with typ := 1, slice := 1 },
      (Instr.rxPost 0 ({ (default : MsgFrame) with typ := 1, slice := 1 }), 1, 1), by decide +kernel⟩,
    ⟨portS planN [], 0, 1, { (default : MsgFrame) with typ := 1, slice := 2 },
      (Instr.rxPost 0 ({ (default : MsgFrame) with typ := 1, slice := 2 }), 1, 1), by decide +kernel⟩,
    ⟨portS planN (laneL 4 4), 0, 0, (List.replicate 240 1023), by decide +kernel⟩⟩

theorem witness_AcknowledgementsRetireFrames :
    (∃ (s : State) (path : Nat) (vc : Nat), s.power.off = false ∧ s.outPath path = true ∧ vc < 2)
    ∧ (∃ (s : State) (path : Nat) (vc : Nat) (seq : Nat) (r : Rep), s.power.off = false ∧ s.outPath path = true ∧ vc < 2 ∧
      (((s.pair path vc).replay.find? fun r => r.frame.seq = seq) = some r))
    ∧ (∃ (s : State) (path : Nat) (vc : Nat) (no : Nat), s.power.off = false ∧ s.outPath path = true ∧ vc < 2 ∧
      ((s.pair path vc).resync = some no))
    ∧ (∃ (s : State) (path : Nat) (vc : Nat), s.power.off = false ∧ s.outPath path = true ∧ vc < 2 ∧ s.pathServes path = true ∧
      ((s.pair path vc).replay ≠ []) ∧ (s.pair path vc).timeouts < max 1 (s.get MSG_B MSG.RETRY_LIMIT_COUNT))
    ∧ (∃ (s : State) (path : Nat) (vc : Nat), s.power.off = false ∧ s.outPath path = true ∧ vc < 2 ∧ s.pathServes path = true ∧
      ((s.pair path vc).replay ≠ []) ∧ max 1 (s.get MSG_B MSG.RETRY_LIMIT_COUNT) ≤ (s.pair path vc).timeouts)
    ∧ (∃ (s : State) (path : Nat), s.power.off = false ∧ s.outPath path = true ∧ s.pathServes path = false)
    ∧ (∃ (s : State) (id : Nat) (o : MOp), s.power.off = false ∧ s.mop id = some o ∧ o.backoff = true) :=
  ⟨⟨portS planN [], 1, 1, by decide +kernel⟩,
    ⟨{ portS planN ([]) with msg.pairs := [(2, { (default : Pair) with replay := [⟨0, true, { (default : MsgFrame) with seq := 9 }⟩] })] },
      1, 0, 9, ⟨0, true, { (default : MsgFrame) with seq := 9 }⟩, by decide +kernel⟩,
    ⟨{ portS planN ([]) with msg.pairs := [(2, { (default : Pair) with resync := some 3 })] }, 1, 0, 3, by decide +kernel⟩,
    ⟨{ portS planN (laneL 4 4) with msg.pairs := [(2, { (default : Pair) with replay := [⟨0, true, { (default : MsgFrame) with seq := 9 }⟩] })] },
      1, 0, by decide +kernel⟩,
    ⟨{ portS planN (laneL 4 4) with msg.pairs := [(2, { (default : Pair) with replay := [⟨0, true, { (default : MsgFrame) with seq := 9 }⟩], timeouts := 100 })] },
      1, 0, by decide +kernel⟩,
    ⟨portS planN [], 1, by decide +kernel⟩,
    ⟨{ State.reset with msg.ops := [{ (default : MOp) with id := 4, backoff := true }] }, 4,
      { (default : MOp) with id := 4, backoff := true }, by decide +kernel⟩⟩

theorem witness_ReceiversHoldAnswerAndResync :
    (∃ (s : State) (path : Nat) (vc : Nat) (l : Nat) (e : PathEnt), s.power.off = false ∧ vc < 2 ∧ l < 9 ∧
      s.plan.path true path = some e)
    ∧ (∃ (s : State) (path : Nat) (vc : Nat) (f : MsgFrame), s.power.off = false ∧ vc < 2 ∧ ((s.rpair path vc).held = some f))
    ∧ (∃ (s : State) (k : Nat) (r : RxRec), s.power.off = false ∧ s.msg.rx[k]? = some r ∧ r.held = false)
    ∧ (∃ (s : State) (d : Nat), s.power.off = false ∧ s.diePresent d = true)
    ∧ (∃ (s : State) (path : Nat) (vc : Nat) (e : PathEnt), s.power.off = false ∧ vc < 2 ∧ s.plan.path false path = some e ∧
      s.returnLanes e ≠ [])
    ∧ (∃ (s : State) (path : Nat) (vc : Nat) (l : Nat) (e : PathEnt) (back : PathEnt), s.power.off = false ∧ vc < 2 ∧
      s.plan.path true path = some e ∧ s.plan.path false e.ret = some back ∧ ((s.launched back).head? = some l)) :=
  ⟨⟨portS planN [], 2, 1, 8, pIn false, by decide +kernel⟩,
    ⟨{ State.reset with msg.rpairs := [(4, { (default : RPair) with held := some default })] }, 2, 0, default,
      by decide +kernel⟩,
    ⟨{ State.reset with msg.rx := [default] }, 0, default, by decide +kernel⟩,
    ⟨rs dieL, 0, by decide +kernel⟩,
    ⟨portS planN (laneL 4 4), 1, 1, pOut, by decide +kernel⟩,
    ⟨portS planN (laneL 4 4), 2, 0, 0, pIn false, pOut, by decide +kernel⟩⟩

theorem witness_QueueCommandsActOnTheirQueue :
    (∃ (s : State) (d : Nat) (q : Nat), s.power.off = false ∧ s.diePresent d = true ∧ q < 2 ^ 18 ∧ queueDie q = d ∧
      s.engineResets d = true)
    ∧ (∃ (s : State) (d : Nat) (q : Nat), s.power.off = false ∧ s.diePresent d = true ∧ q < 2 ^ 18 ∧ queueDie q = d ∧
      s.engineResets d = false ∧ s.bit (MENG_B d) MENG.QCMD_STAT_BUSY = false ∧
      s.memHeld (s.get64 (MENG_B d) MENG.QARG_INDEX_LO_ADDR % 2 ^ 40) = false ∧ s.queueAt q = none ∧
      4 ≤ s.get (MENG_B d) MENG.QARG_CFG_LOG2_CAP ∧ s.get (MENG_B d) MENG.QARG_CFG_LOG2_CAP ≤ 24 ∧
      s.bit (MENG_B d) MENG.QARG_CFG_ENTRY_256 = false ∧
      s.goodArea (s.get64 (MENG_B d) MENG.QARG_RING_LO_ADDR % 2 ^ 40) (2 ^ s.get (MENG_B d) MENG.QARG_CFG_LOG2_CAP * 64) = true ∧
      s.goodArea (s.get64 (MENG_B d) MENG.QARG_INDEX_LO_ADDR % 2 ^ 40) 128 = true)
    ∧ (∃ (s : State) (d : Nat) (q : Nat) (x : QDesc), s.power.off = false ∧ s.diePresent d = true ∧ q < 2 ^ 18 ∧ queueDie q = d ∧
      s.engineResets d = false ∧ s.bit (MENG_B d) MENG.QCMD_STAT_BUSY = false ∧
      s.memHeld (s.get64 (MENG_B d) MENG.QARG_INDEX_LO_ADDR % 2 ^ 40) = false ∧ s.queueHeld q = false ∧ s.queueAt q = some x ∧
      x.upset = false)
    ∧ (∃ (s : State) (d : Nat) (q : Nat) (x : QDesc), s.power.off = false ∧ s.diePresent d = true ∧ q < 2 ^ 18 ∧ queueDie q = d ∧
      s.engineResets d = false ∧ s.queueHeld q = false ∧ s.queueAt q = some x ∧ x.upset = true)
    ∧ (∃ (s : State) (d : Nat) (q : Nat), s.power.off = false ∧ s.diePresent d = true ∧ q < 2 ^ 18 ∧ queueDie q = d ∧
      s.engineResets d = false ∧ s.bit (MENG_B d) MENG.QCMD_STAT_BUSY = false ∧ s.queueAt q = none)
    ∧ (∃ (s : State) (d : Nat) (q : Nat), s.power.off = false ∧ s.diePresent d = true ∧ q < 2 ^ 18 ∧ queueDie q = d ∧
      s.engineResets d = false)
    ∧ (∃ (s : State) (d : Nat) (q : Nat), s.power.off = false ∧ s.diePresent d = true ∧ q < 2 ^ 18 ∧ queueDie q = d) :=
  ⟨⟨(rs (dieL ++ [(MENG_B 0, hCTRL_BLOCK_RESET, 1)])), 0, 5, by decide +kernel⟩,
    ⟨(rs (dieL ++ [(MENG_B 0, MENG.QARG_CFG_LOG2_CAP, 4), (HBM_B 0, HBM.STACK_STAT_PRESENT, 1)])), 0, 5, by decide +kernel⟩,
    ⟨{ rs dieL with msg.queues := [(5, some { (default : QDesc) with log2 := 4 })] }, 0, 5,
      { (default : QDesc) with log2 := 4 }, by decide +kernel⟩,
    ⟨{ rs dieL with msg.queues := [(5, some { (default : QDesc) with log2 := 4, upset := true })] }, 0, 5,
      { (default : QDesc) with log2 := 4, upset := true }, by decide +kernel⟩,
    ⟨rs dieL, 0, 0xFFFF, by decide +kernel⟩,
    ⟨rs dieL, 0, 5, by decide +kernel⟩,
    ⟨rs dieL, 0, 5, by decide +kernel⟩⟩

theorem witness_ClockWritesTrimAndStepTheClock :
    (∃ (s : State) (path : Nat) (ns : Nat) (frac : Nat), s.power.off = false ∧ s.hears path = true ∧
      2 * 2 ^ 32 + 0x7FAE147B ≤ ns % 256 * 2 ^ 32 + frac % 2 ^ 32 ∧ ns % 256 * 2 ^ 32 + frac % 2 ^ 32 ≤ 2 * 2 ^ 32 + 0x8051EB85)
    ∧ (∃ (s : State) (path : Nat) (ns : Nat) (frac : Nat), s.power.off = false ∧ s.hears path = true ∧
      ns % 256 * 2 ^ 32 + frac % 2 ^ 32 < 2 * 2 ^ 32 + 0x7FAE147B)
    ∧ (∃ (s : State) (path : Nat) (ns : Nat) (frac : Nat), s.power.off = false ∧ s.hears path = true ∧
      2 * 2 ^ 32 + 0x8051EB85 < ns % 256 * 2 ^ 32 + frac % 2 ^ 32)
    ∧ (∃ (s : State) (path : Nat) (v : Word), s.power.off = false ∧ s.hears path = true ∧ v.getLsbD 0 = true)
    ∧ (∃ (s : State) (path : Nat), s.power.off = false ∧ s.hears path = true ∧ s.bit TIME_B TIME.STEP_CTRL_GO = true)
    ∧ (∃ (s : State) (path : Nat), s.power.off = false ∧ s.hears path = true ∧ s.bit TIME_B TIME.STEP_CTRL_GO = false)
    ∧ (∃ (s : State) (path : Nat), s.power.off = false ∧ s.hears path = true) :=
  ⟨⟨State.reset, 0, 2, 0x7FAE147B, by decide +kernel⟩,
    ⟨State.reset, 0, 2, 0x7FAE147A, by decide +kernel⟩,
    ⟨State.reset, 0, 2, 0x8051EB86, by decide +kernel⟩,
    ⟨State.reset, 0, 1#32, by decide +kernel⟩,
    ⟨(rs ([(TIME_B, TIME.STEP_CTRL_GO, 1)])), 0, by decide +kernel⟩,
    ⟨State.reset, 0, by decide +kernel⟩,
    ⟨State.reset, 0, by decide +kernel⟩⟩

theorem witness_TimeSourcesComeAndGo :
    (∃ (s : State) (rising : Nat) (half : Nat), s.power.off = false ∧ s.capTakes 0 (decide (rising % 2 = 1)) = true ∧ (∀ t,
      s.time.lastPps = some t → t + 3600000000 ≤ 2 * s.time.up + (if half = 0 then 0 else 5)))
    ∧ (∃ (s : State) (rising : Nat) (half : Nat) (t : Nat), s.power.off = false ∧ s.capTakes 0 (decide (rising % 2 = 1)) = true ∧
      s.time.lastPps = some t ∧ 2 * s.time.up + (if half = 0 then 0 else 5) < t + 3600000000)
    ∧ (∃ (s : State), s.power.off = false ∧ s.time.ppsLost = false ∧ s.timeSrc ≠ 1)
    ∧ (∃ (s : State), s.power.off = false ∧ s.time.ppsLost = false ∧ s.timeSrc = 1)
    ∧ (∃ (s : State), s.power.off = false ∧ 2 ≤ s.timeSrc) :=
  ⟨⟨(rs ([(TIME_B, TIME.CAP_CTRL_EDGE.at 0 0x20, 1)])), 1, 0, by decide +kernel⟩,
    ⟨{ (rs ([(TIME_B, TIME.CAP_CTRL_EDGE.at 0 0x20, 1)])) with time.lastPps := some 0, time.up := 1799999999 }, 1, 0, 0,
      by decide +kernel⟩,
    ⟨State.reset, by decide +kernel⟩,
    ⟨(rs ([(TIME_B, TIME.CTRL_SRC, 1)])), by decide +kernel⟩,
    ⟨(rs ([(TIME_B, TIME.CTRL_SRC, 2)])), by decide +kernel⟩⟩

theorem witness_TimeFramesCarryTimestamps :
    (∃ (s : State) (path : Nat) (p : Nat), s.power.off = false ∧ s.ztPort path = some p ∧ s.ztMaster p = true)
    ∧ (∃ (s : State) (path : Nat) (p : Nat), s.power.off = false ∧ s.on TIME_B = true ∧ p < 36 ∧
      path = s.get TIME_B TIME.ZT_SLAVE_PATH)
    ∧ (∃ (s : State) (p : Nat) (seq : Nat) (t1 : Nat) (t2 : Nat), s.power.off = false ∧ s.time.ztSync = some (seq, t1, t2, none) ∧
      s.ztPort (s.get TIME_B TIME.ZT_SLAVE_RPATH) = some p)
    ∧ (∃ (s : State) (p : Nat) (q : Nat) (reply : Nat), s.power.off = false ∧ s.ztPort reply = some q ∧ p < 36 ∧
      s.ztMaster q = true)
    ∧ (∃ (s : State) (path : Nat) (n : Nat) (t1 : Nat) (t2 : Nat) (t3 : Nat), s.power.off = false ∧ s.time.ztSync = some (n, t1,
      t2, some t3) ∧ s.on TIME_B = true ∧ path = s.get TIME_B TIME.ZT_SLAVE_PATH) :=
  ⟨⟨portS planN (laneL 4 4 ++ [(TIME_B, hCTRL_ENABLE, 1), (TIME_B, bitF 0x8C 0, 1)]), 1, 0, by decide +kernel⟩,
    ⟨portS planN (laneL 4 4 ++ [(TIME_B, hCTRL_ENABLE, 1), (TIME_B, TIME.ZT_SLAVE_PATH, 2)]), 2, 35, by decide +kernel⟩,
    ⟨{ portS planN (laneL 4 4 ++ [(TIME_B, hCTRL_ENABLE, 1), (TIME_B, TIME.ZT_SLAVE_RPATH, 1)]) with time.ztSync := some (7, 100, 200, none) },
      0, 7, 100, 200, by decide +kernel⟩,
    ⟨portS planN (laneL 4 4 ++ [(TIME_B, hCTRL_ENABLE, 1), (TIME_B, bitF 0x8C 0, 1)]), 35, 0, 1, by decide +kernel⟩,
    ⟨{ portS planN (laneL 4 4 ++ [(TIME_B, hCTRL_ENABLE, 1), (TIME_B, TIME.ZT_SLAVE_PATH, 2)]) with time.ztSync := some (7, 100, 200, some 300) },
      2, 7, 100, 200, 300, by decide +kernel⟩⟩

theorem witness_ManagementPortsSpeakPtp :
    (∃ (s : State) (n : Nat), s.power.off = false ∧ s.ptpRole n = 2)
    ∧ (∃ (s : State) (n : Nat), s.power.off = false ∧ s.mgmtUp n = false)
    ∧ (∃ (s : State) (n : Nat), s.power.off = false ∧ s.mgmtUp n = true)
    ∧ (∃ (s : State) (n : Nat) (dom : Nat) (master : Nat) (slave : Nat) (ns : Nat) (frac : Nat) (x : Instr), s.power.off = false ∧
      s.mgmtUp n = false ∧ x ∈ [Instr.ptpDelayReqRx n dom slave, .ptpSyncRx n dom master ns frac,
      .ptpDelayRespRx n dom master ns frac])
    ∧ (∃ (s : State) (r : State) (n : Nat) (dom : Nat), (s.power.off = false ∧ s.mgmtUp n = true) ∧
      r = s.inc (MGMT_B n) MGMT.RX_FRAMES ∧ dom = r.get TIME_B TIME.PTP_CTRL_DOMAIN ∧ r.ptpRole n = 2)
    ∧ (∃ (s : State) (r : State) (n : Nat) (dom : Nat) (master : Nat) (ns : Nat) (frac : Nat) (u : State), (s.power.off = false ∧
      s.mgmtUp n = true) ∧ r = s.inc (MGMT_B n) MGMT.RX_FRAMES ∧ (dom = r.get TIME_B TIME.PTP_CTRL_DOMAIN ∧ r.ptpRole n = 1 ∧
      (zget r.time.ptpMaster n = none ∨ zget r.time.ptpMaster n = some master)) ∧
      u = { r with time.ptpMaster := zset r.time.ptpMaster n (some master), time.ptpSync := zset r.time.ptpSync n (some (tsOf ns frac % 2 ^ 96, r.tsIn (36 + n), r.tsOut (36 + n))) } ∧
      r.timeSrc ≠ 2 + n)
    ∧ (∃ (s : State) (r : State) (n : Nat) (dom : Nat) (master : Nat) (ns : Nat) (frac : Nat) (u : State), (s.power.off = false ∧
      s.mgmtUp n = true) ∧ r = s.inc (MGMT_B n) MGMT.RX_FRAMES ∧ (dom = r.get TIME_B TIME.PTP_CTRL_DOMAIN ∧ r.ptpRole n = 1 ∧
      (zget r.time.ptpMaster n = none ∨ zget r.time.ptpMaster n = some master)) ∧
      u = { r with time.ptpMaster := zset r.time.ptpMaster n (some master), time.ptpSync := zset r.time.ptpSync n (some (tsOf ns frac % 2 ^ 96, r.tsIn (36 + n), r.tsOut (36 + n))) } ∧
      r.timeSrc = 2 + n)
    ∧ (∃ (s : State) (r : State) (n : Nat) (dom : Nat) (master : Nat) (t1 : Nat) (t2 : Nat) (t3 : Nat), (s.power.off = false ∧
      s.mgmtUp n = true) ∧ r = s.inc (MGMT_B n) MGMT.RX_FRAMES ∧ dom = r.get TIME_B TIME.PTP_CTRL_DOMAIN ∧ r.ptpRole n = 1 ∧
      zget r.time.ptpMaster n = some master ∧ zget r.time.ptpSync n = some (t1, t2, t3)) :=
  ⟨⟨(rs ([(TIME_B, hCTRL_ENABLE, 1), (TIME_B, TIME.PTP_CTRL, 8)])), 1, by decide +kernel⟩,
    ⟨(rs ([(TIME_B, hCTRL_ENABLE, 1), (TIME_B, TIME.PTP_CTRL, 8)])), 1, by decide +kernel⟩,
    ⟨(rs ([(TIME_B, hCTRL_ENABLE, 1), (TIME_B, TIME.PTP_CTRL, 8), (MGMT_B 1, hCTRL_ENABLE, 1), (MGMT_B 1, MGMT.STAT_LINK_UP,
      1)])), 1, by decide +kernel⟩,
    ⟨(rs ([(TIME_B, hCTRL_ENABLE, 1), (TIME_B, TIME.PTP_CTRL, 8)])), 1, 0, 5, 5, 0, 0, (Instr.ptpDelayReqRx 1 0 5),
      by decide +kernel⟩,
    ⟨(rs ([(TIME_B, hCTRL_ENABLE, 1), (TIME_B, TIME.PTP_CTRL, 8), (MGMT_B 1, hCTRL_ENABLE, 1), (MGMT_B 1, MGMT.STAT_LINK_UP,
      1)])), ((rs ([(TIME_B, hCTRL_ENABLE, 1), (TIME_B, TIME.PTP_CTRL, 8), (MGMT_B 1, hCTRL_ENABLE, 1), (MGMT_B 1,
      MGMT.STAT_LINK_UP, 1)])).inc (MGMT_B 1) MGMT.RX_FRAMES), 1, 0, by decide +kernel, rfl, by decide +kernel⟩,
    ⟨(rs ([(TIME_B, hCTRL_ENABLE, 1), (TIME_B, TIME.PTP_CTRL, 4), (MGMT_B 1, hCTRL_ENABLE, 1), (MGMT_B 1, MGMT.STAT_LINK_UP,
      1)])), ((rs ([(TIME_B, hCTRL_ENABLE, 1), (TIME_B, TIME.PTP_CTRL, 4), (MGMT_B 1, hCTRL_ENABLE, 1), (MGMT_B 1,
      MGMT.STAT_LINK_UP, 1)])).inc (MGMT_B 1) MGMT.RX_FRAMES), 1, 0, 5, 0, 0,
      { ((rs ([(TIME_B, hCTRL_ENABLE, 1), (TIME_B, TIME.PTP_CTRL, 4), (MGMT_B 1, hCTRL_ENABLE, 1), (MGMT_B 1, MGMT.STAT_LINK_UP, 1)])).inc (MGMT_B 1) MGMT.RX_FRAMES) with time.ptpMaster := zset ((rs ([(TIME_B, hCTRL_ENABLE, 1), (TIME_B, TIME.PTP_CTRL, 4), (MGMT_B 1, hCTRL_ENABLE, 1), (MGMT_B 1, MGMT.STAT_LINK_UP, 1)])).inc (MGMT_B 1) MGMT.RX_FRAMES).time.ptpMaster 1 (some 5), time.ptpSync := zset ((rs ([(TIME_B, hCTRL_ENABLE, 1), (TIME_B, TIME.PTP_CTRL, 4), (MGMT_B 1, hCTRL_ENABLE, 1), (MGMT_B 1, MGMT.STAT_LINK_UP, 1)])).inc (MGMT_B 1) MGMT.RX_FRAMES).time.ptpSync 1 (some (tsOf 0 0 % 2 ^ 96, ((rs ([(TIME_B, hCTRL_ENABLE, 1), (TIME_B, TIME.PTP_CTRL, 4), (MGMT_B 1, hCTRL_ENABLE, 1), (MGMT_B 1, MGMT.STAT_LINK_UP, 1)])).inc (MGMT_B 1) MGMT.RX_FRAMES).tsIn (36 + 1), ((rs ([(TIME_B, hCTRL_ENABLE, 1), (TIME_B, TIME.PTP_CTRL, 4), (MGMT_B 1, hCTRL_ENABLE, 1), (MGMT_B 1, MGMT.STAT_LINK_UP, 1)])).inc (MGMT_B 1) MGMT.RX_FRAMES).tsOut (36 + 1))) },
      by decide +kernel, rfl, by decide +kernel, rfl, by decide +kernel⟩,
    ⟨(rs ([(TIME_B, hCTRL_ENABLE, 1), (TIME_B, TIME.PTP_CTRL, 4), (MGMT_B 1, hCTRL_ENABLE, 1), (MGMT_B 1, MGMT.STAT_LINK_UP, 1),
      (TIME_B, TIME.CTRL_SRC, 3)])), ((rs ([(TIME_B, hCTRL_ENABLE, 1), (TIME_B, TIME.PTP_CTRL, 4), (MGMT_B 1, hCTRL_ENABLE, 1),
      (MGMT_B 1, MGMT.STAT_LINK_UP, 1), (TIME_B, TIME.CTRL_SRC, 3)])).inc (MGMT_B 1) MGMT.RX_FRAMES), 1, 0, 5, 0, 0,
      { ((rs ([(TIME_B, hCTRL_ENABLE, 1), (TIME_B, TIME.PTP_CTRL, 4), (MGMT_B 1, hCTRL_ENABLE, 1), (MGMT_B 1, MGMT.STAT_LINK_UP, 1), (TIME_B, TIME.CTRL_SRC, 3)])).inc (MGMT_B 1) MGMT.RX_FRAMES) with time.ptpMaster := zset ((rs ([(TIME_B, hCTRL_ENABLE, 1), (TIME_B, TIME.PTP_CTRL, 4), (MGMT_B 1, hCTRL_ENABLE, 1), (MGMT_B 1, MGMT.STAT_LINK_UP, 1), (TIME_B, TIME.CTRL_SRC, 3)])).inc (MGMT_B 1) MGMT.RX_FRAMES).time.ptpMaster 1 (some 5), time.ptpSync := zset ((rs ([(TIME_B, hCTRL_ENABLE, 1), (TIME_B, TIME.PTP_CTRL, 4), (MGMT_B 1, hCTRL_ENABLE, 1), (MGMT_B 1, MGMT.STAT_LINK_UP, 1), (TIME_B, TIME.CTRL_SRC, 3)])).inc (MGMT_B 1) MGMT.RX_FRAMES).time.ptpSync 1 (some (tsOf 0 0 % 2 ^ 96, ((rs ([(TIME_B, hCTRL_ENABLE, 1), (TIME_B, TIME.PTP_CTRL, 4), (MGMT_B 1, hCTRL_ENABLE, 1), (MGMT_B 1, MGMT.STAT_LINK_UP, 1), (TIME_B, TIME.CTRL_SRC, 3)])).inc (MGMT_B 1) MGMT.RX_FRAMES).tsIn (36 + 1), ((rs ([(TIME_B, hCTRL_ENABLE, 1), (TIME_B, TIME.PTP_CTRL, 4), (MGMT_B 1, hCTRL_ENABLE, 1), (MGMT_B 1, MGMT.STAT_LINK_UP, 1), (TIME_B, TIME.CTRL_SRC, 3)])).inc (MGMT_B 1) MGMT.RX_FRAMES).tsOut (36 + 1))) },
      by decide +kernel, rfl, by decide +kernel, rfl, by decide +kernel⟩,
    ⟨{ (rs ([(TIME_B, hCTRL_ENABLE, 1), (TIME_B, TIME.PTP_CTRL, 4), (MGMT_B 1, hCTRL_ENABLE, 1), (MGMT_B 1, MGMT.STAT_LINK_UP, 1)])) with time.ptpMaster := [(1, some 5)], time.ptpSync := [(1, some (1, 2, 3))] },
      ({ (rs ([(TIME_B, hCTRL_ENABLE, 1), (TIME_B, TIME.PTP_CTRL, 4), (MGMT_B 1, hCTRL_ENABLE, 1), (MGMT_B 1, MGMT.STAT_LINK_UP, 1)])) with time.ptpMaster := [(1, some 5)], time.ptpSync := [(1, some (1, 2, 3))] }.inc (MGMT_B 1) MGMT.RX_FRAMES),
      1, 0, 5, 1, 2, 3, by decide +kernel, rfl, by decide +kernel⟩⟩

theorem witness_CapturesAndTriggersMarkInstants :
    (∃ (s : State) (c : Nat) (path : Nat) (rising : Nat), s.power.off = false ∧ s.hears path = true ∧ (c = 1 ∨ c = 2) ∧
      s.capTakes c (decide (rising % 2 = 1)) = true ∧ ((zget s.time.caps c).length < 16))
    ∧ (∃ (s : State) (c : Nat) (path : Nat) (rising : Nat), s.power.off = false ∧ s.hears path = true ∧ (c = 1 ∨ c = 2) ∧
      s.capTakes c (decide (rising % 2 = 1)) = true ∧ 16 ≤ (zget s.time.caps c).length)
    ∧ (∃ (s : State) (c : Nat) (path : Nat), s.power.off = false ∧ s.hears path = true ∧ c < 3)
    ∧ (∃ (s : State) (u : Nat) (path : Nat) (v : Word), s.power.off = false ∧ s.hears path = true ∧ u < 31 ∧
      s.trigArmed u = false ∧ v.getLsbD 0 = false)
    ∧ (∃ (s : State) (u : Nat) (path : Nat) (v : Word), s.power.off = false ∧ s.hears path = true ∧ u < 31 ∧
      s.trigArmed u = false ∧ v.getLsbD 0 = true ∧ s.on TRIGGERS_B = true)
    ∧ (∃ (s : State) (path : Nat), s.power.off = false ∧ s.hears path = true)
    ∧ (∃ (s : State) (u : Nat) (path : Nat), s.power.off = false ∧ s.hears path = true ∧ u < 32 ∧ s.trigArmed u = true ∧
      s.reached (s.get64 TRIGGERS_B (trigF TRIGGERS.TIME_LO u)) = true ∧ (s.on TRIGGERS_B = true ∨ u = 31))
    ∧ (∃ (s : State) (path : Nat), s.power.off = false ∧ s.hears path = true ∧ s.time.ppsOut = true) :=
  ⟨⟨{ (rs ([(TIME_B, TIME.CAP_CTRL_EDGE.at 2 0x20, 1)])) with time.caps := [(2, List.replicate 15 default)] }, 2, 0, 1,
      by decide +kernel⟩,
    ⟨{ (rs ([(TIME_B, TIME.CAP_CTRL_EDGE.at 2 0x20, 1)])) with time.caps := [(2, List.replicate 16 default)] }, 2, 0, 1,
      by decide +kernel⟩,
    ⟨State.reset, 2, 0, by decide +kernel⟩,
    ⟨State.reset, 30, 0, 2#32, by decide +kernel⟩,
    ⟨(rs ([(TRIGGERS_B, hCTRL_ENABLE, 1)])), 30, 0, 1#32, by decide +kernel⟩,
    ⟨State.reset, 0, by decide +kernel⟩,
    ⟨(rs ([(TRIGGERS_B, hCTRL_ENABLE, 1), (TRIGGERS_B, trigF TRIGGERS.CTRL_ARM 31, 1)])), 31, 0, by decide +kernel⟩,
    ⟨{ State.reset with time.ppsOut := true }, 0, by decide +kernel⟩⟩

theorem witness_CombsFollowTheLaserInterlock :
    (∃ (s : State) (path : Nat) (e : Nat), s.power.off = false ∧ s.hears path = true ∧ e < 2 ∧
      s.bit (COMB_B e) COMB.STAT_EN_STABLE = true ∧ s.on (COMB_B e) = true ∧ s.bit POWER_B POWER.STATE_HOLD = false ∧
      s.combSt e = cbWAIT_ARM)
    ∧ (∃ (s : State) (path : Nat) (e : Nat), s.power.off = false ∧ s.hears path = true ∧ e < 2 ∧
      (s.bit (COMB_B e) COMB.STAT_EN_STABLE = false ∨ s.on (COMB_B e) = false ∨ s.bit POWER_B POWER.STATE_HOLD = true))
    ∧ (∃ (s : State) (path : Nat) (e : Nat), s.power.off = false ∧ s.hears path = true ∧ e < 2 ∧ s.combSt e = cbWARMING)
    ∧ (∃ (s : State) (path : Nat) (e : Nat), s.power.off = false ∧ s.hears path = true ∧ e < 2 ∧
      (s.combSt e = cbLOCKING ∨ s.combSt e = cbHOLDOVER))
    ∧ (∃ (s : State) (path : Nat) (e : Nat) (which : Nat) (u : State), (s.power.off = false ∧ s.hears path = true ∧ e < 2) ∧
      u = (if which = 0 then s.put (COMB_B e) COMB.STAT_SPACING_LOCK 0 else s.put (COMB_B e) COMB.STAT_OFFSET_LOCK 0) ∧
      s.combSt e = cbLOCKED)
    ∧ (∃ (s : State) (path : Nat) (e : Nat), s.power.off = false ∧ s.hears path = true ∧ e < 2)
    ∧ (∃ (s : State) (path : Nat), s.power.off = false ∧ s.hears path = true) :=
  ⟨⟨(rs ([(COMB_B 1, COMB.STAT_STATE, cbWAIT_ARM), (COMB_B 1, hCTRL_ENABLE, 1), (COMB_B 1, COMB.STAT_EN_STABLE, 1)])), 0, 1,
      by decide +kernel⟩,
    ⟨State.reset, 0, 1, by decide +kernel⟩,
    ⟨(rs ([(COMB_B 1, COMB.STAT_STATE, cbWARMING)])), 0, 1, by decide +kernel⟩,
    ⟨(rs ([(COMB_B 1, COMB.STAT_STATE, cbLOCKING)])), 0, 1, by decide +kernel⟩,
    ⟨(rs ([(COMB_B 1, COMB.STAT_STATE, cbLOCKED)])), 0, 1, 1, ((rs ([(COMB_B 1, COMB.STAT_STATE,
      cbLOCKED)])).put (COMB_B 1) COMB.STAT_OFFSET_LOCK 0), by decide +kernel, rfl, by decide +kernel⟩,
    ⟨State.reset, 0, 1, by decide +kernel⟩,
    ⟨State.reset, 0, by decide +kernel⟩⟩

theorem witness_LaneChecksDecideService :
    (∃ (s : State) (p : Nat) (l : Nat) (k : Nat), s.power.off = false ∧ p < 36 ∧ l < 9 ∧ s.ringLine (rxRing p l) = some k ∧
      s.bit (COMB_B (portEngine p)) COMB.CTRL_TONE_EN = true)
    ∧ (∃ (s : State) (p : Nat) (l : Nat) (k : Nat), s.power.off = false ∧ p < 36 ∧ l < 9 ∧ s.ringLine (txRing p l) = some k ∧
      s.bit (COMB_B (portEngine p)) COMB.CTRL_TONE_EN = true)
    ∧ (∃ (s : State) (p : Nat) (l : Nat) (k : Nat), s.power.off = false ∧ p < 36 ∧ l < 9 ∧ s.ringLine (txRing p l) ≠ some k)
    ∧ (∃ (s : State) (p : Nat) (l : Nat), s.power.off = false ∧ p < 36 ∧ l < 9 ∧ s.rxSt p l = lnCHECKING)
    ∧ (∃ (s : State) (p : Nat) (l : Nat), s.power.off = false ∧ p < 36 ∧ l < 9 ∧ serving (s.rxSt p l) = true)
    ∧ (∃ (s : State) (p : Nat) (l : Nat) (cause : Nat), s.power.off = false ∧ p < 36 ∧ l < 9 ∧ serving (s.rxSt p l) = true ∧
      cause ≠ fcHARDWARE ∧ cause ≠ fcLINE_MISMATCH)
    ∧ (∃ (s : State) (p : Nat) (l : Nat), s.power.off = false ∧ p < 36 ∧ l < 9 ∧ serving (s.rxSt p l) = true) :=
  ⟨⟨portS planN [(COMB_B 0, COMB.CTRL_TONE_EN, 1)], 0, 8, 9, by decide +kernel⟩,
    ⟨portS planN [(COMB_B 0, COMB.CTRL_TONE_EN, 1)], 0, 8, 9, by decide +kernel⟩,
    ⟨portS planN [(COMB_B 0, COMB.CTRL_TONE_EN, 1)], 0, 8, 8, by decide +kernel⟩,
    ⟨portS planN (laneL 4 lnCHECKING), 0, 0, by decide +kernel⟩,
    ⟨portS planN (laneL 4 lnIN_SERVICE), 0, 0, by decide +kernel⟩,
    ⟨portS planN (laneL 4 lnIN_SERVICE), 0, 0, fcBER, by decide +kernel⟩,
    ⟨portS planN (laneL 4 lnIN_SERVICE), 0, 0, by decide +kernel⟩⟩

theorem witness_LightAtAPortStartsAndStopsItsLaunch :
    (∃ (s : State) (p : Nat) (q : Nat) (l : Nat), s.power.off = false ∧ s.portOn p = true ∧
      s.bit (PORT_B p) PORT.STAT_RX_LIGHT = false ∧ s.combGood (portEngine p) = true ∧
      (((p :: (List.range 3).map (p / 3 * 3 + ·)).flatMap fun n => (List.range 9).map fun k => (n,
      k)).find? fun x => s.addsAt p x.1 x.2) = some (q, l))
    ∧ (∃ (s : State) (p : Nat), s.power.off = false ∧ s.portOn p = true ∧ s.bit (PORT_B p) PORT.STAT_RX_LIGHT = false)
    ∧ (∃ (s : State) (p : Nat), s.power.off = false ∧ s.portOn p = true ∧ s.bit (PORT_B p) PORT.STAT_RX_LIGHT = true ∧
      s.xrds.lit.contains p = false)
    ∧ (∃ (s : State) (p : Nat), s.power.off = false ∧ s.portOn p = true ∧ s.plan.mode p = mdLOOPBACK ∧
      s.bit (PORT_B p) PORT.STAT_RX_LIGHT = false)
    ∧ (∃ (s : State) (p : Nat) (u : State) (v : State), (s.power.off = false ∧ p < 36 ∧ s.engineOk (portEngine p) = true) ∧
      u = ((s.put (PORT_B p) PORT.STAT_LAUNCH_LIMIT 1).inc (PORT_B p) PORT.LAUNCH_LIMIT_CNT_COUNT).raise (PORT_B p) 5 ∧
      v = u.parkPort p lnPARKED 0)
    ∧ (∃ (s : State) (p : Nat) (u : State), (s.power.off = false ∧ p < 36) ∧
      u = { s.put (PORT_B p) PORT.STAT_LAUNCH_LIMIT 0 with opt.tripped := s.opt.tripped.filter fun e => decide (e.2 ≠ p + 1) }) :=
  ⟨⟨portS planN [], 0, 0, 0, by decide +kernel⟩,
    ⟨portS planN [], 0, by decide +kernel⟩,
    ⟨portS planN [(PORT_B 0, PORT.STAT_RX_LIGHT, 1)], 0, by decide +kernel⟩,
    ⟨portS (bank mdLOOPBACK 0 0xFF 0) [], 0, by decide +kernel⟩,
    ⟨portS planN [], 0,
      ((((portS planN []).put (PORT_B 0) PORT.STAT_LAUNCH_LIMIT 1).inc (PORT_B 0) PORT.LAUNCH_LIMIT_CNT_COUNT).raise (PORT_B 0) 5),
      (((((portS planN []).put (PORT_B 0) PORT.STAT_LAUNCH_LIMIT 1).inc (PORT_B 0) PORT.LAUNCH_LIMIT_CNT_COUNT).raise (PORT_B 0) 5).parkPort 0 lnPARKED 0),
      by decide +kernel, rfl, rfl⟩,
    ⟨State.reset, 35,
      { State.reset.put (PORT_B 35) PORT.STAT_LAUNCH_LIMIT 0 with opt.tripped := State.reset.opt.tripped.filter fun e => decide (e.2 ≠ 35 + 1) },
      by decide +kernel, rfl⟩⟩

theorem witness_BeaconsIdentifyThePeer :
    (∃ (s : State) (p : Nat) (l : Nat), s.power.off = false ∧ s.portOn p = true ∧ l < 9 ∧
      (s.txSt p l = lnCHECKING ∨ serving (s.txSt p l) = true))
    ∧ (∃ (s : State) (p : Nat) (l : Nat), s.power.off = false ∧ p < 36 ∧ l < 9 ∧ 32 ≤ s.vc3Held p)
    ∧ (∃ (s : State) (u : State) (p : Nat) (l : Nat) (x : Beacon) (e : PathEnt), (s.power.off = false ∧ s.portOn p = true ∧
      p < 36 ∧ l < 9 ∧ s.vc3Held p < 32) ∧ u = (s.countIn p).minorCheck p x ∧ ((s.countIn p).portOn p = true) ∧
      ((s.countIn p).plan.mode p ≠ mdDISCOVER) ∧ (((s.countIn p).ringLine (rxRing p l)).isSome = true) ∧
      ((s.countIn p).plan.path true ((s.countIn p).plan.lanePath (rxRing p l)) = some e) ∧ x.path = e.id ∧
      x.serial = e.peerSerial ∧ x.port = e.peerPort ∧ x.lane = l ∧ x.major = u.get XRDS_B XRDS.PROTO_MAJOR)
    ∧ (∃ (s : State) (u : State) (p : Nat) (l : Nat) (x : Beacon) (e : PathEnt), (s.power.off = false ∧ s.portOn p = true ∧
      p < 36 ∧ l < 9 ∧ s.vc3Held p < 32) ∧ u = (s.countIn p).minorCheck p x ∧ ((s.countIn p).portOn p = true) ∧
      ((s.countIn p).plan.mode p ≠ mdDISCOVER) ∧ (((s.countIn p).ringLine (rxRing p l)).isSome = true) ∧
      ((s.countIn p).plan.path true ((s.countIn p).plan.lanePath (rxRing p l)) = some e) ∧ ¬ (x.path = e.id ∧
      x.serial = e.peerSerial ∧ x.port = e.peerPort ∧ x.lane = l) ∧
      x.major = (u.mismatchBeacon p l (9 * p + l) x).get XRDS_B XRDS.PROTO_MAJOR)
    ∧ (∃ (s : State) (p : Nat), s.power.off = false ∧ p < 36 ∧
      ((s.plan.paths.any fun e => e.inbound && decide (e.port = p) && !s.pathUp e) = true) ∧
      s.bit XRDS_B (maskF 0x90 p) = false)
    ∧ (∃ (s : State) (i : Nat), s.power.off = false ∧ i < 324 ∧ 1 ≤ s.get (idBase i) XRDS_ID.ID_PATH_STATE ∧
      s.get (idBase i) XRDS_ID.ID_PATH_STATE ≤ 4) :=
  ⟨⟨portS planN (laneL lnCHECKING 4), 0, 0, by decide +kernel⟩,
    ⟨{ portS planN [] with msg.offers := List.replicate 32 (.chain 0 0x20 0 []) }, 0, 8, by decide +kernel⟩,
    ⟨portS planN [], (portS planN []).countIn 0, 0, 8,
      { (default : Beacon) with path := 2, serial := 7, port := 0, lane := 8, major := 1 }, pIn false, by decide +kernel, rfl,
      by decide +kernel⟩,
    ⟨portS planN [], (portS planN []).countIn 0, 0, 7,
      { (default : Beacon) with path := 2, serial := 7, port := 0, lane := 8, major := 1 }, pIn false, by decide +kernel, rfl,
      by decide +kernel⟩,
    ⟨portS planN [], 0, by decide +kernel⟩,
    ⟨(rs ([(idBase 323, XRDS_ID.ID_PATH_STATE, 4)])), 323, by decide +kernel⟩⟩

theorem witness_PlanBankIsWrittenAndChecked :
    (∃ (s : State) (path : Nat), s.power.off = false ∧ s.hears path = true ∧ s.stageOwner path = true ∧ s.stageSt ≠ sgCHECKING ∧
      s.stageSt ≠ sgARMED)
    ∧ (∃ (s : State) (path : Nat), s.power.off = false ∧ s.hears path = true ∧ s.stageOwner path = false)
    ∧ (∃ (s : State) (path : Nat), s.power.off = false ∧ s.hears path = true)
    ∧ (∃ (s : State) (path : Nat), s.power.off = false ∧ s.hears path = true ∧
      s.pget path XRDS_B XRDS.ACTIVE_ADDR_OFFSET + 4 ≤ 131072)
    ∧ (∃ (s : State) (u : State) (path : Nat) (us : Nat), (s.power.off = false ∧ s.hears path = true ∧ s.stageSt = sgCHECKING) ∧
      u = s.put XRDS_B XRDS.CHK_TIME_US us ∧
      checkPlan u.stagedPlan u.xrds.stagedEnd (u.get XRDS_B XRDS.ACTIVE_EPOCH_VALUE) u.xrds.roles = none)
    ∧ (∃ (s : State) (u : State) (path : Nat) (us : Nat) (f : PlanFail), (s.power.off = false ∧ s.hears path = true ∧
      s.stageSt = sgCHECKING) ∧ u = s.put XRDS_B XRDS.CHK_TIME_US us ∧
      checkPlan u.stagedPlan u.xrds.stagedEnd (u.get XRDS_B XRDS.ACTIVE_EPOCH_VALUE) u.xrds.roles = some f ∧ f.code ≠ 13) :=
  ⟨⟨(rs ([(XRDS_B, XRDS.STAGE_STAT_STATE, sgWRITING), (XRDS_B, XRDS.STAGE_STAT_OWNER, 3)])), 3, by decide +kernel⟩,
    ⟨(rs ([(XRDS_B, XRDS.STAGE_STAT_STATE, sgWRITING), (XRDS_B, XRDS.STAGE_STAT_OWNER, 3)])), 4, by decide +kernel⟩,
    ⟨State.reset, 0, by decide +kernel⟩,
    ⟨State.reset, 0, by decide +kernel⟩,
    ⟨planS, (planS.put XRDS_B XRDS.CHK_TIME_US 5), 0, 5, by decide +kernel, rfl, plan_checks⟩,
    ⟨(rs ([(XRDS_B, XRDS.STAGE_STAT_STATE, sgCHECKING), (XRDS_B, XRDS.STAGE_STAT_OWNER, 3)])), ((rs ([(XRDS_B,
      XRDS.STAGE_STAT_STATE, sgCHECKING), (XRDS_B, XRDS.STAGE_STAT_OWNER, 3)])).put XRDS_B XRDS.CHK_TIME_US 5), 0, 5, ⟨1, 0, 0,
      0⟩, by decide +kernel, rfl, by decide +kernel⟩⟩

theorem witness_PlanCommandsObeyTheClaim :
    (∃ (s : State) (u : State) (path : Nat) (claim : Nat), (s.power.off = false ∧ s.hears path = true) ∧
      u = s.pput64 path XRDS_B XRDS.CMD_CLAIM_LO claim ∧ s.bit CLAIM_B CLAIM.STAT_LOST = false ∧
      u.pget64 path XRDS_B XRDS.CMD_CLAIM_LO = u.claim ∧ s.on XRDS_B = true)
    ∧ (∃ (s : State) (u : State) (path : Nat) (claim : Nat) (x : Instr × Nat), (s.power.off = false ∧ s.hears path = true) ∧
      u = s.pput64 path XRDS_B XRDS.CMD_CLAIM_LO claim ∧ u.pget64 path XRDS_B XRDS.CMD_CLAIM_LO < u.claim ∧
      x ∈ [(Instr.check path claim, 1), (.arm path claim, 2), (.clear path claim, 8), (.copyActive path claim, 16)])
    ∧ (∃ (s : State) (path : Nat), s.power.off = false ∧ s.hears path = true)
    ∧ (∃ (s : State) (path : Nat) (code : Nat), s.power.off = false ∧ s.hears path = true ∧ code ≠ 0)
    ∧ (∃ (s : State) (u : State) (path : Nat) (claim : Nat), (s.power.off = false ∧ s.hears path = true) ∧
      u = s.pput64 path CLAIM_B CLAIM.PRESENT_LO claim ∧ s.bit CLAIM_B CLAIM.STAT_LOST = false ∧
      u.claim < u.pget64 path CLAIM_B CLAIM.PRESENT_LO)
    ∧ (∃ (s : State) (u : State) (path : Nat) (claim : Nat), (s.power.off = false ∧ s.hears path = true) ∧
      u = s.pput64 path CLAIM_B CLAIM.PRESENT_LO claim ∧ s.bit CLAIM_B CLAIM.STAT_LOST = false ∧
      u.pget64 path CLAIM_B CLAIM.PRESENT_LO < u.claim) :=
  ⟨⟨(puts (State.reset.put64 CLAIM_B CLAIM.CURRENT_LO 9) [(XRDS_B, hCTRL_ENABLE, 1)]),
      ((puts (State.reset.put64 CLAIM_B CLAIM.CURRENT_LO 9) [(XRDS_B, hCTRL_ENABLE, 1)]).pput64 3 XRDS_B XRDS.CMD_CLAIM_LO 9), 3,
      9, by decide +kernel, rfl, by decide +kernel⟩,
    ⟨(State.reset.put64 CLAIM_B CLAIM.CURRENT_LO 9),
      ((State.reset.put64 CLAIM_B CLAIM.CURRENT_LO 9).pput64 3 XRDS_B XRDS.CMD_CLAIM_LO 8), 3, 8, (Instr.check 3 8, 1),
      by decide +kernel, rfl, by decide +kernel⟩,
    ⟨State.reset, 0, by decide +kernel⟩,
    ⟨State.reset, 0, 1, by decide +kernel⟩,
    ⟨(State.reset.put64 CLAIM_B CLAIM.CURRENT_LO 9),
      ((State.reset.put64 CLAIM_B CLAIM.CURRENT_LO 9).pput64 3 CLAIM_B CLAIM.PRESENT_LO 10), 3, 10, by decide +kernel, rfl,
      by decide +kernel⟩,
    ⟨(State.reset.put64 CLAIM_B CLAIM.CURRENT_LO 9),
      ((State.reset.put64 CLAIM_B CLAIM.CURRENT_LO 9).pput64 3 CLAIM_B CLAIM.PRESENT_LO 8), 3, 8, by decide +kernel, rfl,
      by decide +kernel⟩⟩

theorem witness_ArmedPlansRequireACheckedBank :
    (∃ (s : State), s.stageSt ≠ sgCHECKED)
    ∧ (∃ (s : State), s.stageSt = sgCHECKED ∧
      ((s.get64 XRDS_B XRDS.PLAN_T_LO + 2 ^ 64 - s.nowNs) % 2 ^ 64 < 5000000 ∨ 2 ^ 63 ≤ (s.get64 XRDS_B XRDS.PLAN_T_LO + 2 ^ 64 - s.nowNs) % 2 ^ 64))
    ∧ (∃ (s : State), s.stageSt = sgCHECKED ∧ 5000000 ≤ (s.get64 XRDS_B XRDS.PLAN_T_LO + 2 ^ 64 - s.nowNs) % 2 ^ 64 ∧
      ((s.get64 XRDS_B XRDS.PLAN_T_LO + 2 ^ 64 - s.nowNs) % 2 ^ 64 < 2 ^ 63)) :=
  ⟨⟨State.reset, by decide +kernel⟩,
    ⟨(rs ([(XRDS_B, XRDS.STAGE_STAT_STATE, sgCHECKED), (XRDS_B, XRDS.STAGE_STAT_OWNER, 3)])), by decide +kernel⟩,
    ⟨((rs ([(XRDS_B, XRDS.STAGE_STAT_STATE, sgCHECKED), (XRDS_B, XRDS.STAGE_STAT_OWNER,
      3)])).put64 XRDS_B XRDS.PLAN_T_LO 5000000), by decide +kernel⟩⟩

theorem witness_TheTimedSwitchRunsItsCourse :
    (∃ (s : State), s.power.off = false ∧ s.stageSt = sgARMED ∧ s.xrds.litArmed = false ∧
      s.reached ((s.armT + 2 ^ 64 - 200000) % 2 ^ 64) = true ∧
      { s with xrds.lit := s.litPorts, xrds.litArmed := true }.msgRuns = true)
    ∧ (∃ (s : State), s.power.off = false ∧ s.stageSt = sgARMED)
    ∧ (∃ (s : State), s.power.off = false ∧ s.xrds.litArmed = false ∧ s.reached ((s.swT + 500000) % 2 ^ 64) = true)
    ∧ (∃ (s : State), s.power.off = false ∧ s.xrds.toRelease = true ∧ s.reached ((s.swT + 900000) % 2 ^ 64) = true)
    ∧ (∃ (s : State), s.power.off = false ∧ s.xrds.toReport = true ∧ s.reached ((s.swT + 1200000) % 2 ^ 64) = true ∧ s.notUp = [])
    ∧ (∃ (s : State) (p : Nat) (t : Nat), s.power.off = false ∧ p < 36 ∧ t ≠ s.swT) :=
  ⟨⟨(puts (State.reset.put64 TRIGGERS_B (trigF TRIGGERS.TIME_LO 31) 200000) [(XRDS_B, XRDS.STAGE_STAT_STATE, sgARMED), (CLAIM_B,
      CLAIM.SW_STAT_STATE, 1), (MSG_B, hCTRL_ENABLE, 1), (MENG_B 0, hCTRL_ENABLE, 1), (SIZE_TABLE_B,
      SIZE_TABLE.DIE_SHAPE_PRESENT.at 0 4, 1)]), by decide +kernel⟩,
    ⟨(rs ([(XRDS_B, XRDS.STAGE_STAT_STATE, sgARMED), (XRDS_B, XRDS.STAGE_STAT_OWNER, 3)])), by decide +kernel⟩,
    ⟨{ (rs ([(CLAIM_B, CLAIM.SW_STAT_STATE, 3)])) with time.clock := 500000 * 2 ^ 32 }, by decide +kernel⟩,
    ⟨{ State.reset with xrds.toRelease := true, time.clock := 900000 * 2 ^ 32 }, by decide +kernel⟩,
    ⟨{ State.reset with xrds.toReport := true, time.clock := 1200000 * 2 ^ 32 }, by decide +kernel⟩,
    ⟨State.reset, 35, 5, by decide +kernel⟩⟩

theorem witness_SteeredLanesVisitTheirOutputs :
    (∃ (s : State) (p : Nat) (l : Nat), s.power.off = false ∧ s.portOn p = true ∧ l < 8 ∧ zget s.opt.tripped (9 * p + l) = 0 ∧
      s.plan.role (txRing p l) = 1 ∧ s.plan.mode p ≠ mdDISCOVER ∧ s.plan.steered (txRing p l) = true ∧ s.txSt p l = lnCHECKING ∧
      (∀ o < 3, s.outWaits (s.plan.steerPath (s.plan.laneSteer (txRing p l)) o) = false))
    ∧ (∃ (s : State) (p : Nat) (l : Nat) (o : Nat), s.power.off = false ∧ s.portOn p = true ∧ l < 8 ∧
      zget s.opt.tripped (9 * p + l) = 0 ∧ s.plan.role (txRing p l) = 1 ∧ s.plan.mode p ≠ mdDISCOVER ∧
      s.plan.steered (txRing p l) = true ∧ s.txSt p l = lnIN_SERVICE ∧
      (s.outWaits (s.plan.steerPath (s.plan.laneSteer (txRing p l)) (s.txOut p l)) = false ∨ s.plan.dwell (s.plan.laneSteer (txRing p l)) ≤ zget s.opt.visit (9 * p + l)) ∧
      s.nextOut p l = some o)
    ∧ (∃ (s : State) (p : Nat) (l : Nat), s.power.off = false ∧ s.portOn p = true ∧ l < 8 ∧ zget s.opt.tripped (9 * p + l) = 0 ∧
      s.plan.role (txRing p l) = 1 ∧ s.plan.mode p ≠ mdDISCOVER ∧ s.plan.steered (txRing p l) = true ∧
      s.txSt p l = lnIN_SERVICE ∧ s.outWaits (s.plan.steerPath (s.plan.laneSteer (txRing p l)) (s.txOut p l)) = false ∧
      s.nextOut p l = none)
    ∧ (∃ (s : State) (p : Nat) (l : Nat) (o : Nat) (u : State), (s.power.off = false ∧ l < 8 ∧ o < 3 ∧ s.portOn p = true ∧
      s.plan.role (txRing p l) = 1 ∧ s.plan.mode p ≠ mdDISCOVER ∧ s.plan.steered (txRing p l) = true ∧
      s.plan.steerPath (s.plan.laneSteer (txRing p l)) o ≠ 0xFFFF ∧ (s.txSt p l = lnIN_SERVICE ∨ s.txSt p l = lnCHECKING) ∧
      s.canLaunch (treePort p o) = true ∧ zget s.opt.tripped (9 * p + l) = 0) ∧
      u = (if s.txOut p l = o then s else (s.steerTo p l o).sendIdle p l 4) ∧ u.beaconDue p l o = true)
    ∧ (∃ (s : State) (p : Nat) (l : Nat) (o : Nat) (u : State), (s.power.off = false ∧ l < 8 ∧ o < 3 ∧ s.portOn p = true ∧
      s.plan.role (txRing p l) = 1 ∧ s.plan.mode p ≠ mdDISCOVER ∧ s.plan.steered (txRing p l) = true ∧
      s.plan.steerPath (s.plan.laneSteer (txRing p l)) o ≠ 0xFFFF ∧ (s.txSt p l = lnIN_SERVICE ∨ s.txSt p l = lnCHECKING) ∧
      s.canLaunch (treePort p o) = true ∧ zget s.opt.tripped (9 * p + l) = 0) ∧
      u = (if s.txOut p l = o then s else (s.steerTo p l o).sendIdle p l 4) ∧ u.beaconDue p l o = false)
    ∧ (∃ (s : State) (p : Nat) (l : Nat) (e : PathEnt), s.power.off = false ∧ p < 36 ∧ l < 9 ∧
      s.plan.path true (s.plan.lanePath (rxRing p l)) = some e ∧ e.burst = true ∧ e.port = p ∧
      (serving (s.rxSt p l) = true ∨ s.rxSt p l = lnCHECKING)) :=
  ⟨⟨portS (bank mdNORMAL 0 0 0) (laneL lnCHECKING 4), 0, 0, by decide +kernel⟩,
    ⟨{ portS (bank mdNORMAL 0 0 0) (laneL 4 4 ++ [(MSG_B, hCTRL_ENABLE, 1), (PORT_B 1, hCTRL_ENABLE, 1), (PORT_B 1, PORT.STAT_RX_LIGHT, 1), (PORT_B 0, laneF PORT.LCFG_TX_OUT 0, 0)]) with opt.visit := [(0, 1000)], msg.pairs := [(3, { (default : Pair) with credits := 1 })], msg.ops := [{ (default : MOp) with opened := true, frames := 1, dest.x := 1 }] },
      0, 0, 1, by decide +kernel⟩,
    ⟨portS (bank mdNORMAL 0 0 0) (laneL 4 4 ++ [(PORT_B 1, hCTRL_ENABLE, 1), (PORT_B 1, PORT.STAT_RX_LIGHT, 1)]), 0, 0,
      by decide +kernel⟩,
    ⟨portS (bank mdNORMAL 0 0 0) (laneL 4 4 ++ [(PORT_B 1, hCTRL_ENABLE, 1), (PORT_B 1, PORT.STAT_RX_LIGHT, 1)]), 0, 0, 1,
      (if (portS (bank mdNORMAL 0 0 0) (laneL 4 4 ++ [(PORT_B 1, hCTRL_ENABLE, 1), (PORT_B 1, PORT.STAT_RX_LIGHT,
      1)])).txOut 0 0 = 1 then portS (bank mdNORMAL 0 0 0) (laneL 4 4 ++ [(PORT_B 1, hCTRL_ENABLE, 1), (PORT_B 1,
      PORT.STAT_RX_LIGHT, 1)]) else ((portS (bank mdNORMAL 0 0 0) (laneL 4 4 ++ [(PORT_B 1, hCTRL_ENABLE, 1), (PORT_B 1,
      PORT.STAT_RX_LIGHT, 1)])).steerTo 0 0 1).sendIdle 0 0 4), by decide +kernel, rfl, by decide +kernel⟩,
    ⟨{ portS (bank mdNORMAL 0 0 0) (laneL 4 4 ++ [(PORT_B 1, hCTRL_ENABLE, 1), (PORT_B 1, PORT.STAT_RX_LIGHT, 1)]) with opt.beaconAt := [(outKey 0 0 1, some 0)] },
      0, 0, 1,
      (if ({ portS (bank mdNORMAL 0 0 0) (laneL 4 4 ++ [(PORT_B 1, hCTRL_ENABLE, 1), (PORT_B 1, PORT.STAT_RX_LIGHT, 1)]) with opt.beaconAt := [(outKey 0 0 1, some 0)] }).txOut 0 0 = 1 then { portS (bank mdNORMAL 0 0 0) (laneL 4 4 ++ [(PORT_B 1, hCTRL_ENABLE, 1), (PORT_B 1, PORT.STAT_RX_LIGHT, 1)]) with opt.beaconAt := [(outKey 0 0 1, some 0)] } else (({ portS (bank mdNORMAL 0 0 0) (laneL 4 4 ++ [(PORT_B 1, hCTRL_ENABLE, 1), (PORT_B 1, PORT.STAT_RX_LIGHT, 1)]) with opt.beaconAt := [(outKey 0 0 1, some 0)] }).steerTo 0 0 1).sendIdle 0 0 4),
      by decide +kernel, rfl, by decide +kernel⟩,
    ⟨portS (bank mdNORMAL 0 0xFF 1) (laneL 4 4), 0, 0, pIn true, by decide +kernel⟩⟩

theorem witness_LoopSlotsRunFramesAndTimers :
    (∃ (s : State) (i : Nat), s.power.off = false ∧ i < 2048 ∧ s.frameReady i = true ∧
      (s.dTrig i = false ∨ (s.slot i).due = true))
    ∧ (∃ (s : State) (i : Nat) (u : State) (v : State), (s.power.off = false ∧ i < 2048 ∧ s.frameReady i = true) ∧
      u = ((s.frameLoad i).modSlot i fun x => { x with misses := min 65535 (x.misses + 1), mPrev := none, missRun := x.missRun + 1, due := false }) ∧
      v = (((if isLinePower i then u.modSlot (lineKey i (zget u.mill.turn i)) fun x => { x with mPrev := none } else u).slotFlag i fgDEADLINE_MISS).inc MILLRACE_B MILLRACE.DEADLINE_MISS_COUNT).raise MILLRACE_B 1 ∧
      ((v.slot i).missRun < 64))
    ∧ (∃ (s : State) (i : Nat) (u : State) (v : State), (s.power.off = false ∧ i < 2048 ∧ s.frameReady i = true) ∧
      u = ((s.frameLoad i).modSlot i fun x => { x with misses := min 65535 (x.misses + 1), mPrev := none, missRun := x.missRun + 1, due := false }) ∧
      v = (((if isLinePower i then u.modSlot (lineKey i (zget u.mill.turn i)) fun x => { x with mPrev := none } else u).slotFlag i fgDEADLINE_MISS).inc MILLRACE_B MILLRACE.DEADLINE_MISS_COUNT).raise MILLRACE_B 1 ∧
      64 ≤ (v.slot i).missRun ∧ isLinePower i = false)
    ∧ (∃ (s : State) (i : Nat) (u : State) (v : State), (s.power.off = false ∧ i < 2048 ∧ s.frameReady i = true) ∧
      u = ((s.frameLoad i).modSlot i fun x => { x with misses := min 65535 (x.misses + 1), mPrev := none, missRun := x.missRun + 1, due := false }) ∧
      v = (((if isLinePower i then u.modSlot (lineKey i (zget u.mill.turn i)) fun x => { x with mPrev := none } else u).slotFlag i fgDEADLINE_MISS).inc MILLRACE_B MILLRACE.DEADLINE_MISS_COUNT).raise MILLRACE_B 1 ∧
      64 ≤ (v.slot i).missRun ∧ isLinePower i = true)
    ∧ (∃ (s : State) (i : Nat), s.power.off = false ∧ i < 648 ∧ ((s.slot i).st = slSETTLE) ∧ s.slotRuns i = true ∧
      s.combGood (portEngine (ringPort i)) = true)
    ∧ (∃ (s : State) (i : Nat), s.power.off = false ∧ i < 648 ∧ ((s.slot i).st = slACQUIRE) ∧ s.slotRuns i = true)
    ∧ (∃ (s : State) (i : Nat), s.power.off = false ∧ 648 ≤ i ∧ i < 1620 ∧ ((s.slot i).st = slACQUIRE) ∧ s.slotRuns i = true)
    ∧ (∃ (s : State) (i : Nat), s.power.off = false ∧ 1620 ≤ i ∧ i < 2048 ∧ isLinePower i = false ∧ ((s.slot i).st = slACQUIRE) ∧
      s.slotRuns i = true)
    ∧ (∃ (s : State) (i : Nat), s.power.off = false ∧ i < 2048 ∧ isLinePower i = true ∧ s.slotRuns i = true ∧
      ((s.linesOf i fun x => decide (x.st = slACQUIRE)) ≠ []))
    ∧ (∃ (s : State) (i : Nat), s.power.off = false ∧ isLinePower i = false ∧ ((s.slot i).st = slFROZEN ∨ (s.slot i).st = slHELD))
    ∧ (∃ (s : State) (i : Nat), s.power.off = false ∧ isLinePower i = true)
    ∧ (∃ (s : State) (i : Nat), s.power.off = false ∧ i < 648 ∧ ((s.slot i).st = slACQUIRE ∨ (s.slot i).st = slLOCKED))
    ∧ (∃ (s : State) (i : Nat) (u : State), (s.power.off = false ∧ i < 1628) ∧
      u = ((s.slotFlag i fgHW).slotIdle i).modSlot i (fun x => { x with dead := true }) ∧ slotKind i = .ring)
    ∧ (∃ (s : State) (i : Nat) (u : State), (s.power.off = false ∧ i < 1628) ∧
      u = ((s.slotFlag i fgHW).slotIdle i).modSlot i (fun x => { x with dead := true }) ∧ slotKind i = .mzi)
    ∧ (∃ (s : State) (i : Nat) (u : State), (s.power.off = false ∧ i < 1628) ∧
      u = ((s.slotFlag i fgHW).slotIdle i).modSlot i (fun x => { x with dead := true }) ∧ slotKind i ≠ .ring ∧
      slotKind i ≠ .mzi) :=
  ⟨
      ⟨{ portS planN ([(MILLRACE_B, hCTRL_ENABLE, 1), (DESC_B + 64 * 2047, ⟨0, 0, 0⟩, 1)] ++ []) with mill.slots := [(2047, { (default : Slot) with st := slLOCKED })] },
      2047, by decide +kernel⟩,
    ⟨{ portS planN ([(MILLRACE_B, hCTRL_ENABLE, 1), (DESC_B + 64 * 2047, ⟨0, 0, 0⟩, 1)] ++ []) with mill.slots := [(2047, { (default : Slot) with st := slLOCKED })] },
      2047,
      ((({ portS planN ([(MILLRACE_B, hCTRL_ENABLE, 1), (DESC_B + 64 * 2047, ⟨0, 0, 0⟩, 1)] ++ []) with mill.slots := [(2047, { (default : Slot) with st := slLOCKED })] }).frameLoad 2047).modSlot 2047 fun x => { x with misses := min 65535 (x.misses + 1), mPrev := none, missRun := x.missRun + 1, due := false }),
      ((((if isLinePower 2047 then ((({ portS planN ([(MILLRACE_B, hCTRL_ENABLE, 1), (DESC_B + 64 * 2047, ⟨0, 0, 0⟩, 1)] ++ []) with mill.slots := [(2047, { (default : Slot) with st := slLOCKED })] }).frameLoad 2047).modSlot 2047 fun x => { x with misses := min 65535 (x.misses + 1), mPrev := none, missRun := x.missRun + 1, due := false }).modSlot (lineKey 2047 (zget ((({ portS planN ([(MILLRACE_B, hCTRL_ENABLE, 1), (DESC_B + 64 * 2047, ⟨0, 0, 0⟩, 1)] ++ []) with mill.slots := [(2047, { (default : Slot) with st := slLOCKED })] }).frameLoad 2047).modSlot 2047 fun x => { x with misses := min 65535 (x.misses + 1), mPrev := none, missRun := x.missRun + 1, due := false }).mill.turn 2047)) fun x => { x with mPrev := none } else ((({ portS planN ([(MILLRACE_B, hCTRL_ENABLE, 1), (DESC_B + 64 * 2047, ⟨0, 0, 0⟩, 1)] ++ []) with mill.slots := [(2047, { (default : Slot) with st := slLOCKED })] }).frameLoad 2047).modSlot 2047 fun x => { x with misses := min 65535 (x.misses + 1), mPrev := none, missRun := x.missRun + 1, due := false })).slotFlag 2047 fgDEADLINE_MISS).inc MILLRACE_B MILLRACE.DEADLINE_MISS_COUNT).raise MILLRACE_B 1),
      by decide +kernel, rfl, rfl, by decide +kernel⟩,
    ⟨{ portS planN ([(MILLRACE_B, hCTRL_ENABLE, 1), (DESC_B + 64 * 2047, ⟨0, 0, 0⟩, 1)] ++ []) with mill.slots := [(2047, { (default : Slot) with st := slLOCKED, missRun := 63 })] },
      2047,
      ((({ portS planN ([(MILLRACE_B, hCTRL_ENABLE, 1), (DESC_B + 64 * 2047, ⟨0, 0, 0⟩, 1)] ++ []) with mill.slots := [(2047, { (default : Slot) with st := slLOCKED, missRun := 63 })] }).frameLoad 2047).modSlot 2047 fun x => { x with misses := min 65535 (x.misses + 1), mPrev := none, missRun := x.missRun + 1, due := false }),
      ((((if isLinePower 2047 then ((({ portS planN ([(MILLRACE_B, hCTRL_ENABLE, 1), (DESC_B + 64 * 2047, ⟨0, 0, 0⟩, 1)] ++ []) with mill.slots := [(2047, { (default : Slot) with st := slLOCKED, missRun := 63 })] }).frameLoad 2047).modSlot 2047 fun x => { x with misses := min 65535 (x.misses + 1), mPrev := none, missRun := x.missRun + 1, due := false }).modSlot (lineKey 2047 (zget ((({ portS planN ([(MILLRACE_B, hCTRL_ENABLE, 1), (DESC_B + 64 * 2047, ⟨0, 0, 0⟩, 1)] ++ []) with mill.slots := [(2047, { (default : Slot) with st := slLOCKED, missRun := 63 })] }).frameLoad 2047).modSlot 2047 fun x => { x with misses := min 65535 (x.misses + 1), mPrev := none, missRun := x.missRun + 1, due := false }).mill.turn 2047)) fun x => { x with mPrev := none } else ((({ portS planN ([(MILLRACE_B, hCTRL_ENABLE, 1), (DESC_B + 64 * 2047, ⟨0, 0, 0⟩, 1)] ++ []) with mill.slots := [(2047, { (default : Slot) with st := slLOCKED, missRun := 63 })] }).frameLoad 2047).modSlot 2047 fun x => { x with misses := min 65535 (x.misses + 1), mPrev := none, missRun := x.missRun + 1, due := false })).slotFlag 2047 fgDEADLINE_MISS).inc MILLRACE_B MILLRACE.DEADLINE_MISS_COUNT).raise MILLRACE_B 1),
      by decide +kernel, rfl, rfl, by decide +kernel⟩,
    ⟨{ portS planN ([(MILLRACE_B, hCTRL_ENABLE, 1), (DESC_B + 64 * 1622, ⟨0, 0, 0⟩, 1)] ++ []) with mill.slots := [(1622, { (default : Slot) with st := slLOCKED, missRun := 63 })] },
      1622,
      ((({ portS planN ([(MILLRACE_B, hCTRL_ENABLE, 1), (DESC_B + 64 * 1622, ⟨0, 0, 0⟩, 1)] ++ []) with mill.slots := [(1622, { (default : Slot) with st := slLOCKED, missRun := 63 })] }).frameLoad 1622).modSlot 1622 fun x => { x with misses := min 65535 (x.misses + 1), mPrev := none, missRun := x.missRun + 1, due := false }),
      ((((if isLinePower 1622 then ((({ portS planN ([(MILLRACE_B, hCTRL_ENABLE, 1), (DESC_B + 64 * 1622, ⟨0, 0, 0⟩, 1)] ++ []) with mill.slots := [(1622, { (default : Slot) with st := slLOCKED, missRun := 63 })] }).frameLoad 1622).modSlot 1622 fun x => { x with misses := min 65535 (x.misses + 1), mPrev := none, missRun := x.missRun + 1, due := false }).modSlot (lineKey 1622 (zget ((({ portS planN ([(MILLRACE_B, hCTRL_ENABLE, 1), (DESC_B + 64 * 1622, ⟨0, 0, 0⟩, 1)] ++ []) with mill.slots := [(1622, { (default : Slot) with st := slLOCKED, missRun := 63 })] }).frameLoad 1622).modSlot 1622 fun x => { x with misses := min 65535 (x.misses + 1), mPrev := none, missRun := x.missRun + 1, due := false }).mill.turn 1622)) fun x => { x with mPrev := none } else ((({ portS planN ([(MILLRACE_B, hCTRL_ENABLE, 1), (DESC_B + 64 * 1622, ⟨0, 0, 0⟩, 1)] ++ []) with mill.slots := [(1622, { (default : Slot) with st := slLOCKED, missRun := 63 })] }).frameLoad 1622).modSlot 1622 fun x => { x with misses := min 65535 (x.misses + 1), mPrev := none, missRun := x.missRun + 1, due := false })).slotFlag 1622 fgDEADLINE_MISS).inc MILLRACE_B MILLRACE.DEADLINE_MISS_COUNT).raise MILLRACE_B 1),
      by decide +kernel, rfl, rfl, by decide +kernel⟩,
    ⟨{ portS planN ([(MILLRACE_B, hCTRL_ENABLE, 1), (DESC_B + 64 * 0, ⟨0, 0, 0⟩, 1)] ++ []) with mill.slots := [(0, { (default : Slot) with st := slSETTLE })] },
      0, by decide +kernel⟩,
    ⟨{ portS planN ([(MILLRACE_B, hCTRL_ENABLE, 1), (DESC_B + 64 * 332, ⟨0, 0, 0⟩, 1)] ++ []) with mill.slots := [(332, { (default : Slot) with st := slACQUIRE })] },
      332, by decide +kernel⟩,
    ⟨{ portS planN ([(MILLRACE_B, hCTRL_ENABLE, 1), (DESC_B + 64 * 648, ⟨0, 0, 0⟩, 1)] ++ []) with mill.slots := [(648, { (default : Slot) with st := slACQUIRE })] },
      648, by decide +kernel⟩,
    ⟨{ portS planN ([(MILLRACE_B, hCTRL_ENABLE, 1), (DESC_B + 64 * 2047, ⟨0, 0, 0⟩, 1)] ++ []) with mill.slots := [(2047, { (default : Slot) with st := slACQUIRE })] },
      2047, by decide +kernel⟩,
    ⟨{ portS planN [(MILLRACE_B, hCTRL_ENABLE, 1), (DESC_B + 64 * 1622, ⟨0, 0, 0⟩, 1)] with mill.slots := [(1622, { (default : Slot) with st := slLOCKED }), (lineKey 1622 3, { (default : Slot) with st := slACQUIRE })] },
      1622, by decide +kernel⟩,
    ⟨{ State.reset with mill.slots := [(1619, { (default : Slot) with st := slHELD })] }, 1619, by decide +kernel⟩,
    ⟨{ portS planN [(MILLRACE_B, hCTRL_ENABLE, 1), (DESC_B + 64 * 1622, ⟨0, 0, 0⟩, 1)] with mill.slots := [(1622, { (default : Slot) with st := slLOCKED }), (lineKey 1622 3, { (default : Slot) with st := slFROZEN })] },
      1622, by decide +kernel⟩,
    ⟨{ State.reset with mill.slots := [(647, { (default : Slot) with st := slLOCKED })] }, 647, by decide +kernel⟩,
    ⟨State.reset, 647, (((State.reset.slotFlag 647 fgHW).slotIdle 647).modSlot 647 (fun x => { x with dead := true })),
      by decide +kernel, rfl, by decide +kernel⟩,
    ⟨State.reset, 1619, (((State.reset.slotFlag 1619 fgHW).slotIdle 1619).modSlot 1619 (fun x => { x with dead := true })),
      by decide +kernel, rfl, by decide +kernel⟩,
    ⟨State.reset, 1627, (((State.reset.slotFlag 1627 fgHW).slotIdle 1627).modSlot 1627 (fun x => { x with dead := true })),
      by decide +kernel, rfl, by decide +kernel⟩⟩

theorem witness_DescriptorWritesKeepTheirRanges :
    (∃ (s₀ : State) (s : State) (path : Nat) (o : Nat) (v : Word) (w : Word), (s₀.power.off = false ∧ s₀.hears path = true ∧
      o < 2048 * 64) ∧ o % 4 = 0 ∧ s = s₀.descUse o ∧ w = v &&& BitVec.ofNat 32 (descMask (o % 64)) ∧ s.dRun (o / 64) = true ∧
      ¬ (o % 64 = 0 ∧ w.getLsbD 0 = false) ∧
      s.rd (DESC_B + o) &&& BitVec.ofNat 32 (busyMask (o % 64)) ≠ w &&& BitVec.ofNat 32 (busyMask (o % 64)))
    ∧ (∃ (s₀ : State) (s : State) (path : Nat) (o : Nat) (v : Word) (w : Word), (s₀.power.off = false ∧ s₀.hears path = true ∧
      o < 2048 * 64) ∧ o % 4 = 0 ∧ s = s₀.descUse o ∧ w = v &&& BitVec.ofNat 32 (descMask (o % 64)) ∧
      (s.dRun (o / 64) = false ∨ (o % 64 = 0 ∧
      w.getLsbD 0 = false) ∨ s.rd (DESC_B + o) &&& BitVec.ofNat 32 (busyMask (o % 64)) = w &&& BitVec.ofNat 32 (busyMask (o % 64))) ∧
      descRange (o / 64) (o % 64) w.toNat = true)
    ∧ (∃ (s₀ : State) (s : State) (path : Nat) (o : Nat) (v : Word) (w : Word), (s₀.power.off = false ∧ s₀.hears path = true ∧
      o < 2048 * 64) ∧ o % 4 = 0 ∧ s = s₀.descUse o ∧ w = v &&& BitVec.ofNat 32 (descMask (o % 64)) ∧
      (s.dRun (o / 64) = false ∨ (o % 64 = 0 ∧
      w.getLsbD 0 = false) ∨ s.rd (DESC_B + o) &&& BitVec.ofNat 32 (busyMask (o % 64)) = w &&& BitVec.ofNat 32 (busyMask (o % 64))) ∧
      descRange (o / 64) (o % 64) w.toNat = false ∧ 4 ≤ o % 64)
    ∧ (∃ (s₀ : State) (s : State) (path : Nat) (o : Nat) (v : Word) (w : Word), (s₀.power.off = false ∧ s₀.hears path = true ∧
      o < 2048 * 64) ∧ o % 4 = 0 ∧ s = s₀.descUse o ∧ w = v &&& BitVec.ofNat 32 (descMask (o % 64)) ∧
      (s.dRun (o / 64) = false ∨ (o % 64 = 0 ∧
      w.getLsbD 0 = false) ∨ s.rd (DESC_B + o) &&& BitVec.ofNat 32 (busyMask (o % 64)) = w &&& BitVec.ofNat 32 (busyMask (o % 64))) ∧
      descRange (o / 64) (o % 64) w.toNat = false ∧ o % 64 = 0) :=
  ⟨⟨rs [(DESC_B + 64 * 2047, ⟨0, 0, 0⟩, 1)], ((rs [(DESC_B + 64 * 2047, ⟨0, 0, 0⟩, 1)]).descUse (64 * 2047 + 4)), 0,
      (64 * 2047 + 4), 1#32, 1#32, by decide +kernel, rfl, by decide +kernel⟩,
    ⟨State.reset, ((State.reset).descUse (64 * 2047)), 0, (64 * 2047), 0x700#32, 0x700#32, by decide +kernel, rfl,
      by decide +kernel⟩,
    ⟨State.reset, ((State.reset).descUse (64 * 2047 + 60)), 0, (64 * 2047 + 60), 5#32, 5#32, by decide +kernel, rfl,
      by decide +kernel⟩,
    ⟨State.reset, ((State.reset).descUse (64 * 2047)), 0, (64 * 2047), 0#32, 0#32, by decide +kernel, rfl, by decide +kernel⟩⟩

theorem witness_TelemetryTracesAndTheLogAct :
    (∃ (s : State) (path : Nat), s.power.off = false ∧ s.hears path = true)
    ∧ (∃ (s : State) (path : Nat) (x : Nat × Nat) (q : List (Nat × Nat)), s.power.off = false ∧ s.hears path = true ∧
      s.mill.flagQ = x :: q)
    ∧ (∃ (s : State) (path : Nat), s.power.off = false ∧ s.hears path = true ∧ s.log.prog ≠ 0)
    ∧ (∃ (s : State) (path : Nat) (seq : Nat), s.power.off = false ∧ s.hears path = true ∧ seq < 2 ^ 64)
    ∧ (∃ (s : State) (path : Nat), s.power.off = false ∧ s.hears path = true)
    ∧ (∃ (s : State) (path : Nat) (v : Word), s.power.off = false ∧ s.hears path = true ∧ v.toNat % 2 ^ 16 = 0x434C ∧
      s.log.fifo.length < 64 ∧ s.log.dead = false)
    ∧ (∃ (s : State) (path : Nat) (v : Word), s.power.off = false ∧ s.hears path = true ∧ v.toNat % 2 ^ 16 ≠ 0x434C)
    ∧ (∃ (s : State) (path : Nat) (v : Word), s.power.off = false ∧ s.hears path = true ∧ 0xF000 ≤ v.toNat % 2 ^ 16)
    ∧ (∃ (s : State) (path : Nat) (v : Word), s.power.off = false ∧ s.hears path = true ∧ v.toNat % 2 ^ 16 < 0xF000)
    ∧ (∃ (s : State) (path : Nat) (pg : Nat) (v : Word), s.power.off = false ∧ s.hears path = true ∧
      s.pageOf (v.toNat / 2 ^ 16) (v.toNat % 2 ^ 16) = some pg) :=
  ⟨⟨State.reset, 0, by decide +kernel⟩,
    ⟨{ State.reset with mill.flagQ := [(3, 1)] }, 0, (3, 1), [], by decide +kernel⟩,
    ⟨{ State.reset with log.prog := 1 }, 0, by decide +kernel⟩,
    ⟨State.reset, 0, 2 ^ 64 - 1, by decide +kernel⟩,
    ⟨State.reset, 0, by decide +kernel⟩,
    ⟨State.reset, 0, 0x434C#32, by decide +kernel⟩,
    ⟨State.reset, 0, 0#32, by decide +kernel⟩,
    ⟨State.reset, 0, 0xF000#32, by decide +kernel⟩,
    ⟨State.reset, 0, 0xEFFF#32, by decide +kernel⟩,
    ⟨State.reset, 0, 0x11, 0x110000#32, by decide +kernel⟩⟩

theorem witness_HostWindowAccessesObeyOwnership :
    (∃ (s : State) (path : Nat), s.power.off = false ∧ s.hears path = true ∧ s.get POWER_B POWER.STATE_STATE < 2)
    ∧ (∃ (s : State) (path : Nat), s.power.off = false ∧ s.hears path = true ∧ s.host.d3 = false)
    ∧ (∃ (s : State) (path : Nat) (o : Nat) (bytes : List Nat), s.power.off = false ∧ s.hears path = true ∧ s.host.d3 = false ∧
      (∀ e ∈ bar2Bytes o bytes, (s.bar2At e.1).1 ≠ 2))
    ∧ (∃ (s : State) (path : Nat), s.power.off = false ∧ s.hears path = true ∧ s.host.d3 = true)
    ∧ (∃ (s : State) (path : Nat), s.power.off = false ∧ s.hears path = true ∧ s.host.d3 = false)
    ∧ (∃ (s : State) (path : Nat) (o : Nat) (n : Nat), s.power.off = false ∧ s.hears path = true ∧ s.host.d3 = false ∧ (∀ i < n,
      (s.bar2At ((o + i) % 2 ^ 30)).1 ≠ 2) ∧ (∀ x ∈ s.msg.offers, x.host = false))
    ∧ (∃ (s : State) (path : Nat) (k : Nat) (lo : Nat) (hi : Nat), (s.power.off = false ∧ s.hears path = true ∧ k < 16) ∧
      (∀ j < 1024, s.owned (1024 * k + j) = false) ∧ (lo % 2 = 0 ∨ s.presentRange (segAddr lo hi) (2 ^ 26) = true))
    ∧ (∃ (s : State) (path : Nat) (k : Nat), s.power.off = false ∧ s.hears path = true ∧ k < 16 ∧ (∃ j < 1024,
      s.owned (1024 * k + j) = true))
    ∧ (∃ (s : State) (path : Nat) (k : Nat) (lo : Nat) (hi : Nat), (s.power.off = false ∧ s.hears path = true ∧ k < 16) ∧
      (∀ j < 1024, s.owned (1024 * k + j) = false) ∧ lo % 2 = 1 ∧ s.presentRange (segAddr lo hi) (2 ^ 26) = false)
    ∧ (∃ (s : State) (path : Nat), s.power.off = false ∧ s.hears path = true ∧ s.host.d3 = false ∧ (∃ x ∈ s.msg.offers,
      x.host = true))
    ∧ (∃ (s : State) (path : Nat) (v : Word), s.power.off = false ∧ s.hears path = true ∧ (path ≠ 0 ∨ ∀ x ∈ s.msg.offers,
      x.host = false) ∧ fget v HOSTWIN.HANDOFF_SLOT + fget v HOSTWIN.HANDOFF_COUNT ≤ 16383 ∧
      (∀ j ≤ fget v HOSTWIN.HANDOFF_COUNT,
      s.owned (fget v HOSTWIN.HANDOFF_SLOT + j) = decide (fget v HOSTWIN.HANDOFF_FROM = 1)))
    ∧ (∃ (s : State) (path : Nat) (i : Nat) (v : Word), s.power.off = false ∧ s.hears path = true ∧
      (path ≠ 0 ∨ ∀ x ∈ s.msg.offers, x.host = false) ∧ fget v HOSTWIN.HANDOFF_SLOT + fget v HOSTWIN.HANDOFF_COUNT ≤ 16383 ∧
      i ≤ fget v HOSTWIN.HANDOFF_COUNT ∧ (∀ j < i,
      s.owned (fget v HOSTWIN.HANDOFF_SLOT + j) = decide (fget v HOSTWIN.HANDOFF_FROM = 1)) ∧
      s.owned (fget v HOSTWIN.HANDOFF_SLOT + i) ≠ decide (fget v HOSTWIN.HANDOFF_FROM = 1))
    ∧ (∃ (s : State) (path : Nat) (v : Word), s.power.off = false ∧ s.hears path = true ∧ (path ≠ 0 ∨ ∀ x ∈ s.msg.offers,
      x.host = false) ∧ 16383 < fget v HOSTWIN.HANDOFF_SLOT + fget v HOSTWIN.HANDOFF_COUNT) :=
  ⟨⟨State.reset, 0, by decide +kernel⟩,
    ⟨State.reset, 0, by decide +kernel⟩,
    ⟨State.reset, 0, 0, [1], by decide +kernel⟩,
    ⟨{ State.reset with host.d3 := true }, 1, by decide +kernel⟩,
    ⟨State.reset, 0, by decide +kernel⟩,
    ⟨State.reset, 0, 0, 4, by decide +kernel⟩,
    ⟨State.reset, 0, 15, 0, 0, by decide +kernel, unowned (by decide +kernel), by decide +kernel⟩,
    ⟨(rs ([(HOSTWIN_B, ownF (1024 * 15 + 1023), 1)])), 0, 15, by decide +kernel⟩,
    ⟨State.reset, 0, 15, 1, 0, by decide +kernel, unowned (by decide +kernel), by decide +kernel⟩,
    ⟨{ State.reset with msg.offers := [.hostWrite []] }, 0, by decide +kernel⟩,
    ⟨State.reset, 1, 0#32, by decide +kernel⟩,
    ⟨(rs ([(HOSTWIN_B, ownF 1, 1)])), 1, 1, 0x4000#32, by decide +kernel⟩,
    ⟨State.reset, 1, 0x7FFF#32, by decide +kernel⟩⟩

theorem witness_HostFunctionEventsAct :
    (∃ (s : State) (path : Nat) (f : Nat) (c : Nat) (l : List (Nat × Nat)), s.power.off = false ∧ s.hears path = true ∧
      s.host.notify = (f, c) :: l)
    ∧ (∃ (s : State) (path : Nat), s.power.off = false ∧ s.hears path = true ∧ s.bit HOSTWIN_B HOSTWIN.MBOX_STAT_BUSY = false)
    ∧ (∃ (s : State) (path : Nat), s.power.off = false ∧ s.hears path = true ∧ s.bit HOSTWIN_B HOSTWIN.MBOX_STAT_BUSY = true)
    ∧ (∃ (s : State) (path : Nat), s.power.off = false ∧ s.hears path = true ∧ s.bit HOSTWIN_B HOSTWIN.MBOX_STAT_BUSY = true ∧
      s.mgmtWaits = false)
    ∧ (∃ (s : State) (path : Nat) (v : Nat), s.power.off = false ∧ s.hears path = true ∧ s.host.d3 = false ∧ v < 64)
    ∧ (∃ (s : State) (path : Nat) (v : Nat), s.power.off = false ∧ s.hears path = true ∧ s.host.d3 = false ∧ v < 4096)
    ∧ (∃ (s : State) (path : Nat) (a : Nat) (n : Nat) (k : Nat) (w : Word) (x : Instr), s.power.off = false ∧
      s.hears path = true ∧ s.host.d3 = true ∧ x ∈ [Instr.bar0AccessSize 0 a n k, .accessUnmapped 0 a k, .registerWrite 0 a w,
      .pairLowRead 0 a, .pairLowWrite 0 a w, .pairHighWrite 0 a w, .enableWrite 0 a k, .quiesceReq 0 a k, .blockResetReq 0 a,
      .auditStatRead 0 a, .timeNowRead 0, .calFull 0, .segBaseWrite 0 a n k, .handoff 0 w, .mboxGo 0, .complete 0 a n,
      .load 0 a, .start 0 a, .stop 0 a, .unload 0 a, .descWrite 0 a w, .cursorWrite 0 a, .windowAdvance 0, .logClear 0 w,
      .postCode 0 w, .traceSnapshot 0 w, .combArm 0 a, .stageDataWrite 0 w, .activeDataRead 0, .check 0 a, .arm 0 a,
      .cancel 0 a, .clear 0 a, .copyActive 0 a, .present 0 a, .resume 0 a, .resetCtrlModule 0 a, .resetCtrlReeve 0 a,
      .lcWrite 0 a k, .triggerCtrlWrite 0 a w, .download 0 a, .verify 0 a, .activate 0 a, .confirm 0 a, .abort 0 a,
      .stageWrite 0 a k, .msixUnmask a, .claim 4])
    ∧ (∃ (s : State) (path : Nat), s.power.off = false ∧ s.hears path = true)
    ∧ (∃ (s : State) (path : Nat) (rate : Nat), s.power.off = false ∧ s.hears path = true ∧ s.pinLevel 148 = false ∧ 0 < rate)
    ∧ (∃ (s : State) (path : Nat) (rate : Nat) (width : Nat), s.power.off = false ∧ s.hears path = true ∧
      s.get HOSTWIN_B HOSTWIN.LINK_RATE = 0 ∧ 0 < rate ∧ rate < 8 ∧ width < 32 ∧ s.pinLevel 148 = true)
    ∧ (∃ (s : State) (path : Nat) (rate : Nat) (width : Nat), s.power.off = false ∧ s.hears path = true ∧
      s.get HOSTWIN_B HOSTWIN.LINK_RATE ≠ 0 ∧ 0 < rate ∧ s.pinLevel 148 = true ∧ (rate % 8,
      width % 32) ≠ (s.get HOSTWIN_B HOSTWIN.LINK_RATE, s.get HOSTWIN_B HOSTWIN.LINK_WIDTH))
    ∧ (∃ (s : State) (path : Nat), s.power.off = false ∧ s.hears path = true ∧ s.on MILLRACE_B = true) :=
  ⟨⟨{ State.reset with host.notify := [(3, 1)] }, 0, 3, 1, [], by decide +kernel⟩,
    ⟨State.reset, 0, by decide +kernel⟩,
    ⟨(rs ([(HOSTWIN_B, HOSTWIN.MBOX_STAT_BUSY, 1)])), 0, by decide +kernel⟩,
    ⟨(rs ([(HOSTWIN_B, HOSTWIN.MBOX_STAT_BUSY, 1)])), 0, by decide +kernel⟩,
    ⟨State.reset, 0, 63, by decide +kernel⟩,
    ⟨State.reset, 0, 4095, by decide +kernel⟩,
    ⟨{ State.reset with host.d3 := true }, 1, 0, 4, 0, 0#32, Instr.timeNowRead 0, by decide +kernel⟩,
    ⟨State.reset, 0, by decide +kernel⟩,
    ⟨{ State.reset with host.pins := zset State.reset.host.pins 148 true }, 0, 6, by decide +kernel⟩,
    ⟨State.reset, 0, 6, 16, by decide +kernel⟩,
    ⟨(rs ([(HOSTWIN_B, HOSTWIN.LINK_RATE, 6), (HOSTWIN_B, HOSTWIN.LINK_WIDTH, 16)])), 0, 5, 16, by decide +kernel⟩,
    ⟨(rs ([(MILLRACE_B, hCTRL_ENABLE, 1)])), 0, by decide +kernel⟩⟩

theorem witness_ManagementRequestsAreServedOrHeld :
    (∃ (s : State) (u : State) (n : Nat) (who : Nat) (seq : Nat) (a : Nat) (count : Nat) (o : Nat) (vs : List Nat) (bytes : List Nat) (x : Instr × MReq),
      (s.power.off = false ∧ s.mgmtUp n = true ∧ s.bit (MGMT_B n) MGMT.CTRL_PROTO_EN = true) ∧
      u = (s.inc (MGMT_B n) MGMT.RX_FRAMES).inc (MGMT_B n) MGMT.REQUESTS ∧ x ∈ [(Instr.hello n who seq, (⟨1, 0, moHELLO, seq,
      []⟩ : MReq)), (.regRead n who seq a count, ⟨1, 0, moREG_READ, seq, word4 a ++ word4 count⟩),
      (.regWrite n who seq a count vs, ⟨1, 0, moREG_WRITE, seq, word4 a ++ word4 count ++ vs.flatMap word4⟩),
      (.mgmtResetModule n who seq, ⟨1, 0, moRESET, seq, word4 1⟩), (.mgmtResetWarm n who seq, ⟨1, 0, moRESET, seq, word4 2⟩),
      (.updateData n who seq o bytes, ⟨1, 0, moUPDATE_DATA, seq, (leBytes 8 o).map BitVec.toNat ++ bytes⟩)] ∧
      s.mgmtWaits = false)
    ∧ (∃ (s : State) (u : State) (n : Nat) (who : Nat) (seq : Nat) (a : Nat) (count : Nat) (o : Nat) (vs : List Nat) (bytes : List Nat) (x : Instr × MReq),
      (s.power.off = false ∧ s.mgmtUp n = true ∧ s.bit (MGMT_B n) MGMT.CTRL_PROTO_EN = true) ∧
      u = (s.inc (MGMT_B n) MGMT.RX_FRAMES).inc (MGMT_B n) MGMT.REQUESTS ∧ x ∈ [(Instr.hello n who seq, (⟨1, 0, moHELLO, seq,
      []⟩ : MReq)), (.regRead n who seq a count, ⟨1, 0, moREG_READ, seq, word4 a ++ word4 count⟩),
      (.regWrite n who seq a count vs, ⟨1, 0, moREG_WRITE, seq, word4 a ++ word4 count ++ vs.flatMap word4⟩),
      (.mgmtResetModule n who seq, ⟨1, 0, moRESET, seq, word4 1⟩), (.mgmtResetWarm n who seq, ⟨1, 0, moRESET, seq, word4 2⟩),
      (.updateData n who seq o bytes, ⟨1, 0, moUPDATE_DATA, seq, (leBytes 8 o).map BitVec.toNat ++ bytes⟩)] ∧
      s.mgmtWaits = true ∧ ((zget s.host.waiting n).length < 64))
    ∧ (∃ (s : State) (u : State) (n : Nat) (who : Nat) (seq : Nat) (a : Nat) (count : Nat) (o : Nat) (vs : List Nat) (bytes : List Nat) (x : Instr × MReq),
      (s.power.off = false ∧ s.mgmtUp n = true ∧ s.bit (MGMT_B n) MGMT.CTRL_PROTO_EN = true) ∧
      u = (s.inc (MGMT_B n) MGMT.RX_FRAMES).inc (MGMT_B n) MGMT.REQUESTS ∧ x ∈ [(Instr.hello n who seq, (⟨1, 0, moHELLO, seq,
      []⟩ : MReq)), (.regRead n who seq a count, ⟨1, 0, moREG_READ, seq, word4 a ++ word4 count⟩),
      (.regWrite n who seq a count vs, ⟨1, 0, moREG_WRITE, seq, word4 a ++ word4 count ++ vs.flatMap word4⟩),
      (.mgmtResetModule n who seq, ⟨1, 0, moRESET, seq, word4 1⟩), (.mgmtResetWarm n who seq, ⟨1, 0, moRESET, seq, word4 2⟩),
      (.updateData n who seq o bytes, ⟨1, 0, moUPDATE_DATA, seq, (leBytes 8 o).map BitVec.toNat ++ bytes⟩)] ∧
      s.mgmtWaits = true ∧ 64 ≤ (zget s.host.waiting n).length)
    ∧ (∃ (s : State) (u : State) (n : Nat) (bytes : List Nat), (s.power.off = false ∧ s.mgmtUp n = true ∧
      s.bit (MGMT_B n) MGMT.CTRL_PROTO_EN = true) ∧ u = (s.inc (MGMT_B n) MGMT.RX_FRAMES).inc (MGMT_B n) MGMT.REQUESTS ∧
      mgParse bytes = none ∧ bytes.headD 0 < 256)
    ∧ (∃ (s : State) (n : Nat), s.power.off = false ∧ s.mgmtUp n = true)
    ∧ (∃ (s : State) (u : State) (n : Nat) (target : Nat), (s.power.off = false ∧ s.mgmtUp n = true) ∧
      u = s.inc (MGMT_B n) MGMT.RX_FRAMES ∧ u.ownAddr n target = true)
    ∧ (∃ (s : State) (n : Nat), s.power.off = false ∧ n < 2 ∧ s.on (MGMT_B n) = true ∧ s.bit (MGMT_B n) MGMT.STAT_LINK_UP = false)
    ∧ (∃ (s : State) (n : Nat), s.power.off = false ∧ n < 2 ∧ s.bit (MGMT_B n) MGMT.STAT_LINK_UP = true) :=
  ⟨⟨(rs ([(MGMT_B 1, hCTRL_ENABLE, 1), (MGMT_B 1, MGMT.STAT_LINK_UP, 1), (MGMT_B 1, MGMT.CTRL_PROTO_EN, 1)])),
      (((rs ([(MGMT_B 1, hCTRL_ENABLE, 1), (MGMT_B 1, MGMT.STAT_LINK_UP, 1), (MGMT_B 1, MGMT.CTRL_PROTO_EN,
      1)])).inc (MGMT_B 1) MGMT.RX_FRAMES).inc (MGMT_B 1) MGMT.REQUESTS), 1, 5, 9, 0, 1, 0, [], [], (Instr.hello 1 5 9, (⟨1, 0,
      moHELLO, 9, []⟩ : MReq)), by decide +kernel, rfl, by decide +kernel⟩,
    ⟨{ (rs ([(MGMT_B 1, hCTRL_ENABLE, 1), (MGMT_B 1, MGMT.STAT_LINK_UP, 1), (MGMT_B 1, MGMT.CTRL_PROTO_EN, 1)])) with reeve.down := true },
      (({ (rs ([(MGMT_B 1, hCTRL_ENABLE, 1), (MGMT_B 1, MGMT.STAT_LINK_UP, 1), (MGMT_B 1, MGMT.CTRL_PROTO_EN, 1)])) with reeve.down := true }.inc (MGMT_B 1) MGMT.RX_FRAMES).inc (MGMT_B 1) MGMT.REQUESTS),
      1, 5, 9, 0, 1, 0, [], [], (Instr.hello 1 5 9, (⟨1, 0, moHELLO, 9, []⟩ : MReq)), by decide +kernel, rfl,
      by decide +kernel⟩,
    ⟨{ (rs ([(MGMT_B 1, hCTRL_ENABLE, 1), (MGMT_B 1, MGMT.STAT_LINK_UP, 1), (MGMT_B 1, MGMT.CTRL_PROTO_EN, 1)])) with reeve.down := true, host.waiting := [(1, List.replicate 64 default)] },
      (({ (rs ([(MGMT_B 1, hCTRL_ENABLE, 1), (MGMT_B 1, MGMT.STAT_LINK_UP, 1), (MGMT_B 1, MGMT.CTRL_PROTO_EN, 1)])) with reeve.down := true, host.waiting := [(1, List.replicate 64 default)] }.inc (MGMT_B 1) MGMT.RX_FRAMES).inc (MGMT_B 1) MGMT.REQUESTS),
      1, 5, 9, 0, 1, 0, [], [], (Instr.hello 1 5 9, (⟨1, 0, moHELLO, 9, []⟩ : MReq)), by decide +kernel, rfl,
      by decide +kernel⟩,
    ⟨(rs ([(MGMT_B 1, hCTRL_ENABLE, 1), (MGMT_B 1, MGMT.STAT_LINK_UP, 1), (MGMT_B 1, MGMT.CTRL_PROTO_EN, 1)])),
      (((rs ([(MGMT_B 1, hCTRL_ENABLE, 1), (MGMT_B 1, MGMT.STAT_LINK_UP, 1), (MGMT_B 1, MGMT.CTRL_PROTO_EN,
      1)])).inc (MGMT_B 1) MGMT.RX_FRAMES).inc (MGMT_B 1) MGMT.REQUESTS), 1, [1], by decide +kernel, rfl, by decide +kernel⟩,
    ⟨(rs ([(MGMT_B 1, hCTRL_ENABLE, 1), (MGMT_B 1, MGMT.STAT_LINK_UP, 1), (MGMT_B 1, MGMT.CTRL_PROTO_EN, 1)])), 1,
      by decide +kernel⟩,
    ⟨(rs ([(MGMT_B 1, hCTRL_ENABLE, 1), (MGMT_B 1, MGMT.STAT_LINK_UP, 1), (MGMT_B 1, MGMT.CTRL_PROTO_EN, 1)])),
      ((rs ([(MGMT_B 1, hCTRL_ENABLE, 1), (MGMT_B 1, MGMT.STAT_LINK_UP, 1), (MGMT_B 1, MGMT.CTRL_PROTO_EN,
      1)])).inc (MGMT_B 1) MGMT.RX_FRAMES), 1, (0xFE80 * 2 ^ 112), by decide +kernel, rfl, by decide +kernel⟩,
    ⟨(rs ([(MGMT_B 1, hCTRL_ENABLE, 1)])), 1, by decide +kernel⟩,
    ⟨(rs ([(MGMT_B 1, hCTRL_ENABLE, 1), (MGMT_B 1, MGMT.STAT_LINK_UP, 1), (MGMT_B 1, MGMT.CTRL_PROTO_EN, 1)])), 1,
      by decide +kernel⟩⟩

theorem witness_BelfryClaimsAndCompletes :
    (∃ (s : State) (path : Nat) (k : Nat), s.power.off = false ∧ s.hears path = true ∧ k < 4 ∧ s.winner k = 0)
    ∧ (∃ (s : State) (path : Nat), s.power.off = false ∧ s.hears path = true ∧ s.winner 4 = 0 ∧ s.host.d3 = false)
    ∧ (∃ (s : State) (path : Nat) (k : Nat), s.power.off = false ∧ s.hears path = true ∧ k < 4 ∧
      s.bit BELFRY_B BELFRY.GCTRL_DISABLE = true)
    ∧ (∃ (s : State) (path : Nat) (k : Nat), s.power.off = false ∧ s.hears path = true ∧ k < 4 ∧ zget s.reeve.sleep k = 2)
    ∧ (∃ (s : State) (path : Nat) (k : Nat), s.power.off = false ∧ s.hears path = true ∧ k < 4)
    ∧ (∃ (s : State) (path : Nat) (k : Nat), s.power.off = false ∧ s.hears path = true ∧ k < 5 ∧ (k = 4 → s.host.d3 = false) ∧
      0 < s.winner k ∧ s.winner k < 1024)
    ∧ (∃ (s : State) (path : Nat) (k : Nat) (n : Nat), s.power.off = false ∧ s.hears path = true ∧ k < 4 ∧ 0 < n ∧ n < 1024 ∧
      s.claimed n = true ∧ s.claimant n = k)
    ∧ (∃ (s : State) (path : Nat) (k : Nat) (n : Nat), s.power.off = false ∧ s.hears path = true ∧ k < 5 ∧ n < 1024 ∧
      (s.claimed n = false ∨ s.claimant n ≠ k))
    ∧ (∃ (s : State) (path : Nat), s.power.off = false ∧ s.hears path = true)
    ∧ (∃ (s : State) (path : Nat) (i : Nat), s.power.off = false ∧ s.hears path = true ∧ i < 1024)
    ∧ (∃ (s : State) (path : Nat) (i : Nat), s.power.off = false ∧ s.hears path = true ∧ i < 1024 ∧ ¬ (144 ≤ i ∧ i ≤ 148))
    ∧ (∃ (s : State) (path : Nat) (w : Nat), s.power.off = false ∧ s.hears path = true ∧ w < 512) :=
  ⟨⟨State.reset, 0, 3, by decide +kernel⟩,
    ⟨State.reset, 0, by decide +kernel⟩,
    ⟨(rs ([(BELFRY_B, BELFRY.GCTRL_DISABLE, 1)])), 0, 3, by decide +kernel⟩,
    ⟨{ State.reset with reeve.sleep := [(3, 2)] }, 0, 3, by decide +kernel⟩,
    ⟨State.reset, 0, 3, by decide +kernel⟩,
    ⟨(rs ([(BELFRY_B, hCTRL_ENABLE, 1), (srcBase 1023, srcF 1023 BELFRY_SRC.SRC_CFG_PEND, 1), (srcBase 1023,
      srcF 1023 BELFRY_SRC.SRC_CFG_PRIO, 15), (srcBase 1023, srcF 1023 BELFRY_SRC.SRC_CFG_MASK, 0), (srcBase 1023,
      srcF 1023 BELFRY_SRC.SRC_CFG_TARGET, 0)])), 0, 0, by decide +kernel⟩,
    ⟨(rs ([(srcBase 1023, srcF 1023 BELFRY_SRC.SRC_CFG_CLAIMED, 1), (srcBase 1023, srcF 1023 BELFRY_SRC.SRC_CFG_CLAIMANT, 3)])),
      0, 3, 1023, by decide +kernel⟩,
    ⟨State.reset, 0, 4, 1023, by decide +kernel⟩,
    ⟨State.reset, 0, by decide +kernel⟩,
    ⟨State.reset, 0, 1023, by decide +kernel⟩,
    ⟨State.reset, 0, 149, by decide +kernel⟩,
    ⟨State.reset, 0, 511, by decide +kernel⟩⟩

theorem witness_PowerEventsSetTheirConditions :
    (∃ (s : State) (path : Nat), s.power.off = false ∧ s.hears path = true)
    ∧ (∃ (s : State) (path : Nat), s.power.off = false ∧ s.hears path = true ∧ s.bit POWER_B POWER.THERM_WARN = false)
    ∧ (∃ (s : State) (path : Nat), s.power.off = false ∧ s.hears path = true ∧ s.bit POWER_B POWER.CAP_STAT_ENGAGED = false)
    ∧ (∃ (s : State) (path : Nat), s.power.off = false ∧ s.hears path = true)
    ∧ (∃ (s : State) (path : Nat), s.power.off = false ∧ s.hears path = true ∧ s.pinsDriven = true ∧
      (s.bit POWER_B POWER.THERM_WARN = true ∨ s.bit POWER_B POWER.THERM_TRIPPED = true))
    ∧ (∃ (s : State) (path : Nat), s.power.off = false ∧ s.hears path = true ∧ s.pinsDriven = true ∧
      (s.bit POWER_B POWER.THERM_WARN = false ∧ s.bit POWER_B POWER.THERM_TRIPPED = false))
    ∧ (∃ (s : State) (path : Nat), s.power.off = false ∧ s.hears path = true ∧ s.pinsDriven = true)
    ∧ (∃ (s : State) (path : Nat), s.power.off = false ∧ s.hears path = true ∧ s.pinsDriven = false)
    ∧ (∃ (s : State) (path : Nat), s.power.off = false ∧ s.hears path = true)
    ∧ (∃ (s : State) (path : Nat), s.power.off = false ∧ s.hears path = true ∧ s.bit POWER_B POWER.STATE_THERM_HOLD = true)
    ∧ (∃ (s : State) (path : Nat), s.power.off = false ∧ s.hears path = true ∧ s.bit POWER_B POWER.STATE_THERM_HOLD = false)
    ∧ (∃ (s : State) (path : Nat), s.power.off = false ∧ s.hears path = true)
    ∧ (∃ (s : State) (path : Nat), s.power.off = false ∧ s.hears path = true ∧ s.bit BACKUP_B BACKUP.STAT_CHARGED = false) :=
  ⟨⟨State.reset, 0, by decide +kernel⟩,
    ⟨State.reset, 0, by decide +kernel⟩,
    ⟨State.reset, 0, by decide +kernel⟩,
    ⟨State.reset, 0, by decide +kernel⟩,
    ⟨(rs ([(POWER_B, POWER.STATE_STATE, 1), (POWER_B, POWER.STATE_STEP, 4), (POWER_B, POWER.THERM_WARN, 1)])), 0,
      by decide +kernel⟩,
    ⟨(rs ([(POWER_B, POWER.STATE_STATE, 1), (POWER_B, POWER.STATE_STEP, 4)])), 0, by decide +kernel⟩,
    ⟨(rs ([(POWER_B, POWER.STATE_STATE, 1), (POWER_B, POWER.STATE_STEP, 4)])), 0, by decide +kernel⟩,
    ⟨State.reset, 0, by decide +kernel⟩,
    ⟨State.reset, 0, by decide +kernel⟩,
    ⟨(rs ([(POWER_B, POWER.STATE_THERM_HOLD, 1)])), 0, by decide +kernel⟩,
    ⟨State.reset, 0, by decide +kernel⟩,
    ⟨State.reset, 0, by decide +kernel⟩,
    ⟨(rs ([(BACKUP_B, BACKUP.STAT_CHARGED, 0)])), 0, by decide +kernel⟩⟩

theorem witness_ResetsNeedTheirKeyAndCause :
    (∃ (s : State) (path : Nat), s.power.off = false ∧ s.hears path = true)
    ∧ (∃ (s : State) (path : Nat) (key : Nat), s.power.off = false ∧ s.hears path = true ∧ key % 2 ^ 16 ≠ 0x5253)
    ∧ (∃ (s : State) (path : Nat) (causes : Nat), s.power.off = false ∧ s.hears path = true ∧ causes &&& 0x1F6 ≠ 0)
    ∧ (∃ (s : State) (path : Nat) (causes : Nat), s.power.off = false ∧ s.hears path = true ∧ causes &&& 9 ≠ 0)
    ∧ (∃ (s : State) (path : Nat), s.power.off = false ∧ s.hears path = true)
    ∧ (∃ (s : State) (path : Nat), s.power.off = false ∧ s.hears path = true ∧ s.bit RESET_B RESET.WDT_CTRL_EN = true)
    ∧ (∃ (s : State) (path : Nat) (kind : Nat) (addr : Nat) (e : Nat) (u : State), (s.power.off = false ∧ s.hears path = true ∧
      1 ≤ kind ∧ kind ≤ 5 ∧ critHarmless kind e = false) ∧
      u = (({ (s.wr (BACKUP_B + 0x54) (BitVec.ofNat 32 (critType kind + kind * 2 ^ 16 + 2 ^ 31))).put64 BACKUP_B BACKUP.CRIT_ADDR_LO addr with power.critOwed := true }.critRestore kind false).moduleReset 0x20) ∧
      kind ≠ 5)
    ∧ (∃ (s : State) (path : Nat) (kind : Nat) (addr : Nat) (e : Nat) (u : State), (s.power.off = false ∧ s.hears path = true ∧
      1 ≤ kind ∧ kind ≤ 5 ∧ critHarmless kind e = false) ∧
      u = (({ (s.wr (BACKUP_B + 0x54) (BitVec.ofNat 32 (critType kind + kind * 2 ^ 16 + 2 ^ 31))).put64 BACKUP_B BACKUP.CRIT_ADDR_LO addr with power.critOwed := true }.critRestore kind false).moduleReset 0x20) ∧
      kind = 5)
    ∧ (∃ (s : State) (path : Nat) (kind : Nat) (e : Nat), s.power.off = false ∧ s.hears path = true ∧ 1 ≤ kind ∧ kind ≤ 5 ∧
      critHarmless kind e = true)
    ∧ (∃ (s : State) (path : Nat) (target : Nat), s.power.off = false ∧ s.hears path = true ∧
      lcAllowed (s.get POWER_B POWER.LC_STATE) (target % 4) = true ∧ s.jobState ≠ jsLOADING ∧ s.jobState ≠ jsRUNNING)
    ∧ (∃ (s : State) (path : Nat) (key : Nat) (target : Nat), s.power.off = false ∧ s.hears path = true ∧
      (lcAllowed (s.get POWER_B POWER.LC_STATE) (target % 4) = false ∨ s.jobState = jsLOADING ∨ s.jobState = jsRUNNING ∨ key % 2 ^ 16 ≠ 0x4C43))
    ∧ (∃ (s : State) (path : Nat) (target : Nat), s.power.off = false ∧ s.hears path = true ∧ s.power.lcTarget = some target ∧
      5 ≤ s.bstep) :=
  ⟨⟨State.reset, 0, by decide +kernel⟩,
    ⟨State.reset, 0, 0x5254, by decide +kernel⟩,
    ⟨State.reset, 0, 2, by decide +kernel⟩,
    ⟨State.reset, 0, 8, by decide +kernel⟩,
    ⟨State.reset, 0, by decide +kernel⟩,
    ⟨(rs ([(RESET_B, RESET.WDT_CTRL_EN, 1)])), 0, by decide +kernel⟩,
    ⟨State.reset, 0, 1, 0, 257,
      ((({ (State.reset.wr (BACKUP_B + 0x54) (BitVec.ofNat 32 (critType 1 + 1 * 2 ^ 16 + 2 ^ 31))).put64 BACKUP_B BACKUP.CRIT_ADDR_LO 0 with power.critOwed := true }.critRestore 1 false).moduleReset 0x20)),
      by decide +kernel, rfl, by decide +kernel⟩,
    ⟨State.reset, 0, 5, 0, 1,
      ((({ (State.reset.wr (BACKUP_B + 0x54) (BitVec.ofNat 32 (critType 5 + 5 * 2 ^ 16 + 2 ^ 31))).put64 BACKUP_B BACKUP.CRIT_ADDR_LO 0 with power.critOwed := true }.critRestore 5 false).moduleReset 0x20)),
      by decide +kernel, rfl, by decide +kernel⟩,
    ⟨State.reset, 0, 5, (3 + 3 * 256 ^ 9), by decide +kernel⟩,
    ⟨State.reset, 0, 1, by decide +kernel⟩,
    ⟨State.reset, 0, 0x4C43, 3, by decide +kernel⟩,
    ⟨{ (rs ([(POWER_B, POWER.STATE_STEP, 5)])) with power.lcTarget := some 1 }, 0, 1, by decide +kernel⟩⟩

theorem witness_BringUpRunsItsSteps :
    (∃ (s : State), s.power.off = false ∧ (s.bringUp 0 = true ∨ s.bringUp 1 = true) ∧ s.upd.rom = 0 ∧ s.reeve.down = false)
    ∧ (∃ (s : State) (ref : Nat), s.power.off = false ∧ s.bringUp 2 = true ∧ s.reeve.down = false ∧
      (s.bit MODULE_B MODULE.STRAPS_CLKMODE = true ∨ ref = 1))
    ∧ (∃ (s : State), s.power.off = false ∧ s.bringUp 3 = true ∧ s.power.waitRails = false)
    ∧ (∃ (s : State), s.power.off = false ∧ s.bringUp 4 = true ∧ s.reeve.down = false)
    ∧ (∃ (s : State), s.power.off = false ∧ s.bringUp 5 = true ∧ s.reeve.down = false)
    ∧ (∃ (s : State), s.power.off = false ∧ s.reeve.down = false ∧ (s.bringUp 6 = true ∨ 2 ≤ s.pstate))
    ∧ (∃ (s : State), s.power.off = false ∧ s.bringUp 7 = true ∧ s.reeve.down = false)
    ∧ (∃ (s : State), s.power.off = false ∧ s.reeve.down = true ∧ s.upd.rom = 0 ∧ s.updSt ≠ upHANDOVER) :=
  ⟨⟨(rs ([(POWER_B, POWER.STATE_STATE, 1), (POWER_B, POWER.STATE_STEP, 1)])), by decide +kernel⟩,
    ⟨(rs ([(POWER_B, POWER.STATE_STATE, 1), (POWER_B, POWER.STATE_STEP, 2)])), 1, by decide +kernel⟩,
    ⟨(rs ([(POWER_B, POWER.STATE_STATE, 1), (POWER_B, POWER.STATE_STEP, 3)])), by decide +kernel⟩,
    ⟨(rs ([(POWER_B, POWER.STATE_STATE, 1), (POWER_B, POWER.STATE_STEP, 4)])), by decide +kernel⟩,
    ⟨(rs ([(POWER_B, POWER.STATE_STATE, 1), (POWER_B, POWER.STATE_STEP, 5)])), by decide +kernel⟩,
    ⟨(rs ([(POWER_B, POWER.STATE_STATE, 1), (POWER_B, POWER.STATE_STEP, 6)])), by decide +kernel⟩,
    ⟨(rs ([(POWER_B, POWER.STATE_STATE, 1), (POWER_B, POWER.STATE_STEP, 7)])), by decide +kernel⟩,
    ⟨{ State.reset with reeve.down := true }, by decide +kernel⟩⟩

theorem witness_CalibrationsRunAndEnd :
    (∃ (s : State) (path : Nat), s.power.off = false ∧ s.hears path = true ∧ 2 ≤ s.pstate ∧ s.get CAL_B CAL.STAT_STATE ≠ 1 ∧
      s.get CAL_B CAL.STAT_STATE ≠ 3 ∧ (∀ p < 36, s.on (PORT_B p) = false))
    ∧ (∃ (s : State) (path : Nat) (p : Nat), s.power.off = false ∧ s.hears path = true ∧ p < 36 ∧ s.on (PORT_B p) = true)
    ∧ (∃ (s : State) (path : Nat) (l : Nat) (e : PathEnt), s.power.off = false ∧ s.hears path = true ∧
      s.plan.path false path = some e ∧ s.calMay e l = true ∧ s.calOldest (txRing e.port l) = true)
    ∧ (∃ (s : State) (path : Nat) (l : Nat) (e : PathEnt), s.power.off = false ∧ s.hears path = true ∧
      s.plan.path true path = some e ∧ l < 9 ∧ e.has l = true ∧ serving (s.rxSt e.port l) = true ∧
      s.inCal (rxRing e.port l) = false)
    ∧ (∃ (s : State) (path : Nat) (c : LaneCal) (f : RingFound), s.power.off = false ∧ s.hears path = true ∧
      ((s.cal.lanes.find? fun c => decide (c.ring = f.ring) && !c.swept) = some c))
    ∧ (∃ (s : State) (path : Nat), s.power.off = false ∧ s.hears path = true)
    ∧ (∃ (s : State) (path : Nat) (l : Nat) (seq : Nat) (c : LaneCal), s.power.off = false ∧ s.hears path = true ∧
      ((s.cal.lanes.find? fun c => decide (c.path = path ∧ c.lane = l ∧ c.seq = seq)) = some c) ∧ c.lead = true)
    ∧ (∃ (s : State) (path : Nat) (ring : Nat) (c : LaneCal), s.power.off = false ∧ s.hears path = true ∧
      ((s.cal.lanes.find? fun c => decide (c.ring = ring)) = some c))
    ∧ (∃ (s : State) (path : Nat) (l : Nat) (e : PathEnt), s.power.off = false ∧ s.hears path = true ∧
      s.plan.path false path = some e ∧ s.calLane e l = true ∧ s.inCal (txRing e.port l) = false ∧
      2 * s.calPeriod ≤ s.upNs - s.calUp (txRing e.port l))
    ∧ (∃ (s : State) (path : Nat), s.power.off = false ∧ s.hears path = true)
    ∧ (∃ (s : State) (path : Nat), s.power.off = false ∧ s.hears path = true ∧ s.since s.cal.savedAt 3600000000000 = true)
    ∧ (∃ (s : State) (u : State) (path : Nat), (s.power.off = false ∧ s.hears path = true) ∧
      u = ((List.range 4).filter s.diePresent).foldl (fun s d => s.errCheck d (s.get (DIE_B d) DIE.SRAM_CORR_COUNT) (s.get AGEING_B AGEING.THRESH_ERR_SRAM_PER_H) 0x21 d) s)
    ∧ (∃ (s : State) (path : Nat), s.power.off = false ∧ s.hears path = true) :=
  ⟨⟨(rs ([(POWER_B, POWER.STATE_STATE, 2)])), 0, by decide +kernel⟩,
    ⟨(rs ([(PORT_B 35, hCTRL_ENABLE, 1)])), 0, 35, by decide +kernel⟩,
    ⟨{ portS planN (laneL 4 4 ++ [(CAL_B, hCTRL_ENABLE, 1), (CAL_B, CAL.CTRL_INSVC_EN, 1), (PORT_B 0, laneF PORT.LSTAT_TX_STATE 8, lnSTANDBY), (PORT_B 0, laneF PORT.LSTAT_RX_OK_FAR 8, 1), (PORT_B 0, PORT.SPARE_FOR, 0xF)]) with time.up := 2 ^ 60 },
      1, 8, pOut, by decide +kernel⟩,
    ⟨portS planN (laneL 4 4), 2, 0, pIn false, by decide +kernel⟩,
    ⟨{ State.reset with cal.lanes := [{ (default : LaneCal) with ring := 8, lead := true, path := 1, lane := 8, seq := 5 }] },
      0, { (default : LaneCal) with ring := 8, lead := true, path := 1, lane := 8, seq := 5 },
      { (default : RingFound) with ring := 8 }, by decide +kernel⟩,
    ⟨State.reset, 0, by decide +kernel⟩,
    ⟨{ State.reset with cal.lanes := [{ (default : LaneCal) with ring := 8, lead := true, path := 1, lane := 8, seq := 5 }] },
      1, 8, 5, { (default : LaneCal) with ring := 8, lead := true, path := 1, lane := 8, seq := 5 }, by decide +kernel⟩,
    ⟨{ State.reset with cal.lanes := [{ (default : LaneCal) with ring := 8, lead := true, path := 1, lane := 8, seq := 5 }] },
      0, 8, { (default : LaneCal) with ring := 8, lead := true, path := 1, lane := 8, seq := 5 }, by decide +kernel⟩,
    ⟨{ portS planN (laneL 4 4 ++ [(CAL_B, hCTRL_ENABLE, 1), (CAL_B, CAL.CTRL_INSVC_EN, 1), (PORT_B 0, laneF PORT.LSTAT_TX_STATE 8, lnSTANDBY), (PORT_B 0, laneF PORT.LSTAT_RX_OK_FAR 8, 1), (PORT_B 0, PORT.SPARE_FOR, 0xF)]) with time.up := 2 ^ 60 },
      1, 8, pOut, by decide +kernel⟩,
    ⟨State.reset, 0, by decide +kernel⟩,
    ⟨State.reset, 0, by decide +kernel⟩,
    ⟨State.reset,
      (((List.range 4).filter State.reset.diePresent).foldl (fun s d => s.errCheck d (s.get (DIE_B d) DIE.SRAM_CORR_COUNT) (s.get AGEING_B AGEING.THRESH_ERR_SRAM_PER_H) 0x21 d) State.reset),
      0, by decide +kernel, rfl⟩,
    ⟨State.reset, 0, by decide +kernel⟩⟩

theorem witness_UpdateCommandsNeedKeyAndState :
    (∃ (s : State) (path : Nat) (key : Nat) (x : Instr × Nat), s.power.off = false ∧ s.hears path = true ∧
      x ∈ [(Instr.download path key, 1), (.verify path key, 2), (.activate path key, 4), (.confirm path key, 8),
      (.abort path key, 16)] ∧ key % 2 ^ 16 = 0x5550 ∧ s.updOn = true ∧ s.updAccepts x.2 = true)
    ∧ (∃ (s : State) (path : Nat) (key : Nat) (x : Instr × Nat), s.power.off = false ∧ s.hears path = true ∧
      x ∈ [(Instr.download path key, 1), (.verify path key, 2), (.activate path key, 4), (.confirm path key, 8),
      (.abort path key, 16)] ∧ (key % 2 ^ 16 ≠ 0x5550 ∨ s.updOn = false ∨ s.updAccepts x.2 = false))
    ∧ (∃ (s : State) (path : Nat), s.power.off = false ∧ s.hears path = true ∧ s.updSt = upVERIFYING)
    ∧ (∃ (s : State) (path : Nat) (n : Nat) (fail : Nat), s.power.off = false ∧ s.hears path = true ∧ s.updSt = upACTIVATING ∧
      ((s.flashWritten n fail).updSt = upHANDOVER))
    ∧ (∃ (s : State) (path : Nat) (n : Nat) (fail : Nat), s.power.off = false ∧ s.hears path = true ∧ s.updSt = upACTIVATING ∧
      ((s.flashWritten n fail).updSt ≠ upHANDOVER))
    ∧ (∃ (s : State) (path : Nat), s.power.off = false ∧ s.hears path = true ∧ s.updSt = upHANDOVER)
    ∧ (∃ (s : State) (path : Nat) (i : Nat), s.power.off = false ∧ s.hears path = true ∧ s.reeve.down = false ∧
      s.upd.due.contains i = true)
    ∧ (∃ (s : State) (path : Nat) (lo : Nat) (hi : Nat) (a : Nat), s.power.off = false ∧ s.hears path = true ∧
      a = lo % 2 ^ 32 + hi % 256 * 2 ^ 32 ∧ (s.updSt = upIDLE ∨ s.updSt = upREJECTED) ∧ a % 65536 = 0 ∧ isHbm a = true ∧
      s.presentRange a (2 ^ 24) = true)
    ∧ (∃ (s : State) (path : Nat) (lo : Nat) (hi : Nat) (a : Nat), s.power.off = false ∧ s.hears path = true ∧
      a = lo % 2 ^ 32 + hi % 256 * 2 ^ 32 ∧ (s.updSt ≠ upIDLE ∧
      s.updSt ≠ upREJECTED ∨ a % 65536 ≠ 0 ∨ isHbm a = false ∨ s.presentRange a (2 ^ 24) = false)) :=
  ⟨⟨(rs ([(UPDATE_B, UPDATE.STAT_STATE, upDOWNLOADING), (UPDATE_B, hCTRL_ENABLE, 1)])), 0, 0x5550, (Instr.verify 0 0x5550, 2),
      by decide +kernel⟩,
    ⟨(rs ([(UPDATE_B, UPDATE.STAT_STATE, upIDLE), (UPDATE_B, hCTRL_ENABLE, 1)])), 0, 0x5550, (Instr.verify 0 0x5550, 2),
      by decide +kernel⟩,
    ⟨(rs ([(UPDATE_B, UPDATE.STAT_STATE, upVERIFYING), (UPDATE_B, hCTRL_ENABLE, 1)])), 0, by decide +kernel⟩,
    ⟨{ (rs ([(UPDATE_B, UPDATE.STAT_STATE, upACTIVATING), (UPDATE_B, hCTRL_ENABLE, 1)])) with upd.pkg := some default, upd.erased := true },
      0, 1, 0, by decide +kernel⟩,
    ⟨{ (rs ([(UPDATE_B, UPDATE.STAT_STATE, upACTIVATING), (UPDATE_B, hCTRL_ENABLE, 1)])) with upd.pkg := some default }, 0, 1,
      1, by decide +kernel⟩,
    ⟨(rs ([(UPDATE_B, UPDATE.STAT_STATE, upHANDOVER), (UPDATE_B, hCTRL_ENABLE, 1)])), 0, by decide +kernel⟩,
    ⟨{ State.reset with upd.due := [7] }, 0, 7, by decide +kernel⟩,
    ⟨(rs ([(HBM_B 0, HBM.STACK_STAT_PRESENT, 1)])), 0, 0x10000, 0, 0x10000, by decide +kernel⟩,
    ⟨State.reset, 0, 1, 0, 1, by decide +kernel⟩⟩

theorem witness_TheBucketChainOffersAndTransfers :
    (∃ (s : State) (p : Nat) (serial : Nat) (xfer : Nat) (len : Nat) (version : Nat) (tag : Nat) (first : Nat) (count : Nat) (c : Nat) (code : Nat) (bytes : List Nat) (y : Instr × Nat × List Nat),
      s.power.off = false ∧ y ∈ [(Instr.offer p serial xfer len version tag, 0x20, [len, tag]), (.req p xfer first count, 0x21,
      [first, count]), (.data p xfer c bytes, 0x22, c :: bytes), (.bcEnd p xfer code, 0x23, [code])] ∧ p < 36 ∧
      32 ≤ s.vc3Held p)
    ∧ (∃ (s : State) (p : Nat) (serial : Nat) (xfer : Nat) (len : Nat) (version : Nat) (tag : Nat) (first : Nat) (count : Nat) (c : Nat) (code : Nat) (bytes : List Nat) (y : Instr × Nat × List Nat),
      s.power.off = false ∧ y ∈ [(Instr.offer p serial xfer len version tag, 0x20, [len, tag]), (.req p xfer first count, 0x21,
      [first, count]), (.data p xfer c bytes, 0x22, c :: bytes), (.bcEnd p xfer code, 0x23, [code])] ∧ p < 36 ∧
      s.vc3Held p < 32 ∧ s.reeve.down = true ∧ s.upd.rom = 0)
    ∧ (∃ (s : State) (k : PkgInfo), s.power.off = false ∧ s.reeve.down = false ∧ s.upd.pkg = some k)
    ∧ (∃ (s : State) (p : Nat) (xfer : Nat) (len : Nat) (tag : Nat), s.power.off = false ∧
      (s.reeve.down = false ∨ s.upd.rom ≠ 0) ∧ s.vc3Held p < 32 ∧ p < 36 ∧ s.updOn = true ∧ s.upd.inc = none ∧
      s.hasEnded p xfer = false ∧ ¬ (s.upd.rom = 0 ∧ tag = s.upd.run.tag) ∧ s.takesOffer len = true)
    ∧ (∃ (s : State) (p : Nat) (xfer : Nat), s.power.off = false ∧ (s.reeve.down = false ∨ s.upd.rom ≠ 0) ∧ s.vc3Held p < 32 ∧
      p < 36 ∧ s.stageHeld = false ∧ ((s.countIn p).offers p = true) ∧ zget (s.countIn p).upd.xfers p = xfer)
    ∧ (∃ (s : State) (p : Nat), s.power.off = false ∧ (s.reeve.down = false ∨ s.upd.rom ≠ 0) ∧ s.vc3Held p < 32 ∧ p < 36 ∧
      s.stageHeld = true)
    ∧ (∃ (s : State) (p : Nat) (xfer : Nat) (c : Nat) (bytes : List Nat) (x : Xfer), s.power.off = false ∧
      (s.reeve.down = false ∨ s.upd.rom ≠ 0) ∧ s.vc3Held p < 32 ∧ p < 36 ∧ s.upd.inc = some x ∧ s.updSt = upDOWNLOADING ∧
      x.port = p ∧ x.xfer = xfer ∧ c < s.chunks ∧ bytes.length = s.chunkLen c ∧ x.got.contains c = false)
    ∧ (∃ (s : State) (p : Nat) (xfer : Nat) (code : Nat), s.power.off = false ∧ (s.reeve.down = false ∨ s.upd.rom ≠ 0) ∧
      s.vc3Held p < 32 ∧ p < 36 ∧ s.offers p = true ∧ zget s.upd.xfers p = xfer ∧ code ≠ 0 ∧ code ≠ 0x21)
    ∧ (∃ (s : State) (p : Nat) (xfer : Nat) (code : Nat), s.power.off = false ∧ (s.reeve.down = false ∨ s.upd.rom ≠ 0) ∧
      s.vc3Held p < 32 ∧ p < 36 ∧ s.offers p = true ∧ zget s.upd.xfers p = xfer ∧ (code = 0 ∨ code = 0x21))
    ∧ (∃ (s : State) (p : Nat) (xfer : Nat) (code : Nat), s.power.off = false ∧ (s.reeve.down = false ∨ s.upd.rom ≠ 0) ∧
      s.upd.ended = some (p, xfer, code))
    ∧ (∃ (s : State) (c : Nat) (x : Xfer), s.power.off = false ∧ s.upd.inc = some x ∧ x.asked.contains c = true)
    ∧ (∃ (s : State) (x : Xfer), s.power.off = false ∧ s.upd.inc = some x ∧ s.updSt = upDOWNLOADING) :=
  ⟨⟨{ State.reset with msg.offers := List.replicate 32 (.chain 35 0x20 0 []) }, 35, 0, 4, 736, 1, 1, 0, 1, 0, 0, [],
      (Instr.offer 35 0 4 736 1 1, 0x20, [736, 1]), by decide +kernel⟩,
    ⟨{ State.reset with reeve.down := true }, 35, 0, 4, 736, 1, 1, 0, 1, 0, 0, [], (Instr.offer 35 0 4 736 1 1, 0x20, [736, 1]),
      by decide +kernel⟩,
    ⟨{ State.reset with upd.pkg := some default }, default, by decide +kernel⟩,
    ⟨(rs ([(UPDATE_B, UPDATE.STAT_STATE, upREJECTED), (UPDATE_B, hCTRL_ENABLE, 1), (UPDATE_B, UPDATE.BC_CTRL_ACCEPT, 1)])), 35,
      4, 12582912, 1, by decide +kernel⟩,
    ⟨{ (rs ([(UPDATE_B, UPDATE.STAT_STATE, upVERIFIED), (UPDATE_B, hCTRL_ENABLE, 1), (UPDATE_B, bitF 0x78 3, 1)])) with upd.staged := true, upd.pkg := some default, upd.xfers := [(35, 4)] },
      35, 4, by decide +kernel⟩,
    ⟨(rs ([(HBM_B 0, HBM.STACK_STAT_PRESENT, 1), (HBM_B 0, hCTRL_ENABLE, 1), (HBM_B 0, hCTRL_QUIESCE, 1), (HBM_B 1,
      HBM.STACK_STAT_PRESENT, 1), (HBM_B 1, hCTRL_ENABLE, 1), (HBM_B 1, hCTRL_QUIESCE, 1), (HBM_B 2, HBM.STACK_STAT_PRESENT, 1),
      (HBM_B 2, hCTRL_ENABLE, 1), (HBM_B 2, hCTRL_QUIESCE, 1), (HBM_B 3, HBM.STACK_STAT_PRESENT, 1), (HBM_B 3, hCTRL_ENABLE, 1),
      (HBM_B 3, hCTRL_QUIESCE, 1), (HBM_B 4, HBM.STACK_STAT_PRESENT, 1), (HBM_B 4, hCTRL_ENABLE, 1), (HBM_B 4, hCTRL_QUIESCE,
      1), (HBM_B 5, HBM.STACK_STAT_PRESENT, 1), (HBM_B 5, hCTRL_ENABLE, 1), (HBM_B 5, hCTRL_QUIESCE, 1), (HBM_B 6,
      HBM.STACK_STAT_PRESENT, 1), (HBM_B 6, hCTRL_ENABLE, 1), (HBM_B 6, hCTRL_QUIESCE, 1), (HBM_B 7, HBM.STACK_STAT_PRESENT, 1),
      (HBM_B 7, hCTRL_ENABLE, 1), (HBM_B 7, hCTRL_QUIESCE, 1)])), 35, by decide +kernel⟩,
    ⟨{ (rs ([(UPDATE_B, UPDATE.STAT_STATE, upDOWNLOADING), (UPDATE_B, hCTRL_ENABLE, 1), (UPDATE_B, UPDATE.PKG_LEN_BYTES, 736)])) with upd.inc := some ⟨35, 4, [], [0]⟩ },
      35, 4, 1, (List.replicate 224 0), ⟨35, 4, [], [0]⟩, by decide +kernel⟩,
    ⟨{ (rs ([(UPDATE_B, UPDATE.STAT_STATE, upVERIFIED), (UPDATE_B, hCTRL_ENABLE, 1), (UPDATE_B, bitF 0x78 3, 1)])) with upd.staged := true, upd.pkg := some default, upd.xfers := [(35, 4)] },
      35, 4, 1, by decide +kernel⟩,
    ⟨{ (rs ([(UPDATE_B, UPDATE.STAT_STATE, upVERIFIED), (UPDATE_B, hCTRL_ENABLE, 1), (UPDATE_B, bitF 0x78 3, 1)])) with upd.staged := true, upd.pkg := some default, upd.xfers := [(35, 4)] },
      35, 4, 0, by decide +kernel⟩,
    ⟨{ State.reset with upd.ended := some (35, 4, 0) }, 35, 4, 0, by decide +kernel⟩,
    ⟨{ State.reset with upd.inc := some ⟨35, 4, [], [0]⟩ }, 0, ⟨35, 4, [], [0]⟩, by decide +kernel⟩,
    ⟨{ (rs ([(UPDATE_B, UPDATE.STAT_STATE, upDOWNLOADING), (UPDATE_B, hCTRL_ENABLE, 1)])) with upd.inc := some ⟨35, 4, [], [0]⟩ },
      ⟨35, 4, [], [0]⟩, by decide +kernel⟩⟩

/-! ### Ill-formed commands: one for each check of WellFormed -/

theorem test_wf_refuses :
    [Instr.accessUnmapped 7 0 1, .pathDown (2 ^ 16), .quiesced (2 ^ 14), .registerWrite 0 2 0, .nop 1024, .sessInv 4,
      .mapoutReq 8, .channelFail 0 32, .light 36, .beaconSend 0 9, .ackTimeout 0 2, .combFail 2, .ptpSyncTx 2,
      .settleDone 2048, .laneCalTimeout 648, .sourceEdge 1024 0 1, .claim 5, .segBaseWrite 0 16 0 0, .triggerFire 32,
      .queueRead 0 (2 ^ 18), .barrierRelease 64, .codewordReceive 0 0 0 [0], .codewordReceive 0 0 0 (List.replicate 240 1024),
      .rxPost 0 { (default : MsgFrame) with length := 1 }, .rxPost 0 { (default : MsgFrame) with length := 513, payload := List.replicate 513 0 },
      .identityStale 324].all (fun c => !c.wf) = true := by decide +kernel

theorem test_wf_admits :
    [Instr.accessUnmapped 2 0 1, .quiesced (2 ^ 14 - 1), .registerWrite 0 (2 ^ 26 - 4) 0, .nop 1023, .channelFail 7 31, .beaconSend 35 8,
      .settleDone 2047, .codewordReceive 0 0 0 (List.replicate 240 1023), .rxPost 0 default].all Instr.wf = true := by decide +kernel

/-! ### Addresses and reset values (01_architecture.md's example and R22-R26) -/

/-- The page of die-local tile (4, 7) of C2 and its PAGE_ID; the page of port P21 and its PAGE_ID. -/
theorem test_pages : TILE_B (2 * 256 + 51) = 0x4B3000 ∧ regReset 0x4B3000 = 0x01030233#32 ∧ PORT_B 21 = 0xA5000
    ∧ regReset 0xA5000 = 0x00900015#32 := by decide +kernel

/-- The directory entry of C2's tile pages, with ten rows and then with nine. -/
theorem test_directory :
    (dirRunsDie 2 10).any (fun r => dirWord [r] 0x100 == 0x0048006E && dirWord [r] 0x104 == 0x01030200) = true
    ∧ (dirRunsDie 2 9).any (fun r => dirWord [r] 0x100 == 0x00480063) = true := by decide +kernel

/-! ### The tile (03_tile.md's and 02_arithmetic.md's examples) -/

/-- The fields of the worked MMA_S word. -/
theorem test_mma_s_word :
    let w := 0x00100381000402108004000311010022
    iOp w = 0x22 ∧ iAcb w = 1 ∧ bf w 31 24 = 0x11 ∧ bf w 39 32 = 3 ∧ bf w 52 40 = 0x400 ∧ bf w 57 53 = 0 ∧ bf w 63 58 = 32
      ∧ bf w 79 64 = 0x210 ∧ bf w 85 80 = 4 ∧ bf w 102 88 = 0x100 ∧ bf w 106 103 = 7 ∧ bf w 115 107 = 0 ∧ bf w 116 116 = 1 := by
  decide +kernel

/-- SETI writes its index register, and LOOP opens a loop that its last instruction repeats. -/
theorem test_seti : ((State.reset.after (exec (.seti 0) (runS (0x02 + 3 * 2 ^ 32 + 500 * 2 ^ 36)))).idx 0 3) = 500 := by decide +kernel

/-- HALT with nothing in flight ends the tile. -/
theorem test_halt : (State.reset.after (exec (.tileHalted 0) { runS 0x0F with tile.stop := [(0, 1)] })).tstate 0 = tsHALTED := by
  decide +kernel

/-- A WAIT_TOK on a token that is too small waits with kind 1 and does not advance. -/
theorem test_wait_tok : (let t := State.reset.after (exec (.waitTok 0) (runS (0x10 + 2 ^ 40)))
    (t.tstate 0, t.get (TILE_B 0) TILE.STATUS_WAIT_KIND, t.pc 0)) = (tsWAITING, 1, 0) := by decide +kernel

/-- An opcode that the table does not name stops the tile for a fault. -/
theorem test_illegal : (let t := State.reset.after (exec (.illegalInstr 0) (runS 0xFF))
    (t.stopCode 0, t.pc 0)) = (3, 0) := by decide +kernel

/-- COPY moves a word: token 0 counts its completion. -/
theorem test_copy :
    let s := { rs (tileL tsRUNNING) with tile.queue := [(3, [op (0x40 + 2 ^ 32 + 2 ^ 104)])], mem := [(tileAddr 0 32, 7#8)] }
    let t := State.reset.after (exec (.dataMoverDone 0 0) s)
    t.byte (tileAddr 0 0) = 7#8 := by decide +kernel

/-! ### The mesh (04_mesh.md's examples) -/

/-- The route from (3, 9) to (12, 13) has 13 hops and takes 392 cycles. -/
theorem test_route : ((MeshShape.route [10, 10, 10, 10] 3 9 12 13).map fun p => ((hopTimes p).length, (hopTimes p).sum)) = some (13, 392) := by
  decide +kernel

/-- The slot entry of the example, as the one record of a slot section at byte 152. -/
theorem test_slot_entry :
    parseSlot (List.replicate 26 0 ++ [1, 0] ++ List.replicate 100 0 ++ leBytes 4 8 ++ leBytes 4 1 ++ leBytes 8 152 ++ leBytes 8 16
      ++ [0x10, 0x27, 0, 0, 0x40, 0, 0x54, 0, 0x20, 0x4E, 0, 0, 3, 9, 0x0C, 0x0D]) 0 = ⟨10000, 64, 84, 20000, 3, 9, 12, 13⟩ := by
  decide +kernel

/-! ### Messages (07_messaging.md's examples) -/

/-- The session descriptor of session 0x5A2B3 under SESS_TABLE 0x20_4000_0000, and the cache set of its block 41. -/
theorem test_session : (State.reset.put64 (MENG_B 1) MENG.SESS_TABLE_LO_ADDR 0x2040000000).sessionAt 0x5A2B3 = 0x204068ACC0
    ∧ walkKey 1 0x5A2B3 41 = 1024 + 0x29A := by decide +kernel

/-- The incarnation epoch never takes the value 0 (R252). -/
theorem test_epoch : nextEpoch 0xFFFFFFFF = 1 ∧ nextEpoch 0x41 = 0x42 := by decide +kernel

/-! ### Time (08_time.md's examples) -/

/-- The increment of a clock that is 12 ppb slow. -/
theorem test_inc : (State.reset.after (exec (.incWrite 2 0x80000081) State.reset)).get TIME_B TIME.INC_FRAC = 0x80000081 := by decide +kernel

/-- The servo's step of -250,000,000 ns. -/
theorem test_step : (let t := State.reset.servoStep (-250000000 * 2 ^ 32)
    (t.rd (TIME_B + TIME.STEP_LO.off), t.rd (TIME_B + TIME.STEP_LO.off + 4), t.get TIME_B TIME.STEP_FRAC)) = (0xF1194D80#32, 0xFFFFFFFF#32, 0) := by
  decide +kernel

/-! ### Light (09_optics.md's and 10_crossroads.md's examples) -/

/-- The fields of the worked control word. -/
theorem test_control_word :
    let c := 0x7F8144048C394E9B
    c % 2 ^ 16 = cwSYNC ∧ bitsOf c 26 41 = 0x0123 ∧ bitsOf c 42 42 = 1 ∧ bitsOf c 43 54 = 40 ∧ bitsOf c 55 63 = 0xFF := by decide +kernel

/-- Two paths of 5 and 2 data lanes share VC0 as 732 and 292 buffers, and VC1 as 366 and 146. -/
def shareBank : Bank :=
  [(30, 2#8), (45, 0x20#8), (0x2000, 5#8), (0x2002, 1#8), (0x2004, 0x1F#8), (0x2018, 9#8), (0x201A, 1#8), (0x201C, 0x60#8)]
theorem test_shares : shareBank.shares 0 1024 = [(5, 732), (9, 292)] ∧ shareBank.shares 0 512 = [(5, 366), (9, 146)] := by decide +kernel

/-! ### The host window (13_host_mgmt.md's example) -/

/-- The fields of the example's HANDOFF. -/
theorem test_handoff_fields : fget 0x02FAC000#32 HOSTWIN.HANDOFF_SLOT = 0 ∧ fget 0x02FAC000#32 HOSTWIN.HANDOFF_COUNT = 3051
    ∧ fget 0x02FAC000#32 HOSTWIN.HANDOFF_FROM = 0 := by decide +kernel

/-- 32 slots handed to the module: HANDOFF_STAT reads 0 and WIN_STAT counts them. -/
theorem test_handoff : (let t := State.reset.after (exec (.handoff 0 (BitVec.ofNat 32 (31 * 2 ^ 14))) State.reset)
    (t.prd 0 (HOSTWIN_B + 0x48), t.owned 31, t.owned 32, t.rd (HOSTWIN_B + 0x40))) = (0#32, true, false, 0x00203FE0#32) := by
  decide +kernel

/-! ### Belfry (14_belfry.md's example) -/

/-- The addresses of the example's sources. -/
theorem test_sources : srcBase 20 + (srcF 20 BELFRY_SRC.SRC_CFG_PRIO).off = 0x31090 ∧ srcBase 113 + (srcF 113 BELFRY_SRC.SRC_CFG_PRIO).off = 0x31204
    ∧ srcBase 435 + (srcF 435 BELFRY_SRC.SRC_CFG_PRIO).off = 0x3170C := by decide +kernel

/-! ### Power (15_power_reset.md's example) -/

/-- A brownout counts in PRIV_A, sets cause 1 and advances the epoch. -/
theorem test_brownout :
    let s := (State.reset.wr (BACKUP_B + BACKUP.PRIV_A.off) 0x0003000C#32).put BACKUP_B BACKUP.EPOCH_VALUE 0xA37
    let t := State.reset.after (exec (.brownout 700 4000) { s with power.inLow := false, power.railsOk := true })
    (t.rd (BACKUP_B + BACKUP.PRIV_A.off), t.get BACKUP_B BACKUP.EPOCH_VALUE) = (0x0004000C#32, 0xA38) := by decide +kernel

/-! ### Calibration (16_calibration.md's example) -/

/-- Slot 48 after its in-service sweep: PLAUS_A, PLAUS_B, and the changes that RING_DELTA and RING_RESP report. -/
theorem test_lane_cal :
    let s := rs [(DESC_B + 64 * 48, ⟨0x38, 31, 0⟩, 0x22607530), (DESC_B + 64 * 48, ⟨0x3C, 31, 0⟩, 0x00026C37), (ENGINE_B 0, ENGINE.HEATER_LIMIT_LIMIT, 300)]
    let s := { s with cal.lanes := [{ (default : LaneCal) with ring := 48, lead := true, path := 1, lane := 3, seq := 5 }] }
    let t := State.reset.after (exec (.laneCalSweepDone ⟨48, true, 25450, 9240, 61 * 16, 0⟩) s)
    (t.rd (DESC_B + 64 * 48 + 0x38), t.rd (DESC_B + 64 * 48 + 0x3C), (zget t.cal.rings 48).dHome, (zget t.cal.rings 48).dStep, (zget t.cal.rings 48).headroom)
      = (0x2418636A#32, 0x00028B3D#32, -830, 440, 399) := by decide +kernel

end Sys2Proof.Tests
end

/-!
PROOFS. Register accesses (00_scope.md): what they leave alone, the row they reach, and the statements about the header's
event registers and about 64-bit pairs.
-/

namespace Sys2Proof.Machine

/-! ### The frame of a command that writes registers alone -/

/-- t differs from s, among registers, bytes and parts, at most in the BAR0 registers at the addresses l. -/
structure OnlyRegs (l : List Nat) (s t : State) : Prop where
  regs : SameRegsBut l s t
  bytes : SameBytes s t
  parts : SameParts s t

/-- Updates of the queue, the free counter, the outputs, the pair captures and the traces change no register. -/
theorem onlyRegs_of_eq {l : List Nat} {s t : State} (hr : t.regs = s.regs) (hp : t.pregs = s.pregs) (hm : t.mem = s.mem)
    (hq : SameParts s t) : OnlyRegs l s t :=
  ⟨⟨fun a _ => State.rd_congr hr a, fun p a => by simp only [State.prd, hp]⟩, fun a => by simp only [State.byte, hm], hq⟩

theorem OnlyRegs.refl (l : List Nat) (s : State) : OnlyRegs l s s := onlyRegs_of_eq rfl rfl rfl (by simp [SameParts])

theorem OnlyRegs.trans {l : List Nat} {s t u : State} (h : OnlyRegs l s t) (k : OnlyRegs l t u) : OnlyRegs l s u where
  regs := ⟨fun a ha => (k.regs.1 a ha).trans (h.regs.1 a ha), fun p a => (k.regs.2 p a).trans (h.regs.2 p a)⟩
  bytes a := (k.bytes a).trans (h.bytes a)
  parts := by
    have h := h.parts
    have k := k.parts
    simp only [SameParts] at h k ⊢
    simp only [k, h, and_self]

theorem OnlyRegs.wr {l : List Nat} {a : Nat} (ha : a ∈ l) (s : State) (v : Word) : OnlyRegs l s (s.wr a v) where
  regs := ⟨fun b hb => s.rd_wr_ne v fun e => hb (e ▸ ha), fun _ _ => rfl⟩
  bytes _ := rfl
  parts := by simp [SameParts]

theorem OnlyRegs.wr_self (s : State) (a : Nat) (v : Word) : OnlyRegs [a] s (s.wr a v) := .wr (List.mem_singleton.2 rfl) s v

theorem OnlyRegs.wr_pair (s : State) (a b : Nat) (v w : Word) : OnlyRegs [a, b] s ((s.wr a v).wr b w) :=
  (OnlyRegs.wr (List.mem_pair.2 (.inl rfl)) s v).trans (.wr (List.mem_pair.2 (.inr rfl)) _ w)

theorem OnlyRegs.traceEntry (l : List Nat) (s : State) (a k b c x : Nat) : OnlyRegs l s (s.traceEntry a k b c x) :=
  onlyRegs_of_eq rfl rfl rfl (by simp [SameParts])

theorem OnlyRegs.pending {l : List Nat} {s t : State} (h : OnlyRegs l s t) (q : List Instr) :
    OnlyRegs l s { t with pending := q } := ⟨h.regs, h.bytes, h.parts⟩

/-! ### Accesses through a path that reaches the registers -/

theorem State.heard_on {s t : State} {path : Nat} (h0 : s.power.off = false) (hh : s.hears path = true) :
    s.heard path t = .next { t with pending := s.pending } := by rw [State.heard, if_pos hh, State.live_on h0]

/-- Every page lies in the 64 MB of BAR0. -/
theorem page_lt_of_pageAt {p : Nat} {x : PageTy × Nat} (h : pageAt p = some x) : p < 0x600 := by
  by_contra hp
  simp [pageAt, show 0x200 ≤ p by omega, show ¬ p < 0x600 by omega] at h

theorem ne_desc_of_hasHeader {ty : PageTy} (h : hasHeader ty = true) : ty ≠ .W_DESC := by
  rintro rfl
  simp [hasHeader] at h

section Access
variable {s : State} {path a inst k : Nat} {ty : PageTy} {r : RegRow}
  (hl : s.listed (a / 4096) = true) (hp : pageAt (a / 4096) = some (ty, inst)) (hh : hasHeader ty = true)
include hl hp hh

theorem writeReg_header (ho : a % 4096 < 0x40) (v : Word) :
    s.writeReg path a v = s.headerWrite path (a - a % 4096) (a % 4096) ty inst v := by
  simp [State.writeReg, hl, hp, hh, ne_desc_of_hasHeader hh, ho]

theorem writeReg_row (ho : 0x40 ≤ a % 4096) (hr : rowIn ty inst (a % 4096) = some (r, k)) (v : Word) :
    s.writeReg path a v = s.rowWrite path ty inst (a - a % 4096) (a % 4096) r v := by
  simp [State.writeReg, hl, hp, hh, ne_desc_of_hasHeader hh, Nat.not_lt.2 ho, hr]

theorem readReg_row (ho : 0x40 ≤ a % 4096) (hr : rowIn ty inst (a % 4096) = some (r, k)) :
    s.readReg path a = s.rowRead path ty inst a r := by
  simp [State.readReg, hl, hp, hh, ne_desc_of_hasHeader hh, Nat.not_lt.2 ho, hr]

theorem halfAt_row (ho : 0x40 ≤ a % 4096) (hr : rowIn ty inst (a % 4096) = some (r, k)) :
    s.halfAt a = pairHalf ty (a % 4096) r := by
  simp [State.halfAt, rowAt, hl, hp, hh, Nat.not_lt.2 ho, hr]

end Access

/-! ### Events -/

theorem fget_bitF (w : Word) (o i : Nat) : fget w (bitF o i) = (w.getLsbD i).toNat := by
  simp only [fget, Nat.add_sub_cancel_left, pow_one, ← BitVec.testBit_toNat, Nat.testBit_eq_decide_div_mod_eq]
  have := Nat.mod_lt (w.toNat / 2 ^ i) (by omega : 0 < 2)
  by_cases h : w.toNat / 2 ^ i % 2 = 1
  · simp [h]
  · simp [show w.toNat / 2 ^ i % 2 = 0 by omega]

theorem State.bit_bitF (s : State) (b o i : Nat) : s.bit b (bitF o i) = (s.rd (b + o)).getLsbD i := by
  simp only [State.bit, State.get, fget_bitF]
  cases (s.rd (b + o)).getLsbD i <;> rfl

/-- Setting a one-bit field sets that bit and leaves the others. -/
theorem fput_bitF_one_getLsbD (w : Word) (o : Nat) {i : Nat} (hi : i < 32) (j : Nat) :
    (fput w (bitF o i) 1).getLsbD j = (w.getLsbD j || decide (j = i)) := by
  rw [← BitVec.testBit_toNat, fput_testBit w (bitF o i) 1 j le_rfl hi, ← BitVec.testBit_toNat]
  rcases lt_trichotomy j i with h | rfl | h
  · simp [h, h.ne]
  · simp
  · simp [h.ne', Nat.not_lt.2 h.le, Nat.not_le.2 h]

/-- Raising event i sets bit i of EVT_STAT and leaves the others. -/
theorem State.raiseAlways_evtStat (s : State) (b : Nat) {i : Nat} (hi : i < 32) (j : Nat) :
    ((s.raiseAlways b i).rd (b + 0x14)).getLsbD j = ((s.rd (b + 0x14)).getLsbD j || decide (j = i)) := by
  unfold State.raiseAlways
  split
  · rename_i h
    rw [State.bit_bitF] at h
    by_cases e : j = i
    · simp [e, h]
    · simp [e]
  · rw [State.rd_traceEntry, State.put, State.rd_wr_same, fput_bitF_one_getLsbD _ _ hi]

theorem State.raiseAlways_onlyRegs (s : State) (b i : Nat) : OnlyRegs [b + 0x14] s (s.raiseAlways b i) := by
  unfold State.raiseAlways
  split
  · exact .refl _ s
  · exact (OnlyRegs.wr_self s _ _).trans (.traceEntry _ _ b 0 i 0 0)

/-- Raise the events of a list that P names at the page base b. -/
def State.raiseList (s : State) (b : Nat) (P : Nat → Bool) (l : List Nat) : State :=
  l.foldl (fun s i => if P i then s.raiseAlways b i else s) s

theorem State.raiseList_cons (s : State) (b : Nat) (P : Nat → Bool) (i : Nat) (l : List Nat) :
    s.raiseList b P (i :: l) = (if P i then s.raiseAlways b i else s).raiseList b P l := rfl

/-- EVT_SET raises the page's events written as ones. -/
theorem State.evtSet_eq (s : State) (b : Nat) (ty : PageTy) (v : Word) :
    s.evtSet b ty v = s.raiseList b (fun i => v.getLsbD i && (evtMask ty).testBit i) (List.range 32) := rfl

/-- Raising the events of a list that P names sets their bits of EVT_STAT. -/
theorem State.raiseList_evtStat (b : Nat) (P : Nat → Bool) (l : List Nat) (hl : ∀ i ∈ l, i < 32) (s : State) (j : Nat) :
    ((s.raiseList b P l).rd (b + 0x14)).getLsbD j = ((s.rd (b + 0x14)).getLsbD j || (decide (j ∈ l) && P j)) := by
  induction l generalizing s with
  | nil => simp [State.raiseList]
  | cons i l ih =>
    rw [State.raiseList_cons, ih fun x hx => hl x (List.mem_cons_of_mem _ hx)]
    by_cases hP : P i = true
    · rw [if_pos hP, s.raiseAlways_evtStat b (hl i List.mem_cons_self)]
      by_cases e : j = i
      · simp [e, hP]
      · simp [e]
    · by_cases e : j = i
      · simp [e, hP]
      · simp [hP, e]

theorem State.raiseList_onlyRegs (b : Nat) (P : Nat → Bool) (l : List Nat) (s : State) :
    OnlyRegs [b + 0x14] s (s.raiseList b P l) := by
  induction l generalizing s with
  | nil => exact .refl _ s
  | cons i l ih =>
    rw [State.raiseList_cons]
    refine OnlyRegs.trans ?_ (ih _)
    split
    · exact s.raiseAlways_onlyRegs b i
    · exact .refl _ s

/-- EVT_SET sets in EVT_STAT the page's events written as ones (R23), and no reserved bit (R1). -/
theorem State.evtSet_evtStat (s : State) (b : Nat) (ty : PageTy) (v : Word) :
    (s.evtSet b ty v).rd (b + 0x14) = s.rd (b + 0x14) ||| v &&& BitVec.ofNat 32 (evtMask ty) := by
  apply BitVec.eq_of_getLsbD_eq
  intro j hj
  rw [State.evtSet_eq, State.raiseList_evtStat _ _ _ (fun i => List.mem_range.1)]
  simp only [BitVec.getLsbD_or, BitVec.getLsbD_and, BitVec.getLsbD_ofNat, List.mem_range, hj, decide_true, Bool.true_and]

theorem State.evtSet_onlyRegs (s : State) (b : Nat) (ty : PageTy) (v : Word) : OnlyRegs [b + 0x14] s (s.evtSet b ty v) :=
  State.raiseList_onlyRegs b _ _ s

/-! ### Writes of the page header -/

/-- REGISTER_WRITE of a header register completes with the header's write. -/
theorem registerWrite_header {s : State} {path p o inst : Nat} {ty : PageTy} (h0 : s.power.off = false)
    (hs : s.hears path = true) (hp : pageAt p = some (ty, inst)) (hl : s.listed p = true) (hh : hasHeader ty = true)
    (ho : o < 0x40) (h4 : o % 4 = 0) (v : Word) :
    Completes (.registerWrite path (p * 4096 + o) v) s (s.headerWrite path (p * 4096) o ty inst v) := by
  have hlt := page_lt_of_pageAt hp
  have hdiv : (p * 4096 + o) / 4096 = p := by omega
  have hmod : (p * 4096 + o) % 4096 = o := by omega
  have hw : s.writeReg path (p * 4096 + o) v = s.headerWrite path (p * 4096) o ty inst v := by
    rw [writeReg_header (hdiv.symm ▸ hl) (hdiv.symm ▸ hp) hh (hmod.symm ▸ ho), hmod, Nat.add_sub_cancel]
  rw [← hw]
  refine (State.heard_on h0 hs).trans ?_
  rw [if_pos (by omega)]

/-- Settles O11: each header write is one register write, or for EVT_SET a fold of them over the page's events. -/
theorem headerWritesChangeTheirRegisterAlone : Obligations.HeaderWritesChangeTheirRegisterAlone := by
  intro s path p v ty inst h0 hs hp hl hh
  have done {o : Nat} (ho : o < 0x40) (h4 : o % 4 = 0) := registerWrite_header h0 hs hp hl hh ho h4 v
  refine ⟨⟨_, done (by decide) (by decide), ?_⟩, ⟨_, done (by decide) (by decide), ?_⟩, ⟨_, State.live_on h0, ?_⟩⟩
  · have k := OnlyRegs.wr_self s (p * 4096 + 0x18) (v &&& BitVec.ofNat 32 (evtMask ty))
    exact ⟨s.rd_wr_same _ _, k.regs, k.bytes, k.parts⟩
  · have k := OnlyRegs.wr_self s (p * 4096 + 0x14) (s.rd (p * 4096 + 0x14) &&& ~~~v)
    exact ⟨s.rd_wr_same _ _, k.regs, k.bytes, k.parts⟩
  · have k := s.evtSet_onlyRegs (p * 4096) ty v
    simp only [State.onPage, hp, hl, hh, Bool.and_self, if_true]
    exact ⟨s.evtSet_evtStat (p * 4096) ty v, k.regs, k.bytes, k.parts⟩

/-! ### What a register read leaves alone -/

/-- What decides that an access is answered, and what has been sent, stand in t as in s: the outputs, power, D3hot and
the size table, after which the directory lists the dies' pages (R21). -/
structure SameAccess (s t : State) : Prop where
  out : t.out = s.out
  power : t.power = s.power
  d3 : t.host.d3 = s.host.d3
  sizes : ∀ a, a / 4096 = 2 → t.rd a = s.rd a

/-- Updates that leave the outputs, the registers, power and D3hot. -/
theorem sameAccess_of_eq {s t : State} (ho : t.out = s.out) (hr : t.regs = s.regs) (hp : t.power = s.power)
    (hd : t.host.d3 = s.host.d3) : SameAccess s t := ⟨ho, hp, hd, fun a _ => State.rd_congr hr a⟩

theorem SameAccess.refl (s : State) : SameAccess s s := sameAccess_of_eq rfl rfl rfl rfl

theorem SameAccess.trans {s t u : State} (h : SameAccess s t) (k : SameAccess t u) : SameAccess s u :=
  ⟨k.out.trans h.out, k.power.trans h.power, k.d3.trans h.d3, fun a ha => (k.sizes a ha).trans (h.sizes a ha)⟩

/-- A write of a register above the size table's page. -/
theorem SameAccess.wr (s : State) {a : Nat} (ha : 0x3000 ≤ a) (v : Word) : SameAccess s (s.wr a v) :=
  ⟨rfl, rfl, rfl, fun _ hb => s.rd_wr_ne v (by omega)⟩

theorem SameAccess.hears {s t : State} (h : SameAccess s t) (path : Nat) : t.hears path = s.hears path := by
  simp only [State.hears, h.d3]

theorem SameAccess.listed {s t : State} (h : SameAccess s t) (p : Nat) : t.listed p = s.listed p := by
  have size (f : Fld) {d : Nat} (hd : d < 4) (hf : f.off < 0x100) :
      t.get SIZE_TABLE_B (f.at d 4) = s.get SIZE_TABLE_B (f.at d 4) := by
    simp only [State.get, Fld.at]
    rw [h.sizes _ (by simp only [SIZE_TABLE_B]; omega)]
  have present (d : Nat) : t.diePresent d = s.diePresent d := by
    by_cases hd : d < 4
    · simp only [State.diePresent, State.bit, size SIZE_TABLE.DIE_SHAPE_PRESENT hd (by decide)]
    · simp [State.diePresent, hd]
  have rows (d : Nat) : t.dieRows d = s.dieRows d := by
    by_cases hd : d < 4
    · simp only [State.dieRows, size SIZE_TABLE.DIE_SHAPE_LOG_ROWS hd (by decide)]
    · simp [State.dieRows, hd]
  simp only [State.listed, present, rows]

/-! ### Reads of a pair -/

/-- Does a read of the register take something: from its block (R7: RC), a source (R482), or a free value? All of BELFRY
counts, as its page has no pair. -/
def readTakes (ty : PageTy) (off : Nat) : Bool :=
  match ty with
  | .TILE => decide (off = 0xAC)
  | .MENG => decide (off = 0x84 ∨ off = 0x88)
  | .TIME => decide (0x280 ≤ off)
  | .PORT => decide (off = 0x48 ∨ off = 0x60 ∨ off = 0x64)
  | .XRDS => decide (off = 0x54 ∨ off = 0x5C)
  | .MILLRACE => decide (off = 0xB8)
  | .HOSTWIN => decide (off = 0x4C)
  | .BELFRY => true
  | .CAL => decide (0x68 ≤ off ∧ off ≠ 0x68 ∧ off ≠ 0x6C ∧ off ≠ 0x70)
  | .LOG => decide (off = 0x13C)
  | _ => false

theorem findRow_mem {off k : Nat} {r : RegRow} {l : List RegRow} (h : findRow off l = some (r, k)) :
    r ∈ l ∧ k < r.count ∧ off = r.off + r.stride * k := by
  induction l with
  | nil => simp [findRow] at h
  | cons x l ih =>
    rw [findRow] at h
    split at h
    · rename_i hx
      obtain ⟨rfl, rfl⟩ := Prod.mk.inj (Option.some.inj h)
      obtain ⟨hle, hmod, hlt⟩ := hx
      exact ⟨List.mem_cons_self, hlt, by rw [Nat.mul_div_cancel' (Nat.dvd_of_mod_eq_zero hmod)]; omega⟩
    · obtain ⟨hm, hk⟩ := ih h
      exact ⟨List.mem_cons_of_mem _ hm, hk⟩

/-- No row that is half of a pair takes something at its read: the tables of the page sections, row by row. -/
theorem pairRows_take_nothing (ty : PageTy) :
    ∀ r ∈ pageRows ty, r.pair = 0 ∨ ∀ k < r.count, readTakes ty (r.off + r.stride * k) = false := by
  cases ty <;> decide

theorem readTakes_of_pairHalf {ty : PageTy} {inst off k : Nat} {r : RegRow} (hr : rowIn ty inst off = some (r, k))
    (h : pairHalf ty off r ≠ 0) : readTakes ty off = false := by
  by_cases hi : ty = .TIME ∧ (off = 0x5C ∨ off = 0x60)
  · obtain ⟨rfl, rfl | rfl⟩ := hi <;> rfl
  · have e : pairHalf ty off r = r.pair := by
      rw [pairHalf, if_neg fun c => hi ⟨c.1, .inl c.2⟩, if_neg fun c => hi ⟨c.1, .inr c.2⟩]
    rw [e] at h
    rw [rowIn] at hr
    split at hr
    · cases hr
    · obtain ⟨hm, hk, rfl⟩ := findRow_mem hr
      exact (pairRows_take_nothing ty r hm).resolve_left h k hk

/-- A read that takes nothing leaves the state, where it is none of a TILE page. -/
theorem view_state {ty : PageTy} {off : Nat} (h : readTakes ty off = false) (hT : ty ≠ .TILE) (s : State) (path inst v : Nat) :
    (s.view path ty inst off v).2 = s := by
  cases ty with
  | TILE => exact absurd rfl hT
  | MENG =>
    obtain ⟨h84, h88⟩ := not_or.1 (of_decide_eq_false h)
    simp only [State.view, State.mengView, h84, h88, if_false, apply_ite Prod.snd, ite_self]
  | TIME =>
    have h280 : ¬ 0x280 ≤ off := of_decide_eq_false h
    simp only [State.view, State.timeView, h280, false_and, if_false, apply_ite Prod.snd, ite_self]
  | PORT =>
    obtain ⟨h48, h60, h64⟩ : ¬ off = 0x48 ∧ ¬ off = 0x60 ∧ ¬ off = 0x64 := by simpa [readTakes] using h
    simp only [State.view, State.portRead, h48, h60, h64, if_false]
  | XRDS =>
    obtain ⟨h54, h5C⟩ := not_or.1 (of_decide_eq_false h)
    simp only [State.view, h54, h5C, if_false, apply_ite Prod.snd, ite_self]
  | MILLRACE =>
    have hB8 : ¬ off = 0xB8 := of_decide_eq_false h
    simp only [State.view, hB8, if_false, apply_ite Prod.snd, ite_self]
  | HOSTWIN =>
    have h4C : ¬ off = 0x4C := of_decide_eq_false h
    simp only [State.view, h4C, if_false]
  | BELFRY => cases h
  | CAL =>
    have hc : 0x68 ≤ off → off = 0x68 ∨ off = 0x6C ∨ off = 0x70 := by
      have := of_decide_eq_false h
      omega
    simp only [State.view]
    split
    · rename_i h68
      rcases hc h68 with rfl | rfl | rfl <;> rfl
    · rfl
  | LOG =>
    have h13C : ¬ off = 0x13C := of_decide_eq_false h
    simp only [State.view, h13C, if_false]
  | _ => simp only [State.view, apply_ite Prod.snd, ite_self]

/-- A read that takes nothing changes neither access nor outputs: of a tile, BANK_CONF may have grown (R80). -/
theorem view_sameAccess {ty : PageTy} {off : Nat} (h : readTakes ty off = false) (s : State) (path inst v : Nat) :
    SameAccess s (s.view path ty inst off v).2 := by
  by_cases hT : ty = .TILE
  · subst hT
    have hg : 0x3000 ≤ TILE_B inst := by simp only [TILE_B, dieBase]; omega
    have h : off ≠ 0xAC := of_decide_eq_false h
    simp only [State.view, State.tileView, if_neg h]
    split_ifs
    · exact .refl s
    · exact .refl s
    · exact ((sameAccess_of_eq rfl rfl rfl rfl : SameAccess s s.freeVal.2).trans
        (.wr _ (by omega) _)).trans (.wr _ (by omega) _)
    · exact .refl s
  · rw [view_state h hT]
    exact .refl s

theorem freeBits_sameAccess (s : State) (v m : Nat) : SameAccess s (s.freeBits v m).2 := by
  unfold State.freeBits
  split
  · exact .refl s
  · exact sameAccess_of_eq rfl rfl rfl rfl

theorem rowValue_sameAccess {ty : PageTy} {a : Nat} (h : readTakes ty (a % 4096) = false) (s : State) (path inst : Nat) :
    SameAccess s (s.rowValue path ty inst a).2 :=
  (view_sameAccess h s path inst _).trans (freeBits_sameAccess _ _ _)

/-- Hold a capture of a high half, or give it up (R3). -/
def State.setShadow (s : State) (k : Nat) (w : Option Word) : State := { s with shadow := zset s.shadow k w }

@[simp] theorem State.setShadow_shadow (s : State) (k : Nat) (w : Option Word) : (s.setShadow k w).shadow = zset s.shadow k w := rfl

theorem setShadow_sameAccess (s : State) (k : Nat) (w : Option Word) : SameAccess s (s.setShadow k w) := sameAccess_of_eq rfl rfl rfl rfl

theorem OnlyRegs.setShadow {l : List Nat} (s : State) (k : Nat) (w : Option Word) : OnlyRegs l s (s.setShadow k w) :=
  onlyRegs_of_eq rfl rfl rfl (by simp [SameParts, State.setShadow])

/-- The capture of a pair: the high half as it reads now, and of NOW the fraction too (R274). -/
theorem shadowPair_eq (s : State) (path : Nat) (ty : PageTy) (inst a : Nat) :
    s.shadowPair path ty inst a =
      if ty = .TIME ∧ a % 4096 = 0x48 then
        ((s.rowValue path ty inst (a + 4)).2.setShadow (pkey path (canon (a + 4)))
          (some (BitVec.ofNat 32 (s.rowValue path ty inst (a + 4)).1))).setShadow (pkey path (a + 8))
          (some (BitVec.ofNat 32 (s.rowValue path ty inst (a + 4)).2.time.clock))
      else (s.rowValue path ty inst (a + 4)).2.setShadow (pkey path (canon (a + 4)))
        (some (BitVec.ofNat 32 (s.rowValue path ty inst (a + 4)).1)) := rfl

theorem OnlyRegs.shadowPair {l : List Nat} {s : State} {path inst a : Nat} {ty : PageTy}
    (h : OnlyRegs l s (s.rowValue path ty inst (a + 4)).2) : OnlyRegs l s (s.shadowPair path ty inst a) := by
  rw [shadowPair_eq]
  split
  · exact (h.trans (.setShadow _ _ _)).trans (.setShadow _ _ _)
  · exact h.trans (.setShadow _ _ _)

theorem OnlyRegs.emit {l : List Nat} (s : State) (k : OutKind) (x : List Nat) : OnlyRegs l s (s.emit k x) :=
  onlyRegs_of_eq rfl rfl rfl (by simp [SameParts])

/-- Hold a path's write of the low half at a (R3, R4). -/
def State.holdLow (s : State) (path a : Nat) (v : Word) : State :=
  { s with held := zset s.held (pkey path (canon a)) (some v) }

@[simp] theorem State.heldLow_holdLow (s : State) (path a : Nat) (v : Word) : (s.holdLow path a v).heldLow path a = v := by
  simp [State.heldLow, State.holdLow]

theorem OnlyRegs.holdLow {l : List Nat} (s : State) (path a : Nat) (v : Word) : OnlyRegs l s (s.holdLow path a v) :=
  onlyRegs_of_eq rfl rfl rfl (by simp [SameParts, State.holdLow])

/-- The registers at a and a + 4 of a page with a header are a pair (R3), with rows r and q. -/
structure PairAt (a : Nat) (ty : PageTy) (inst : Nat) (r q : RegRow) : Prop where
  page : pageAt (a / 4096) = some (ty, inst)
  header : hasHeader ty = true
  aligned : a % 4 = 0
  low : 0x40 ≤ a % 4096
  within : a % 4096 + 4 < 4096
  rowLow : ∃ k, rowIn ty inst (a % 4096) = some (r, k)
  halfLow : pairHalf ty (a % 4096) r = 1
  rowHigh : ∃ j, rowIn ty inst (a % 4096 + 4) = some (q, j)
  halfHigh : pairHalf ty (a % 4096 + 4) q = 2

section Pair
variable {s : State} {path a inst : Nat} {ty : PageTy} {r q : RegRow} (P : PairAt a ty inst r q)
include P

theorem PairAt.page_high : (a + 4) / 4096 = a / 4096 := by have := P.within; omega
theorem PairAt.off_high : (a + 4) % 4096 = a % 4096 + 4 := by have := P.within; omega
theorem PairAt.lt : a + 4 < 2 ^ 26 := by
  have := page_lt_of_pageAt P.page
  have := P.within
  omega

theorem PairAt.low_takes_nothing : readTakes ty (a % 4096) = false := by
  obtain ⟨k, hr⟩ := P.rowLow
  exact readTakes_of_pairHalf hr (by simp [P.halfLow])

theorem PairAt.high_takes_nothing : readTakes ty ((a + 4) % 4096) = false := by
  obtain ⟨j, hq⟩ := P.rowHigh
  rw [P.off_high]
  exact readTakes_of_pairHalf hq (by simp [P.halfHigh])

/-- The capture of the high half changes neither access nor outputs. -/
theorem PairAt.shadowPair_sameAccess (s : State) (path : Nat) : SameAccess s (s.shadowPair path ty inst a) := by
  have h := rowValue_sameAccess P.high_takes_nothing s path inst
  rw [shadowPair_eq]
  split
  · exact (h.trans (setShadow_sameAccess _ _ _)).trans (setShadow_sameAccess _ _ _)
  · exact h.trans (setShadow_sameAccess _ _ _)

/-- The high half's capture is what it reads as then, also where NOW_FRAC is captured beside it. -/
theorem PairAt.shadowPair_capture (s : State) (path : Nat) :
    zget (s.shadowPair path ty inst a).shadow (pkey path (canon (a + 4)))
      = some (BitVec.ofNat 32 (s.rowValue path ty inst (a + 4)).1) := by
  rw [shadowPair_eq]
  split
  · rename_i h
    obtain ⟨rfl, ho⟩ := h
    have hc : canon (a + 4) = a + 4 := by simp [canon, P.page_high, P.page]
    rw [hc]
    have hk : pkey path (a + 4) ≠ pkey path (a + 8) := by simp only [pkey]; omega
    rw [State.setShadow_shadow, zget_zset_ne _ _ hk, State.setShadow_shadow, zget_zset_same]
  · rw [State.setShadow_shadow, zget_zset_same]

/-- The state after a read of the low half. -/
theorem PairAt.readReg_low (hl : s.listed (a / 4096) = true) : s.readReg path a
    = ((s.rowValue path ty inst a).1, (s.rowValue path ty inst a).2.shadowPair path ty inst a) := by
  obtain ⟨k, hr⟩ := P.rowLow
  rw [readReg_row hl P.page P.header P.low hr]
  simp only [State.rowRead, P.halfLow, if_true]

/-- A read of the high half that the path has captured gives the capture, once. -/
theorem PairAt.readReg_high (hl : s.listed (a / 4096) = true) {w : Word}
    (hw : zget s.shadow (pkey path (canon (a + 4))) = some w) : s.readReg path (a + 4)
    = (w.toNat, s.setShadow (pkey path (canon (a + 4))) none) := by
  obtain ⟨j, hq⟩ := P.rowHigh
  rw [← P.off_high] at hq
  have hh := P.halfHigh
  rw [← P.off_high] at hh
  rw [readReg_row (P.page_high ▸ hl) (P.page_high ▸ P.page) P.header (by rw [P.off_high]; have := P.low; omega) hq]
  simp [State.rowRead, State.setShadow, hh, hw]

section Exec
variable (h0 : s.power.off = false) (hs : s.hears path = true) (hl : s.listed (a / 4096) = true)
include h0 hs hl

/-- PAIR_LOW_READ of the low half answers it and captures the high half. -/
theorem PairAt.pairLowRead_low : Completes (.pairLowRead path a) s
    (State.answer ((s.rowValue path ty inst a).1, (s.rowValue path ty inst a).2.shadowPair path ty inst a)) := by
  have := P.lt
  rw [← P.readReg_low hl]
  refine (State.heard_on h0 hs).trans ?_
  rw [if_pos ⟨P.aligned, by omega⟩]

/-- PAIR_LOW_READ of the high half after it answers the capture. -/
theorem PairAt.pairLowRead_high {w : Word} (hw : zget s.shadow (pkey path (canon (a + 4))) = some w) :
    Completes (.pairLowRead path (a + 4)) s
      (State.answer (w.toNat, s.setShadow (pkey path (canon (a + 4))) none)) := by
  have := P.lt
  have := P.aligned
  rw [← P.readReg_high hl hw]
  refine (State.heard_on h0 hs).trans ?_
  rw [if_pos (by omega)]

/-- The reads of both halves answer the pair as it stands at the first (R3), and change no register that reading the
halves' values does not. -/
theorem PairAt.reads_whole : ∃ t u : State, exec (.pairLowRead path a) s = .next t
    ∧ t.out = s.out ++ [(.read, [(s.rowValue path ty inst a).1])]
    ∧ exec (.pairLowRead path (a + 4)) t = .next u
    ∧ u.out = t.out ++ [(.read, [((s.rowValue path ty inst a).2.rowValue path ty inst (a + 4)).1 % 2 ^ 32])]
    ∧ ∀ l, OnlyRegs l s (s.rowValue path ty inst a).2 →
      OnlyRegs l (s.rowValue path ty inst a).2 ((s.rowValue path ty inst a).2.rowValue path ty inst (a + 4)).2 →
      OnlyRegs l s t ∧ OnlyRegs l s u := by
  have k := (rowValue_sameAccess P.low_takes_nothing s path inst).trans (P.shadowPair_sameAccess _ path)
  have hc := P.shadowPair_capture (s.rowValue path ty inst a).2 path
  have e := P.pairLowRead_low h0 hs hl
  have frame (l : List Nat) (h : OnlyRegs l s (s.rowValue path ty inst a).2)
      (h' : OnlyRegs l (s.rowValue path ty inst a).2 ((s.rowValue path ty inst a).2.rowValue path ty inst (a + 4)).2) :
      OnlyRegs l s ((s.rowValue path ty inst a).2.shadowPair path ty inst a) := h.trans (.shadowPair h')
  generalize (s.rowValue path ty inst a).2.shadowPair path ty inst a = x at k hc e frame
  refine ⟨_, _, e, ?_, P.pairLowRead_high ?_ ?_ ?_ hc, ?_, ?_⟩
  · exact congrArg (· ++ _) k.out
  · exact (congrArg PowerSt.off k.power).trans h0
  · exact (k.hears path).trans hs
  · exact (k.listed _).trans hl
  · simp [State.answer, State.setShadow]
  · intro l h h'
    have ht : OnlyRegs l s { x.emit .read [(s.rowValue path ty inst a).1] with pending := s.pending } :=
      ((frame l h h').trans (.emit x _ _)).pending _
    exact ⟨ht, ((ht.trans (.setShadow _ _ _)).trans (.emit _ _ _)).pending _⟩

/-- PAIR_LOW_WRITE completes with the low half's row write. -/
theorem PairAt.pairLowWrite (v : Word) :
    Completes (.pairLowWrite path a v) s (s.rowWrite path ty inst (a - a % 4096) (a % 4096) r v) := by
  obtain ⟨k, hr⟩ := P.rowLow
  rw [← writeReg_row hl P.page P.header P.low hr]
  refine (State.heard_on h0 hs).trans ?_
  rw [if_pos ⟨P.aligned, (halfAt_row hl P.page P.header P.low hr).trans P.halfLow⟩]

/-- PAIR_HIGH_WRITE completes with its row's write: what the path holds of the low half goes with it. -/
theorem PairAt.pairHighWrite (v : Word) : Completes (.pairHighWrite path (a + 4) v) s
    (if q.readOnly then s else s.pairWrite path ty a (s.heldLow path a) v) := by
  obtain ⟨j, hq⟩ := P.rowHigh
  have hh := P.halfHigh
  rw [← P.off_high] at hq hh
  have ho : 0x40 ≤ (a + 4) % 4096 := by rw [P.off_high]; have := P.low; omega
  have hb : a + 4 - (a + 4) % 4096 + (a + 4) % 4096 - 4 = a := by omega
  have hrow : s.rowWrite path ty inst (a + 4 - (a + 4) % 4096) ((a + 4) % 4096) q v
      = if q.readOnly then s else s.pairWrite path ty a (s.heldLow path a) v := by
    simp only [State.rowWrite, hh, hb]
  have h4 : (a + 4) % 4 = 0 := by have := P.aligned; omega
  have hl' := P.page_high ▸ hl
  have hp' := P.page_high ▸ P.page
  rw [← hrow, ← writeReg_row hl' hp' P.header ho hq]
  refine (State.heard_on h0 hs).trans ?_
  rw [if_pos ⟨h4, (halfAt_row hl' hp' P.header ho hq).trans hh⟩]

/-- A low half that is read-only takes no write. -/
theorem PairAt.pairLowWrite_readOnly (hr : r.readOnly = true) (v : Word) : Completes (.pairLowWrite path a v) s s := by
  have h := P.pairLowWrite h0 hs hl v
  simpa only [State.rowWrite, P.halfLow, hr, if_true] using h

/-- STEP_LO records STEP_BUSY while GO reads 1 (R276). -/
theorem PairAt.pairLowWrite_busy (hr : r.readOnly = false) (hb : s.lowBusy ty (a % 4096) = true) (v : Word) :
    Completes (.pairLowWrite path a v) s (s.stepBusy path) := by
  have h := P.pairLowWrite h0 hs hl v
  simpa only [State.rowWrite, P.halfLow, hr, hb, if_true, Bool.false_eq_true, if_false] using h

/-- Another write of a low half is held for its path (R3, R4). -/
theorem PairAt.pairLowWrite_held (hr : r.readOnly = false) (hb : s.lowBusy ty (a % 4096) = false) (v : Word) :
    Completes (.pairLowWrite path a v) s (s.holdLow path a v) := by
  have h := P.pairLowWrite h0 hs hl v
  have e : a - a % 4096 + a % 4096 = a := Nat.sub_add_cancel (Nat.mod_le _ _)
  simpa only [State.rowWrite, P.halfLow, hr, hb, Bool.false_eq_true, if_false, e, State.holdLow] using h

end Exec
end Pair

/-! ### The pairs SERIAL and PLAN_T -/

/-- Software writes every bit of the register (R7: RW). -/
structure RegRow.AllRW (r : RegRow) : Prop where
  rw : r.rw = 0xFFFFFFFF
  w1c : r.w1c = 0
  w1s : r.w1s = 0

theorem RegRow.AllRW.not_readOnly {r : RegRow} (h : r.AllRW) : r.readOnly = false := by simp [RegRow.readOnly, h.rw]

theorem RegRow.AllRW.mergeWrite {r : RegRow} (h : r.AllRW) (old v : Word) : mergeWrite r old v = v := by
  have ones (x : Word) : x &&& 0xFFFFFFFF#32 = x := BitVec.and_allOnes
  simp [Machine.mergeWrite, h.rw, h.w1c, h.w1s, ones]

/-- The write of a plain pair that software writes in every bit stores both halves. -/
theorem PairAt.plainPair {a inst : Nat} {ty : PageTy} {r q : RegRow} (P : PairAt a ty inst r q) (hr : r.AllRW) (hq : q.AllRW)
    (hp : perPath ty (a % 4096) = false) (hp' : perPath ty (a % 4096 + 4) = false) (s : State) (path : Nat) (lo hi : Word) :
    s.plainPair path ty a lo hi = (s.wr (canon a) lo).wr (canon (a + 4)) hi := by
  obtain ⟨k, hk⟩ := P.rowLow
  obtain ⟨j, hj⟩ := P.rowHigh
  have ho := P.low
  have rowLo : rowAt a = some r := by simp [rowAt, P.page, P.header, Nat.not_lt.2 ho, hk]
  have rowHi : rowAt (a + 4) = some q := by
    simp [rowAt, P.page_high, P.off_high, P.page, P.header, hj, Nat.not_lt.2 (Nat.le_add_right_of_le ho)]
  simp only [State.plainPair, rowLo, rowHi, State.plainWrite, P.off_high, hp, hp', Bool.false_eq_true, if_false, hr.mergeWrite,
    hq.mergeWrite]

/-- MODULE.SERIAL is a pair (R34). -/
theorem serial_pair : ∃ r q, PairAt (MODULE_B + 0x40) .MODULE 0 r q :=
  ⟨_, _, rfl, rfl, rfl, by decide, by decide, ⟨_, rfl⟩, rfl, ⟨_, rfl⟩, rfl⟩

/-- CROSSROADS.PLAN_T is a pair (R378). -/
theorem planT_pair : ∃ r q, PairAt (XRDS_B + 0x6C) .XRDS 0 r q ∧ r.AllRW ∧ q.AllRW :=
  ⟨_, _, ⟨rfl, rfl, rfl, by decide, by decide, ⟨_, rfl⟩, rfl, ⟨_, rfl⟩, rfl⟩, ⟨rfl, rfl, rfl⟩, ⟨rfl, rfl, rfl⟩⟩

/-- The hub's pages are listed in every state (R20). -/
theorem listed_of_hub (s : State) {p : Nat} {x : PageTy × Nat} (h : pageAt p = some x) (hp : p < 0x200) : s.listed p = true := by
  simp [State.listed, h, hp]

/-- A register of MODULE reads as it is stored. -/
theorem rowValue_module (s : State) (path a : Nat) : s.rowValue path .MODULE 0 a = ((s.rd (canon a)).toNat, s) := rfl

/-- The write of PLAN_T stores both halves while the staged plan is not ARMED (R378). -/
theorem planT_pairWrite {s : State} (h : s.stageSt ≠ sgARMED) (path : Nat) (lo hi : Word) :
    s.pairWrite path .XRDS (XRDS_B + 0x6C) lo hi = (s.wr (XRDS_B + 0x6C) lo).wr (XRDS_B + 0x70) hi := by
  obtain ⟨r, q, P, hr, hq⟩ := planT_pair
  simp only [State.pairWrite, h, and_false, if_false]
  exact P.plainPair hr hq rfl rfl s path lo hi

/-- Settles O12: a read of the low half captures the high one and a write of it is held, so that both are whole. -/
theorem pairReadsAndWritesAreWhole : Obligations.PairReadsAndWritesAreWhole := by
  intro s path h0 hs _
  refine ⟨?_, ?_, ?_⟩
  · obtain ⟨r, q, P⟩ := serial_pair
    obtain ⟨t, u, ht, hto, hu, huo, frame⟩ := P.reads_whole h0 hs (listed_of_hub s P.page (by decide))
    simp only [rowValue_module] at hto huo frame
    obtain ⟨ft, fu⟩ := frame [] (.refl _ s) (.refl _ s)
    refine ⟨t, u, ht, hto, ft.regs, ft.bytes, ft.parts, hu, ?_, fu.regs, fu.bytes, fu.parts⟩
    rw [huo, Nat.mod_eq_of_lt (BitVec.isLt _)]
    rfl
  · intro lo hi hne
    obtain ⟨r, q, P, hr, hq⟩ := planT_pair
    have hl := listed_of_hub s P.page (by decide)
    have low := P.pairLowWrite_held h0 hs hl hr.not_readOnly (by simp [State.lowBusy]) lo
    have high := P.pairHighWrite (s := s.holdLow path (XRDS_B + 0x6C) lo) h0 hs hl hi
    have hne' : (s.holdLow path (XRDS_B + 0x6C) lo).stageSt ≠ sgARMED := hne
    rw [if_neg (by simp [hq.not_readOnly]), State.heldLow_holdLow, planT_pairWrite hne'] at high
    have ft : OnlyRegs [] s (s.holdLow path (XRDS_B + 0x6C) lo) := .holdLow ..
    have fu := (OnlyRegs.holdLow s path (XRDS_B + 0x6C) lo).trans
      (.wr_pair _ (XRDS_B + 0x6C) (XRDS_B + 0x70) lo hi)
    exact ⟨_, _, low, ft.regs, ft.bytes, ft.parts, high, (State.rd_wr_ne _ _ (by decide)).trans (State.rd_wr_same ..),
      State.rd_wr_same .., fu.regs, fu.bytes, fu.parts⟩
  · intro a lo hi ty inst k j r q hl hp hh h4 h40 hw hr hr1 hq hq2
    have P : PairAt a ty inst r q := ⟨hp, hh, h4, h40, hw, ⟨k, hr⟩, hr1, ⟨j, hq⟩, hq2⟩
    obtain ⟨t, u, ht, hto, hu, huo, -⟩ := P.reads_whole h0 hs hl
    have high := P.pairHighWrite h0 hs hl hi
    refine ⟨⟨t, u, ht, hto, hu, huo⟩, fun e => P.pairLowWrite_readOnly h0 hs hl e lo,
      fun e b => P.pairLowWrite_busy h0 hs hl e b lo, fun e b => P.pairLowWrite_held h0 hs hl e b lo, ?_, ?_, ?_⟩
    · intro e
      rwa [if_pos e] at high
    · intro e hz
      rwa [e, State.heldLow, hz] at high
    · intro e hz
      rwa [e, State.heldLow, hz] at high

end Sys2Proof.Machine

/-!
PROOFS. The architecture's commands (01_architecture.md): error capture, the page header's ENABLE, quiesce and block reset,
the reference clock, and the values at reset.
-/

namespace Sys2Proof.Machine

/-! ### Registers that an update writes -/

theorem OnlyRegs.put {l : List Nat} {a : Nat} {f : Fld} (h : a + f.off ∈ l) (s : State) (v : Nat) :
    OnlyRegs l s (s.put a f v) := .wr h s _

theorem OnlyRegs.inc {l : List Nat} {a : Nat} {f : Fld} (h : a + f.off ∈ l) (s : State) : OnlyRegs l s (s.inc a f) := .put h s _

theorem OnlyRegs.put64 {l : List Nat} {a : Nat} {f : Fld} (h : a + f.off ∈ l) (h' : a + f.off + 4 ∈ l) (s : State) (v : Nat) :
    OnlyRegs l s (s.put64 a f v) := (OnlyRegs.wr h s _).trans (.wr h' _ _)

theorem OnlyRegs.mono {l m : List Nat} {s t : State} (h : OnlyRegs l s t) (hs : l ⊆ m) : OnlyRegs m s t :=
  ⟨⟨fun a ha => h.regs.1 a fun c => ha (hs c), h.regs.2⟩, h.bytes, h.parts⟩

/-- A field of a register that is not listed. -/
theorem SameRegsBut.get_eq {l : List Nat} {s t : State} (h : SameRegsBut l s t) {a : Nat} {f : Fld} (ha : a + f.off ∉ l) :
    t.get a f = s.get a f := congrArg (fget · f) (h.1 _ ha)

theorem SameRegsBut.bit_eq {l : List Nat} {s t : State} (h : SameRegsBut l s t) {a : Nat} {f : Fld} (ha : a + f.off ∉ l) :
    t.bit a f = s.bit a f := by rw [State.bit, State.bit, h.get_eq ha]

/-- Whether a page operates, where its PAGE_CTRL is not listed. -/
theorem SameRegsBut.on_eq {l : List Nat} {s t : State} (h : SameRegsBut l s t) {a : Nat} (ha : a + 0x0C ∉ l) :
    t.on a = s.on a := by rw [State.on, State.on, h.bit_eq ha, h.bit_eq ha]

theorem State.rd_put64_ne (s : State) {a b : Nat} {f : Fld} (v : Nat) (h : b ≠ a + f.off) (h' : b ≠ a + f.off + 4) :
    (s.put64 a f v).rd b = s.rd b := by
  rw [State.put64, State.rd_wr_ne _ _ h', State.rd_wr_ne _ _ h]

theorem State.get_put64_ne (s : State) {a b : Nat} {f g : Fld} (v : Nat) (h : b + g.off ≠ a + f.off)
    (h' : b + g.off ≠ a + f.off + 4) : (s.put64 a f v).get b g = s.get b g := by
  simp only [State.get, s.rd_put64_ne v h h']

theorem State.get64_put64 (s : State) (a : Nat) (f : Fld) (v : Nat) : (s.put64 a f v).get64 a f = v % 2 ^ 64 := by
  simp only [State.get64, State.put64, State.rd_wr_same, State.rd_wr_ne _ _ (show a + f.off ≠ a + f.off + 4 by omega),
    BitVec.toNat_ofNat]
  omega

theorem State.get64_traceEntry (s : State) (a k b c x o : Nat) (f : Fld) : (s.traceEntry a k b c x).get64 o f = s.get64 o f := rfl

theorem State.bit_put_same (s : State) (a : Nat) (f : Fld) (v : Nat) (h : f.hi = f.lo) (h2 : f.hi < 32) :
    (s.put a f v).bit a f = decide (v % 2 = 1) := by
  simp [State.bit, s.get_put_same a f v h.ge h2, h]

theorem State.get_inc_same (s : State) (a : Nat) (f : Fld) (h1 : f.lo ≤ f.hi) (h2 : f.hi < 32) :
    (s.inc a f).get a f = min (s.get a f + 1) f.max := by
  have : f.max < 2 ^ (f.hi + 1 - f.lo) := Nat.sub_lt (Nat.two_pow_pos _) Nat.one_pos
  rw [State.inc, State.incBy, s.get_put_same a f _ h1 h2]
  exact Nat.mod_eq_of_lt (by omega)

/-- ERR_STAT is a whole register. -/
theorem State.errStat_eq_zero (s : State) (b : Nat) : s.get b hERR_STAT = 0 ↔ s.rd (b + 0x20) = 0 := by
  have e : s.get b hERR_STAT = (s.rd (b + 0x20)).toNat := by
    simp only [State.get, fget, Nat.pow_zero, Nat.div_one]
    exact Nat.mod_eq_of_lt (s.rd (b + 0x20)).isLt
  rw [e, ← BitVec.toNat_inj]
  rfl

/-! ### Error capture (R27) -/

/-- The registers of a page header that capture an error. -/
def errRegs (b : Nat) : List Nat := [b + 0x20, b + 0x24, b + 0x28, b + 0x2C]

/-- What the first error since ERR_STAT was all zero writes. -/
def State.captureErr (s : State) (b i code path addr : Nat) : State :=
  ((((s.put b (bitF 0x20 i) 1).put b hERR_CODE code).put b hERR_PATH path).put b hERR_COUNT 1).put64 b hERR_ADDR addr

/-- What a later error writes. -/
def State.countErr (s : State) (b i : Nat) : State := (s.put b (bitF 0x20 i) 1).inc b hERR_COUNT

theorem State.recErr_first {s : State} {b : Nat} (h : s.get b hERR_STAT = 0) (i code path addr : Nat) :
    s.recErr b i code path addr = (s.captureErr b i code path addr).traceEntry b 1 i code (addr % 2 ^ 32) := if_pos h

theorem State.recErr_later {s : State} {b : Nat} (h : s.get b hERR_STAT ≠ 0) (i code path addr : Nat) :
    s.recErr b i code path addr = (s.countErr b i).traceEntry b 1 i 0 0 := if_neg h

theorem State.captureErr_onlyRegs (s : State) (b i code path addr : Nat) :
    OnlyRegs (errRegs b) s (s.captureErr b i code path addr) := by
  unfold State.captureErr
  exact ((((OnlyRegs.put (by simp [errRegs]) s 1).trans (.put (by simp [errRegs]) _ _)).trans (.put (by simp [errRegs]) _ _)).trans
      (.put (by simp [errRegs]) _ _)).trans (.put64 (by simp [errRegs]) (by simp [errRegs]) _ _)

theorem State.countErr_onlyRegs (s : State) (b i : Nat) : OnlyRegs (errRegs b) s (s.countErr b i) := by
  unfold State.countErr
  exact (OnlyRegs.put (by simp [errRegs]) s 1).trans (.inc (by simp [errRegs]) _)

theorem State.recErr_onlyRegs (s : State) (b i code path addr : Nat) :
    OnlyRegs (errRegs b) s (s.recErr b i code path addr) := by
  by_cases h : s.get b hERR_STAT = 0
  · rw [State.recErr_first h]
    exact (s.captureErr_onlyRegs ..).trans (.traceEntry ..)
  · rw [State.recErr_later h]
    exact (s.countErr_onlyRegs b i).trans (.traceEntry ..)

/-- Whether it is captured or counted, an error sets its bit. -/
theorem State.recErr_errStat (s : State) (b i code path addr : Nat) :
    (s.recErr b i code path addr).rd (b + 0x20) = fput (s.rd (b + 0x20)) (bitF 0x20 i) 1 := by
  have own : (s.put b (bitF 0x20 i) 1).rd (b + 0x20) = fput (s.rd (b + 0x20)) (bitF 0x20 i) 1 := s.rd_wr_same _ _
  by_cases h : s.get b hERR_STAT = 0
  · rw [State.recErr_first h, State.rd_traceEntry, State.captureErr]
    simp (disch := simp) only [State.rd_put64_ne, State.rd_put_ne, own]
  · rw [State.recErr_later h, State.rd_traceEntry, State.countErr, State.inc, State.incBy, State.rd_put_ne _ _ _ _ _ (by simp), own]

theorem State.recErr_bit (s : State) (b : Nat) {i : Nat} (hi : i < 32) (code path addr : Nat) :
    (s.recErr b i code path addr).bit b (bitF 0x20 i) = true := by
  rw [State.bit_bitF, State.recErr_errStat, fput_bitF_one_getLsbD _ _ hi, decide_eq_true rfl, Bool.or_true]

/-- Setting bit 0. -/
theorem fput_bitF_zero_one (w : Word) (o : Nat) : fput w (bitF o 0) 1 = w ||| 1 := by
  apply BitVec.eq_of_getLsbD_eq
  intro j hj
  rw [fput_bitF_one_getLsbD _ _ (by decide), BitVec.getLsbD_or]
  cases j <;> simp

/-- ERR_INFO and ERR_ADDR show one error, with its code, path and address as far as their fields hold them. -/
structure State.ShowsOneErr (t : State) (b code path addr : Nat) : Prop where
  code : t.get b hERR_CODE = code
  path : t.get b hERR_PATH = path % 2 ^ 3
  count : t.get b hERR_COUNT = 1
  addr : t.get64 b hERR_ADDR = addr % 2 ^ 64

theorem State.captureErr_shows (s : State) (b i : Nat) {code : Nat} (hc : code < 2 ^ 16) (path addr : Nat) :
    (s.captureErr b i code path addr).ShowsOneErr b code path addr where
  code := by
    simp (disch := simp) only [State.captureErr, State.get_put64_ne, State.get_put_beside, State.get_put_same]
    exact Nat.mod_eq_of_lt hc
  path := by
    simp (disch := simp) only [State.captureErr, State.get_put64_ne, State.get_put_beside, State.get_put_same, Nat.reduceAdd,
      Nat.reduceSub]
  count := by simp (disch := simp) only [State.captureErr, State.get_put64_ne, State.get_put_same, Nat.reduceAdd, Nat.reduceSub,
    Nat.reducePow, Nat.reduceMod]
  addr := State.get64_put64 ..

/-- The first error since ERR_STAT was all zero is captured. -/
theorem State.recErr_shows {s : State} {b : Nat} (h : s.get b hERR_STAT = 0) (i : Nat) {code : Nat}
    (hc : code < 2 ^ 16) (path addr : Nat) : (s.recErr b i code path addr).ShowsOneErr b code path addr := by
  obtain ⟨kc, kp, kn, ka⟩ := s.captureErr_shows b i hc path addr
  rw [State.recErr_first h]
  exact ⟨(State.get_traceEntry ..).trans kc, (State.get_traceEntry ..).trans kp, (State.get_traceEntry ..).trans kn,
    (State.get64_traceEntry ..).trans ka⟩

/-- A capture stands in t as in s. -/
structure SameCapture (b : Nat) (s t : State) : Prop where
  code : t.get b hERR_CODE = s.get b hERR_CODE
  path : t.get b hERR_PATH = s.get b hERR_PATH
  addr : t.get64 b hERR_ADDR = s.get64 b hERR_ADDR

theorem SameCapture.trans {b : Nat} {s t u : State} (h : SameCapture b s t) (k : SameCapture b t u) : SameCapture b s u :=
  ⟨k.code.trans h.code, k.path.trans h.path, k.addr.trans h.addr⟩

theorem SameCapture.traceEntry (b : Nat) (s : State) (a k i c x : Nat) : SameCapture b s (s.traceEntry a k i c x) :=
  ⟨State.get_traceEntry .., State.get_traceEntry .., State.get64_traceEntry ..⟩

/-- A write of ERR_STAT. -/
theorem SameCapture.wr_errStat (s : State) (b : Nat) (w : Word) : SameCapture b s (s.wr (b + 0x20) w) := by
  constructor <;> simp (disch := simp) only [State.get, State.get64, State.rd_wr_ne]

/-- A write of COUNT. -/
theorem SameCapture.put_count (s : State) (b v : Nat) : SameCapture b s (s.put b hERR_COUNT v) := by
  constructor <;> simp (disch := simp) only [State.get_put_beside, State.get64, State.rd_put_ne]

/-- A later error keeps the capture. -/
theorem State.recErr_sameCapture {s : State} {b : Nat} (h : s.get b hERR_STAT ≠ 0) (i code path addr : Nat) :
    SameCapture b s (s.recErr b i code path addr) := by
  rw [State.recErr_later h, State.countErr, State.inc, State.incBy]
  exact ((SameCapture.wr_errStat s b _).trans (.put_count _ b _)).trans (.traceEntry ..)

/-- A later error counts one, up to 255. -/
theorem State.recErr_count {s : State} {b : Nat} (h : s.get b hERR_STAT ≠ 0) (i code path addr : Nat) :
    (s.recErr b i code path addr).get b hERR_COUNT = min 255 (s.get b hERR_COUNT + 1) := by
  rw [State.recErr_later h, State.get_traceEntry, State.countErr, State.get_inc_same _ _ _ (by decide) (by decide),
    s.get_put_ne _ _ _ _ _ (by simp), Nat.min_comm]
  rfl

/-- A write of ERR_STAT clears the bits written as ones, and COUNT once all are zero. -/
theorem State.errClear_eq (s : State) (b : Nat) (v : Word) : s.errClear b v =
    if s.rd (b + 0x20) &&& ~~~v = 0 then (s.wr (b + 0x20) (s.rd (b + 0x20) &&& ~~~v)).put b hERR_COUNT 0
    else s.wr (b + 0x20) (s.rd (b + 0x20) &&& ~~~v) := rfl

theorem State.errClear_onlyRegs (s : State) (b : Nat) (v : Word) : OnlyRegs [b + 0x20, b + 0x24] s (s.errClear b v) := by
  have w := OnlyRegs.wr (a := b + 0x20) (l := [b + 0x20, b + 0x24]) (by simp) s (s.rd (b + 0x20) &&& ~~~v)
  rw [State.errClear_eq]
  split
  · exact w.trans (.put (by simp) _ 0)
  · exact w

theorem State.errClear_errStat (s : State) (b : Nat) (v : Word) :
    (s.errClear b v).rd (b + 0x20) = s.rd (b + 0x20) &&& ~~~v := by
  rw [State.errClear_eq]
  split
  · rw [State.rd_put_ne _ _ _ _ _ (by simp), State.rd_wr_same]
  · exact s.rd_wr_same _ _

theorem State.errClear_count (s : State) (b : Nat) (v : Word) : (s.errClear b v).get b hERR_COUNT
    = if s.rd (b + 0x20) &&& ~~~v = 0 then 0 else s.get b hERR_COUNT := by
  rw [State.errClear_eq]
  split
  · rw [State.get_put_same _ _ _ _ (by decide) (by decide), Nat.zero_mod]
  · rw [State.get, State.rd_wr_ne _ _ (by simp), State.get]

theorem State.errClear_sameCapture (s : State) (b : Nat) (v : Word) : SameCapture b s (s.errClear b v) := by
  rw [State.errClear_eq]
  split
  · exact (SameCapture.wr_errStat s b _).trans (.put_count _ b 0)
  · exact .wr_errStat s b _

/-! ### Accesses that are recorded (R2, R19) -/

/-- A command of an access path whose meaning answers b completes in every t equal to b; he is rfl for a constructor. -/
theorem completes_of_heard {c : Instr} {s b t : State} {path : Nat} (h0 : s.power.off = false) (hs : s.hears path = true)
    (he : exec c s = s.heard path b) (h : b = t) : Completes c s t := by
  rw [Completes, he, State.heard_on h0 hs, h]

section Recorded
variable {s : State} {path a n inst : Nat} {ty : PageTy}

theorem badSize_unlisted (hl : s.listed (a / 4096) = false) : s.badSize path a = s.recErr DIRECTORY_B 0 0x0002 path a := by
  rw [State.badSize, if_pos hl, State.unmapped]

theorem badSize_listed (hl : s.listed (a / 4096) = true) (hp : pageAt (a / 4096) = some (ty, inst)) (hh : hasHeader ty = true) :
    s.badSize path a = s.recErr (a / 4096 * 4096) 0 0x0001 path a := by
  simp [State.badSize, hl, hp, hh]

variable (h0 : s.power.off = false) (hs : s.hears path = true)
include h0 hs

theorem accessUnmapped_write (hl : s.listed (a / 4096) = false) :
    Completes (.accessUnmapped path a 0) s (s.recErr DIRECTORY_B 0 0x0002 path a) :=
  completes_of_heard h0 hs rfl (by simp [hl, State.unmapped])

theorem accessUnmapped_read (hl : s.listed (a / 4096) = false) :
    Completes (.accessUnmapped path a 1) s ((s.recErr DIRECTORY_B 0 0x0002 path a).emit .read [0xFFFFFFFF]) :=
  completes_of_heard h0 hs rfl (by simp [hl, State.unmapped, State.answer])

theorem bar0AccessSize_write (hn : ¬ (n = 4 ∧ a % 4 = 0)) : Completes (.bar0AccessSize path a n 0) s (s.badSize path a) :=
  completes_of_heard h0 hs rfl (by rw [if_neg hn, if_neg (by decide)])

theorem bar0AccessSize_read (hn : ¬ (n = 4 ∧ a % 4 = 0)) :
    Completes (.bar0AccessSize path a n 1) s ((s.badSize path a).emit .read [0xFFFFFFFF]) :=
  completes_of_heard h0 hs rfl (by rw [if_neg hn, if_pos rfl, State.answer])

end Recorded

/-- Settles O9: an access of another size, or at an unlisted page, does nothing but record its error. -/
theorem unmappedAndIllSizedAccessesAreRecorded : Obligations.UnmappedAndIllSizedAccessesAreRecorded := by
  intro s path a n ty inst h0 hs
  refine ⟨fun hl => ⟨accessUnmapped_write h0 hs hl, accessUnmapped_read h0 hs hl⟩, fun hl hn => ?_, fun hl hn hp hh => ?_⟩
  · rw [← badSize_unlisted hl]
    exact ⟨bar0AccessSize_write h0 hs hn, bar0AccessSize_read h0 hs hn⟩
  · rw [← badSize_listed hl hp hh]
    exact ⟨bar0AccessSize_write h0 hs hn, bar0AccessSize_read h0 hs hn⟩

/-! ### Commands that name a page -/

/-- What a command does with a listed page that has a header. -/
theorem State.onPage_listed {s : State} {p inst : Nat} {ty : PageTy} (hp : pageAt p = some (ty, inst)) (hl : s.listed p = true)
    (hh : hasHeader ty = true) (f : PageTy → Nat → State) : s.onPage p f = f ty inst := by
  simp [State.onPage, hp, hl, hh]

/-- Settles O10: the first error is captured whole, a later one counts, and a clear of ERR_STAT keeps the capture. -/
theorem firstErrorIsCaptured : Obligations.FirstErrorIsCaptured := by
  intro s path a h0 hs hpath ha
  refine ⟨fun hl => ⟨_, accessUnmapped_write h0 hs hl, ?_⟩, fun p v ty inst hp hl hh => ⟨_, State.live_on h0, ?_⟩⟩
  · have stat := s.recErr_errStat DIRECTORY_B 0 0x0002 path a
    rw [fput_bitF_zero_one] at stat
    have frame := s.recErr_onlyRegs DIRECTORY_B 0 0x0002 path a
    refine ⟨s.recErr_bit DIRECTORY_B (by decide) _ _ _, fun h => ?_, fun h => ?_, frame.regs, frame.bytes, frame.parts⟩
    · have k := State.recErr_shows ((s.errStat_eq_zero _).2 h) 0 (code := 0x0002) (by decide) path a
      rw [h] at stat
      exact ⟨stat, k.code, k.path.trans (Nat.mod_eq_of_lt hpath), k.count, k.addr.trans (Nat.mod_eq_of_lt (by omega))⟩
    · have h' := (s.errStat_eq_zero _).not.2 h
      have k := State.recErr_sameCapture h' 0 0x0002 path a
      exact ⟨stat, State.recErr_count h' _ _ _ _, k.code, k.path, k.addr⟩
  · rw [State.onPage_listed hp hl hh]
    have frame := s.errClear_onlyRegs (p * 4096) v
    have k := s.errClear_sameCapture (p * 4096) v
    have count := s.errClear_count (p * 4096) v
    exact ⟨s.errClear_errStat _ v, fun h => count.trans (if_pos h), fun h => count.trans (if_neg h), k.code, k.path, k.addr,
      frame.regs, frame.bytes, frame.parts⟩

/-! ### The values at reset -/

theorem reset_canon : State.reset.Canon := ⟨by decide, mwf_nil _, mwf_nil _⟩

theorem reset_queueWf : State.reset.QueueWf := List.forall_mem_nil _

/-- The reshard timeout (R223) and the scrub interval (R185). -/
theorem reset_dies : ∀ d < 4, State.reset.get (RESHARD_B d) RESHARD.TIMEOUT_US = 10000
    ∧ State.reset.get (DIE_B d) DIE.SRAM_SCRUB_INTERVAL = 382 := by decide

/-- The scrub period and the map-out threshold (R183). -/
theorem reset_stacks : ∀ m < 8, State.reset.get (HBM_B m) HBM.SCRUB_PERIOD_SECONDS = 86400
    ∧ State.reset.get (HBM_B m) HBM.MAPOUT_CTRL_THRESH = 64 := by decide

/-- The heater limit (R335) and the line target. -/
theorem reset_engines : ∀ e < 2, State.reset.get (ENGINE_B e) ENGINE.HEATER_LIMIT = 300
    ∧ State.reset.get (COMB_B e) COMB.LINE_TARGET_POWER = 1600 := by decide

/-- A port's buffers, BER limits, spare lane and path (R340). -/
theorem reset_ports : ∀ p < 36, State.reset.get (PORT_B p) PORT.RXBUF01_VC0 = 1024
    ∧ State.reset.get (PORT_B p) PORT.RXBUF01_VC1 = 512
    ∧ State.reset.get (PORT_B p) PORT.BER_IN_LIMIT = 24000000 ∧ State.reset.get (PORT_B p) PORT.BER_OUT_LIMIT = 120000000
    ∧ State.reset.get (PORT_B p) PORT.SPARE_FOR = 0xF ∧ State.reset.get (PORT_B p) PORT.SPARE_PATH = 0xFFFF := by
  decide +kernel

/-- Settles O8: the tables of reset values, register by register. -/
theorem resetHoldsTheSpecsValuesInCanonicalForm : Obligations.ResetHoldsTheSpecsValuesInCanonicalForm := by
  refine ⟨reset_canon, reset_queueWf, rfl, rfl, ?part, ?incNs, ?incFrac, ?stepThresh, ?syncLoss, ?ztInterval, ?pinIn, ?pinOut,
    ?ppsWidth, ?ackTimeout, ?retryLimit, ?pathWait, reset_dies, reset_stacks, reset_engines, reset_ports, ?owner, ?major,
    ?minor, ?discWait, ?floorRing, ?floorMzi⟩ <;> decide

/-! ### PAGE_CTRL (R29-R33) -/

/-- PAGE_CTRL and PAGE_STAT of a block with several pages stand in its first page (R25). -/
theorem ctrlBase_aligned (p : Nat) : ctrlBase (p * 4096) % 4096 = 0 := by
  have ho : (p * 4096 + 0x0C) % 4096 = 0x0C := by omega
  unfold ctrlBase canon
  split
  · rw [ho, if_pos (.inl rfl)]
    split <;> simp [BELFRY_B, XRDS_B]
  · simp

theorem ctrlReg_not_errReg (p : Nat) : ctrlBase (p * 4096) + 0x0C ∉ errRegs (p * 4096) := by
  have := ctrlBase_aligned p
  simp only [errRegs, List.mem_cons, List.not_mem_nil, or_false]
  omega

/-- Recording an error on a page leaves its PAGE_CTRL. -/
theorem State.recErrX_ctrl (s : State) (p i code path : Nat) (f : Fld) (hf : f.off = 0x0C) :
    (s.recErrX (p * 4096) i code path).get (ctrlBase (p * 4096)) f = s.get (ctrlBase (p * 4096)) f := by
  simp only [State.get, hf]
  rw [State.recErrX, (State.recErr_onlyRegs _ _ _ _ _ _).regs.1 _ (ctrlReg_not_errReg p)]
  rfl

section Enable
variable {s : State} {path b inst : Nat} {ty : PageTy} (hf : capEnableFixed ty = false)
include hf

/-- ENABLE falls on a page that is IDLE or QUIESCED. -/
theorem State.enableWrite_clear_free (he : s.bit (ctrlBase b) hCTRL_ENABLE = true) : s.enableWrite path b ty inst false true
    = ((s.put (ctrlBase b) hCTRL_ENABLE 0).enableActs ty inst false).msgSettle := by
  simp [State.enableWrite, hf, he]

/-- ENABLE does not fall on a busy page. -/
theorem State.enableWrite_clear_busy (he : s.bit (ctrlBase b) hCTRL_ENABLE = true) :
    s.enableWrite path b ty inst false false = s.recErrX b 1 0x0012 path := by
  simp [State.enableWrite, hf, he]

/-- ENABLE rises on every page; a stack or a mesh takes the accesses that were held back for it. -/
theorem State.enableWrite_set (he : s.bit (ctrlBase b) hCTRL_ENABLE = false) (free : Bool) :
    s.enableWrite path b ty inst true free
    = (if ty = .HBM ∨ ty = .MESH then (((s.put (ctrlBase b) hCTRL_ENABLE 1).enableActs ty inst true).line4 s).serveOffers
      else ((s.put (ctrlBase b) hCTRL_ENABLE 1).enableActs ty inst true).line4 s).msgSettle := by
  simp [State.enableWrite, hf, he]

end Enable

section PageCommand
variable {s : State} {path p inst : Nat} {ty : PageTy} (h0 : s.power.off = false) (hs : s.hears path = true)
  (hp : pageAt p = some (ty, inst)) (hl : s.listed p = true) (hh : hasHeader ty = true)
include h0 hp hl hh

theorem quiesced_completes : Completes (.quiesced p) s
    (if s.bit (ctrlBase (p * 4096)) hCTRL_QUIESCE && s.drained ty inst then s.put (ctrlBase (p * 4096)) hSTAT_QUIESCED 1 else s) :=
  completes_of_live h0 rfl (State.onPage_listed hp hl hh _)

theorem blockResetDone_completes (hb : s.inBlockReset p = true) :
    Completes (.blockResetDone p) s (s.blockResetEnd (p * 4096) ty inst) :=
  completes_of_live h0 rfl ((State.onPage_listed hp hl hh _).trans (if_pos hb))

include hs

theorem enableWrite_completes (hb : s.inBlockReset p = false) (v : Nat) : Completes (.enableWrite path p v) s
    (s.enableWrite path (p * 4096) ty inst (decide (v % 2 = 1)) (s.freeNowPage (p * 4096) ty inst)) :=
  completes_of_heard h0 hs rfl ((State.onPage_listed hp hl hh _).trans (if_neg (by simp [hb])))

theorem quiesceReq_completes (hb : s.inBlockReset p = false) (v : Nat) : Completes (.quiesceReq path p v) s
    (s.quiesceWrite path (p * 4096) ty inst (decide (v % 2 = 1))) :=
  completes_of_heard h0 hs rfl ((State.onPage_listed hp hl hh _).trans (if_neg (by simp [hb])))

theorem blockResetReq_completes (hb : s.inBlockReset p = false) : Completes (.blockResetReq path p) s
    (s.resetWrite path (p * 4096) ty inst (s.freeNowPage (p * 4096) ty inst)) :=
  completes_of_heard h0 hs rfl ((State.onPage_listed hp hl hh _).trans (if_neg (by simp [hb])))

end PageCommand

/-- Settles O13: a fall of ENABLE is judged by freeNowPage, and a refusal writes the error registers alone. -/
theorem disablingABusyPageIsRefused : Obligations.DisablingABusyPageIsRefused := by
  intro s path p v ty inst h0 hs hp hl hh hf hb
  have done := enableWrite_completes h0 hs hp hl hh hb v
  refine ⟨fun hv he hfree => ?_, fun hv he hbusy => ⟨?_, ?_, ?_, fun hz => ?_⟩, fun hv he => ⟨_, rfl, fun h1 h2 => ?_, fun h => ?_⟩,
    by rw [State.freeNowPage, Bool.or_eq_true]⟩
  · rwa [decide_eq_false (by omega), hfree, State.enableWrite_clear_free hf he] at done
  · rwa [decide_eq_false (by omega), hbusy, State.enableWrite_clear_busy hf he] at done
  · rwa [State.bit, State.recErrX_ctrl _ _ _ _ _ _ rfl]
  · exact State.recErr_bit _ _ (by decide) _ _ _
  · exact (State.recErr_shows (s := { s with free := s.free + 1 }) hz 1 (by decide) path _).code
  · rwa [decide_eq_true hv, State.enableWrite_set hf he, if_neg (not_or.2 ⟨h1, h2⟩)] at done
  · rwa [decide_eq_true hv, State.enableWrite_set hf he, if_pos h] at done

section Quiesce
variable {s : State} {path b inst : Nat} {ty : PageTy}

theorem State.quiesceWrite_begin (hc : capQuiesce ty = true) (hq : s.bit (ctrlBase b) hCTRL_QUIESCE = false) :
    s.quiesceWrite path b ty inst true = ((s.put (ctrlBase b) hCTRL_QUIESCE 1).quiesceActs ty inst).msgSettle := by
  simp [State.quiesceWrite, hc, hq]

theorem State.quiesceWrite_end (hq : s.bit (ctrlBase b) hCTRL_QUIESCE = true) : s.quiesceWrite path b ty inst false
    = (((s.put (ctrlBase b) hCTRL_QUIESCE 0).put (ctrlBase b) hSTAT_QUIESCED 0).resumeActs ty inst).msgSettle := by
  simp [State.quiesceWrite, hq]

theorem State.quiesceWrite_unsupported (hc : capQuiesce ty = false) :
    s.quiesceWrite path b ty inst true = s.recErrX b 1 0x0013 path := by
  simp [State.quiesceWrite, hc]

theorem State.resetWrite_supported (hc : capBlockReset ty = true) (free : Bool) :
    s.resetWrite path b ty inst free = if free then s.blockReset b ty inst else s.recErrX b 1 0x0010 path := by
  simp [State.resetWrite, hc]

theorem State.resetWrite_unsupported (hc : capBlockReset ty = false) (free : Bool) :
    s.resetWrite path b ty inst free = s.recErrX b 1 0x0011 path := if_pos hc

end Quiesce

/-- BLOCK_RESET_REQ clears and READY is set, and only Belfry samples afresh. -/
theorem State.blockResetEnd_eq (s : State) (b : Nat) (ty : PageTy) (inst : Nat) : s.blockResetEnd b ty inst =
    ((if ty.belfry then
        ((s.put (ctrlBase b) hCTRL_BLOCK_RESET 0).put (ctrlBase b) hSTAT_READY (readyAfter ty)).belfryOn.line4 s
      else (s.put (ctrlBase b) hCTRL_BLOCK_RESET 0).put (ctrlBase b) hSTAT_READY (readyAfter ty)).resumeActs ty inst).msgSettle :=
  rfl

/-- Settles O14: each command is its write of PAGE_CTRL, in the cases that PAGE_CAPS and the page's state make. -/
theorem quiesceAndBlockResetFollowTheirRules : Obligations.QuiesceAndBlockResetFollowTheirRules := by
  intro s path p v ty inst h0 hs hp hl hh
  have quiesce (hb : s.inBlockReset p = false) := quiesceReq_completes h0 hs hp hl hh hb v
  have reset (hb : s.inBlockReset p = false) := blockResetReq_completes h0 hs hp hl hh hb
  refine ⟨fun hb hv hc hq => ?_, fun hb hv hq => ?_, fun hb hv hc => ?_, fun hq hd => ?_, fun hb hc hfree => ?_, fun hb hc hbusy => ?_,
    fun hb hc => ?_, fun hb t ht => ?_⟩
  · have done := quiesce hb
    rwa [decide_eq_true hv, State.quiesceWrite_begin hc hq] at done
  · have done := quiesce hb
    rwa [decide_eq_false (by omega), State.quiesceWrite_end hq] at done
  · have done := quiesce hb
    rwa [decide_eq_true hv, State.quiesceWrite_unsupported hc] at done
  · have done := quiesced_completes h0 hp hl hh
    rwa [hq, hd, Bool.and_self, if_pos rfl] at done
  · have done := reset hb
    rwa [hfree, State.resetWrite_supported hc, if_pos rfl] at done
  · have done := reset hb
    rwa [hbusy, State.resetWrite_supported hc, if_neg Bool.false_ne_true] at done
  · have done := reset hb
    rwa [State.resetWrite_unsupported hc] at done
  · have done := blockResetDone_completes h0 hp hl hh hb
    rw [State.blockResetEnd_eq, ← ht] at done
    refine ⟨fun hty => ?_, fun hty => ?_⟩
    · rwa [hty, if_neg Bool.false_ne_true] at done
    · rwa [hty, if_pos rfl] at done

/-! ### The reference clock (R17, R34) -/

/-- An event raised on a page that operates sets its bit. -/
theorem State.raise_bit {s : State} {b : Nat} (h : s.on b = true) {i : Nat} (hi : i < 32) :
    (s.raise b i).bit b (bitF 0x14 i) = true := by
  rw [State.raise, if_pos h, State.bit_bitF, s.raiseAlways_evtStat b hi, decide_eq_true rfl, Bool.or_true]

theorem State.raise_onlyRegs (s : State) (b i : Nat) : OnlyRegs [b + 0x14] s (s.raise b i) := by
  unfold State.raise
  split
  · exact s.raiseAlways_onlyRegs b i
  · exact .refl _ s

/-- Set whether REFCLK has fallen (the model's record behind REFCLK_RESTORED). -/
def State.setRefLost (s : State) (b : Bool) : State := { s with power.refLost := b }

theorem State.get_setRefLost (s : State) (b : Bool) (a : Nat) (f : Fld) : (s.setRefLost b).get a f = s.get a f :=
  State.get_congr rfl a f

theorem State.bit_setRefLost (s : State) (b : Bool) (a : Nat) (f : Fld) : (s.setRefLost b).bit a f = s.bit a f := by
  rw [State.bit, State.bit, State.get_setRefLost]

theorem State.on_setRefLost (s : State) (b : Bool) (a : Nat) : (s.setRefLost b).on a = s.on a := by
  rw [State.on, State.on, State.bit_setRefLost, State.bit_setRefLost]

/-- Register writes before and after that record make no other change to registers and bytes. -/
theorem sameRegs_across_setRefLost {l m n : List Nat} {s t u : State} {b : Bool} (h : OnlyRegs l s u)
    (k : OnlyRegs m (u.setRefLost b) t) (hl : l ⊆ n) (hm : m ⊆ n) : SameRegsBut n s t ∧ SameBytes s t :=
  ⟨⟨fun a ha => (k.regs.1 a fun c => ha (hm c)).trans (h.regs.1 a fun c => ha (hl c)),
    fun p a => (k.regs.2 p a).trans (h.regs.2 p a)⟩, fun a => (k.bytes a).trans (h.bytes a)⟩

/-- REFCLK_OK falls and the loss is counted. -/
def State.countLoss (s : State) : State :=
  (s.put MODULE_B MODULE.CLK_STAT_REFCLK_OK 0).inc MODULE_B MODULE.CLK_STAT_LOSS_COUNT

/-- The root PLL goes from lock to holdover. -/
def State.pllHoldover (s : State) : State := (s.put MODULE_B MODULE.CLK_STAT_ROOT_LOCK 0).put MODULE_B MODULE.CLK_STAT_HOLDOVER 1

/-- The root PLL goes from holdover to lock. -/
def State.pllLock (s : State) : State := (s.put MODULE_B MODULE.CLK_STAT_HOLDOVER 0).put MODULE_B MODULE.CLK_STAT_ROOT_LOCK 1

theorem State.countLoss_onlyRegs (s : State) : OnlyRegs [ MODULE_B + 0x50] s s.countLoss := by
  unfold State.countLoss
  exact (OnlyRegs.put (by decide) s 0).trans (.inc (by decide) _)

theorem State.pllHoldover_onlyRegs (s : State) : OnlyRegs [ MODULE_B + 0x50] s s.pllHoldover := by
  unfold State.pllHoldover
  exact (OnlyRegs.put (by decide) s 0).trans (.put (by decide) _ 1)

theorem State.pllLock_onlyRegs (s : State) : OnlyRegs [ MODULE_B + 0x50] s s.pllLock := by
  unfold State.pllLock
  exact (OnlyRegs.put (by decide) s 0).trans (.put (by decide) _ 1)

theorem State.countLoss_refclkOk (s : State) : s.countLoss.bit MODULE_B MODULE.CLK_STAT_REFCLK_OK = false := by
  simp (disch := decide) [State.countLoss, State.inc, State.incBy, State.bit, State.get_put_beside, State.get_put_same]

theorem State.countLoss_lossCount (s : State) : s.countLoss.get MODULE_B MODULE.CLK_STAT_LOSS_COUNT
    = min 65535 (s.get MODULE_B MODULE.CLK_STAT_LOSS_COUNT + 1) := by
  rw [State.countLoss, State.get_inc_same _ _ _ (by decide) (by decide),
    State.get_put_beside _ _ _ _ _ _ (by decide) (by decide) (by decide), Nat.min_comm]
  rfl

theorem State.countLoss_rootLock (s : State) :
    s.countLoss.bit MODULE_B MODULE.CLK_STAT_ROOT_LOCK = s.bit MODULE_B MODULE.CLK_STAT_ROOT_LOCK := by
  simp (disch := decide) only [State.bit, State.countLoss, State.inc, State.incBy, State.get_put_beside]

/-- CLK_STAT after the PLL has gone to holdover. -/
theorem State.pllHoldover_clkStat (s : State) : s.pllHoldover.bit MODULE_B MODULE.CLK_STAT_ROOT_LOCK = false
    ∧ s.pllHoldover.bit MODULE_B MODULE.CLK_STAT_HOLDOVER = true
    ∧ s.pllHoldover.bit MODULE_B MODULE.CLK_STAT_REFCLK_OK = s.bit MODULE_B MODULE.CLK_STAT_REFCLK_OK
    ∧ s.pllHoldover.get MODULE_B MODULE.CLK_STAT_LOSS_COUNT = s.get MODULE_B MODULE.CLK_STAT_LOSS_COUNT := by
  refine ⟨?_, ?_, ?_, ?_⟩ <;>
    simp (disch := decide) [State.pllHoldover, State.bit, State.get_put_beside, State.get_put_same]

/-- CLK_STAT after the PLL has gone back to lock. -/
theorem State.pllLock_clkStat (s : State) : s.pllLock.bit MODULE_B MODULE.CLK_STAT_ROOT_LOCK = true
    ∧ s.pllLock.bit MODULE_B MODULE.CLK_STAT_HOLDOVER = false
    ∧ s.pllLock.bit MODULE_B MODULE.CLK_STAT_REFCLK_OK = s.bit MODULE_B MODULE.CLK_STAT_REFCLK_OK := by
  refine ⟨?_, ?_, ?_⟩ <;>
    simp (disch := decide) [State.pllLock, State.bit, State.get_put_beside, State.get_put_same]

/-- REFCLK falls: the loss is counted, and REFCLK_LOST raised. -/
def State.loseRefclk (s : State) : State := (s.countLoss.setRefLost true).raise MODULE_B 0

theorem State.loseRefclk_sameRegs (s : State) :
    SameRegsBut [ MODULE_B + 0x14, MODULE_B + 0x50] s s.loseRefclk.pllHoldover ∧ SameBytes s s.loseRefclk.pllHoldover :=
  sameRegs_across_setRefLost (m := [ MODULE_B + 0x14, MODULE_B + 0x50]) s.countLoss_onlyRegs
    (((State.raise_onlyRegs _ MODULE_B 0).mono (by decide)).trans ((State.pllHoldover_onlyRegs _).mono (by decide)))
    (by decide) (List.Subset.refl _)

/-- The event leaves MODULE's other registers. -/
theorem State.loseRefclk_get (s : State) {f : Fld} (hf : MODULE_B + f.off ∉ [ MODULE_B + 0x14]) :
    s.loseRefclk.get MODULE_B f = s.countLoss.get MODULE_B f :=
  ((State.raise_onlyRegs _ MODULE_B 0).regs.get_eq hf).trans (State.get_setRefLost ..)

theorem State.loseRefclk_bit (s : State) {f : Fld} (hf : MODULE_B + f.off ∉ [ MODULE_B + 0x14]) :
    s.loseRefclk.bit MODULE_B f = s.countLoss.bit MODULE_B f := by
  rw [State.bit, State.bit, s.loseRefclk_get hf]

theorem State.loseRefclk_event {s : State} (h : s.on MODULE_B = true) : s.loseRefclk.bit MODULE_B (bitF 0x14 0) = true :=
  State.raise_bit ((State.on_setRefLost ..).trans ((s.countLoss_onlyRegs.regs.on_eq (by decide)).trans h)) (by decide)

/-- REFCLK falls under a locked PLL that runs from it. -/
theorem State.refclkFalls_locked {s : State} (hok : s.bit MODULE_B MODULE.CLK_STAT_REFCLK_OK = true)
    (hlock : s.bit MODULE_B MODULE.CLK_STAT_ROOT_LOCK = true) (hmode : s.bit MODULE_B MODULE.STRAPS_CLKMODE = false) :
    s.refclkFalls = s.loseRefclk.pllHoldover := by
  have lock : s.loseRefclk.bit MODULE_B MODULE.CLK_STAT_ROOT_LOCK = true :=
    (s.loseRefclk_bit (by decide)).trans (s.countLoss_rootLock.trans hlock)
  have mode : s.loseRefclk.bit MODULE_B MODULE.STRAPS_CLKMODE = false :=
    (s.loseRefclk_bit (by decide)).trans ((s.countLoss_onlyRegs.regs.bit_eq (by decide)).trans hmode)
  have held : (s.loseRefclk.bit MODULE_B MODULE.CLK_STAT_ROOT_LOCK
      && !s.loseRefclk.bit MODULE_B MODULE.STRAPS_CLKMODE) = true := by rw [lock, mode]; rfl
  exact (if_pos hok).trans (if_pos held)

/-- REFCLK_OK rises, and the fall is forgotten. -/
def State.regainRefclk (s : State) : State := (s.put MODULE_B MODULE.CLK_STAT_REFCLK_OK 1).setRefLost false

theorem State.regainRefclk_refclkOk (s : State) : s.regainRefclk.bit MODULE_B MODULE.CLK_STAT_REFCLK_OK = true := by
  rw [State.regainRefclk, State.bit_setRefLost, State.bit_put_same _ _ _ _ rfl (by decide)]
  rfl

/-- The rise of REFCLK_OK and what follows it change MODULE's EVT_STAT and CLK_STAT alone. -/
theorem State.regainRefclk_sameRegs {s t : State} (h : OnlyRegs [ MODULE_B + 0x14, MODULE_B + 0x50] s.regainRefclk t) :
    SameRegsBut [ MODULE_B + 0x14, MODULE_B + 0x50] s t ∧ SameBytes s t :=
  sameRegs_across_setRefLost (OnlyRegs.put (l := [ MODULE_B + 0x50]) (by decide) s 1) h (by decide) (List.Subset.refl _)

/-- REFCLK rises under a PLL in holdover. -/
theorem State.refclkRises_holdover {s : State} (hok : s.bit MODULE_B MODULE.CLK_STAT_REFCLK_OK = false)
    (hh : s.bit MODULE_B MODULE.CLK_STAT_HOLDOVER = true) : s.refclkRises =
    if s.power.refLost then s.regainRefclk.pllLock.raise MODULE_B 1 else s.regainRefclk.pllLock := by
  have held : s.regainRefclk.bit MODULE_B MODULE.CLK_STAT_HOLDOVER = true := by
    rw [State.regainRefclk, State.bit_setRefLost, State.bit,
      State.get_put_beside _ _ _ _ _ _ (by decide) (by decide) (by decide), ← State.bit, hh]
  have locks : (if s.regainRefclk.bit MODULE_B MODULE.CLK_STAT_HOLDOVER then s.regainRefclk.pllLock else s.regainRefclk)
      = s.regainRefclk.pllLock := if_pos held
  rw [← locks]
  exact if_neg (by rw [hok]; exact Bool.false_ne_true)

/-- A rise of REFCLK under a PLL in holdover: CLK_STAT, the event of a rise that follows a fall, and the frame. -/
theorem State.refclkRises_clkStat {s : State} (hok : s.bit MODULE_B MODULE.CLK_STAT_REFCLK_OK = false)
    (hh : s.bit MODULE_B MODULE.CLK_STAT_HOLDOVER = true) : s.refclkRises.bit MODULE_B MODULE.CLK_STAT_REFCLK_OK = true
    ∧ s.refclkRises.bit MODULE_B MODULE.CLK_STAT_ROOT_LOCK = true ∧ s.refclkRises.bit MODULE_B MODULE.CLK_STAT_HOLDOVER = false
    ∧ (s.on MODULE_B = true → s.power.refLost = true → s.refclkRises.bit MODULE_B (bitF 0x14 1) = true)
    ∧ SameRegsBut [ MODULE_B + 0x14, MODULE_B + 0x50] s s.refclkRises ∧ SameBytes s s.refclkRises := by
  obtain ⟨root, hold, ok⟩ := s.regainRefclk.pllLock_clkStat
  have ok := ok.trans s.regainRefclk_refclkOk
  have lock := s.regainRefclk.pllLock_onlyRegs.mono (m := [ MODULE_B + 0x14, MODULE_B + 0x50]) (by decide)
  obtain ⟨regs, bytes⟩ := State.regainRefclk_sameRegs lock
  rw [State.refclkRises_holdover hok hh]
  split
  · have raised := s.regainRefclk.pllLock.raise_onlyRegs MODULE_B 1
    have event (on : s.on MODULE_B = true) : (s.regainRefclk.pllLock.raise MODULE_B 1).bit MODULE_B (bitF 0x14 1) = true :=
      State.raise_bit ((regs.on_eq (by decide)).trans on) (by decide)
    obtain ⟨regs, bytes⟩ := State.regainRefclk_sameRegs (lock.trans (raised.mono (by decide)))
    exact ⟨(raised.regs.bit_eq (by decide)).trans ok, (raised.regs.bit_eq (by decide)).trans root,
      (raised.regs.bit_eq (by decide)).trans hold, fun on _ => event on, regs, bytes⟩
  · rename_i lost
    exact ⟨ok, root, hold, fun _ h => absurd h lost, regs, bytes⟩

/-- A fall of REFCLK under a locked PLL that runs from it: CLK_STAT, the event, and the frame. -/
theorem State.refclkFalls_clkStat {s : State} (hok : s.bit MODULE_B MODULE.CLK_STAT_REFCLK_OK = true)
    (hlock : s.bit MODULE_B MODULE.CLK_STAT_ROOT_LOCK = true) (hmode : s.bit MODULE_B MODULE.STRAPS_CLKMODE = false) :
    s.refclkFalls.bit MODULE_B MODULE.CLK_STAT_REFCLK_OK = false
    ∧ s.refclkFalls.bit MODULE_B MODULE.CLK_STAT_ROOT_LOCK = false ∧ s.refclkFalls.bit MODULE_B MODULE.CLK_STAT_HOLDOVER = true
    ∧ s.refclkFalls.get MODULE_B MODULE.CLK_STAT_LOSS_COUNT = min 65535 (s.get MODULE_B MODULE.CLK_STAT_LOSS_COUNT + 1)
    ∧ (s.on MODULE_B = true → s.refclkFalls.bit MODULE_B (bitF 0x14 0) = true)
    ∧ SameRegsBut [ MODULE_B + 0x14, MODULE_B + 0x50] s s.refclkFalls ∧ SameBytes s s.refclkFalls := by
  obtain ⟨root, hold, ok, count⟩ := s.loseRefclk.pllHoldover_clkStat
  obtain ⟨regs, bytes⟩ := s.loseRefclk_sameRegs
  have event (on : s.on MODULE_B = true) : s.loseRefclk.pllHoldover.bit MODULE_B (bitF 0x14 0) = true :=
    (s.loseRefclk.pllHoldover_onlyRegs.regs.bit_eq (by decide)).trans (State.loseRefclk_event on)
  rw [State.refclkFalls_locked hok hlock hmode]
  exact ⟨ok.trans ((s.loseRefclk_bit (by decide)).trans s.countLoss_refclkOk), root, hold,
    count.trans ((s.loseRefclk_get (by decide)).trans s.countLoss_lossCount), event, regs, bytes⟩

/-- Settles O15: a fall and a rise of REFCLK, each by what it leaves in CLK_STAT. -/
theorem referenceClockLossHoldsTheRootPll : Obligations.ReferenceClockLossHoldsTheRootPll := by
  intro s h0
  refine ⟨fun hok hlock hmode => ⟨_, exec_of_live h0 rfl, ?_⟩, fun hok hh => ⟨_, exec_of_live h0 rfl, ?_⟩⟩
  · obtain ⟨ok, root, hold, count, event, regs, bytes⟩ := State.refclkFalls_clkStat hok hlock hmode
    generalize s.refclkFalls = u at ok root hold count event regs bytes
    exact ⟨ok, root, hold, count, event, regs, bytes⟩
  · obtain ⟨ok, root, hold, event, regs, bytes⟩ := State.refclkRises_clkStat hok hh
    generalize s.refclkRises = u at ok root hold event regs bytes
    exact ⟨ok, root, hold, event, regs, bytes⟩

end Sys2Proof.Machine

/-!
PROOFS. The tile's commands (03_tile.md): issue, waits and fences, the units' queues and completions, SEND, POST and PUT, and
what ends a tile's issue.
-/

namespace Sys2Proof.Machine

/-! ### Issue (R95-R101, R112) -/

/-- An instruction of opcode opc completes with what its meaning k makes of the state after the fetch; he is rfl for a
constructor. -/
theorem completes_of_fetches {c : Instr} {s s' t : State} {g w opc : Nat} {k : Op → State → State} (h0 : s.power.off = false)
    (h : s.Fetches g w s') (ho : iOp w = opc) (he : exec c s = s.live (s.issue g opc k)) (hk : k (s.mkOp g w) s' = t) :
    Completes c s t := completes_of_live h0 he ((issue_of_fetches h ho k).trans hk)

/-- Settles O16: what is issued is the instruction's meaning, and TILE_HALTED waits for what is in flight. -/
theorem sequencerInstructionsComplete : Obligations.SequencerInstructionsComplete := by
  intro s s' g w h0
  refine ⟨fun h ho => ?nop, fun h ho => ?stall, fun h ho => ?seti, fun h ho hl => ?loop, fun h ho hl => ?fifthLoop,
    fun h ho => ?jump, fun h ho => ?sete, fun h ho => ?halt, fun hp hc hi => ?halted⟩
  case loop => exact completes_of_fetches h0 h ho rfl (if_neg (Nat.not_le.2 hl))
  case fifthLoop => exact completes_of_fetches h0 h ho rfl (if_pos hl)
  case halted => exact completes_of_live h0 rfl (if_pos ⟨hp, hc, hi⟩)
  all_goals exact completes_of_fetches h0 h ho rfl rfl

/-! ### Waits and their releases (R108, R110, R111, R204) -/

/-- Settles O17: each wait goes on or holds by its condition, and its release asks the condition again. -/
theorem tokenAndTimeWaitsIssueOrHold : Obligations.TokenAndTimeWaitsIssueOrHold := by
  intro s s' g w b r h0
  refine ⟨fun h ho hn => ?tok, fun h ho hn => ?noTok, fun hs hw hn => ?tokRelease, fun h ho hr => ?time, fun h ho hr => ?noTime,
    fun hs hw hr => ?timeRelease, fun h ho hb hk ha => ?arrival, fun h ho hb hk => ?trigger, fun h ho hb hk ha hm => ?passes,
    fun hs hb hk ha hm => ?barrierRelease, fun h ho => ?phaseEnd⟩
  case tok => exact completes_of_fetches h0 h ho rfl (if_pos hn)
  case noTok => exact completes_of_fetches h0 h ho rfl (if_neg (Nat.not_le.2 hn))
  case tokRelease => exact completes_of_live h0 rfl (if_pos ⟨hs, hw, hn⟩)
  case time => exact completes_of_fetches h0 h ho rfl (if_pos hr)
  case noTime => exact completes_of_fetches h0 h ho rfl (if_neg (ne_true_of_eq_false hr))
  case timeRelease => exact completes_of_live h0 rfl (if_pos ⟨hs, hw, hr⟩)
  case arrival => exact completes_of_fetches h0 h ho rfl (by simp [State.mkOp, hb, hk, ha])
  case trigger => exact completes_of_fetches h0 h ho rfl (by simp [State.mkOp, hb, hk])
  case passes => exact completes_of_fetches h0 h ho rfl (by simp [State.mkOp, hb, hk, ha, hm])
  case barrierRelease => exact completes_of_live h0 rfl (by simp [hb, hs, hk, ha, hm])
  case phaseEnd => exact completes_of_fetches h0 h ho rfl rfl

/-! ### FENCE (R109) -/

theorem fenced_of_empty {s : State} {g units : Nat} (hm : units % 2 = 1 → s.queue g 0 = [] ∧ s.queue g 1 = [])
    (hv : units / 2 % 2 = 1 → s.queue g 2 = []) (hd : units / 4 % 2 = 1 → s.queue g 3 = [])
    (hq : units / 8 % 2 = 1 → s.queue g 4 = []) : s.fenced g units = true := by
  simp only [State.fenced, Bool.and_eq_true, Bool.or_eq_true, decide_eq_true_eq, List.isEmpty_iff]
  have unnamedOr {n : Nat} {P : Prop} (h : n % 2 = 1 → P) : n % 2 = 0 ∨ P := (Nat.mod_two_eq_zero_or_one n).imp_right h
  exact ⟨⟨⟨unnamedOr hm, unnamedOr hv⟩, unnamedOr hd⟩, unnamedOr hq⟩

/-- A tile that waits is not RUNNING, so it fetches nothing. -/
theorem not_fetches_of_waiting {s : State} {g kind : Nat} (h : s.waiting g kind = true) (w : Nat) (t : State) :
    ¬ s.Fetches g w t := by
  rintro ⟨hi, -⟩
  simp only [State.waiting, State.canIssue, Bool.and_eq_true, decide_eq_true_eq, and_assoc] at h hi
  obtain ⟨-, waits, -⟩ := h
  obtain ⟨-, runs, -⟩ := hi
  exact absurd (waits.symm.trans runs) (by decide)

/-- Settles O18: a FENCE and its release both ask whether the units that it names are empty. -/
theorem fenceHoldsIssueUntilItsUnitsAreDone : Obligations.FenceHoldsIssueUntilItsUnitsAreDone := by
  intro s s' g w h0
  refine ⟨fun h ho ⟨hm, hv, hd, hq⟩ => completes_of_fetches h0 h ho rfl (if_pos (fenced_of_empty hm hv hd hq)),
    fun h ho hf => completes_of_fetches h0 h ho rfl (if_neg (ne_true_of_eq_false hf)), fun hw => not_fetches_of_waiting hw,
    fun hs hw hf => completes_of_live h0 rfl (if_pos ⟨hs, hw, hf⟩),
    fun _ hf => completes_of_live h0 rfl (if_neg fun ⟨_, _, done⟩ => ne_true_of_eq_false hf done)⟩

/-! ### Instructions that join a queue (R95, R105, R251) -/

/-- An operation that issues to unit u has been audited and stands at the end of its queue. -/
def State.enqueue (s : State) (g u : Nat) (o : Op) : State :=
  let t := s.audit g u o
  let t := t.setQueue g u (t.queue g u ++ [o])
  { t with tile.issued := zset t.tile.issued g (o.seq + 1) }

/-- A unit's instruction in which the checks find no fault, with room in its queue, is issued. -/
theorem issueUnit_of_fetches {s s' : State} {g w opc u : Nat} (h : s.Fetches g w s') (ho : iOp w = opc)
    (hf : s'.issueFault (s.mkOp g w) = none) (hl : (s'.queue g u).length < queueCap u) :
    s.issueUnit g opc u = (s'.enqueue g u (s.mkOp g w)).advance g := by
  rw [State.issueUnit, issue_of_fetches h ho]
  simp only [hf, Nat.not_le.2 hl, if_false]
  rfl

/-- GATHER joins its queue, and the die's walker takes what GATHERs it has room for (R251). -/
theorem gather_completes {s s' : State} {g w : Nat} (h0 : s.power.off = false) (h : s.Fetches g w s') (ho : iOp w = 0x43)
    (hf : s'.issueFault (s.mkOp g w) = none) (hl : (s'.queue g 3).length < queueCap 3) :
    Completes (.gather g) s (((s'.enqueue g 3 (s.mkOp g w)).advance g).walkStart (g / 256)) :=
  completes_of_live h0 rfl (congrArg (State.walkStart · (g / 256)) (issueUnit_of_fetches h ho hf hl))

/-- The states that a command completes in differ in nothing but their queues of commands. -/
theorem Completes.walking_eq {c : Instr} {s t u : State} (h : Completes c s t) (k : Completes c s u) :
    t.msg.walking = u.msg.walking :=
  (congrArg (fun v : State => v.msg.walking) (Host.Outcome.next.inj (h.symm.trans k)) :)

/-- Tile 0 of die 0 runs, and its next instruction is a GATHER of no blocks. -/
def gatherNext : State :=
  let s := State.reset.put SIZE_TABLE_B (SIZE_TABLE.DIE_SHAPE_PRESENT.at 0 4) 1
  let s := s.put SIZE_TABLE_B (SIZE_TABLE.DIE_SHAPE_LOG_ROWS.at 0 4) 10
  ((s.put (TILE_B 0) hCTRL_ENABLE 1).put (TILE_B 0) TILE.STATUS_STATE tsRUNNING).setByte (instrAddr 0 0) 0x43

theorem gatherNext_fetches : gatherNext.Fetches 0 0x43 (gatherNext.fetch 0).2 :=
  ⟨by decide +kernel, Prod.ext (by decide +kernel) rfl⟩

/-- What the statement claims of gatherNext's GATHER: it stands in its queue, and the sequencer has gone on. -/
def gatherQueued : State := ((gatherNext.fetch 0).2.enqueue 0 3 (gatherNext.mkOp 0 0x43)).advance 0

/-- Refutes O19: an issued GATHER does not only join its queue; the walker of its die takes it up at once (R251), and the
machine notes it as walking. -/
theorem not_unitInstructionsEnterTheirQueue : ¬ Obligations.UnitInstructionsEnterTheirQueue := by
  intro h
  have on : gatherNext.power.off = false := by decide +kernel
  have ok : (gatherNext.fetch 0).2.issueFault (gatherNext.mkOp 0 0x43) = none := by decide +kernel
  have room : ((gatherNext.fetch 0).2.queue 0 3).length < queueCap 3 := by decide +kernel
  have claimed : Completes (.gather 0) gatherNext gatherQueued :=
    (h _ _ 0 0x43 on gatherNext_fetches (.gather 0, 0x43, 3) (by simp) (by decide)).1 ok room
  have actual : Completes (.gather 0) gatherNext (gatherQueued.walkStart 0) :=
    gather_completes on gatherNext_fetches (by decide) ok room
  have idle : gatherQueued.msg.walking = [] := by decide +kernel
  have taken : (gatherQueued.walkStart 0).msg.walking = [(0, 0)] := by decide +kernel
  exact absurd (taken.symm.trans ((actual.walking_eq claimed).trans idle)) (by decide)

/-! ### Completions of the units (R90, R95, R160, R249) -/

/-- Settles O20: each completion by the conditions under which its command acts. -/
theorem unitOperationsComplete : Obligations.UnitOperationsComplete := by
  intro s g u k o rest h0
  refine ⟨fun hs hq hu hi => completes_of_live h0 rfl ?pipe, fun hk ho => completes_of_live h0 rfl ?copy,
    fun hk ho hb hr => completes_of_live h0 rfl ?fetch, fun hk ho hb hr => completes_of_live h0 rfl ?store,
    fun hk ho he hw hm => completes_of_live h0 rfl ?gather, fun hk ho he hd hr => completes_of_live h0 rfl ?engineOff⟩
  case pipe =>
    rw [hq]
    exact if_pos ⟨hs, hu, List.all_eq_true.2 fun p hp => decide_eq_true (hi p hp)⟩
  case copy =>
    rw [hk]
    exact if_pos ho
  case fetch =>
    rw [hk]
    simp [ho, hb, hr]
  case store =>
    rw [hk]
    simp [ho, hb, hr]
  case gather =>
    have free : (s.walkReads g o).any (s.gatherHeld g) = false := List.any_eq_false.2 fun m h => ne_true_of_eq_false (hm m h)
    rw [hk]
    simp only [ho, he, hw, free, Bool.not_false, Bool.and_self, and_self, if_true]
  case engineOff =>
    rw [hk]
    simp only [ho, he, hd, hr, and_self, Bool.false_eq_true, and_false, if_false, if_true]

/-! ### SEND (R105, R131-R137) -/

/-- Take a flight off the mesh. -/
def State.dropFlight (s : State) (f : Nat) : State := { s with flights := s.flights.eraseIdx f }

/-- A flight that nothing holds lands, and counts its token if it ends its SEND. -/
theorem sendLanded_completes {s : State} {f : Nat} {x : Flight} (h0 : s.power.off = false) (hf : s.flights[f]? = some x)
    (hb : ∀ y ∈ s.flights.take f, x.behind y = false) (hs : x.sched = true → s.stalled = false)
    (hr : s.carried (s.crossed (tilePos x.src) (tilePos x.dst)) = true) (hd : s.tilePresent x.dst = true) :
    Completes (.sendLanded f) s (x.rtoken.elim ((s.dropFlight f).writeTWs x.dst x.addr x.landed) fun n =>
      ((s.dropFlight f).writeTWs x.dst x.addr x.landed).bumpToken x.dst n ((s.dropFlight f).pc x.dst)) := by
  have first : (s.flights.take f).any x.behind = false := List.any_eq_false.2 fun y h => ne_true_of_eq_false (hb y h)
  have moves : ¬ ((s.flights.take f).any x.behind = true ∨ (x.sched = true ∧ s.stalled = true)
      ∨ s.carried (s.crossed (tilePos x.src) (tilePos x.dst)) = false) := by
    rintro (h | ⟨h, h'⟩ | h)
    · exact ne_true_of_eq_false first h
    · exact ne_true_of_eq_false (hs h) h'
    · exact ne_true_of_eq_false h hr
  have present : (s.dropFlight f).tilePresent x.dst = true := hd
  refine completes_of_live h0 rfl ?_
  rw [hf]
  exact (if_neg moves).trans (if_pos present)

/-- Settles O21: a SEND is issued, departs and lands where nothing holds it, and what is held does not land. -/
theorem sendsDepartAndLand : Obligations.SendsDepartAndLand := by
  intro s s' g w k f o x h0
  refine ⟨fun h ho hc hf hl => completes_of_fetches h0 h ho rfl ?issue, fun hk ho hr he => completes_of_live h0 rfl ?depart,
    fun hf hb hs hr hd => ?land, fun hf hw => completes_of_live h0 rfl ?held⟩
  case issue =>
    have word : (s.mkOp g w).word = w := rfl
    rw [hf]
    simp [Nat.not_le.2 hl, word, hc]
  case depart =>
    rw [hk]
    exact if_pos ⟨ho, hr, he⟩
  case land =>
    have landed := sendLanded_completes h0 hf hb hs hr hd
    refine ⟨fun n hn => ?_, fun hn => ?_⟩
    · rwa [hn, Option.elim_some] at landed
    · rwa [hn, Option.elim_none] at landed
  case held =>
    rw [hf]
    rcases hw with ⟨y, hy, hb⟩ | hs
    · exact if_pos (.inl (List.any_eq_true.2 ⟨y, hy, hb⟩))
    · exact if_pos (.inr (.inl hs))

/-! ### POST and PUT (R105, R230) -/

theorem State.setIdx_job (s : State) (g k : Nat) (v : Int) : (s.setIdx g k v).job = s.job := s.put_job ..

theorem State.setLoops_job (s : State) (g : Nat) (l : List LoopFrame) : (s.setLoops g l).job = s.job := by
  rw [State.setLoops, State.put_job]

theorem State.setPc_job (s : State) (g v : Nat) : (s.setPc g v).job = s.job := s.put_job ..

/-- The sequencer's step to the next instruction leaves the job. -/
theorem State.advance_job (s : State) (g : Nat) : (s.advance g).job = s.job := by
  rw [State.advance, State.setPc_job, State.setLoops_job]
  refine List.foldlRecOn _ _ (motive := fun t : State => t.job = s.job) rfl fun t ht k _ => ?_
  split
  · exact ht
  · exact (State.setIdx_job ..).trans ht

/-- A message operation is made from the instruction and the job's table of destinations. -/
theorem State.tileMop_congr {s t : State} (h : t.job = s.job) (g : Nat) (o : Op) : t.tileMop g o = s.tileMop g o := by
  simp only [State.tileMop, h]

/-- A message instruction in which the checks find no fault, with room in its queue, starts its message operation. -/
theorem issueMsg_of_fetches {s s' : State} {g w opc : Nat} (h : s.Fetches g w s') (ho : iOp w = opc)
    (hf : s'.issueFault (s.mkOp g w) = none) (hl : (s'.queue g 4).length < queueCap 4) : s.issueMsg g opc =
      (((s'.enqueue g 4 (s.mkOp g w)).advance g).newMop
        (((s'.enqueue g 4 (s.mkOp g w)).advance g).tileMop g (s.mkOp g w))).msgSettle := by
  rw [State.issueMsg, issue_of_fetches h ho, State.tileMop_congr (State.advance_job ..)]
  simp only [hf, Nat.not_le.2 hl, if_false]
  rfl

/-- Settles O22: both are issued alike, and differ in the operation that their word makes. -/
theorem postsAndPutsBecomeMessageOperations : Obligations.PostsAndPutsBecomeMessageOperations := by
  intro s s' g w h0 h hf hl x hx ho
  have issued := issueMsg_of_fetches h ho hf hl
  rcases List.mem_pair.1 hx with rfl | rfl
  · exact completes_of_live h0 rfl issued
  · exact completes_of_live h0 rfl issued

/-! ### Faults and stops (R99, R112, R113, R122) -/

/-- A tile that faults while it waits at no barrier enters FAULTED once nothing is in flight. -/
theorem tileFaulted_completes {s : State} {g : Nat} (h0 : s.power.off = false) (hp : s.tilePresent g = true) (hc : s.stopCode g = 3)
    (hi : s.inflight g = false) (hw : s.waitsAt g = none) : Completes (.tileFaulted g) s
      ((((s.setT g tsFAULTED 0).setStop g 0).put (TILE_B g) TILE.CTRL_HALT_REQ 0).raise (TILE_B g) 4) := by
  have noBarrier (t : State) : (s.waitsAt g).elim t t.barrierMask = t := by rw [hw, Option.elim_none]
  exact completes_of_live h0 rfl ((if_pos ⟨hp, hc, hi⟩).trans (noBarrier _))

/-- Settles O23: each stop of a tile by the condition under which its command acts. -/
theorem tileFaultsAndHaltRequestsStopTheTile : Obligations.TileFaultsAndHaltRequestsStopTheTile := by
  intro s s' g w h0
  refine ⟨fun h ho => completes_of_live h0 rfl ?illegal, fun hi hf => completes_of_live h0 rfl ?poisoned,
    fun hp => completes_of_live h0 rfl (if_pos hp), fun hp hc hi hw => tileFaulted_completes h0 hp hc hi hw,
    fun hp => completes_of_live h0 rfl (if_pos hp), fun hp hc hi => completes_of_live h0 rfl (if_pos ⟨hp, hc, hi⟩),
    fun hp ha hl hs h1 h4 => completes_of_live h0 rfl (if_pos ⟨hp, ha, hl, hs, h1, h4⟩)⟩
  case illegal =>
    obtain ⟨hi, hf⟩ := h
    rw [if_pos hi, hf]
    exact if_neg ho
  case poisoned =>
    rw [if_pos hi, hf]
    rfl

end Sys2Proof.Machine

/-!
PROOFS. Failures of the mesh and the die links (04_mesh.md): flits beyond correction, bundles down, failed tiles and routers.
-/

namespace Sys2Proof.Machine

/-! ### Records of the parish register (R552-R558) -/

/-- The registers of LOG that an entry of a record, or its loss, writes: EVT_STAT, STAT, NEWEST, OLDEST and LOST. -/
def recordRegs : List Nat := [0x14, 0x40, 0x44, 0x48, 0x4C, 0x50, 0x5C].map (LOG_B + ·)

/-- Updates of the parish register's store change no register. -/
theorem OnlyRegs.log (l : List Nat) (s : State) (x : LogSt) : OnlyRegs l s { s with log := x } :=
  onlyRegs_of_eq rfl rfl rfl (by simp [SameParts])

theorem State.logPresent_onlyRegs (s : State) (seq : Nat) : OnlyRegs recordRegs s (s.logPresent seq) := by
  have oldest (v : Nat) : OnlyRegs recordRegs s (s.put64 LOG_B LOG.OLDEST_LO v) := .put64 (by decide) (by decide) s v
  unfold State.logPresent
  split
  · exact .refl _ s
  · split
    · exact oldest seq
    · dsimp only
      split
      · exact .refl _ s
      · exact (oldest _).trans (.log ..)

theorem State.logProgram_onlyRegs (s : State) : OnlyRegs recordRegs s s.logProgram := by
  unfold State.logProgram
  split
  · exact (OnlyRegs.put (by decide) s 1).trans (.log ..)
  · exact .refl _ s

theorem State.enterRec_onlyRegs (s : State) (source code flags : Nat) (w : List Nat) :
    OnlyRegs recordRegs s (s.enterRec source code flags w) := by
  unfold State.enterRec
  exact ((((OnlyRegs.log ..).trans (.put64 (by decide) (by decide) _ _)).trans (.put (by decide) _ _)).trans
    (State.logPresent_onlyRegs ..)).trans (State.logProgram_onlyRegs _)

theorem State.loseRec_onlyRegs (s : State) : OnlyRegs recordRegs s s.loseRec := by
  have counted (x : LogSt) : OnlyRegs recordRegs s { (s.inc LOG_B LOG.LOST_COUNT).inc LOG_B LOG.LOST_UNRECORDED with log := x } :=
    ((OnlyRegs.inc (by decide) s).trans (.inc (by decide) _)).trans (.log ..)
  unfold State.loseRec
  dsimp only
  split
  · exact (counted _).trans ((State.raise_onlyRegs ..).mono (by decide))
  · exact counted _

theorem State.record_onlyRegs (s : State) (source code : Nat) (w : List Nat) : OnlyRegs recordRegs s (s.record source code w) := by
  unfold State.record State.pushRec
  split
  · exact s.enterRec_onlyRegs ..
  · exact s.loseRec_onlyRegs

/-! ### A tile's position in its die (R140) -/

theorem fget_lt (w : Word) (f : Fld) : fget w f < 2 ^ (f.hi + 1 - f.lo) := Nat.mod_lt _ (Nat.two_pow_pos _)

theorem State.dieRows_lt (s : State) (d : Nat) : s.dieRows d < 16 := by
  unfold State.dieRows
  split
  · exact fget_lt ..
  · decide

/-- The tile that TILE_FAILED finds at a physical position is a tile of the die and lies there. -/
theorem State.tileAtPhys_some {s : State} {d row col g : Nat} (h : s.tileAtPhys d row col = some g) :
    g / 256 = d ∧ s.physOf (g / 256) (g % 256) = (row, col) := by
  obtain ⟨t, ht, rfl⟩ := Option.map_eq_some_iff.1 h
  have rows := s.dieRows_lt d
  have lt := List.mem_range.1 (List.mem_of_find?_eq_some ht)
  have phys : s.physOf d t = (row, col) := by simpa using List.find?_some ht
  have hd : (256 * d + t) / 256 = d := by omega
  have ht : (256 * d + t) % 256 = t := by omega
  exact ⟨hd, by rw [hd, ht, phys]⟩

/-! ### A failed tile (R122, R143) -/

/-- PENDING counts and names a tile of die d (R143). -/
def State.putPending (s : State) (d row col : Nat) : State :=
  (((s.inc (MESH_B d) MESH.PENDING_COUNT).put (MESH_B d) MESH.PENDING_ROW row).put (MESH_B d) MESH.PENDING_COLUMN col).put
    (MESH_B d) MESH.PENDING_VALID 1

/-- What PENDING then reads is recorded, with event 0. -/
def State.reportPending (s : State) (d : Nat) : State :=
  (s.raiseAlways (MESH_B d) 0).record (MESH_B d) 0x0030 [((s.raiseAlways (MESH_B d) 0).rd (MESH_B d + 0x4C)).toNat]

/-- The tile at a physical position of die d is known as failed. -/
def State.setFailed (s : State) (d row col : Nat) : State :=
  { s with tile.failed := zset s.tile.failed (256 * d + 16 * row + col) true }

/-- A tile that had not failed enters PENDING. -/
theorem State.tilePending_new {s : State} {d row col : Nat} (h : zget s.tile.failed (256 * d + 16 * row + col) = false) :
    s.tilePending d row col = ((s.setFailed d row col).putPending d row col).reportPending d := by
  unfold State.tilePending
  rw [if_neg (ne_true_of_eq_false h), State.reportPending, (State.raiseAlways_onlyRegs ..).regs.1 (MESH_B d + 0x4C) (by simp)]
  rfl

theorem State.putPending_onlyRegs (s : State) (d row col : Nat) : OnlyRegs [MESH_B d + 0x4C] s (s.putPending d row col) := by
  unfold State.putPending
  have own {f : Fld} (h : f.off = 0x4C) : MESH_B d + f.off ∈ [MESH_B d + 0x4C] := by rw [h]; exact List.mem_singleton.2 rfl
  exact (((OnlyRegs.inc (own rfl) s).trans (.put (own rfl) _ _)).trans (.put (own rfl) _ _)).trans (.put (own rfl) _ _)

theorem State.reportPending_onlyRegs (s : State) (d : Nat) :
    OnlyRegs ((MESH_B d + 0x14) :: recordRegs) s (s.reportPending d) := by
  unfold State.reportPending
  exact ((s.raiseAlways_onlyRegs (MESH_B d) 0).mono (by simp)).trans ((State.record_onlyRegs ..).mono (by simp))

/-- The report of a failed tile leaves the PCs of its die. -/
theorem State.pc_reportPending (s : State) {d g : Nat} (hg : g / 256 = d) (row col : Nat) :
    (((s.setFailed d row col).putPending d row col).reportPending d).pc g = s.pc g := by
  have report : TILE_B g + 0x48 ∉ (MESH_B d + 0x14) :: recordRegs := by
    simp only [recordRegs, List.map, List.mem_cons, List.not_mem_nil, or_false, TILE_B, MESH_B, dieBase, LOG_B, hg]
    omega
  have pending : TILE_B g + 0x48 ∉ [MESH_B d + 0x4C] := by
    simp only [List.mem_singleton, TILE_B, MESH_B, dieBase, hg]
    omega
  calc (((s.setFailed d row col).putPending d row col).reportPending d).pc g
    _ = ((s.setFailed d row col).putPending d row col).pc g := (State.reportPending_onlyRegs ..).regs.get_eq report
    _ = (s.setFailed d row col).pc g := (State.putPending_onlyRegs ..).regs.get_eq pending
    _ = s.pc g := State.get_congr rfl _ _

/-- A tile whose own check fails at a position that had not failed (R122). -/
theorem State.tileHwFail_new {s v : State} {d row col g : Nat} (hd : g / 256 = d) (hp : s.physOf (g / 256) (g % 256) = (row, col))
    (hz : zget s.tile.failed (256 * d + 16 * row + col) = false)
    (hv : ((s.setFailed d row col).putPending d row col).reportPending d = v) :
    s.tileHwFail g = (v.put (TILE_B g) hSTAT_FAULT 1).tfault g (v.pc g) 0x800B 0 := by
  rw [State.tileHwFail, hp, hd, State.tilePending_new hz, ← hv, s.pc_reportPending hd]

/-! ### A bundle goes down (R150, R152) -/

theorem State.bundleDown_onlyRegs (s : State) (d k i : Nat) : OnlyRegs [MESH_B d + 0x60 + k * 0x10] s (s.bundleDown d k i) := by
  unfold State.bundleDown
  have own {f : Fld} (h : f.off = 0x60) : MESH_B d + (f.at k 0x10).off ∈ [MESH_B d + 0x60 + k * 0x10] := by
    rw [Fld.at, h, ← Nat.add_assoc]; exact List.mem_singleton.2 rfl
  exact (OnlyRegs.put (own rfl) s _).trans (.put (own rfl) _ _)

/-- Whether a die is present, where every listed register lies in a die's window. -/
theorem OnlyRegs.diePresent_eq {l : List Nat} {s t : State} (h : OnlyRegs l s t) (hl : ∀ a ∈ l, 0x200000 ≤ a) (d : Nat) :
    t.diePresent d = s.diePresent d := by
  by_cases hd : d < 4
  · have hub : SIZE_TABLE_B + (SIZE_TABLE.DIE_SHAPE_PRESENT.at d 4).off ∉ l := fun m => by
      have := hl _ m
      simp only [SIZE_TABLE_B, Fld.at] at this
      omega
    rw [State.diePresent, State.diePresent, h.regs.bit_eq hub]
  · simp [State.diePresent, hd]

/-- Bundle i of link set k shows down on both its dies. -/
def State.crossingDown (s : State) (d k i : Nat) : State :=
  match linkPartner d k with
  | some e => if s.diePresent e then (s.bundleDown d k i).bundleDown e k i else s.bundleDown d k i
  | none => s.bundleDown d k i

theorem State.linkDown_eq (s : State) (d k i : Nat) : s.linkDown d k i =
    (((((s.crossingDown d k i).put (MESH_B d) hSTAT_FAULT 1).recErr (MESH_B d) 16 0x8101 pathHw (k + 16 * i)).raiseAlways
      (MESH_B d) 2).put POWER_B POWER.STATE_DEGRADED 1).meshStops := by
  unfold State.linkDown State.crossingDown
  cases linkPartner d k with
  | none => rfl
  | some e =>
    have inWindow : ∀ a ∈ [MESH_B d + 0x60 + k * 0x10], 0x200000 ≤ a := by
      simp only [List.mem_singleton, forall_eq, MESH_B, dieBase]
      omega
    simp only [(s.bundleDown_onlyRegs d k i).diePresent_eq inWindow]

/-! ### Flits (R146-R148) -/

theorem fateOf_clean_iff {e : Nat} (he : e ≠ 0) : fateOf e = .clean ↔ flitSymbols e = 0 := by
  rw [fateOf, if_neg he, flitFate]
  split_ifs with none few
  · exact iff_of_true rfl none
  · exact iff_of_false (by decide) none
  · exact iff_of_false (by decide) none

theorem fateOf_uncorrectable_iff {e : Nat} (he : e ≠ 0) : fateOf e = .uncorrectable ↔ 4 < flitSymbols e := by
  rw [fateOf, if_neg he, flitFate]
  split_ifs with none few
  · exact iff_of_false (by decide) (by omega)
  · exact iff_of_false (by decide) (by omega)
  · exact iff_of_true rfl (by omega)

/-- Settles O24: flits by their fate, a bundle down on both of its dies, and a failed tile by the report that it makes. -/
theorem linkAndTileFailuresAreReported : Obligations.LinkAndTileFailuresAreReported := by
  intro s u d k f j i b n en row col path g x h0 hh
  refine ⟨fun hd hk hf hs hj => ⟨fun fate => completes_of_live h0 rfl ?poisons, fun fate => completes_of_live h0 rfl ?corrects⟩,
    ⟨rfl, fun e he => ⟨fateOf_clean_iff he, fateOf_uncorrectable_iff he⟩⟩, ?retry,
    fun hd hi hu => completes_of_live h0 rfl ?linkDown, ?tileFailed,
    fun hd hr hc => completes_of_live h0 rfl (if_pos ⟨hd, hr, hc⟩), fun hg => completes_of_heard h0 hh rfl (if_pos hg)⟩
  case poisons =>
    rw [hf]
    dsimp only
    rw [if_pos ⟨hd, hk, hs, hj⟩, fate]
    rfl
  case corrects =>
    rw [hf]
    dsimp only
    rw [if_pos ⟨hd, hk, hs, hj⟩, fate]
    rfl
  case retry =>
    rintro hd rfl rfl hi rfl
    refine ⟨?_, ?_⟩
    · rintro fate rfl rfl
      refine ⟨fun hn => completes_of_live h0 rfl ?_, fun hn => completes_of_live h0 rfl ?_⟩
      · rw [if_pos ⟨hd, hi⟩, fate]
        exact if_pos hn
      · rw [if_pos ⟨hd, hi⟩, fate]
        exact if_neg (Nat.not_lt.2 hn)
    · rintro fate rfl
      refine completes_of_live h0 rfl ?_
      rw [if_pos ⟨hd, hi⟩, fate]
      rfl
  case linkDown =>
    have crossing : u = s.crossingDown d k i := hu
    rw [if_pos ⟨hd, hi⟩, crossing, State.linkDown_eq]
  case tileFailed =>
    rintro hd hr hc hz r q v rfl rfl rfl
    refine ⟨fun hg => completes_of_live h0 rfl ?_, fun hg => completes_of_live h0 rfl ?_⟩
    · rw [if_pos ⟨hd, hr, hc⟩, hg]
      exact State.tilePending_new hz
    · obtain ⟨die, phys⟩ := State.tileAtPhys_some hg
      rw [if_pos ⟨hd, hr, hc⟩, hg]
      exact State.tileHwFail_new die phys hz rfl

end Sys2Proof.Machine

/-!
PROOFS. What runs beside the job (06_contract.md, 11_millrace.md): reshard descriptors and the slew governor.
-/

namespace Sys2Proof.Machine

/-! ### The slew governor (R415) -/

/-- GOV_P_EST and GOV_FLOOR of die d report a power and a floor. -/
def State.putGov (s : State) (d p fl : Nat) : State :=
  (s.put MILLRACE_B (MILLRACE.GOV_P_EST.at d 4) p).put MILLRACE_B (MILLRACE.GOV_FLOOR.at d 4) fl

theorem State.putGov_onlyRegs (s : State) (d p fl : Nat) :
    OnlyRegs [MILLRACE_B + (MILLRACE.GOV_P_EST.at d 4).off, MILLRACE_B + (MILLRACE.GOV_FLOOR.at d 4).off] s (s.putGov d p fl) :=
  (OnlyRegs.put (by simp) s p).trans (.put (by simp) _ fl)

theorem State.putGov_pEst (s : State) (d : Nat) {p : Nat} (hp : p ≤ 65535) (fl : Nat) :
    (s.putGov d p fl).get MILLRACE_B (MILLRACE.GOV_P_EST.at d 4) = p := by
  rw [State.putGov, State.get_put_beside _ _ _ _ _ _ (by simp [Fld.at]) (by simp [Fld.at]) (.inl (by simp [Fld.at])),
    State.get_put_same _ _ _ _ (by simp [Fld.at]) (by simp [Fld.at])]
  simp only [Fld.at]
  omega

theorem State.putGov_floor (s : State) (d p : Nat) {fl : Nat} (hf : fl ≤ 65535) :
    (s.putGov d p fl).get MILLRACE_B (MILLRACE.GOV_FLOOR.at d 4) = fl := by
  rw [State.putGov, State.get_put_same _ _ _ _ (by simp [Fld.at]) (by simp [Fld.at])]
  simp only [Fld.at]
  omega

theorem State.putGov_mill (s : State) (d p fl : Nat) : (s.putGov d p fl).mill = s.mill := by
  rw [State.putGov, State.put_mill, State.put_mill]

/-- Keep die d's estimates, and whether they ask for a stall. -/
def State.keepEsts (s : State) (d : Nat) (h : List Nat) (stall : Bool) : State :=
  { s with mill.ests := zset s.mill.ests d h, mill.stall := zset s.mill.stall d stall }

/-- The least of the estimates that precede the estimate w of die d, w itself where there is none. -/
def State.govFloor (s : State) (d w : Nat) : Nat := (zget s.mill.ests d).foldl min ((zget s.mill.ests d).headD w)

/-- Does the estimate w of die d exceed the floor by more than the limit less two watts? -/
def State.govStalls (s : State) (d w : Nat) : Bool :=
  decide (s.govFloor d w + min 60 (max 1 (s.get MILLRACE_B MILLRACE.GOV_CTRL_LIMIT_W)) < w + 2)

theorem State.governor_eq (s : State) (d w : Nat) : s.governor d w =
    (s.keepEsts d ((w :: zget s.mill.ests d).take 100) (s.govStalls d w)).putGov d (min w 65535) (min (s.govFloor d w) 65535) := rfl

theorem State.governor_ests (s : State) (d w : Nat) :
    zget (s.governor d w).mill.ests d = (w :: zget s.mill.ests d).take 100 := by
  rw [State.governor_eq, State.putGov_mill, State.keepEsts, zget_zset_same]

theorem State.governor_stall (s : State) (d w : Nat) : zget (s.governor d w).mill.stall d = s.govStalls d w := by
  rw [State.governor_eq, State.putGov_mill, State.keepEsts, zget_zset_same]

theorem State.governor_pEst (s : State) (d w : Nat) :
    (s.governor d w).get MILLRACE_B (MILLRACE.GOV_P_EST.at d 4) = min w 65535 := by
  rw [State.governor_eq, State.putGov_pEst _ d (Nat.min_le_right ..)]

theorem State.governor_floor (s : State) (d w : Nat) :
    (s.governor d w).get MILLRACE_B (MILLRACE.GOV_FLOOR.at d 4) = min (s.govFloor d w) 65535 := by
  rw [State.governor_eq, State.putGov_floor _ d _ (Nat.min_le_right ..)]

/-- An estimate of die d changes the die's governor and its two fields alone. -/
theorem State.governor_frame (s : State) (d w : Nat) :
    SameRegsBut [MILLRACE_B + (MILLRACE.GOV_P_EST.at d 4).off, MILLRACE_B + (MILLRACE.GOV_FLOOR.at d 4).off] s (s.governor d w)
    ∧ SameBytes s (s.governor d w) ∧ (s.governor d w).tile = s.tile ∧ (s.governor d w).job = s.job
    ∧ (s.governor d w).flights = s.flights := by
  rw [State.governor_eq]
  have frame := (s.keepEsts d ((w :: zget s.mill.ests d).take 100) (s.govStalls d w)).putGov_onlyRegs d (min w 65535)
    (min (s.govFloor d w) 65535)
  obtain ⟨tile, flights, job, -⟩ := frame.parts
  exact ⟨frame.regs, frame.bytes, tile, job, flights⟩

/-! The queue of commands is no register and no byte of memory. -/

theorem SameRegsBut.pending {l : List Nat} {s t : State} (h : SameRegsBut l s t) (q : List Instr) :
    SameRegsBut l s { t with pending := q } := h

theorem SameBytes.pending {s t : State} (h : SameBytes s t) (q : List Instr) : SameBytes s { t with pending := q } := h

theorem State.get_pending (s : State) (q : List Instr) (a : Nat) (f : Fld) : ({ s with pending := q } : State).get a f = s.get a f :=
  State.get_congr rfl a f

/-- Settles O29: a descriptor's end and timeout each by its conditions, an estimate by what it leaves in the governor. -/
theorem reshardAndGovernorRunBesideTheJob : Obligations.ReshardAndGovernorRunBesideTheJob := by
  intro s i d w h0
  refine ⟨fun hr hf hh hq => completes_of_live h0 rfl (if_pos ?_), fun hr hl => completes_of_live h0 rfl (if_pos ?_),
    fun hd => ⟨_, exec_of_live h0 (congrArg s.live (if_pos hd)), ?_⟩⟩
  · have copies : (decide ((s.rsDesc i).kind ≠ 0) || !s.bit (RESHARD_B (s.rsDesc i).die) hCTRL_QUIESCE) = true := by simpa using hq
    simp only [hr, hf, hh, copies, Bool.not_false, Bool.and_self]
  · rw [hr, hl, Bool.and_self]
  · obtain ⟨regs, bytes, tile, job, flights⟩ := s.governor_frame d w
    exact ⟨s.governor_ests d w, s.governor_stall d w, (State.get_pending ..).trans (s.governor_pEst d w),
      (State.get_pending ..).trans (s.governor_floor d w), regs.pending _, bytes.pending _, tile, job, flights⟩

end Sys2Proof.Machine

/-!
PROOFS. The job's own steps (06_contract.md, 03_tile.md): the end of a load, the phase change at its instant and after late
tiles, the switch that fires first, and the schedule's start.
-/

namespace Sys2Proof.Machine

/-! ### A load's end (R212, R213) -/

theorem State.loadEnd_of_finding {s : State} {r : Refuse}
    (h : checkImage s.imgBytes.2 s.imgBytes.2.imgAddr s.imgBytes.2.imgLen s.imgBytes.1 = some r) :
    s.loadEnd = s.imgBytes.2.loadRefused r := by
  simp only [State.loadEnd, h]

theorem State.loadEnd_of_passes {s : State}
    (h : checkImage s.imgBytes.2 s.imgBytes.2.imgAddr s.imgBytes.2.imgLen s.imgBytes.1 = none)
    (free : s.imgBytes.2.contentsHeld s.imgBytes.1 = false) : s.loadEnd = s.imgBytes.2.loadAccepted s.imgBytes.1 := by
  simp only [State.loadEnd, h, free, Bool.false_eq_true, if_false]

/-! ### A phase change (R216-R218) -/

/-- No change stays armed: the armed one is taken. -/
def State.takeArmed (s : State) : State := (s.put jobB DIE.JOB_STAT_ARMED 0).put jobB DIE.JOB_STAT_AUTO 0

/-- Has a tile of the module faulted? -/
def State.anyFaulted (s : State) : Bool := s.tiles.any fun g => decide (s.tstate g = tsFAULTED)

/-- What becomes of phase p at instant t, once the armed change is taken and LATE is recorded. -/
theorem State.phaseChange_eq (s : State) : s.phaseChange =
    if s.takeArmed.anyFaulted then (s.takeArmed.jobFails 2).haltAllMsg
    else if s.takeArmed.lateTiles = [] then
      (s.takeArmed.recordLate s.takeArmed.lateTiles).planAndStart (s.get jobB DIE.JOB_STAT_ARMED_PHASE) s.job.armT
    else if ((s.takeArmed.recordLate s.takeArmed.lateTiles).phaseEnt (s.get jobB DIE.JOB_STAT_ARMED_PHASE)).flags / 2 % 2 = 1 then
      { s.takeArmed.recordLate s.takeArmed.lateTiles with job.late := some (s.get jobB DIE.JOB_STAT_ARMED_PHASE, s.job.armT) }
    else ((s.takeArmed.recordLate s.takeArmed.lateTiles).jobFails 1).haltAllMsg := rfl

theorem State.phaseChange_of_faulted {s : State} (h : s.takeArmed.anyFaulted = true) :
    s.phaseChange = (s.takeArmed.jobFails 2).haltAllMsg := by
  rw [State.phaseChange_eq, if_pos h]

theorem State.phaseChange_of_punctual {s : State} (h : s.takeArmed.anyFaulted = false) (hl : s.takeArmed.lateTiles = []) :
    s.phaseChange = (s.takeArmed.recordLate []).planAndStart (s.get jobB DIE.JOB_STAT_ARMED_PHASE) s.job.armT := by
  rw [State.phaseChange_eq, if_neg (ne_true_of_eq_false h), if_pos hl, hl]

theorem State.phaseChange_of_waits {s : State} (h : s.takeArmed.anyFaulted = false) (hl : s.takeArmed.lateTiles ≠ [])
    (hw : ((s.takeArmed.recordLate s.takeArmed.lateTiles).phaseEnt (s.get jobB DIE.JOB_STAT_ARMED_PHASE)).flags / 2 % 2 = 1) :
    s.phaseChange = { s.takeArmed.recordLate s.takeArmed.lateTiles with
      job.late := some (s.get jobB DIE.JOB_STAT_ARMED_PHASE, s.job.armT) } := by
  rw [State.phaseChange_eq, if_neg (ne_true_of_eq_false h), if_neg hl, if_pos hw]

theorem State.phaseChange_of_late {s : State} (h : s.takeArmed.anyFaulted = false) (hl : s.takeArmed.lateTiles ≠ [])
    (hw : ((s.takeArmed.recordLate s.takeArmed.lateTiles).phaseEnt (s.get jobB DIE.JOB_STAT_ARMED_PHASE)).flags / 2 % 2 ≠ 1) :
    s.phaseChange = ((s.takeArmed.recordLate s.takeArmed.lateTiles).jobFails 1).haltAllMsg := by
  rw [State.phaseChange_eq, if_neg (ne_true_of_eq_false h), if_neg hl, if_neg hw]

/-- PHASE_CHANGE of a due change completes with the change, after the switch that fires first. -/
theorem phaseChange_completes {s t : State} (h0 : s.power.off = false) (due : s.changeDue = true)
    (h : s.fireSwitch.phaseChange = t) : Completes .phaseChange s t.msgSettle :=
  completes_of_live h0 rfl (by rw [if_pos due, h])

/-- LATE_PHASE_START completes with the start of the phase that waits, after the switch that fires first. -/
theorem latePhaseStart_completes {s : State} {p t : Nat} (h0 : s.power.off = false) (hw : s.job.late = some (p, t))
    (hl : ∀ g ∈ s.lateTiles, s.tstate g = tsFAULTED) (hj : s.jobState ≠ jsFAILED) :
    Completes .latePhaseStart s (s.fireSwitch.lateStart p t).msgSettle := by
  have settled : (s.lateTiles.all fun g => decide (s.tstate g = tsFAULTED)) = true := by simpa using hl
  refine completes_of_live h0 rfl ?_
  rw [hw]
  exact if_pos ⟨settled, hj⟩

/-! ### The timed switch (R427, R436) -/

theorem State.fireSwitch_of_reached {s : State} (armed : s.trigArmed 31 = true)
    (reached : s.reached (s.get64 TRIGGERS_B (trigF TRIGGERS.TIME_LO 31)) = true) : s.fireSwitch = s.trigFire 31 :=
  if_pos ⟨armed, reached⟩

theorem State.fireSwitch_of_not_reached {s : State}
    (h : s.trigArmed 31 = false ∨ s.reached (s.get64 TRIGGERS_B (trigF TRIGGERS.TIME_LO 31)) = false) : s.fireSwitch = s := by
  refine if_neg fun ⟨armed, reached⟩ => ?_
  cases h with
  | inl idle => exact ne_true_of_eq_false idle armed
  | inr early => exact ne_true_of_eq_false early reached

/-- Settles O28: the load by its finding, the change by the tiles that it finds, each after the switch that is due. -/
theorem loadsAndPhaseChangesTakeEffect : Obligations.LoadsAndPhaseChangesTakeEffect := by
  intro s u v p t r h0
  refine ⟨fun hj hr hm => ?load, ?change, latePhaseStart_completes h0,
    ⟨State.fireSwitch_of_reached, State.fireSwitch_of_not_reached⟩, fun hs hf => completes_of_live h0 rfl (if_pos ?flights)⟩
  case load =>
    have ends {b : State} (h : s.loadEnd = b) : Completes .loadComplete s b :=
      completes_of_live h0 rfl ((if_pos ⟨hj, hr, hm⟩).trans h)
    exact ⟨fun finding => ends (State.loadEnd_of_finding finding), fun passes free => ends (State.loadEnd_of_passes passes free)⟩
  case change =>
    rintro due rfl rfl rfl rfl
    exact ⟨fun faulted => phaseChange_completes h0 due (State.phaseChange_of_faulted faulted), fun sound =>
      ⟨fun punctual => phaseChange_completes h0 due (State.phaseChange_of_punctual sound punctual),
        fun late waits => phaseChange_completes h0 due (State.phaseChange_of_waits sound late waits),
        fun late fails => phaseChange_completes h0 due (State.phaseChange_of_late sound late fails)⟩⟩
  case flights =>
    have landed : (s.flights.all fun f => !f.sched) = true := by simpa using hf
    rw [hs, landed, Bool.and_self]

end Sys2Proof.Machine

/-!
PROOFS. Memory (05_memory.md): stacks that fail or are to be mapped out, the wipe, and the scrubbers.
-/

namespace Sys2Proof.Machine

/-! ### Failed stacks (R180, R182) -/

/-- A stack that is not marked is marked, with event 3 and the cause. -/
theorem State.markStack_unmarked {s : State} {m : Nat} (h : s.bit (HBM_B m) HBM.STACK_STAT_MARKED = false) (cause : Nat) :
    s.markStack m cause
      = { (s.put (HBM_B m) HBM.STACK_STAT_MARKED 1).raise (HBM_B m) 3 with mapoutRec := zset s.mapoutRec m cause } :=
  if_neg (ne_true_of_eq_false h)

/-- Channel c of stack m fails: it is recorded, and so is CHANNEL_FAIL with the page's FAULT. -/
def State.failChannel (s : State) (m c : Nat) : State :=
  ({ s with chanFail := zset s.chanFail (m * 32 + c) true }.put (HBM_B m) hSTAT_FAULT 1).recErr (HBM_B m) 17 0x8202 pathHw c

/-- A channel's failure itself leaves the mark of its stack. -/
theorem State.failChannel_marked (s : State) (m c : Nat) :
    (s.failChannel m c).bit (HBM_B m) HBM.STACK_STAT_MARKED = s.bit (HBM_B m) HBM.STACK_STAT_MARKED := by
  rw [State.failChannel, (State.recErr_onlyRegs ..).regs.bit_eq (by simp [errRegs]), State.bit, State.get_put_ne _ _ _ _ _ _ (by simp)]
  rfl

theorem State.recErr_mapoutRec (s : State) (b i code path addr : Nat) : (s.recErr b i code path addr).mapoutRec = s.mapoutRec := by
  by_cases h : s.get b hERR_STAT = 0
  · rw [State.recErr_first h, State.traceEntry_mapoutRec, State.captureErr, State.put64_mapoutRec, State.put_mapoutRec,
      State.put_mapoutRec, State.put_mapoutRec, State.put_mapoutRec]
  · rw [State.recErr_later h, State.traceEntry_mapoutRec, State.countErr, State.inc_mapoutRec, State.put_mapoutRec]

theorem State.failChannel_mapoutRec (s : State) (m c : Nat) : (s.failChannel m c).mapoutRec = s.mapoutRec := by
  rw [State.failChannel, State.recErr_mapoutRec, State.put_mapoutRec]

/-! ### Requests for map-out (R185) -/

/-- A command that sets a one-bit field of a page: the field reads 1, another field g of its register stays, and nothing
beside the register changes. -/
theorem exec_setsBit {c : Instr} {s : State} {b : Nat} {f g : Fld} (h0 : s.power.off = false)
    (he : exec c s = s.live (s.put b f 1)) (hf : f.hi = f.lo) (h32 : f.hi < 32) (hg : g.hi < f.lo ∨ f.hi < g.lo) :
    ∃ t, exec c s = .next t ∧ t.bit b f = true ∧ t.get b g = s.get b g ∧ SameRegsBut [b + f.off] s t ∧ SameBytes s t
      ∧ SameParts s t := by
  have frame : OnlyRegs [b + f.off] s (s.put b f 1) := .put (List.mem_singleton.2 rfl) s 1
  obtain ⟨regs, bytes, parts⟩ := frame.pending s.pending
  exact ⟨_, exec_of_live h0 he, s.bit_put_same b f 1 hf h32, s.get_put_beside b b f g 1 hf.ge h32 hg, regs, bytes, parts⟩

/-- Settles O26: the failure leaves the mark as it found it, so that an unmarked stack is marked; a request is one bit. -/
theorem stackFailuresAndMapOutRequests : Obligations.StackFailuresAndMapOutRequests := by
  intro s m c h0
  refine ⟨fun hm hc unmarked => ⟨_, rfl, completes_of_live h0 rfl ((if_pos ⟨hm, hc⟩).trans ?marks)⟩, fun hm hd => ⟨?req, ?retry⟩,
    fun hb => completes_of_live h0 rfl (if_pos hb)⟩
  case marks =>
    have still := (s.failChannel_marked m c).trans unmarked
    have marked := State.markStack_unmarked still 4
    rwa [State.failChannel_mapoutRec] at marked
  case req => exact exec_setsBit h0 (congrArg s.live (if_pos ⟨hm, hd⟩)) rfl (by decide) (.inl (by decide))
  case retry => exact exec_setsBit h0 (congrArg s.live (if_pos ⟨hm, hd⟩)) rfl (by decide) (.inr (by decide))

/-! ### The tile scrubber (R167, R173) -/

/-- What a scrub visit does with what it reads at word wa of tile g, unit u: a clean or poisoned word stays. -/
def State.scrubVisit (s : State) (g wa u : Nat) : State :=
  let (x, found) := s.readUnit u
  match found with
  | .corrected => (s.setUnit u x false).inc (DIE_B (g / 256)) DIE.SRAM_CORR_COUNT
  | .uncorrectable =>
    (((((s.setUnit u x true).inc (DIE_B (g / 256)) DIE.SRAM_UNCORR_COUNT).put (DIE_B (g / 256))
      DIE.SRAM_LAST_TILE (g % 256)).put (DIE_B (g / 256)) DIE.SRAM_LAST_TWA wa).put (DIE_B (g / 256))
      DIE.SRAM_LAST_VALID 1).raise (DIE_B (g / 256)) 8
  | .ok => s
  | .poisoned => s

/-- A punctual turn of the scrubber at a data or staging word completes with the visit. -/
theorem sramScrubTurn_completes {s v : State} {g wa e c : Nat} (h0 : s.power.off = false) (hp : s.tilePresent g = true)
    (hw : wa < tileWords) (hi : s.get (DIE_B (g / 256)) DIE.SRAM_SCRUB_INTERVAL ≠ 0)
    (hr : ∀ t ∈ s.tiles, t / 256 = g / 256 → s.bit (TILE_B t) hCTRL_BLOCK_RESET = false)
    (hs : s.scrubElsewhere (twAddr g wa) = false)
    (hv : v = ({ s.upsetUnit (twAddr g wa) (wordErr e c) with tile.urgent := s.tile.urgent.filter (· ≠ twAddr g wa) }).scrubTurn
      (g / 256) (twAddr g wa)) : Completes (.sramScrubTurn g wa e 0 c) s (v.scrubVisit g wa (twAddr g wa)) := by
  have running : (s.tiles.all fun t => t / 256 ≠ g / 256 || !s.bit (TILE_B t) hCTRL_BLOCK_RESET) = true := by
    simp only [List.all_eq_true, Bool.or_eq_true, decide_eq_true_eq, Bool.not_eq_true']
    exact fun t ht => or_iff_not_imp_left.2 fun hd => hr t ht (not_not.1 hd)
  refine completes_of_live h0 rfl ?_
  rw [if_pos hw, if_pos ⟨hp, .inl hw, hi, running, hs⟩, hv, State.scrubVisit]
  -- The sides agree whatever a read finds: with the read left open, the kernel does not evaluate it to compare them.
  obtain ⟨read, hread⟩ : ∃ f, f = State.readUnit := ⟨_, rfl⟩
  rw [← hread]
  rfl

/-! ### The stack scrubber (R174) -/

/-- The state after the scrub read of block n of stack m, with the upset e that the block took. -/
def State.scrubRead (s : State) (m n e : Nat) : State :=
  ((s.upsetUnit (m * 0x1000000000 + 64 * n) e).readBlock (m * 0x1000000000 + 64 * n)).2

/-- SCRUB_POS goes on from block n, and after the last block back to 0 with the pass counted. -/
def State.scrubOn (s : State) (m n : Nat) : State :=
  if n + 1 < stackBlocks then s.put (HBM_B m) HBM.SCRUB_POS_BLOCK (n + 1)
  else ((s.put (HBM_B m) HBM.SCRUB_POS_BLOCK 0).put (HBM_B m) HBM.SCRUB_PASS_COUNT
    (s.get (HBM_B m) HBM.SCRUB_PASS_COUNT + 1)).raise (HBM_B m) 2

/-- A scrub step of a stack in service completes with the read of its block and the step to the next. -/
theorem hbmScrubStep_completes {s : State} {m n : Nat} (h0 : s.power.off = false) (hm : s.stackIn m = true)
    (hon : s.on (HBM_B m) = true) (hq : s.bit (HBM_B m) hSTAT_QUIESCED = false)
    (hp : s.get (HBM_B m) HBM.SCRUB_PERIOD_SECONDS ≠ 0) (hn : s.get (HBM_B m) HBM.SCRUB_POS_BLOCK = n) (e : Nat) :
    Completes (.hbmScrubStep m e) s ((s.scrubRead m n e).scrubOn m n) := by
  subst hn
  exact completes_of_live h0 rfl (if_pos ⟨hm, hon, hq, hp⟩)

/-- Settles O25: a turn's visit by what it reads, a stack's step by whether the block is the last. -/
theorem scrubbersCorrectAndReport : Obligations.ScrubbersCorrectAndReport := by
  intro s v g wa e c m n x h0
  refine ⟨fun hp hw hi hr hs hv => ?turn, fun hm hon hq hp hn hv => ?step⟩
  case turn =>
    have done := sramScrubTurn_completes h0 hp hw hi hr hs hv
    rw [State.scrubVisit] at done
    refine ⟨fun clean => ?_, fun corrected => ?_, fun uncorrectable => ?_⟩
    · rwa [clean] at done
    · rwa [corrected] at done
    · rwa [uncorrectable] at done
  case step =>
    have done := hbmScrubStep_completes h0 hm hon hq hp hn e
    rw [State.scrubRead, ← hv, State.scrubOn] at done
    refine ⟨fun more => ?_, fun last => ?_⟩
    · have more : n + 1 < stackBlocks := more
      rwa [if_pos more] at done
    · have last : ¬ n + 1 < stackBlocks := Nat.not_lt.2 last
      rw [State.get_put_ne _ _ _ _ _ _ (by simp)]
      rwa [if_neg last] at done

end Sys2Proof.Machine

/-!
PROOFS. Resets and the life cycle (15_power_reset.md): keys, causes, the watchdog and upsets of critical state.
-/

namespace Sys2Proof.Machine

/-! ### RESET.CTRL (R505) -/

/-- RESET.CTRL with its key resets what the value's low two bits name. -/
theorem State.resetCtrl_module (s : State) (path : Nat) : s.resetCtrl path (0x5253 * 2 ^ 16 + 1) = s.moduleReset 0x40 :=
  if_pos (by decide)

theorem State.resetCtrl_reeve (s : State) (path : Nat) : s.resetCtrl path (0x5253 * 2 ^ 16 + 2) = s.warmReset 14 :=
  (if_neg (by decide)).trans (if_pos (by decide))

/-- RESET.CTRL with another key is refused, whatever the value's low half. -/
theorem State.resetCtrl_badKey (s : State) (path : Nat) {key low : Nat} (hk : key % 2 ^ 16 ≠ 0x5253) (hl : low < 2 ^ 16) :
    s.resetCtrl path (key % 2 ^ 16 * 2 ^ 16 + low) = s.recErrX RESET_B 16 0x9001 path := by
  have read : (key % 2 ^ 16 * 2 ^ 16 + low) / 2 ^ 16 % 2 ^ 16 = key % 2 ^ 16 := by omega
  rw [State.resetCtrl, read, if_neg fun h => hk h.1, if_neg fun h => hk h.1]

/-! ### The watchdog (R506-R508) -/

theorem wdtExpired_first {s : State} (h0 : s.power.off = false) (en : s.bit RESET_B RESET.WDT_CTRL_EN = true)
    (stage : s.get RESET_B RESET.WDT_STAT_STAGE = 0) : Completes .wdtExpired s s.wdtFirst :=
  completes_of_live h0 rfl ((if_pos en).trans (if_pos stage))

theorem wdtExpired_second {s : State} (h0 : s.power.off = false) (en : s.bit RESET_B RESET.WDT_CTRL_EN = true)
    (stage : s.get RESET_B RESET.WDT_STAT_STAGE ≠ 0) :
    Completes .wdtExpired s ((s.raise RESET_B 1).coldReset 8 (s.raise RESET_B 1).resetting) :=
  completes_of_live h0 rfl ((if_pos en).trans (if_neg stage))

/-! ### Upsets of critical state (R175) -/

/-- Critical state of the kind is lost at addr: CRIT_INFO and CRIT_ADDR store what was hit. -/
def State.critStore (s : State) (kind addr : Nat) : State :=
  { (s.wr (BACKUP_B + 0x54) (BitVec.ofNat 32 (critType kind + kind * 2 ^ 16 + 2 ^ 31))).put64 BACKUP_B BACKUP.CRIT_ADDR_LO addr with
    power.critOwed := true }

section CritEcc
variable {s : State} {kind e : Nat} (h0 : s.power.off = false) (h1 : 1 ≤ kind) (h5 : kind ≤ 5) (addr : Nat)
include h0 h1 h5

/-- An error that the check symbols or the copies survive is corrected. -/
theorem critEcc_corrects (harmless : critHarmless kind e = true) :
    Completes (.critEcc kind addr (2 * e)) s (s.critCorrect kind addr e) := by
  have half : 2 * e / 2 = e := by omega
  refine completes_of_live h0 rfl ((if_pos ⟨h1, h5⟩).trans ?_)
  rw [half, if_pos harmless]

/-- Another one is stored and restored, and resets the module; a lost claim raises CLAIM event 2 (R448). -/
theorem critEcc_resets (harmful : critHarmless kind e = false) : Completes (.critEcc kind addr (2 * e)) s
    (if kind = 5 then (((s.critStore kind addr).critRestore kind false).moduleReset 0x20).raise CLAIM_B 2
      else ((s.critStore kind addr).critRestore kind false).moduleReset 0x20) := by
  have half : 2 * e / 2 = e := by omega
  have even : decide (2 * e % 2 = 1) = false := decide_eq_false (by omega)
  refine completes_of_live h0 rfl ((if_pos ⟨h1, h5⟩).trans ?_)
  rw [half, even, if_neg (ne_true_of_eq_false harmful), State.critStore]

end CritEcc

/-! ### The life cycle (R522-R524) -/

/-- A life-cycle write that the rules allow resets the module towards its target. -/
theorem State.lcWrite_allowed {s : State} {path target : Nat} (ha : lcAllowed (s.get POWER_B POWER.LC_STATE) (target % 4) = true)
    (hl : s.jobState ≠ jsLOADING) (hr : s.jobState ≠ jsRUNNING) :
    s.lcWrite path 0x4C43 target = { s with power.lcTarget := some (target % 4) }.moduleReset 0x40 :=
  if_pos ⟨rfl, ha, hl, hr⟩

theorem State.lcWrite_refused {s : State} {path key target : Nat}
    (h : lcAllowed (s.get POWER_B POWER.LC_STATE) (target % 4) = false ∨ s.jobState = jsLOADING ∨ s.jobState = jsRUNNING
      ∨ key % 2 ^ 16 ≠ 0x4C43) : s.lcWrite path key target = s.recErrX POWER_B 16 0x8F01 path := by
  refine if_neg fun ⟨hk, ha, hl, hr⟩ => ?_
  rcases h with banned | loading | running | wrongKey
  · exact ne_true_of_eq_false banned ha
  · exact hl loading
  · exact hr running
  · exact wrongKey hk

/-- LC_CHANGED enters the target that the reset was made for, once bring-up has come to step 5. -/
theorem lcChanged_completes {s : State} {target : Nat} (h0 : s.power.off = false) (ht : s.power.lcTarget = some target)
    (hb : 5 ≤ s.bstep) :
    Completes .lcChanged s ({ s with power.lcTarget := none }.enterLc (s.get POWER_B POWER.LC_STATE) target) := by
  refine completes_of_live h0 rfl ?_
  rw [ht]
  exact if_pos hb

/-- Settles O56: each reset by its key, its causes or the watchdog's stage, an upset by whether its word survives it. -/
theorem resetsNeedTheirKeyAndCause : Obligations.ResetsNeedTheirKeyAndCause := by
  intro s path key causes kind addr e target h0 hh
  refine ⟨completes_of_heard h0 hh rfl (s.resetCtrl_module path), completes_of_heard h0 hh rfl (s.resetCtrl_reeve path),
    fun hk => ⟨completes_of_heard h0 hh rfl (s.resetCtrl_badKey path hk (by decide)),
      completes_of_heard h0 hh rfl (s.resetCtrl_badKey path hk (by decide))⟩,
    fun hc => completes_of_live h0 rfl (if_neg hc), fun hc => completes_of_live h0 rfl (if_neg hc),
    completes_of_live h0 rfl (if_pos rfl), completes_of_live h0 rfl (if_neg (by decide)),
    completes_of_live h0 rfl (if_pos (by decide)), fun en => ⟨_, rfl, wdtExpired_first h0 en, wdtExpired_second h0 en⟩, ?lost,
    fun h1 h5 => critEcc_corrects h0 h1 h5 addr,
    fun ha hl hr => completes_of_heard h0 hh rfl (State.lcWrite_allowed ha hl hr),
    fun refused => completes_of_heard h0 hh rfl (State.lcWrite_refused refused), lcChanged_completes h0⟩
  case lost =>
    rintro h1 h5 harmful u rfl
    have done := critEcc_resets h0 h1 h5 addr harmful
    refine ⟨fun other => ?_, fun claim => ?_⟩
    · rwa [if_neg other] at done
    · rwa [if_pos claim] at done

end Sys2Proof.Machine

/-!
PROOFS. Bring-up (15_power_reset.md, 95_what_each_step_holds.md): each step under the conditions it runs in.
-/

namespace Sys2Proof.Machine

/-! ### The steps (R512-R520) -/

/-- A step whose command runs while the Reeve is up. -/
theorem State.stepRuns {s : State} {k : Nat} (hb : s.bringUp k = true) (hr : s.reeve.down = false) :
    (s.bringUp k && !s.reeve.down) = true := by
  rw [hb, hr]
  rfl

section Steps
variable {s : State} (h0 : s.power.off = false)
include h0

/-- FIRMWARE of a boot with no finding (R512). -/
theorem firmware_completes (hb : s.bringUp 0 = true ∨ s.bringUp 1 = true) (hrom : s.upd.rom = 0) (hr : s.reeve.down = false)
    {u : State} (hu : u = s.loadTables.setReady hubPages) : Completes (.firmware 0 0 0) s
      (((u.record RESET_B 0x0010 [(u.rd (RESET_B + 0x40)).toNat, (u.rd (BACKUP_B + 0x50)).toNat, (u.rd (MODULE_B + 0x4C)).toNat,
        (u.rd (UPDATE_B + 0x58)).toNat]).owedRecs).stepEnd 1) := by
  have runs : ((s.bringUp 0 || s.bringUp 1) && decide (s.upd.rom = 0) && !s.reeve.down) = true := by simp [hb, hrom, hr]
  subst hu
  exact completes_of_live h0 rfl (if_pos runs)

/-- CLOCK with a reference in tolerance, or with none needed (R515). -/
theorem clock_completes (hb : s.bringUp 2 = true) (hr : s.reeve.down = false) {ref : Nat}
    (href : s.bit MODULE_B MODULE.STRAPS_CLKMODE = true ∨ ref = 1) {u : State}
    (hu : u = (if ref = 1 then s.refclkRises else s.refclkFalls).put MODULE_B MODULE.CLK_STAT_ROOT_LOCK 1) :
    Completes (.clock ref) s { u.put POWER_B POWER.STATE_STEP 3 with power.waitRails := true }.tryRails := by
  have runs : (s.bringUp 2 && !s.reeve.down && (s.bit MODULE_B MODULE.STRAPS_CLKMODE || decide (ref = 1))) = true := by
    simpa [hb, hr] using href
  subst hu
  exact completes_of_live h0 rfl (if_pos runs)

/-- MAIN_RAILS of rails that all come up, at an inlet of 25 degrees (R517). -/
theorem mainRails_completes (hb : s.bringUp 3 = true) (hw : s.power.waitRails = false) : Completes (.mainRails 0 25) s
    (((((((s.put POWER_B POWER.RAILS_MAIN_OK 1).put POWER_B POWER.RAILS_CORE_OK 15).put POWER_B POWER.RAILS_HBM_OK 255).put POWER_B
      POWER.RAILS_OE_OK 3).savedVolts.owedRecs.setItem 0 0 0).setItem 4 0 25).stepEnd 3) :=
  completes_of_live h0 rfl (if_pos (by rw [hb, hw]; rfl))

end Steps

/-- Settles O57: each command in the conditions of its step, and the Reeve's return outside an activation. -/
theorem bringUpRunsItsSteps : Obligations.BringUpRunsItsSteps := by
  intro s dead train bist ns combs ref tiles links codes rings mzis lks h0
  exact ⟨fun hb hrom hr => ⟨_, rfl, firmware_completes h0 hb hrom hr rfl⟩, fun hb hr href => ⟨_, rfl, clock_completes h0 hb hr href rfl⟩,
    mainRails_completes h0, fun hb hr => completes_of_live h0 rfl (if_pos (State.stepRuns hb hr)),
    fun hb hr => completes_of_live h0 rfl (if_pos (State.stepRuns hb hr)),
    fun hr _ => completes_of_live h0 rfl (if_neg (ne_true_of_eq_false hr)),
    fun hb hr => completes_of_live h0 rfl (if_pos (State.stepRuns hb hr)),
    fun hr hrom hu => completes_of_live h0 rfl (if_pos ⟨hr, hrom, hu⟩)⟩

end Sys2Proof.Machine

/-!
PROOFS. JOB_CTRL (06_contract.md): a job command is a write of its bit, which the job state accepts or refuses, and which
waits while the Reeve is down.
-/

namespace Sys2Proof.Machine

/-! ### A write of one bit of JOB_CTRL (R211) -/

/-- What the command of bit k does in a state that accepts it. -/
def State.jobAct (s : State) (path page k : Nat) : State :=
  if k = 0 then s.jobLoad else if k = 1 then s.jobStart path page else if k = 2 then s.jobStop else s.jobUnload

theorem State.jobAct_load {s : State} {path page : Nat} : s.jobAct path page 0 = s.jobLoad := if_pos rfl

theorem State.jobAct_start {s : State} {path page : Nat} : s.jobAct path page 1 = s.jobStart path page := by simp [State.jobAct]

theorem State.jobAct_stop {s : State} {path page : Nat} : s.jobAct path page 2 = (s.haltAllMsg.reshardAbandon).jobEnds jsSTOPPED := by
  simp [State.jobAct, State.jobStop]

theorem State.jobAct_unload {s : State} {path page : Nat} : s.jobAct path page 3 = s.jobUnload := by simp [State.jobAct]

theorem State.jobCtrl_two_pow (s : State) (path page : Nat) {k : Nat} (hk : k < 4) : s.jobCtrl path page (2 ^ k) =
    if s.bit POWER_B POWER.STATE_HOLD = true ∨ jobAccepts k s.jobState = false then
      s.recErr page 16 0x8301 path (2 ^ k + s.jobState * 256)
    else s.jobAct path page k := by
  have kept : 2 ^ k % 16 = 2 ^ k := Nat.mod_eq_of_lt (Nat.pow_lt_pow_right Nat.one_lt_two hk)
  simp [State.jobCtrl, State.jobAct, kept, Nat.log2_two_pow]

theorem State.jobCtrl_refused {s : State} {k : Nat} (hk : k < 4) (refuses : jobAccepts k s.jobState = false) (path page : Nat) :
    s.jobCtrl path page (2 ^ k) = s.recErr page 16 0x8301 path (2 ^ k + s.jobState * 256) :=
  (s.jobCtrl_two_pow path page hk).trans (if_pos (.inr refuses))

theorem State.jobCtrl_accepted {s : State} {k : Nat} (hk : k < 4) (free : s.bit POWER_B POWER.STATE_HOLD = false)
    (accepts : jobAccepts k s.jobState = true) (path page : Nat) : s.jobCtrl path page (2 ^ k) = s.jobAct path page k :=
  (s.jobCtrl_two_pow path page hk).trans (if_neg (by simp [free, accepts]))

/-- START of a phase that the image does not have (R216). -/
theorem State.jobStart_noPhase {s : State} (absent : s.job.img.phases.length ≤ s.get jobB DIE.NEXT_PHASE)
    {path page : Nat} :
    s.jobStart path page =
      s.recErr page 17 0x8302 path (s.get jobB DIE.NEXT_PHASE + s.job.img.phases.length * 16) :=
  if_pos absent

/-- START of a phase of the image, with no armed change to take place first (R216). -/
theorem State.jobStart_arms {s : State} (accepts : jobAccepts 1 s.jobState = true)
    (phase : s.get jobB DIE.NEXT_PHASE < s.job.img.phases.length) (due : s.changeDue = false) {path page : Nat} :
    s.jobStart path page = s.arm (s.get jobB DIE.NEXT_PHASE) (s.get64 jobB DIE.NEXT_TIME_LO_NS) false := by
  have runs : s.jobState = jsLOADED ∨ s.jobState = jsRUNNING := by simpa [jobAccepts] using accepts
  simp [State.jobStart, Nat.not_le.2 phase, due, runs]

/-! ### The commands -/

/-- The job commands through the DIE page of die d, each with its bit of JOB_CTRL (R211). -/
def jobCommands (path d : Nat) : List (Instr × Nat) := [(.load path d, 0), (.start path d, 1), (.stop path d, 2), (.unload path d, 3)]

theorem bit_lt_of_mem_jobCommands {path d : Nat} {x : Instr × Nat} (hx : x ∈ jobCommands path d) : x.2 < 4 := by
  simp only [jobCommands, List.mem_cons, List.not_mem_nil, or_false] at hx
  rcases hx with rfl | rfl | rfl | rfl <;> simp

theorem exec_of_mem_jobCommands {path d : Nat} {x : Instr × Nat} (hx : x ∈ jobCommands path d) (s : State) :
    exec x.1 s = s.heard path (if s.diePresent d then s.jobCtrlWrite path (DIE_B d) (2 ^ x.2) else s) := by
  simp only [jobCommands, List.mem_cons, List.not_mem_nil, or_false] at hx
  rcases hx with rfl | rfl | rfl | rfl <;> rfl

section JobCommand
variable {s : State} {path d : Nat} {x : Instr × Nat} (h0 : s.power.off = false) (hs : s.hears path = true)
  (hd : s.diePresent d = true) (hx : x ∈ jobCommands path d)
include h0 hs hd hx

/-- A job command completes with the write of its bit. -/
theorem jobCommand_writes {t : State} (h : s.jobCtrlWrite path (DIE_B d) (2 ^ x.2) = t) : Completes x.1 s t :=
  completes_of_heard h0 hs (exec_of_mem_jobCommands hx s) ((if_pos hd).trans h)

/-- While the Reeve is down a job command is held (R467). -/
theorem jobCommand_held (down : s.reeve.down = true) :
    Completes x.1 s { s with reeve.held := s.reeve.held ++ [(path, DIE_B d + 0x40, 2 ^ x.2)] } :=
  jobCommand_writes h0 hs hd hx (if_pos down)

/-- With the Reeve running the write is served at once. -/
theorem jobCommand_served (up : s.reeve.down = false) {t : State} (h : s.jobCtrl path (DIE_B d) (2 ^ x.2) = t) :
    Completes x.1 s t.msgSettle :=
  jobCommand_writes h0 hs hd hx ((if_neg (ne_true_of_eq_false up)).trans (by rw [h]))

theorem jobCommand_refused (up : s.reeve.down = false) (refuses : jobAccepts x.2 s.jobState = false) :
    Completes x.1 s (s.recErr (DIE_B d) 16 0x8301 path (2 ^ x.2 + s.jobState * 256)).msgSettle :=
  jobCommand_served h0 hs hd hx up (State.jobCtrl_refused (bit_lt_of_mem_jobCommands hx) refuses path (DIE_B d))

theorem jobCommand_acts (up : s.reeve.down = false) (free : s.bit POWER_B POWER.STATE_HOLD = false)
    (accepts : jobAccepts x.2 s.jobState = true) {t : State} (h : s.jobAct path (DIE_B d) x.2 = t) :
    Completes x.1 s t.msgSettle :=
  jobCommand_served h0 hs hd hx up
    ((State.jobCtrl_accepted (bit_lt_of_mem_jobCommands hx) free accepts path (DIE_B d)).trans h)

end JobCommand

/-- Settles O27: each command is the write of its bit, which is held, refused, or acts as its bit says. -/
theorem jobCommandsFollowTheJobState : Obligations.JobCommandsFollowTheJobState := by
  intro s path d h0 hs hd
  refine ⟨fun up free => ?accepted, fun up _ hx => jobCommand_refused h0 hs hd hx up, fun down _ hx => jobCommand_held h0 hs hd hx down⟩
  case accepted =>
    have acts {x : Instr × Nat} (hx : x ∈ jobCommands path d) (accepts : jobAccepts x.2 s.jobState = true) {t : State}
        (h : s.jobAct path (DIE_B d) x.2 = t) : Completes x.1 s t.msgSettle := jobCommand_acts h0 hs hd hx up free accepts h
    have load : (.load path d, 0) ∈ jobCommands path d := by simp [jobCommands]
    have start : (.start path d, 1) ∈ jobCommands path d := by simp [jobCommands]
    have stop : (.stop path d, 2) ∈ jobCommands path d := by simp [jobCommands]
    have unload : (.unload path d, 3) ∈ jobCommands path d := by simp [jobCommands]
    exact ⟨fun accepts => acts load accepts State.jobAct_load,
      fun accepts phase due => acts start accepts (State.jobAct_start.trans (State.jobStart_arms accepts phase due)),
      fun accepts absent => acts start accepts (State.jobAct_start.trans (State.jobStart_noPhase absent)),
      fun accepts => acts stop accepts State.jobAct_stop, fun accepts => acts unload accepts State.jobAct_unload⟩

end Sys2Proof.Machine

/-!
PROOFS. Frames and codewords at a port (07_messaging.md, 09_optics.md): the slice filter, the receive buffer, the symbols
of a codeword.
-/

namespace Sys2Proof.Machine

/-! ### Frames (R228, R232, R369) -/

/-- A message frame f at port p, each command with the frame type and the virtual channel it stands for (R228, R232). -/
def frameCommands (p vc : Nat) (f : MsgFrame) : List (Instr × Nat × Nat) := [(.rxPost p f, 1, 1), (.rxStreamData p vc f, 2, vc)]

/-- A frame of its command's type goes to the slice filter of its port. -/
theorem frameCommand_completes {s t : State} {p vc : Nat} {f : MsgFrame} (h0 : s.power.off = false) (hp : s.portOn p = true)
    (hf : f.fits = true) {x : Instr × Nat × Nat} (hx : x ∈ frameCommands p vc f) (ty : f.typ = x.2.1) (hv : x.2.2 < 2)
    (h : s.frameOffer p x.2.2 f.slice f = t) : Completes x.1 s t.msgSettle := by
  subst h
  rcases List.mem_pair.1 hx with rfl | rfl
  · exact completes_of_live h0 rfl (if_pos ⟨hp, ty, hf⟩)
  · exact completes_of_live h0 rfl (if_pos ⟨hp, ty, hf, hv⟩)

theorem State.frameOffer_admitted {s : State} {p vc slice : Nat} {f : MsgFrame} (h : s.plan.admits p slice = true) :
    s.frameOffer p vc slice f = (s.countIn p).frameTake p vc slice f := if_pos h

theorem State.frameOffer_dropped {s : State} {p vc slice : Nat} {f : MsgFrame} (h : s.plan.admits p slice = false) :
    s.frameOffer p vc slice f = (((s.inc (XRDS_B + 0x4000) (XRDS_FREE.SLICE_DROP_COUNT.at p 4)).raise (PORT_B p) 21).freeBuffer
      f.path vc) := if_neg (ne_true_of_eq_false h)

/-- A frame that nothing is ahead of and nothing holds goes to the receiver. -/
theorem State.frameTake_received {s : State} {vc : Nat} {f : MsgFrame}
    (h : (s.msg.offers.any (Offer.onPair f.path vc) || s.frameHeld vc f) = false) (p slice : Nat) :
    s.frameTake p vc slice f = (s.rxFrame vc f).2 := if_neg (ne_true_of_eq_false h)

/-- A frame that is behind another or is held waits at its port (log entry 296). -/
theorem State.frameTake_waits {s : State} {vc : Nat} {f : MsgFrame}
    (h : (s.msg.offers.any (Offer.onPair f.path vc) || s.frameHeld vc f) = true) (p slice : Nat) :
    s.frameTake p vc slice f = s.offer (.frame p vc slice f) := if_pos h

/-! ### Codewords (R313, R325) -/

/-- A codeword of 240 symbols of 10 bits is taken as it comes. -/
theorem codeword_symbols {w : List Nat} (hl : w.length = 240) (hw : ∀ x ∈ w, x < 1024) :
    ((List.range 240).map fun i => w.getD i 0 % 1024) = w := by
  refine List.ext_getElem (by simp [hl]) fun i _ hi => ?_
  have symbol : w[i] % 1024 = w[i] := Nat.mod_eq_of_lt (hw _ (List.getElem_mem hi))
  simp [hi, symbol]

/-- The lane that a codeword finds: afresh aligned after a burst preamble (R325). -/
def State.preambled (s : State) (p l preamble : Nat) : State :=
  if preamble % 2 = 1 then (s.setAlign p l (0, 0, 0)).setAlign p l (4, 0, 0) else s

theorem codewordReceive_completes {s : State} {p l : Nat} {w : List Nat} (h0 : s.power.off = false) (hp : s.portOn p = true) (hl : l < 9)
    (hr : s.rxSt p l ≠ lnOFF) (len : w.length = 240) (sym : ∀ x ∈ w, x < 1024) (preamble : Nat) :
    Completes (.codewordReceive p l preamble w) s ((s.preambled p l preamble).codewordIn p l w) := by
  refine completes_of_live h0 rfl ((if_pos ⟨hp, hl, hr⟩).trans ?_)
  rw [codeword_symbols len sym, State.preambled]

/-- Settles O30: a frame by the filter and by what holds it, a codeword by its symbols. -/
theorem framesArriveWherePortsRun : Obligations.FramesArriveWherePortsRun := by
  intro s p vc l f w h0 hp
  refine ⟨fun hf x hx ty hv => ?frame, fun hl hr len sym => ?codeword⟩
  case frame =>
    have taken {t : State} (h : s.frameOffer p x.2.2 f.slice f = t) : Completes x.1 s t.msgSettle :=
      frameCommand_completes h0 hp hf hx ty hv h
    exact ⟨fun adm free => taken ((State.frameOffer_admitted adm).trans (State.frameTake_received free ..)),
      fun adm held => taken ((State.frameOffer_admitted adm).trans (State.frameTake_waits held ..)),
      fun drop => taken (State.frameOffer_dropped drop)⟩
  case codeword =>
    exact ⟨codewordReceive_completes h0 hp hl hr len sym 0, codewordReceive_completes h0 hp hl hr len sym 1⟩

end Sys2Proof.Machine

/-!
PROOFS. The sender's and the receiver's commands (07_messaging.md): acknowledgements, timeouts, resyncs, held notifies and
control words.
-/

namespace Sys2Proof.Machine

/-! ### Counts of received frames change no message state (R229, R340) -/

theorem State.countIn_msg (s : State) (p : Nat) : (s.countIn p).msg = s.msg := by
  unfold State.countIn
  split
  · rw [State.add64, State.put64_msg]
  · rfl

theorem State.countReturn_msg (s : State) (path : Nat) : (s.countReturn path).msg = s.msg := by
  unfold State.countReturn
  split
  · exact s.countIn_msg _
  · rfl

theorem State.pair_countReturn (s : State) (path p vc : Nat) : (s.countReturn path).pair p vc = s.pair p vc := by
  rw [State.pair, State.countReturn_msg, State.pair]

/-! ### The sender (R227, R231, R259) -/

/-- A RESYNC of the number that the pair asked for sets its credits. -/
theorem State.resyncIn_answers {s : State} {path vc no : Nat} (h : (s.pair path vc).resync = some no) (free : Nat) :
    s.resyncIn path vc no free = s.setPair path vc { s.pair path vc with credits := free, resync := none } := if_pos (.inl h)

section Timeout
variable {s : State} {path vc : Nat} (waits : (s.pair path vc).replay ≠ [])
include waits

/-- A timeout below the retry limit marks every frame to be sent again and asks for a resync (R231). -/
theorem State.ackTimeout_resends (h : (s.pair path vc).timeouts < max 1 (s.get MSG_B MSG.RETRY_LIMIT_COUNT)) :
    s.ackTimeout path vc = (s.setPair path vc { s.pair path vc with
      timeouts := (s.pair path vc).timeouts + 1
      replay := (s.pair path vc).replay.map fun r => { r with sent := false } }).resyncAsk path vc :=
  (if_neg (by simpa using waits)).trans (if_pos h)

/-- The timeout at the retry limit fails the operations of the frames with NO_ACK (R231). -/
theorem State.ackTimeout_fails (h : max 1 (s.get MSG_B MSG.RETRY_LIMIT_COUNT) ≤ (s.pair path vc).timeouts) :
    s.ackTimeout path vc = (((s.pair path vc).replay.map Rep.op).eraseDups).foldl (fun s id => s.failMop id 0x22)
      (s.setPair path vc { s.pair path vc with timeouts := 0, replay := [], reset := true }) :=
  (if_neg (by simpa using waits)).trans (if_neg (Nat.not_lt.2 h))

end Timeout

/-- Settles O31: each command under the conditions in which it acts. -/
theorem acknowledgementsRetireFrames : Obligations.AcknowledgementsRetireFrames := by
  intro s path vc epoch seq code no free hold id r o h0
  refine ⟨fun ho hv => completes_of_live h0 rfl (if_pos ⟨ho, hv⟩), fun ho hv _ => completes_of_live h0 rfl (if_pos ⟨ho, hv⟩),
    fun ho hv asked => completes_of_live h0 rfl ((if_pos ⟨ho, hv⟩).trans (congrArg State.msgSettle ?resync)),
    fun ho hv up waits below =>
      completes_of_live h0 rfl ((if_pos ⟨ho, hv, up⟩).trans (congrArg State.msgSettle (State.ackTimeout_resends waits below))),
    fun ho hv up waits limit =>
      completes_of_live h0 rfl ((if_pos ⟨ho, hv, up⟩).trans (congrArg State.msgSettle (State.ackTimeout_fails waits limit))),
    fun ho down => completes_of_live h0 rfl (if_pos ⟨ho, down⟩), fun hm hb => completes_of_live h0 rfl ?retry⟩
  case resync =>
    have same := s.pair_countReturn path path vc
    rw [State.resyncIn_answers (by rw [same, asked]), same]
  case retry =>
    rw [hm]
    exact if_pos hb

/-! ### The receiver (R230, R243, R315, R319) -/

/-- A plan's entry of a path carries the path's number. -/
theorem Bank.path_id {b : Bank} {inb : Bool} {id : Nat} {e : PathEnt} (h : b.path inb id = some e) : e.id = id := by
  have found := List.find?_some h
  simp only [decide_eq_true_eq] at found
  exact found.1

/-- A pair that holds a frame repeats the HOLD acknowledgement of the one before it (R243). -/
theorem State.ackAgain_held {s : State} {path vc : Nat} {f : MsgFrame} (h : (s.rpair path vc).held = some f) :
    s.ackAgain path vc = s.sendControl ctACK vc path ((f.seq + 2 ^ 32 - 1) % 2 ^ 32) 0 1 0 := by simp only [State.ackAgain, h]

/-- A control word that a serving lane brings gives its credits to the path's pair (R319, R320). -/
theorem State.controlIn_credits {s : State} {path : Nat} {e : PathEnt} {up : PathEnt → Bool}
    (he : s.plan.path false path = some e) (hu : up e = true) (vc credits rxok : Nat) :
    s.controlIn path vc credits rxok up = ((s.setPair path vc
      { s.pair path vc with credits := (s.pair path vc).credits + credits % 4096 }).rxOkIn e rxok).msgSettle := by
  simp only [State.controlIn, he, hu, if_true]

/-- Settles O32: each command under the conditions in which it acts. -/
theorem receiversHoldAnswerAndResync : Obligations.ReceiversHoldAnswerAndResync := by
  intro s path vc l no k d credits rxok f r e back h0
  refine ⟨fun hv hl _ => completes_of_live h0 rfl (if_pos ⟨hv, hl⟩), fun hv _ => completes_of_live h0 rfl (if_pos hv),
    fun hv held => completes_of_live h0 rfl ((if_pos ⟨hv, by rw [held]; rfl⟩).trans (State.ackAgain_held held)),
    fun hk held => completes_of_live h0 rfl ?discard, fun hd => completes_of_live h0 rfl (if_pos hd),
    fun hv he lanes => completes_of_live h0 rfl ((if_pos hv).trans (State.controlIn_credits he (by simpa using lanes) vc credits rxok)),
    fun hv he hb first => completes_of_live h0 rfl ?send⟩
  case discard =>
    rw [hk]
    exact if_neg (ne_true_of_eq_false held)
  case send =>
    obtain rfl := Bank.path_id he
    simp only [he, hb, hv, first, if_true, Option.elim_some]
    rfl

end Sys2Proof.Machine

/-!
PROOFS. Queue commands, doorbells and the engines' FIFOs (07_messaging.md): what a use of a descriptor finds, and each
command where nothing holds it back.
-/

namespace Sys2Proof.Machine

/-! ### A use of a queue's descriptor (R28, R269) -/

theorem State.queueUse_none {s : State} {q : Nat} (h : s.queueAt q = none) : s.queueUse q = s := by simp only [State.queueUse, h]

theorem State.queueUse_sound {s : State} {q : Nat} {x : QDesc} (h : s.queueAt q = some x) (hx : x.upset = false) :
    s.queueUse q = s := by simp [State.queueUse, h, hx]

theorem State.queueUse_upset {s : State} {q : Nat} {x : QDesc} (h : s.queueAt q = some x) (hx : x.upset = true) :
    s.queueUse q = (s.setQueueAt q (some { x with upset := false, broken := true })).recErr (MENG_B (queueDie q)) 2 0x0020 pathHw q := by
  simp only [State.queueUse, h, hx, if_true]

/-! ### Queue commands (R240) -/

section QueueCommand
variable {s : State} {d q : Nat}

/-- What a QUEUE_READ shows of a descriptor. -/
def State.showQueue (s : State) (d : Nat) (x : QDesc) : State :=
  let b := MENG_B d
  let s := ((s.put b MENG.QRD_POSTED_VALUE x.posted).put b MENG.QRD_CONSUMED_VALUE x.consumed).put b MENG.QRD_EPOCH_VALUE x.epoch
  let s := (s.put b MENG.QRD_STAT_FLAGS x.flags).put b MENG.QRD_STAT_LOG2_CAP x.log2
  s.put b MENG.QRD_STAT_FULL_NACKS (min x.fullNacks 65535)

theorem State.queueRead_shows (hd : queueDie q = d) {x : QDesc} (h : s.queueAt q = some x) (hx : x.upset = false) :
    s.queueRead d q = (s.showQueue d x).qcmdError d 0 := by
  refine (if_neg (not_not.2 hd)).trans ?_
  simp only [State.queueUse_sound h hx, h]
  rfl

theorem State.queueRead_none (hd : queueDie q = d) (h : s.queueAt q = none) : s.queueRead d q = s.qcmdError d 2 := by
  refine (if_neg (not_not.2 hd)).trans ?_
  simp only [State.queueUse_none h, h]

theorem State.queueDestroy_removes (hd : queueDie q = d) {x : QDesc} (h : s.queueAt q = some x) :
    s.queueDestroy d q = (s.setQueueAt q none).qcmdError d 0 := (if_neg (not_not.2 hd)).trans (if_neg (by simp [h]))

theorem State.queueDestroy_none (hd : queueDie q = d) (h : s.queueAt q = none) : s.queueDestroy d q = s.qcmdError d 2 :=
  (if_neg (not_not.2 hd)).trans (if_pos (by rw [h]; rfl))

theorem State.queueCreate_exists (hd : queueDie q = d) {x : QDesc} (h : s.queueAt q = some x) :
    s.queueCreate d q = s.qcmdError d 1 := (if_neg (not_not.2 hd)).trans (if_pos (by rw [h]; rfl))

/-- The empty queue of 64-byte entries that a QUEUE_CREATE on die d's page describes (R234, R240). -/
def State.newQueue (s : State) (d : Nat) : QDesc :=
  ⟨s.get64 (MENG_B d) MENG.QARG_RING_LO_ADDR % 2 ^ 40, s.get (MENG_B d) MENG.QARG_CFG_LOG2_CAP, false,
    s.bit (MENG_B d) MENG.QARG_CFG_IRQ, false, false, s.get64 (MENG_B d) MENG.QARG_INDEX_LO_ADDR % 2 ^ 40,
    s.get (MENG_B d) MENG.QARG_CFG_SLICE, s.ownEpoch, 0, 0, 0, false⟩

/-- A free queue with a capacity in range and good areas is made, its index block cleared. -/
theorem State.queueCreate_makes (hd : queueDie q = d) (h : s.queueAt q = none) (lo : 4 ≤ (s.newQueue d).log2)
    (hi : (s.newQueue d).log2 ≤ 24) (small : s.bit (MENG_B d) MENG.QARG_CFG_ENTRY_256 = false)
    (ring : s.goodArea (s.newQueue d).ring (2 ^ (s.newQueue d).log2 * 64) = true)
    (index : s.goodArea (s.newQueue d).index 128 = true) : s.queueCreate d q = ((s.setQueueAt q (some (s.newQueue d))).writeRange
      (s.newQueue d).index (withPoison false (List.replicate 128 0))).qcmdError d 0 := by
  have absent : ¬ (s.queueAt q).isSome = true := by simp [h]
  have inRange : ¬ ((s.newQueue d).log2 < 4 ∨ 24 < (s.newQueue d).log2) := by omega
  dsimp only [State.newQueue] at inRange ring index
  refine (if_neg (not_not.2 hd)).trans ((if_neg absent).trans ((if_neg inRange).trans ?_))
  simp only [small, Bool.false_eq_true, if_false, ring, index, Bool.and_self, if_true]
  rfl

/-- The queue commands on die d's page, each with its OP. -/
def queueCommands (d q : Nat) : List (Instr × Nat) := [(.queueCreate d q, 1), (.queueRead d q, 0), (.queueDestroy d q, 2)]

/-- A queue command on a present die is a write of QCMD. -/
theorem queueCommand_writes (h0 : s.power.off = false) (hp : s.diePresent d = true) (hq : q < 2 ^ 18) {x : Instr × Nat}
    (hx : x ∈ queueCommands d q) {t : State} (h : s.queueCmd d x.2 q = t) : Completes x.1 s t := by
  have queue : q % 2 ^ 18 = q := Nat.mod_eq_of_lt hq
  simp only [queueCommands, List.mem_cons, List.not_mem_nil, or_false] at hx
  rcases hx with rfl | rfl | rfl
  all_goals exact completes_of_live h0 rfl ((if_pos hp).trans (by rw [queue, h]))

/-- During a block reset of its engine a queue command is held back (R31). -/
theorem State.queueCmd_held (hr : s.engineResets d = true) (op : Nat) : s.queueCmd d op q = s.offer (.queueCmd d op q) := if_pos hr

section Free
variable (hr : s.engineResets d = false) (hb : s.bit (MENG_B d) MENG.QCMD_STAT_BUSY = false)
include hr hb

theorem State.queueCmd_read : s.queueCmd d 0 q = s.queueRead d q := by simp [State.queueCmd, hr, hb]

theorem State.queueCmd_destroy : s.queueCmd d 2 q = s.queueDestroy d q := by simp [State.queueCmd, hr, hb]

theorem State.queueCmd_create (hm : s.memHeld (s.newQueue d).index = false) : s.queueCmd d 1 q = s.queueCreate d q := by
  have taken : ¬ ((1 : Nat) = 1 ∧ s.memHeld (s.newQueue d).index = true) := by simp [hm]
  exact (if_neg (ne_true_of_eq_false hr)).trans ((if_neg (ne_true_of_eq_false hb)).trans (if_neg taken))

end Free
end QueueCommand

/-! ### Doorbells (R238) -/

section Doorbell
variable {s : State} {d q : Nat}

theorem doorbell_completes (h0 : s.power.off = false) (hp : s.diePresent d = true) (hq : q < 2 ^ 18) {t : State}
    (h : s.doorbell d q = t) : Completes (.doorbell d q) s t :=
  completes_of_live h0 rfl ((if_pos hp).trans (by rw [Nat.mod_eq_of_lt hq, h]))

theorem State.doorbell_held (hr : s.engineResets d = true) : s.doorbell d q = s.offer (.doorbell d q) := if_pos (by rw [hr]; rfl)

theorem State.doorbell_reads (hr : s.engineResets d = false) (hh : s.queueHeld q = false) (hd : queueDie q = d) :
    s.doorbell d q = (s.queueUse q).readConsumer q := (if_neg (by simp [hr, hh])).trans (if_pos hd)

end Doorbell

/-! ### The arrival FIFO (R268) -/

/-- ARRIVAL_READ puts out what the read of the register answers. -/
theorem arrivalRead_completes {s : State} {d : Nat} (h0 : s.power.off = false) (hp : s.diePresent d = true) :
    Completes (.arrivalRead d) s ((s.arrivalRead d).2.emit .read [(s.arrivalRead d).1]) := completes_of_live h0 rfl (if_pos hp)

/-- The read takes the oldest entry and forgets a loss. -/
theorem State.arrivalRead_takes (s : State) (d : Nat) : zget (s.arrivalRead d).2.msg.arrivals d = (zget s.msg.arrivals d).tail
    ∧ zget (s.arrivalRead d).2.msg.arrLost d = false := 
  ⟨zget_zset_same s.msg.arrivals .., zget_zset_same s.msg.arrLost d false⟩

/-- Settles O33: each command where its engine resets, where its queue exists, and where it does not. -/
theorem queueCommandsActOnTheirQueue : Obligations.QueueCommandsActOnTheirQueue := by
  intro s d q x h0 hp hq hd
  have create : (.queueCreate d q, 1) ∈ queueCommands d q := by simp [queueCommands]
  have read : (.queueRead d q, 0) ∈ queueCommands d q := by simp [queueCommands]
  have destroy : (.queueDestroy d q, 2) ∈ queueCommands d q := by simp [queueCommands]
  have writes {c : Instr × Nat} (hc : c ∈ queueCommands d q) {t : State} (h : s.queueCmd d c.2 q = t) : Completes c.1 s t :=
    queueCommand_writes h0 hp hq hc h
  have rings {t : State} (h : s.doorbell d q = t) : Completes (.doorbell d q) s t := doorbell_completes h0 hp hq h
  refine ⟨fun hr => ?resets, fun hr hb hm free lo hi small ring index => ?makes, fun hr hb hm hh hx sound => ?found,
    fun hr hh hx bad => ?upset, fun hr hb free => ?absent, fun hr => completes_of_live h0 rfl ?sessInv,
    completes_of_live h0 rfl rfl, ?arrival, completes_of_live h0 rfl (if_pos hp)⟩
  case resets =>
    exact ⟨writes create (State.queueCmd_held hr _), writes read (State.queueCmd_held hr _),
      writes destroy (State.queueCmd_held hr _), rings (State.doorbell_held hr)⟩
  case makes =>
    exact writes create ((State.queueCmd_create hr hb hm).trans (State.queueCreate_makes hd free lo hi small ring index))
  case found =>
    exact ⟨writes create ((State.queueCmd_create hr hb hm).trans (State.queueCreate_exists hd hx)),
      writes destroy ((State.queueCmd_destroy hr hb).trans (State.queueDestroy_removes hd hx)),
      writes read ((State.queueCmd_read hr hb).trans (State.queueRead_shows hd hx sound)),
      rings ((State.doorbell_reads hr hh hd).trans (by rw [State.queueUse_sound hx sound]))⟩
  case upset =>
    exact rings ((State.doorbell_reads hr hh hd).trans (by rw [State.queueUse_upset hx bad, hd]))
  case absent =>
    exact ⟨writes read ((State.queueCmd_read hr hb).trans (State.queueRead_none hd free)),
      writes destroy ((State.queueCmd_destroy hr hb).trans (State.queueDestroy_none hd free))⟩
  case sessInv => exact (if_pos hp).trans (if_neg (ne_true_of_eq_false hr))
  case arrival =>
    obtain ⟨oldest, loss⟩ := s.arrivalRead_takes d
    exact ⟨_, _, arrivalRead_completes h0 hp, rfl, rfl, oldest, loss, ⟨fun _ _ => rfl, fun _ _ => rfl⟩, fun _ => rfl⟩

end Sys2Proof.Machine

/-!
PROOFS. The clock's tick (08_time.md): a servo whose source went while it stood still holds INC before the clock adds it.
-/

namespace Sys2Proof.Machine

/-- The servo followed the Zynen time and last wrote the lowest increment; then the page is disabled (R293) and INC written
back to 2.5 ns, SYNC_LOSS comes, which leaves the stopped servo as it is, and the page is enabled again. -/
def lostWhileStopped : State :=
  let s := (State.reset.put TIME_B TIME.CTRL_SRC 4).put TIME_B TIME.STAT_STATE svLOCKED
  ({ s with time.incs := [incLo] }.put TIME_B hCTRL_ENABLE 0).sourceLost.put TIME_B hCTRL_ENABLE 1

/-- Refutes O34: as a servo resumes whose source was lost while it stood still, its first tick enters HOLDOVER (R280) and
adds the mean increment held there, not the increment that INC had before the tick. -/
theorem not_clockWritesTrimAndStepTheClock : ¬ Obligations.ClockWritesTrimAndStepTheClock := by
  intro h
  have on : lostWhileStopped.power.off = false := by decide +kernel
  have heard : lostWhileStopped.hears 0 = true := by decide +kernel
  have noStep : lostWhileStopped.bit TIME_B TIME.STEP_CTRL_GO = false := by decide +kernel
  obtain ⟨-, -, -, -, -, tick, -⟩ := h lostWhileStopped 0 0 0 0 on heard
  have claimed : lostWhileStopped.tick.time.clock = (lostWhileStopped.time.clock + lostWhileStopped.inc400) % 2 ^ 96 :=
    (tick noStep).1
  have written : (lostWhileStopped.time.clock + lostWhileStopped.inc400) % 2 ^ 96 = 2 * nsU + nsU / 2 := by decide +kernel
  have actual : lostWhileStopped.tick.time.clock = incLo := by decide +kernel
  exact absurd (actual.symm.trans (claimed.trans written)) (by decide)

end Sys2Proof.Machine

/-!
PROOFS. The time sources (08_time.md): what the selected source depends on, a PPS pulse taken or ignored, and the loss of
PPS.
-/

namespace Sys2Proof.Machine

/-! ### The selected source (R279) -/

/-- The source is the same where CTRL is. -/
theorem SameRegsBut.timeSrc_eq {l : List Nat} {s t : State} (h : SameRegsBut l s t) (hl : TIME_B + 0x40 ∉ l) :
    t.timeSrc = s.timeSrc := by simp only [State.timeSrc, h.get_eq (a := TIME_B) (f := TIME.CTRL_SRC) hl]

/-! ### Captures (R287) -/

section Capture
variable {s : State} {c half : Nat} {rising merged : Bool}

/-- A stamp enters a capture FIFO. -/
def State.pushStamp (s : State) (c half : Nat) (rising merged : Bool) : State :=
  { s with time.caps := zset s.time.caps c (zget s.time.caps c ++ [⟨s.stamp half, rising, merged⟩]) }

theorem State.capture_full (h : 16 ≤ (zget s.time.caps c).length) :
    s.capture c half rising merged = s.put TIME_B (TIME.CAP_STAT_FIFO_OVF.at c 0x20) 1 := if_pos h

theorem State.capture_room (h : (zget s.time.caps c).length < 16) : s.capture c half rising merged =
    ((s.pushStamp c half rising merged).put TIME_B (TIME.CAP_STAT_DEPTH.at c 0x20) ((zget s.time.caps c).length + 1)).raiseAlways
      TIME_B 7 := if_neg (Nat.not_le.2 h)

/-- A capture is no loss of PPS, and writes CAP_STAT and EVT_STAT alone. -/
theorem State.capture_leaves : SameRegsBut [TIME_B + 0x284 + c * 0x20, TIME_B + 0x14] s (s.capture c half rising merged)
    ∧ (s.capture c half rising merged).time.ppsLost = s.time.ppsLost := by
  have stat (f : Fld) (hf : f.off = 0x284) (t : State) (v : Nat) :
      OnlyRegs [TIME_B + 0x284 + c * 0x20, TIME_B + 0x14] t (t.put TIME_B (f.at c 0x20) v) :=
    .put (by simp [Fld.at, hf, Nat.add_assoc]) t v
  rcases Nat.lt_or_ge (zget s.time.caps c).length 16 with room | full
  · have k := (stat TIME.CAP_STAT_DEPTH rfl (s.pushStamp c half rising merged) ((zget s.time.caps c).length + 1)).trans
      ((State.raiseAlways_onlyRegs _ TIME_B 7).mono (by simp))
    obtain ⟨-, -, -, time, -⟩ := k.parts
    rw [State.capture_room room]
    exact ⟨k.regs, (congrArg TimeSt.ppsLost time :)⟩
  · have k := stat TIME.CAP_STAT_FIFO_OVF rfl s 1
    rw [State.capture_full full]
    exact ⟨k.regs, rfl⟩

end Capture

/-! ### PPS pulses (R281) -/

section Pulse
variable {s : State} {half : Nat} {rising merged : Bool}

/-- The instant of an edge in half ticks of 1.25 ns. -/
def State.edgeAt (s : State) (half : Nat) : Nat := 2 * s.time.up + (if half = 0 then 0 else 5)

/-- A pulse is captured and marks PPS_OK. -/
def State.ppsTake (s : State) (half : Nat) (rising merged : Bool) : State :=
  { s.capture 0 half rising merged with time.lastPps := some (s.edgeAt half) }.put TIME_B TIME.STAT_PPS_OK 1

/-- PPS is back after a loss. -/
def State.ppsBack (s : State) : State :=
  if s.time.ppsLost then { s.raiseAlways TIME_B 1 with time.ppsLost := false } else s

/-- How far an edge is from the clock's nearest whole second. -/
def State.ppsOffset (s : State) (half : Nat) : Int :=
  (Int.ofNat ((s.stamp half / nsU + 500000000) % 1000000000) - 500000000) * Int.ofNat nsU + Int.ofNat (s.stamp half % nsU)

theorem State.ppsTake_timeSrc : (s.ppsTake half rising merged).timeSrc = s.timeSrc := by
  obtain ⟨regs, -⟩ := s.capture_leaves (c := 0) (half := half) (rising := rising) (merged := merged)
  have ok := OnlyRegs.put (l := [TIME_B + 0x44]) (a := TIME_B) (f := TIME.STAT_PPS_OK) (by simp)
    { s.capture 0 half rising merged with time.lastPps := some (s.edgeAt half) } 1
  exact (ok.regs.timeSrc_eq (by decide)).trans (regs.timeSrc_eq (by decide))

theorem State.ppsTake_ppsLost : (s.ppsTake half rising merged).time.ppsLost = s.time.ppsLost := State.capture_leaves.2

theorem State.ppsBack_timeSrc (s : State) : s.ppsBack.timeSrc = s.timeSrc := by
  unfold State.ppsBack
  split
  · exact (s.raiseAlways_onlyRegs TIME_B 1).regs.timeSrc_eq (by decide)
  · rfl

theorem State.ppsPulse_taken (takes : s.capTakes 0 rising = true)
    (due : ∀ t, s.time.lastPps = some t → t + 3600000000 ≤ s.edgeAt half) : s.ppsPulse rising merged half =
      if s.timeSrc = 1 then (s.ppsTake half rising merged).ppsBack.servoSample (s.ppsOffset half)
      else (s.ppsTake half rising merged).ppsBack := by
  rw [← State.ppsTake_timeSrc (half := half) (rising := rising) (merged := merged), ← State.ppsBack_timeSrc]
  refine (if_neg (by simp [takes])).trans (if_pos ?_)
  split
  · exact decide_eq_true (due _ ‹_›)
  · rfl

theorem State.ppsPulse_ignored (takes : s.capTakes 0 rising = true) {t : Nat} (last : s.time.lastPps = some t)
    (soon : s.edgeAt half < t + 3600000000) : s.ppsPulse rising merged half = s.inc TIME_B TIME.PPS_IGNORED_COUNT := by
  refine (if_neg (by simp [takes])).trans (if_neg ?_)
  rw [last]
  simpa [State.edgeAt] using soon

end Pulse

/-! ### The loss of PPS (R281) -/

/-- The loss is noted, counted and raised. -/
def State.ppsMissed (s : State) : State :=
  (({ s with time.ppsLost := true }.put TIME_B TIME.STAT_PPS_OK 0).inc TIME_B TIME.PPS_LOSSES_COUNT).raiseAlways TIME_B 0

theorem State.ppsMissed_onlyRegs (s : State) :
    OnlyRegs [TIME_B + 0x44, TIME_B + 0x84, TIME_B + 0x14] { s with time.ppsLost := true } s.ppsMissed :=
  ((OnlyRegs.put (by simp) _ 0).trans (.inc (by simp) _)).trans ((State.raiseAlways_onlyRegs _ TIME_B 0).mono (by simp))

theorem State.ppsMissed_timeSrc (s : State) : s.ppsMissed.timeSrc = s.timeSrc :=
  s.ppsMissed_onlyRegs.regs.timeSrc_eq (by decide)

theorem State.ppsMissed_ppsOk (s : State) : s.ppsMissed.bit TIME_B TIME.STAT_PPS_OK = false := by
  have after := (OnlyRegs.inc (l := [TIME_B + 0x84, TIME_B + 0x14]) (a := TIME_B) (f := TIME.PPS_LOSSES_COUNT) (by simp)
    ({ s with time.ppsLost := true }.put TIME_B TIME.STAT_PPS_OK 0)).trans ((State.raiseAlways_onlyRegs _ TIME_B 0).mono (by simp))
  exact (after.regs.bit_eq (by decide)).trans (State.bit_put_same _ _ _ _ rfl (by decide))

theorem State.ppsMissed_event (s : State) : s.ppsMissed.bit TIME_B (bitF 0x14 0) = true := by
  rw [State.bit_bitF, State.ppsMissed, State.raiseAlways_evtStat _ _ (by decide)]
  simp

theorem ppsLost_completes {s t : State} (h0 : s.power.off = false) (hl : s.time.ppsLost = false)
    (h : (if s.timeSrc = 1 then s.ppsMissed.sourceLost else s.ppsMissed) = t) : Completes .ppsLost s t := by
  rw [← s.ppsMissed_timeSrc] at h
  exact completes_of_live h0 rfl ((if_neg (by simp [hl])).trans h)

/-- Settles O35: a pulse by its time since the last one, a loss by whether PPS is the source. -/
theorem timeSourcesComeAndGo : Obligations.TimeSourcesComeAndGo := by
  intro s v rising merged half h0
  refine ⟨completes_of_live h0 rfl rfl, fun takes due => ?pulse,
    fun t takes last soon => completes_of_live h0 rfl (State.ppsPulse_ignored takes last soon), fun hl other => ?lost,
    fun hl pps => ⟨s.ppsMissed, rfl, ppsLost_completes h0 hl (if_pos pps)⟩, fun net => completes_of_live h0 rfl (if_pos net)⟩
  case pulse =>
    have taken := State.ppsPulse_taken (merged := decide (merged % 2 = 1)) takes due
    refine ⟨s.ppsTake half (decide (rising % 2 = 1)) (decide (merged % 2 = 1)), State.ppsBack _, rfl, ?_,
      fun other => completes_of_live h0 rfl (taken.trans (if_neg other)),
      fun pps => completes_of_live h0 rfl (taken.trans (if_pos pps))⟩
    rw [State.ppsBack, State.ppsTake_ppsLost]
  case lost =>
    have k := s.ppsMissed_onlyRegs.pending s.pending
    have kept := (OnlyRegs.refl [] s.ppsMissed).pending s.pending
    obtain ⟨-, -, -, time, -⟩ := k.parts
    exact ⟨_, ppsLost_completes h0 hl (if_neg other), congrArg TimeSt.ppsLost time,
      (kept.regs.bit_eq (by simp)).trans s.ppsMissed_ppsOk, (kept.regs.bit_eq (by simp)).trans s.ppsMissed_event, k.bytes⟩

end Sys2Proof.Machine

/-!
PROOFS. Time frames (08_time.md): the Zynen exchange on the paths between modules, and PTP on the management ports.
-/

namespace Sys2Proof.Machine

/-! ### Counts of received frames change no time state (R340) -/

theorem State.countIn_onlyRegs (s : State) (p : Nat) :
    OnlyRegs [PORT_B p + 0x8C, PORT_B p + 0x8C + 4] s (s.countIn p) := by
  unfold State.countIn
  split
  · exact OnlyRegs.put64 (by simp) (by simp) s _
  · exact .refl _ s

/-- The registers of a port lie above the TIME page. -/
theorem time_not_portCount {o : Nat} (ho : o < 0x1000) (p : Nat) : TIME_B + o ∉ [PORT_B p + 0x8C, PORT_B p + 0x8C + 4] := by
  simp only [TIME_B, PORT_B, List.mem_cons, List.not_mem_nil, or_false]
  omega

theorem State.countIn_timeSrc (s : State) (p : Nat) : (s.countIn p).timeSrc = s.timeSrc :=
  (s.countIn_onlyRegs p).regs.timeSrc_eq (time_not_portCount (by decide) p)

/-- A frame counted on its path leaves the time base as it is. -/
theorem State.countPath_time (s : State) (path : Nat) : (s.countPath path).time = s.time := by
  obtain ⟨-, -, -, time, -⟩ := (s.countIn_onlyRegs ((s.plan.path true path).elim 36 fun e => e.port)).parts
  exact time

theorem State.countPath_timeSrc (s : State) (path : Nat) : (s.countPath path).timeSrc = s.timeSrc := s.countIn_timeSrc _

theorem State.countPath_on (s : State) (path : Nat) : (s.countPath path).on TIME_B = s.on TIME_B :=
  (s.countIn_onlyRegs _).regs.on_eq (time_not_portCount (by decide) _)

theorem State.countPath_slavePath (s : State) (path : Nat) :
    (s.countPath path).get TIME_B TIME.ZT_SLAVE_PATH = s.get TIME_B TIME.ZT_SLAVE_PATH :=
  (s.countIn_onlyRegs _).regs.get_eq (time_not_portCount (by decide) _)

/-! ### The Zynen exchange (R285) -/

section Zynen
variable {s t : State} {path p seq ns frac t1 t2 t3 : Nat} (h0 : s.power.off = false)
include h0

/-- A SYNC on the slave path is kept, and ends a loss of the Zynen source. -/
theorem ztSyncRx_completes (on : s.on TIME_B = true) (hp : p < 36) (slave : path = s.get TIME_B TIME.ZT_SLAVE_PATH) {u : State}
    (hu : u = { s.countIn p with time.ztSync := some (seq, tsOf ns frac, s.tsIn p, none) })
    (h : (if s.timeSrc = 4 then u.sourceBack else u) = t) : Completes (.ztSyncRx p path seq ns frac) s t := by
  subst hu
  rw [← s.countIn_timeSrc p] at h
  exact completes_of_live h0 rfl ((if_pos ⟨on, hp, slave⟩).trans h)

theorem ztSyncSend_completes (hp : s.ztPort path = some p) (master : s.ztMaster p = true) : Completes (.ztSyncSend path) s
    ({ s with time.ztSeq := zset s.time.ztSeq path ((zget s.time.ztSeq path + 1) % 2 ^ 32) }.ztOut 0x40 path
      (zget s.time.ztSeq path) (s.tsOut p) 0) := by
  refine completes_of_live h0 rfl ?_
  simp only [hp, master, if_true]

/-- An accepted SYNC that waits for its DREQ is answered, with the time it leaves. -/
theorem ztDreqSend_completes (kept : s.time.ztSync = some (seq, t1, t2, none))
    (hp : s.ztPort (s.get TIME_B TIME.ZT_SLAVE_RPATH) = some p) : Completes .ztDreqSend s
      ({ s with time.ztSync := some (seq, t1, t2, some (s.tsOut p)) }.ztOut 0x41 (s.get TIME_B TIME.ZT_SLAVE_RPATH) seq (s.tsOut p)
        (s.get TIME_B TIME.ZT_SLAVE_PATH)) := by
  refine completes_of_live h0 rfl ?_
  simp only [kept, hp]

theorem ztDreqRx_completes {q reply : Nat} (hq : s.ztPort reply = some q) (hp : p < 36) (master : s.ztMaster q = true) :
    Completes (.ztDreqRx p seq reply) s ((s.countIn p).ztOut 0x42 reply seq (s.tsIn p) 0) := by
  refine completes_of_live h0 rfl ?_
  simp only [hq, hp, master, and_self, if_true]

/-- The DRESP of the SYNC in hand ends the exchange, and is a sample of the Zynen source. -/
theorem ztDrespRx_completes (kept : s.time.ztSync = some (seq, t1, t2, some t3)) (on : s.on TIME_B = true)
    (slave : path = s.get TIME_B TIME.ZT_SLAVE_PATH) {u : State} (hu : u = { s.countPath path with time.ztSync := none })
    (h : (if s.timeSrc = 4 then u.servoSample (clockDiff t2 t1 - (clockDiff t2 t1 + clockDiff (tsOf ns frac) t3) / 2 - u.ztAsym)
      else u) = t) : Completes (.ztDrespRx path seq ns frac) s t := by
  subst hu
  rw [← s.countPath_timeSrc path] at h
  rw [← s.countPath_time path] at kept
  rw [← s.countPath_on path] at on
  rw [← s.countPath_slavePath path] at slave
  refine completes_of_live h0 rfl ?_
  generalize s.countPath path = r at *
  simp only [kept]
  exact (if_pos ⟨on, slave, trivial⟩).trans h

end Zynen

/-- Settles O36: each message where it is sent or taken, a received one by whether the Zynen source is selected. -/
theorem timeFramesCarryTimestamps : Obligations.TimeFramesCarryTimestamps := by
  intro s path p q seq reply ns frac n t1 t2 t3 h0
  exact ⟨ztSyncSend_completes h0, fun on hp slave => ⟨_, rfl, fun z => ztSyncRx_completes h0 on hp slave rfl (if_pos z),
      fun z => ztSyncRx_completes h0 on hp slave rfl (if_neg z)⟩, ztDreqSend_completes h0, ztDreqRx_completes h0,
    fun kept on slave => ⟨_, rfl, fun z => ztDrespRx_completes h0 kept on slave rfl (if_pos z),
      fun z => ztDrespRx_completes h0 kept on slave rfl (if_neg z)⟩⟩

/-! ### PTP frames of a management port (R286, R474) -/

section Ptp
variable {s : State} {n : Nat}

theorem State.ptpOut_down (down : s.mgmtUp n = false) (ty id t : Nat) : s.ptpOut n ty id t = s := if_neg (by simp [down])

/-- A port whose link is up counts what it sends. -/
theorem State.ptpOut_up (up : s.mgmtUp n = true) (ty id t : Nat) : ∃ l, s.ptpOut n ty id t =
    (s.inc (MGMT_B n) MGMT.TX_FRAMES).emit .ptpFrame
      (n :: ty :: s.get TIME_B TIME.PTP_CTRL_DOMAIN :: id :: t / nsU / 1000000000 :: t / nsU % 1000000000 :: l) :=
  ⟨_, if_pos up⟩

theorem State.mgmtFrame_down (down : s.mgmtUp n = false) (f : State → State) : s.mgmtFrame n f = s := if_neg (by simp [down])

theorem State.mgmtFrame_up (up : s.mgmtUp n = true) {f : State → State} {t : State}
    (h : f (s.inc (MGMT_B n) MGMT.RX_FRAMES) = t) : s.mgmtFrame n f = t := (if_pos up).trans h

/-- A Sync of the port's domain, from the master that it follows or from the first that it hears, is kept and answered with
Delay_Req. -/
theorem State.ptpSyncIn_taken {dom master t1 : Nat} (slave : s.ptpRole n = 1) (hd : dom = s.get TIME_B TIME.PTP_CTRL_DOMAIN)
    (hm : zget s.time.ptpMaster n = none ∨ zget s.time.ptpMaster n = some master) {u : State} (hu : u = { s with
      time.ptpMaster := zset s.time.ptpMaster n (some master)
      time.ptpSync := zset s.time.ptpSync n (some (t1 % 2 ^ 96, s.tsIn (36 + n), s.tsOut (36 + n))) }) :
    s.ptpSyncIn n dom master t1 = (if s.timeSrc = 2 + n then u.sourceBack else u).ptpOut n 1 master (s.tsOut (36 + n)) := by
  subst hu
  exact if_pos ⟨slave, hd, hm⟩

/-- The Delay_Resp to a Sync of the port's master is a sample of the port's source. -/
theorem State.ptpRespIn_taken {dom master t1 t2 t3 t4 : Nat} (slave : s.ptpRole n = 1)
    (hd : dom = s.get TIME_B TIME.PTP_CTRL_DOMAIN) (hm : zget s.time.ptpMaster n = some master) (kept : zget s.time.ptpSync n = some (t1, t2, t3)) {u : State}
    (hu : u = { s with time.ptpSync := zset s.time.ptpSync n none }) : s.ptpRespIn n dom master t4 =
      if s.timeSrc = 2 + n then u.servoSample ((clockDiff t2 t1 - clockDiff (t4 % 2 ^ 96) t3) / 2) else u := by
  subst hu
  refine (if_pos ⟨slave, hd, hm⟩).trans ?_
  simp only [kept]
  rfl

end Ptp

/-- Settles O37: each frame by the port's link and role, a received one by its domain, its master and the source. -/
theorem managementPortsSpeakPtp : Obligations.ManagementPortsSpeakPtp := by
  intro s r n ty id t dom master slave ns frac t1 t2 t3 h0
  refine ⟨fun role => ⟨completes_of_live h0 rfl (if_pos role), completes_of_live h0 rfl (if_pos role)⟩,
    ⟨fun down => State.ptpOut_down down ty id t, fun up => State.ptpOut_up up ty id t⟩, fun down x hx => ?down, ?up⟩
  case down =>
    simp only [List.mem_cons, List.not_mem_nil, or_false] at hx
    rcases hx with rfl | rfl | rfl
    all_goals exact completes_of_live h0 rfl (State.mgmtFrame_down down _)
  case up =>
    rintro up rfl hd
    refine ⟨fun role => completes_of_live h0 rfl (State.mgmtFrame_up up (if_pos ⟨role, hd⟩)), fun role hm u hu => ?sync,
      fun role hm kept => ⟨_, rfl, ?resp⟩⟩
    case sync =>
      have taken := State.ptpSyncIn_taken role hd hm hu
      exact ⟨fun other => completes_of_live h0 rfl (State.mgmtFrame_up up (by rw [taken, if_neg other])),
        fun src => completes_of_live h0 rfl (State.mgmtFrame_up up (by rw [taken, if_pos src]))⟩
    case resp =>
      have taken := State.ptpRespIn_taken (t4 := tsOf ns frac) role hd hm kept rfl
      exact ⟨fun src => completes_of_live h0 rfl (State.mgmtFrame_up up (taken.trans (if_pos src))),
        fun other => completes_of_live h0 rfl (State.mgmtFrame_up up (taken.trans (if_neg other)))⟩

end Sys2Proof.Machine

/-!
PROOFS. Captures and triggers (08_time.md): edges and the reading of their stamps, writes of a trigger unit's CTRL, firing
and PPS_OUT.
-/

namespace Sys2Proof.Machine

/-! ### Edges (R287) -/

theorem captureEdge_completes {s t : State} {c half rising merged : Nat} (h0 : s.power.off = false) (hc : c = 1 ∨ c = 2)
    (takes : s.capTakes c (decide (rising % 2 = 1)) = true)
    (h : s.capture c half (decide (rising % 2 = 1)) (decide (merged % 2 = 1)) = t) :
    Completes (.captureEdge c half rising merged) s t := completes_of_live h0 rfl ((if_pos ⟨hc, takes⟩).trans h)

/-! ### Reading a capture FIFO (R294) -/

section CapRead
variable {s : State} {c : Nat}

/-- The registers that a read of capture FIFO c writes: CAP_STAT, CAP_TS_HI and CAP_INFO. -/
def capRegs (c : Nat) : List Nat := [TIME_B + 0x284 + 0x20 * c, TIME_B + 0x28C + 0x20 * c, TIME_B + 0x290 + 0x20 * c]

/-- CAP_INFO of a stamp: its fraction, its edge, whether edges merged in it, and VALID. -/
def Stamp.info (x : Stamp) : Nat :=
  x.clock % nsU / 2 ^ 16 + (if x.rising then 2 ^ 16 else 0) + (if x.overrun then 2 ^ 17 else 0) + 2 ^ 31

/-- Stamp x leaves FIFO c, which keeps q, and is shown in CAP_TS_HI and CAP_INFO. -/
def State.showStamp (s : State) (c : Nat) (x : Stamp) (q : List Stamp) : State :=
  (({ s with time.caps := zset s.time.caps c q }.put TIME_B (TIME.CAP_STAT_DEPTH.at c 0x20) q.length).put TIME_B
    (TIME.CAP_TS_HI.at c 0x20) (x.clock / nsU / nsU)).wr (TIME_B + 0x290 + 0x20 * c) (BitVec.ofNat 32 x.info)

theorem State.showStamp_onlyRegs {x : Stamp} {q : List Stamp} :
    OnlyRegs (capRegs c) { s with time.caps := zset s.time.caps c q } (s.showStamp c x q) := by
  have depth : TIME_B + (TIME.CAP_STAT_DEPTH.at c 0x20).off ∈ capRegs c := List.mem_cons.2 (.inl (by simp only [Fld.at]; omega))
  have high : TIME_B + (TIME.CAP_TS_HI.at c 0x20).off ∈ capRegs c :=
    List.mem_cons_of_mem _ (List.mem_cons.2 (.inl (by simp only [Fld.at]; omega)))
  exact ((OnlyRegs.put depth _ _).trans (.put high _ _)).trans (.wr (by simp [capRegs]) _ _)

theorem State.showStamp_out (s : State) (c : Nat) (x : Stamp) (q : List Stamp) : (s.showStamp c x q).out = s.out := by
  rw [State.showStamp, State.wr_out, State.put_out, State.put_out]

theorem State.capRead_empty (h : zget s.time.caps c = []) :
    s.capRead c = (0, (s.wr (TIME_B + 0x28C + 0x20 * c) 0).wr (TIME_B + 0x290 + 0x20 * c) 0) := by
  simp only [State.capRead, h]

theorem State.capRead_oldest {x : Stamp} {q : List Stamp} (h : zget s.time.caps c = x :: q) :
    s.capRead c = (x.clock / nsU % nsU, s.showStamp c x q) := by
  simp only [State.capRead, h]
  rfl

/-- CAP_TS_READ answers what the read of CAP_TS_LO does. -/
theorem capTsRead_completes (h0 : s.power.off = false) (hc : c < 3) : Completes (.capTsRead c) s (State.answer (s.capRead c)) :=
  completes_of_live h0 rfl (if_pos hc)

/-- A read of an empty FIFO answers 0. -/
theorem capTsRead_empty (h0 : s.power.off = false) (hc : c < 3) (h : zget s.time.caps c = []) :
    ∃ t, exec (.capTsRead c) s = .next t ∧ zget t.time.caps c = [] ∧ t.out = s.out ++ [(.read, [0])]
      ∧ SameRegsBut (capRegs c) s t ∧ SameBytes s t := by
  have cleared := (OnlyRegs.wr_pair s (TIME_B + 0x28C + 0x20 * c) (TIME_B + 0x290 + 0x20 * c) 0 0).mono (m := capRegs c)
    (by simp [capRegs])
  have k := (cleared.trans (.emit _ .read [0])).pending s.pending
  have done := capTsRead_completes h0 hc
  rw [State.capRead_empty h] at done
  exact ⟨_, done, h, rfl, k.regs, k.bytes⟩

/-- A read of another one answers its oldest stamp and takes it. -/
theorem capTsRead_oldest (h0 : s.power.off = false) (hc : c < 3) {x : Stamp} {q : List Stamp} (h : zget s.time.caps c = x :: q) :
    ∃ t, exec (.capTsRead c) s = .next t ∧ zget t.time.caps c = q ∧ t.out = s.out ++ [(.read, [x.clock / nsU % nsU])]
      ∧ SameRegsBut (capRegs c) s t ∧ SameBytes s t := by
  have shown : OnlyRegs (capRegs c) _ (s.showStamp c x q) := State.showStamp_onlyRegs
  have k := (shown.trans (.emit _ .read [x.clock / nsU % nsU])).pending s.pending
  have done := capTsRead_completes h0 hc
  rw [State.capRead_oldest h] at done
  exact ⟨_, done, zget_zset_same s.time.caps c q, congrArg (· ++ _) (s.showStamp_out c x q), k.regs, k.bytes⟩

end CapRead

/-! ### Trigger units (R289-R292) -/

section Trigger
variable {s : State} {path u : Nat} {v : Word} (hu : u < 31) (idle : s.trigArmed u = false)
include hu idle

/-- A write of CTRL to a unit that is not armed writes its bits, and arms it where ARM is written 1 on an enabled page. -/
theorem State.trigCtrl_idle : s.trigCtrl path u v =
    if v.getLsbD 0 && s.on TRIGGERS_B then (s.trigBits u v).setArm u 1 else s.trigBits u v :=
  (if_neg hu.ne).trans (if_neg (ne_true_of_eq_false idle))

theorem triggerCtrlWrite_completes (h0 : s.power.off = false) (hs : s.hears path = true) {t : State}
    (h : (if v.getLsbD 0 && s.on TRIGGERS_B then (s.trigBits u v).setArm u 1 else s.trigBits u v) = t) :
    Completes (.triggerCtrlWrite path u v) s t :=
  completes_of_heard h0 hs rfl ((if_pos (Nat.lt_succ_of_lt hu)).trans ((State.trigCtrl_idle hu idle).trans h))

end Trigger

/-- Settles O38: an edge by the room in its FIFO, a read by what is there, a write of CTRL by ARM and ENABLE. -/
theorem capturesAndTriggersMarkInstants : Obligations.CapturesAndTriggersMarkInstants := by
  intro s c u path half rising merged v h0 hs
  refine ⟨fun hc takes room => captureEdge_completes h0 hc takes (State.capture_room room),
    fun hc takes full => captureEdge_completes h0 hc takes (State.capture_full full), fun hc => ?read,
    fun hu idle arm => triggerCtrlWrite_completes hu idle h0 hs (if_neg (by rw [arm]; exact Bool.false_ne_true)),
    fun hu idle arm on => triggerCtrlWrite_completes hu idle h0 hs (if_pos (by simp [arm, on])),
    completes_of_heard h0 hs rfl rfl, fun hu armed due enabled => completes_of_live h0 rfl (if_pos ⟨hu, armed, due, enabled⟩),
    fun high => completes_of_live h0 rfl (if_pos high)⟩
  case read =>
    cases h : zget s.time.caps c with
    | nil => exact capTsRead_empty h0 hc h
    | cons x q => exact capTsRead_oldest h0 hc h

end Sys2Proof.Machine

/-!
PROOFS. Combs and lane checks (09_optics.md): a comb's states and its engine's controller, and what a tone or error check
makes of a lane.
-/

namespace Sys2Proof.Machine

/-! ### Combs (R304, R332, R336, R338) -/

/-- The free value that an error's address takes is no register. -/
theorem State.recErrX_onlyRegs (s : State) (b i code path : Nat) : OnlyRegs (errRegs b) s (s.recErrX b i code path) := by
  have taken : OnlyRegs (errRegs b) s { s with free := s.free + 1 } := onlyRegs_of_eq rfl rfl rfl (by simp [SameParts])
  exact taken.trans (State.recErr_onlyRegs ..)

section Comb
variable {s : State} {e path : Nat}

theorem State.combArm_ready (stable : s.bit (COMB_B e) COMB.STAT_EN_STABLE = true) (on : s.on (COMB_B e) = true)
    (run : s.bit POWER_B POWER.STATE_HOLD = false) (wait : s.combSt e = cbWAIT_ARM) :
    s.combArm e path = s.setComb e cbWARMING := by
  simp [State.combArm, stable, on, run, wait]

theorem State.combArm_refused (h : s.bit (COMB_B e) COMB.STAT_EN_STABLE = false ∨ s.on (COMB_B e) = false
    ∨ s.bit POWER_B POWER.STATE_HOLD = true) : s.combArm e path = s.recErrX (COMB_B e) 17 0x8902 path := by
  rcases h with unstable | off | hold
  · simp [State.combArm, unstable]
  · simp [State.combArm, off]
  · simp [State.combArm, hold]

/-- Loss of lock in either loop marks it in STAT and leaves STATE. -/
theorem State.combUnlock_locked {which : Nat} {u : State} (hu : u = if which = 0 then s.put (COMB_B e) COMB.STAT_SPACING_LOCK 0
    else s.put (COMB_B e) COMB.STAT_OFFSET_LOCK 0) (locked : s.combSt e = cbLOCKED) : s.combUnlock e which =
      ((u.setComb e cbHOLDOVER).inc (COMB_B e) COMB.DROPS_LOCK_LOSSES).raise (COMB_B e) 1 := by
  have kept : u.combSt e = s.combSt e := by
    subst hu
    split
    · exact s.get_put_beside _ _ _ _ _ (by decide) (by decide) (by decide)
    · exact s.get_put_beside _ _ _ _ _ (by decide) (by decide) (by decide)
  subst hu
  exact if_pos (kept.trans locked)

/-- The engine faults as its controller stops. -/
def State.engineFault (s : State) (e : Nat) : State :=
  (s.put (ENGINE_B e) hSTAT_FAULT 1).recErrX (ENGINE_B e) 17 0x8802 pathHw

theorem State.engineFault_onlyRegs (s : State) (e : Nat) :
    OnlyRegs ((ENGINE_B e + 0x10) :: errRegs (ENGINE_B e)) s (s.engineFault e) :=
  (OnlyRegs.put (by simp) s 1).trans ((State.recErrX_onlyRegs ..).mono (List.subset_cons_self _ _))

/-- The registers of a comb lie above the pages of the engines. -/
theorem State.engineFault_combArmed (s : State) (e : Nat) : (s.engineFault e).combArmed e = s.combArmed e := by
  have above : COMB_B e + 0x44 ∉ (ENGINE_B e + 0x10) :: errRegs (ENGINE_B e) := by
    simp only [COMB_B, ENGINE_B, errRegs, List.mem_cons, List.not_mem_nil, or_false]
    omega
  have kept : (s.engineFault e).combSt e = s.combSt e := (s.engineFault_onlyRegs e).regs.get_eq above
  rw [State.combArmed, State.combArmed, kept]

/-- Whether the comb is stopped is asked before the fault. -/
theorem State.controllerStop_eq (s : State) (e : Nat) : s.controllerStop e =
    (if s.combArmed e then (s.engineFault e).setComb e cbWAIT_ARM else s.engineFault e).engineApply e := by
  rw [← s.engineFault_combArmed e]
  rfl

theorem controller_completes (h0 : s.power.off = false) (he : e < 2) : Completes (.controller e) s
    ((if s.combArmed e then (s.engineFault e).setComb e cbWAIT_ARM else s.engineFault e).engineApply e).msgSettle :=
  completes_of_live h0 rfl ((if_pos he).trans (congrArg State.msgSettle (s.controllerStop_eq e)))

end Comb

/-- Settles O39: each command by the comb's state, and a controller's stop by whether its comb was armed. -/
theorem combsFollowTheLaserInterlock : Obligations.CombsFollowTheLaserInterlock := by
  intro s path e which h0 hs
  refine ⟨fun he => ⟨fun stable on run wait => ?ready, fun h => ?refused,
    fun warming => completes_of_live h0 rfl (if_pos ⟨he, warming⟩), fun h => ?locked, fun u hu locked => ?lost,
    completes_of_live h0 rfl (if_pos he), s.engineFault e, rfl, fun armed => ?armed, fun idle => ?idle⟩,
    completes_of_live h0 rfl rfl, completes_of_live h0 rfl rfl⟩
  case ready =>
    exact completes_of_heard h0 hs rfl ((if_pos he).trans (congrArg State.msgSettle (State.combArm_ready stable on run wait)))
  case refused => exact completes_of_heard h0 hs rfl ((if_pos he).trans (congrArg State.msgSettle (State.combArm_refused h)))
  case locked =>
    exact completes_of_live h0 rfl ((if_pos he).trans (congrArg (fun t => (State.deferredCal t).msgSettle) (if_pos h)))
  case lost => exact completes_of_live h0 rfl ((if_pos he).trans (congrArg State.msgSettle (State.combUnlock_locked hu locked)))
  case armed => simpa only [armed, if_true] using controller_completes h0 he
  case idle => simpa only [idle, Bool.false_eq_true, if_false] using controller_completes h0 he

/-! ### Lane checks (R303, R322, R323) -/

theorem ne_checking_of_serving {st : Nat} (h : serving st = true) : st ≠ lnCHECKING := by
  rintro rfl
  exact absurd h (by decide)

section Lane
variable {s t u : State} {p l k : Nat}

theorem State.checked_toneOk (s : State) (p l : Nat) :
    (s.checked p l 0 true).bit (PORT_B p) (laneF PORT.LSTAT_TONE_OK l) = true :=
  s.bit_put_same (PORT_B p) (laneF PORT.LSTAT_TONE_OK l) 1 rfl (show 8 < 32 by decide)

theorem State.laneLost_hardware (s : State) (p l : Nat) : s.laneLost p l fcHARDWARE = s.ringHwFail (rxRing p l) := by
  simp only [State.laneLost, if_true]

/-- A lane that is lost for RELOCK settles again where its slot runs. -/
theorem State.laneLost_relock {cause : Nat} (soft : cause ≠ fcHARDWARE) (other : cause ≠ fcLINE_MISMATCH)
    (hu : s.rxLeave p l lnRELOCK cause = u) :
    s.laneLost p l cause = if u.slotRuns (rxRing p l) then u.slotSettle (rxRing p l) else u := by
  subst hu
  simp only [State.laneLost, if_neg soft, if_neg other]

variable (h0 : s.power.off = false) (hp : p < 36) (hl : l < 9)
include h0 hp hl

theorem toneCheckDone_rx (h : s.toneRx p l k = t) : Completes (.toneCheckDone p l 1 k) s t.msgSettle :=
  completes_of_live h0 rfl ((if_pos ⟨hp, hl⟩).trans (congrArg State.msgSettle h))

theorem toneCheckDone_tx (h : s.toneTx p l k = t) : Completes (.toneCheckDone p l 0 k) s t.msgSettle :=
  completes_of_live h0 rfl ((if_pos ⟨hp, hl⟩).trans (congrArg State.msgSettle h))

theorem laneLeaveService_completes (up : serving (s.rxSt p l) = true) {cause : Nat} (h : s.laneLost p l cause = t) :
    Completes (.laneLeaveService p l cause) s t.msgSettle :=
  completes_of_live h0 rfl ((if_pos ⟨hp, hl, up⟩).trans (congrArg State.msgSettle h))

end Lane

/-- Settles O40: a tone by the line that the plan has for the ring, an error check by the lane's state. -/
theorem laneChecksDecideService : Obligations.LaneChecksDecideService := by
  intro s p l k uncorr ber power cause h0 hp hl
  exact ⟨fun line tone => ⟨s.checked_toneOk p l, toneCheckDone_rx h0 hp hl (if_pos ⟨line, tone⟩)⟩,
    fun line tone => toneCheckDone_tx h0 hp hl (if_pos ⟨line, tone⟩),
    fun other => ⟨_, rfl, toneCheckDone_tx h0 hp hl (if_neg fun h => other h.1)⟩,
    fun checking => completes_of_live h0 rfl (if_pos ⟨hp, hl, checking⟩),
    fun up => completes_of_live h0 rfl ((if_neg fun h => ne_checking_of_serving up h.2.2).trans (if_pos ⟨hp, hl, up⟩)),
    fun up soft other => ⟨_, rfl, laneLeaveService_completes h0 hp hl up (State.laneLost_relock soft other rfl)⟩,
    fun up => laneLeaveService_completes h0 hp hl up (s.laneLost_hardware p l)⟩

end Sys2Proof.Machine

/-!
PROOFS. Light at a port (09_optics.md) and steered lanes (10_crossroads.md): where each command acts, and what it does there.
-/

namespace Sys2Proof.Machine

/-! ### Light (R328-R331) -/

section Light
variable {s : State} {p : Nat}

theorem State.lightSeen_dark (dark : s.bit (PORT_B p) PORT.STAT_RX_LIGHT = false) : s.lightSeen p =
    ((((s.put (PORT_B p) PORT.STAT_RX_LIGHT 1).put (PORT_B p) PORT.STAT_OPEN_FIBRE 0).raise (PORT_B p) 4).extraUpdate p).launchAll
      p := by
  simp only [State.lightSeen, dark, Bool.false_eq_true, if_false]

variable (h0 : s.power.off = false)
include h0

/-- A dark port of a good comb pulses on the first lane that adds at it. -/
theorem probePulse_completes {q l : Nat} (run : s.portOn p = true) (dark : s.bit (PORT_B p) PORT.STAT_RX_LIGHT = false)
    (good : s.combGood (portEngine p) = true)
    (first : (((p :: (List.range 3).map (p / 3 * 3 + ·)).flatMap fun n => (List.range 9).map fun k => (n, k)).find? fun x =>
      s.addsAt p x.1 x.2) = some (q, l)) : Completes (.probePulse p) s (s.emit .probe [p, q, l]) := by
  refine completes_of_live h0 rfl ((if_pos ⟨run, dark, good⟩).trans ?_)
  simp only [first]

theorem light_completes (run : s.portOn p = true) {t : State} (h : s.lightSeen p = t) : Completes (.light p) s t.msgSettle :=
  completes_of_live h0 rfl ((if_pos run).trans (congrArg State.msgSettle h))

end Light

/-- Settles O41: each command of a port that meets its conditions, a trip and its end whatever the port's ENABLE. -/
theorem lightAtAPortStartsAndStopsItsLaunch : Obligations.LightAtAPortStartsAndStopsItsLaunch := by
  intro s p q l h0
  refine ⟨fun run => ⟨probePulse_completes h0 run, fun dark => light_completes h0 run (State.lightSeen_dark dark),
    fun seen undrained => completes_of_live h0 rfl (if_pos ⟨run, seen, undrained⟩),
    fun loop dark => completes_of_live h0 rfl (if_pos ⟨run, loop, dark⟩)⟩, fun hp engine u v hu hv => ?limit, fun hp u hu => ?again⟩
  case limit =>
    subst hu hv
    exact completes_of_live h0 rfl (if_pos ⟨hp, engine⟩)
  case again =>
    subst hu
    exact completes_of_live h0 rfl (if_pos hp)

/-! ### Steering (R365-R367) -/

section Steer
variable {s : State} {p l o : Nat}

/-- A lane leaves an output that has nothing to send, or had its dwell, for the next one with a waiting frame. -/
theorem State.steerSwitch_next
    (leave : s.outWaits (s.plan.steerPath (s.plan.laneSteer (txRing p l)) (s.txOut p l)) = false
      ∨ s.plan.dwell (s.plan.laneSteer (txRing p l)) ≤ zget s.opt.visit (9 * p + l))
    (next : s.nextOut p l = some o) : s.steerSwitch p l = (s.steerTo p l o).msgSettle := by
  have stays : (s.outWaits (s.plan.steerPath (s.plan.laneSteer (txRing p l)) (s.txOut p l))
      && decide (zget s.opt.visit (9 * p + l) < s.plan.dwell (s.plan.laneSteer (txRing p l)))) = false := by
    rcases leave with idle | done
    · rw [idle, Bool.false_and]
    · rw [decide_eq_false (Nat.not_lt.2 done), Bool.and_false]
  simp only [State.steerSwitch, stays, next, Bool.false_eq_true, if_false]

/-- Where no output has a waiting frame, the lane rests. -/
theorem State.steerSwitch_rest
    (idle : s.outWaits (s.plan.steerPath (s.plan.laneSteer (txRing p l)) (s.txOut p l)) = false)
    (noNext : s.nextOut p l = none) : s.steerSwitch p l = s.steerRest p l := by
  simp only [State.steerSwitch, idle, noNext, Bool.false_and, Bool.false_eq_true, if_false]

variable (h0 : s.power.off = false) (run : s.portOn p = true) (hl : l < 8) (role : s.plan.role (txRing p l) = 1)
  (mode : s.plan.mode p ≠ mdDISCOVER) (steered : s.plan.steered (txRing p l) = true)
  (free : zget s.opt.tripped (9 * p + l) = 0)
include h0 run hl role mode steered free

theorem steerSwitch_serving {t : State} (up : s.txSt p l = lnIN_SERVICE) (h : s.steerSwitch p l = t) :
    Completes (.steerSwitch p l) s t :=
  completes_of_live h0 rfl ((if_pos ⟨run, hl, role, mode, steered, free⟩).trans ((if_pos up).trans h))

theorem steerSwitch_checking (checking : s.txSt p l = lnCHECKING)
    (idle : ∀ o < 3, s.outWaits (s.plan.steerPath (s.plan.laneSteer (txRing p l)) o) = false) :
    Completes (.steerSwitch p l) s (s.steerRest p l) := by
  have down : s.txSt p l ≠ lnIN_SERVICE := by
    rw [checking]
    decide
  have quiet : ((List.range 3).any fun o => s.outWaits (s.plan.steerPath (s.plan.laneSteer (txRing p l)) o)) = false :=
    List.any_eq_false.2 fun o ho => ne_true_of_eq_false (idle o (List.mem_range.1 ho))
  exact completes_of_live h0 rfl ((if_pos ⟨run, hl, role, mode, steered, free⟩).trans ((if_neg down).trans (if_pos ⟨checking, quiet⟩)))

/-- A visit's beacon goes where one is due after the switch. -/
theorem steerVisit_completes {t u : State} (ho : o < 3) (path : s.plan.steerPath (s.plan.laneSteer (txRing p l)) o ≠ 0xFFFF)
    (up : s.txSt p l = lnIN_SERVICE ∨ s.txSt p l = lnCHECKING) (can : s.canLaunch (treePort p o) = true)
    (hu : u = if s.txOut p l = o then s else (s.steerTo p l o).sendIdle p l 4)
    (h : (if u.beaconDue p l o then u.sendBeacon p l else u) = t) : Completes (.steerVisit p l o) s t.msgSettle := by
  subst hu
  exact completes_of_live h0 rfl ((if_pos ⟨hl, ho⟩).trans
    (congrArg State.msgSettle ((if_pos ⟨run, role, mode, steered, path, up, can, free⟩).trans h)))

end Steer

/-- A gap in the bursts of a path takes its lane to RELOCK, and its slot, where it runs, settles again. -/
theorem State.burstGap_relock {s u : State} {p l : Nat} {e : PathEnt}
    (path : s.plan.path true (s.plan.lanePath (rxRing p l)) = some e) (burst : e.burst = true) (port : e.port = p)
    (up : serving (s.rxSt p l) = true ∨ s.rxSt p l = lnCHECKING) (hu : s.rxLeave p l lnRELOCK fcLOCK = u) :
    s.burstGap p l = if u.slotRuns (rxRing p l) then u.slotSettle (rxRing p l) else u := by
  subst hu
  simp only [State.burstGap, path]
  exact if_pos ⟨burst, port, up⟩

/-- Settles O47: a switch by what waits at the lane's outputs, a visit by where the lane is, a gap by the path's entry. -/
theorem steeredLanesVisitTheirOutputs : Obligations.SteeredLanesVisitTheirOutputs := by
  intro s p l o e h0
  refine ⟨fun run hl free role mode steered => steerSwitch_checking h0 run hl role mode steered free,
    fun run hl free role mode steered up => ?switch,
    fun hl ho run role mode steered path up can free u hu => ?visit,
    fun hp hl path burst port up => ⟨_, rfl, ?gap⟩⟩
  case switch =>
    have done {t : State} : s.steerSwitch p l = t → Completes (.steerSwitch p l) s t :=
      steerSwitch_serving h0 run hl role mode steered free up
    exact ⟨fun leave next => done (State.steerSwitch_next leave next), fun idle noNext => done (State.steerSwitch_rest idle noNext)⟩
  case visit =>
    have done {t : State} : (if u.beaconDue p l o then u.sendBeacon p l else u) = t → Completes (.steerVisit p l o) s t.msgSettle :=
      steerVisit_completes h0 run hl role mode steered free ho path up can hu
    exact ⟨fun due => done (if_pos due), fun sent => done (if_neg (ne_true_of_eq_false sent))⟩
  case gap =>
    exact completes_of_live h0 rfl ((if_pos ⟨hp, hl⟩).trans
      (congrArg State.msgSettle (State.burstGap_relock path burst port up rfl)))

end Sys2Proof.Machine

/-!
PROOFS. Route plans and beacons (10_crossroads.md): the commands on the plan bank under the claim, and the identity of a peer.
-/

namespace Sys2Proof.Machine

/-! ### The registers of an update of many -/

theorem OnlyRegs.foldl {α : Type} {m : List Nat} {l : List α} {f : State → α → State} (s : State)
    (h : ∀ t, ∀ x ∈ l, OnlyRegs m t (f t x)) : OnlyRegs m s (l.foldl f s) :=
  List.foldlRecOn l f (motive := OnlyRegs m s) (.refl m s) fun t ht x hx => ht.trans (h t x hx)

theorem SameRegsBut.get64_eq {l : List Nat} {s t : State} (h : SameRegsBut l s t) {a : Nat} {f : Fld} (ha : a + f.off ∉ l)
    (ha' : a + f.off + 4 ∉ l) : t.get64 a f = s.get64 a f := by
  rw [State.get64, State.get64, h.1 _ ha, h.1 _ ha']

theorem State.get64_lt (s : State) (a : Nat) (f : Fld) : s.get64 a f < 2 ^ 64 := by
  have lo := (s.rd (a + f.off)).isLt
  have hi := (s.rd (a + f.off + 4)).isLt
  rw [State.get64]
  omega

theorem State.claim_lt (s : State) : s.claim < 2 ^ 64 := s.get64_lt CLAIM_B CLAIM.CURRENT_LO

theorem State.put_onlyRegs (s : State) (a : Nat) (f : Fld) (v : Nat) : OnlyRegs [a + f.off] s (s.put a f v) :=
  .put List.mem_cons_self s v

theorem State.put64_onlyRegs (s : State) (a : Nat) (f : Fld) (v : Nat) :
    OnlyRegs [a + f.off, a + f.off + 4] s (s.put64 a f v) := .put64 (by simp) (by simp) s v

/-! ### ARM (R358) -/

/-- Trigger unit 31 is armed for the instant t, once. -/
def State.armUnit (s : State) (t : Nat) : State :=
  ((s.put64 TRIGGERS_B (trigF TRIGGERS.TIME_LO 31) t).put TRIGGERS_B (trigF TRIGGERS.PERIOD_NS 31) 0).setArm 31 1

/-- STAGED goes to ARMED, with its event. -/
def State.armStage (s : State) : State := (s.setStage sgARMED).raise XRDS_B 2

/-- The state to which a CANCEL returns the switch is noted, and start points that an earlier ARM left are dropped. -/
def State.noteBefore (s : State) : State := { s with xrds.before := s.get CLAIM_B CLAIM.SW_STAT_STATE, mill.starts := [] }

/-- The switch is reported as armed. -/
def State.reportArmed (s : State) : State := (s.put CLAIM_B CLAIM.SW_STAT_STATE 1).put CLAIM_B CLAIM.STAT_ARMED 1

/-- The switch is armed under the claim c. -/
def State.armSwitch (s : State) (c : Nat) : State := s.noteBefore.reportArmed.put64 CLAIM_B CLAIM.SW_CLAIM_LO c

/-- The FREE_STG registers (R364). -/
def freeStgRegs : List Nat := (List.range 36).map fun p => XRDS_B + 0x4000 + 0x44 + 8 * p

section Fields
variable {l : List Nat} {s t : State} (h : SameRegsBut l s t)
include h

theorem SameRegsBut.stageSt_eq (ha : XRDS_B + 0x60 ∉ l) : t.stageSt = s.stageSt := h.get_eq ha

theorem SameRegsBut.trigArmed_eq (ha : TRIGGERS_B + 0x4EC ∉ l) : t.trigArmed 31 = s.trigArmed 31 := h.bit_eq ha

theorem SameRegsBut.claim_eq (ha : CLAIM_B + 0x40 ∉ l) (ha' : CLAIM_B + 0x44 ∉ l) : t.claim = s.claim := h.get64_eq ha ha'

end Fields

/-- The registers of the control page and of FREE_STG that an ARM writes. -/
def armStageRegs : List Nat := (XRDS_B + 0x14) :: (XRDS_B + 0x60) :: freeStgRegs

/-- The registers of the switch that an ARM writes. -/
def armSwitchRegs : List Nat := [CLAIM_B + 0x58, CLAIM_B + 0x80, CLAIM_B + 0x94, CLAIM_B + 0x98]

/-- The registers of TRIGGERS that an ARM writes. -/
def armUnitRegs : List Nat := [0x44, 0x4E0, 0x4E4, 0x4E8, 0x4EC].map (TRIGGERS_B + ·)

section Arm
variable (s : State) (t c : Nat)

theorem State.armUnit_onlyRegs : OnlyRegs armUnitRegs s (s.armUnit t) :=
  (((OnlyRegs.put64 (by decide) (by decide) s t).trans (.put (by decide) _ 0)).trans (.put (by decide) _ 1)).trans
    (.put (by decide) _ 1)

theorem State.clearFree_onlyRegs : OnlyRegs freeStgRegs s s.clearFree :=
  .foldl s fun t _ hp => .wr (List.mem_map_of_mem hp) t 0

theorem State.setStage_armed : s.setStage sgARMED = (s.put XRDS_B XRDS.STAGE_STAT_STATE sgARMED).clearFree := rfl

theorem State.armStage_onlyRegs : OnlyRegs armStageRegs s s.armStage := by
  rw [State.armStage, State.setStage_armed]
  exact ((OnlyRegs.put (by decide) s sgARMED).trans ((State.clearFree_onlyRegs _).mono (by decide))).trans
    ((State.raise_onlyRegs _ XRDS_B 2).mono (by decide))

theorem State.armSwitch_sameRegs : SameRegsBut armSwitchRegs s (s.armSwitch c) :=
  (((OnlyRegs.put (by decide) s.noteBefore 1).trans (.put (by decide) _ 1)).trans (.put64 (by decide) (by decide) _ c)).regs

theorem State.armSwitch_sameBytes : SameBytes s (s.armSwitch c) := fun _ => rfl

/-- STAGED is ARMED. -/
theorem State.armStage_stageSt : s.armStage.stageSt = sgARMED :=
  calc s.armStage.stageSt
    _ = (s.put XRDS_B XRDS.STAGE_STAT_STATE sgARMED).clearFree.stageSt :=
      (State.raise_onlyRegs _ XRDS_B 2).regs.get_eq (by decide)
    _ = (s.put XRDS_B XRDS.STAGE_STAT_STATE sgARMED).stageSt := (State.clearFree_onlyRegs _).regs.get_eq (by decide)
    _ = sgARMED := s.get_put_same XRDS_B XRDS.STAGE_STAT_STATE sgARMED (by decide) (by decide)

theorem State.setArm_onlyRegs : OnlyRegs [TRIGGERS_B + 0x44, TRIGGERS_B + 0x4EC] s (s.setArm 31 1) :=
  (OnlyRegs.put (by decide) s 1).trans (.put (by decide) _ 1)

/-- Unit 31's ARM bit is set. -/
theorem State.setArm_trigArmed : (s.setArm 31 1).trigArmed 31 = true :=
  ((State.put_onlyRegs _ TRIGGERS_B (bitF 0x44 31) 1).regs.bit_eq (by decide)).trans
    (s.bit_put_same TRIGGERS_B (trigF TRIGGERS.CTRL_ARM 31) 1 rfl (by decide))

/-- Neither the ARM bit nor the period is part of the instant. -/
theorem State.armUnit_time : (s.armUnit t).get64 TRIGGERS_B (trigF TRIGGERS.TIME_LO 31) = t % 2 ^ 64 :=
  ((State.setArm_onlyRegs _).regs.get64_eq (by decide) (by decide)).trans
    (((State.put_onlyRegs _ TRIGGERS_B (trigF TRIGGERS.PERIOD_NS 31) 0).regs.get64_eq (by decide) (by decide)).trans
      (s.get64_put64 TRIGGERS_B (trigF TRIGGERS.TIME_LO 31) t))

theorem State.armUnit_period : (s.armUnit t).get TRIGGERS_B (trigF TRIGGERS.PERIOD_NS 31) = 0 :=
  ((State.setArm_onlyRegs _).regs.get_eq (by decide)).trans
    (State.get_put_same _ TRIGGERS_B (trigF TRIGGERS.PERIOD_NS 31) 0 (by decide) (by decide))

theorem State.reportArmed_onlyRegs : OnlyRegs [CLAIM_B + 0x80, CLAIM_B + 0x58] s s.reportArmed :=
  (OnlyRegs.put (by decide) s 1).trans (.put (by decide) _ 1)

theorem State.armSwitch_armed : (s.armSwitch c).bit CLAIM_B CLAIM.STAT_ARMED = true :=
  ((State.put64_onlyRegs _ CLAIM_B CLAIM.SW_CLAIM_LO c).regs.bit_eq (by decide)).trans
    (State.bit_put_same _ CLAIM_B CLAIM.STAT_ARMED 1 rfl (by decide))

theorem State.armSwitch_claim : (s.armSwitch c).get64 CLAIM_B CLAIM.SW_CLAIM_LO = c % 2 ^ 64 := State.get64_put64 ..

theorem State.noteBefore_claim : s.noteBefore.claim = s.claim := rfl

/-- The claim stays current while STAGED and unit 31 are armed and the switch is reported. -/
theorem State.reportArmed_claim : (s.armUnit t).armStage.noteBefore.reportArmed.claim = s.claim := by
  rw [(State.reportArmed_onlyRegs _).regs.claim_eq (by decide) (by decide), State.noteBefore_claim,
    (State.armStage_onlyRegs _).regs.claim_eq (by decide) (by decide),
    (s.armUnit_onlyRegs t).regs.claim_eq (by decide) (by decide)]

end Arm

/-- The time from now to the plan's instant, as a 64-bit difference. -/
def State.planAhead (s : State) : Nat := (s.get64 XRDS_B XRDS.PLAN_T_LO + 2 ^ 64 - s.nowNs) % 2 ^ 64

section ArmPlan
variable {s : State}

theorem State.armPlan_unchecked (h : s.stageSt ≠ sgCHECKED) : s.armPlan = (3, s) := if_pos h

variable (checked : s.stageSt = sgCHECKED)
include checked

theorem State.armPlan_late (late : s.planAhead < 5000000 ∨ 2 ^ 63 ≤ s.planAhead) : s.armPlan = (4, s) :=
  (if_neg (not_not.2 checked)).trans (if_pos late)

/-- An accepted ARM arms unit 31, STAGED, and the switch under the claim that was current. -/
theorem State.armPlan_accepted (ahead : 5000000 ≤ s.planAhead) (future : s.planAhead < 2 ^ 63) :
    s.armPlan = (0, (s.armUnit (s.get64 XRDS_B XRDS.PLAN_T_LO)).armStage.armSwitch s.claim) := by
  rw [← s.reportArmed_claim (s.get64 XRDS_B XRDS.PLAN_T_LO)]
  exact (if_neg (not_not.2 checked)).trans (if_neg (not_or.2 ⟨ahead.not_gt, future.not_ge⟩))

end ArmPlan

/-- Settles O45: the plan's state and its instant's distance decide; what arms one of the three leaves the others' registers. -/
theorem armedPlansRequireACheckedBank : Obligations.ArmedPlansRequireACheckedBank := by
  intro s
  refine ⟨State.armPlan_unchecked, State.armPlan_late, fun checked ahead future => ?accepted⟩
  case accepted =>
    rw [State.armPlan_accepted checked ahead future]
    have unit := s.armUnit_onlyRegs (s.get64 XRDS_B XRDS.PLAN_T_LO)
    have time := s.armUnit_time (s.get64 XRDS_B XRDS.PLAN_T_LO)
    have period := s.armUnit_period (s.get64 XRDS_B XRDS.PLAN_T_LO)
    have armed : (s.armUnit (s.get64 XRDS_B XRDS.PLAN_T_LO)).trigArmed 31 = true := State.setArm_trigArmed _
    generalize s.armUnit (s.get64 XRDS_B XRDS.PLAN_T_LO) = u at unit time period armed ⊢
    have stage := u.armStage_onlyRegs
    have switch := u.armStage.armSwitch_sameRegs s.claim
    rw [Nat.mod_eq_of_lt (s.get64_lt XRDS_B XRDS.PLAN_T_LO)] at time
    exact ⟨rfl, (switch.stageSt_eq (by decide)).trans u.armStage_stageSt,
      ((switch.trigArmed_eq (by decide)).trans (stage.regs.trigArmed_eq (by decide))).trans armed,
      ((switch.get64_eq (by decide) (by decide)).trans (stage.regs.get64_eq (by decide) (by decide))).trans time,
      ((switch.get_eq (by decide)).trans (stage.regs.get_eq (by decide))).trans period,
      u.armStage.armSwitch_armed s.claim,
      (u.armStage.armSwitch_claim s.claim).trans (Nat.mod_eq_of_lt s.claim_lt),
      fun a => (u.armStage.armSwitch_sameBytes s.claim a).trans ((stage.bytes a).trans (unit.bytes a))⟩

/-! ### STAGED and ACTIVE (R355, R356, R361, R378) -/

section PlanBank
variable {s : State} {path : Nat}

theorem State.stageData_owner (owner : s.stageOwner path = true) (idle : s.stageSt ≠ sgCHECKING) (unarmed : s.stageSt ≠ sgARMED)
    (v : Word) : s.stageData path v
    = ({ s with
          xrds.staged := ((leBytes 4 v.toNat).mapIdx fun i b => (s.get XRDS_B XRDS.STAGE_ADDR_OFFSET + i, b)).foldl
            (fun (m : SMap Byte) (x : Nat × Byte) => zset m x.1 x.2) s.xrds.staged
          xrds.stagedEnd := max s.xrds.stagedEnd (s.get XRDS_B XRDS.STAGE_ADDR_OFFSET + 4) }.setStage sgWRITING).stageNext :=
  (if_neg (ne_false_of_eq_true owner)).trans (if_neg (not_or.2 ⟨idle, unarmed⟩))

theorem State.stageData_other (other : s.stageOwner path = false) (v : Word) : s.stageData path v = s.stageRefused path 6 :=
  if_pos other

/-- Four bytes within the bank need no free value. -/
theorem State.activeRead_within (within : s.pget path XRDS_B XRDS.ACTIVE_ADDR_OFFSET + 4 ≤ 131072) : s.activeRead path
    = (Bank.num s.xrds.active (s.pget path XRDS_B XRDS.ACTIVE_ADDR_OFFSET) 4,
      s.pput path XRDS_B XRDS.ACTIVE_ADDR_OFFSET (s.pget path XRDS_B XRDS.ACTIVE_ADDR_OFFSET + 4)) := by
  have four : min 4 (131072 - s.pget path XRDS_B XRDS.ACTIVE_ADDR_OFFSET) = 4 := by omega
  simp only [State.activeRead, four, if_true, Nat.zero_mul, Nat.zero_mod, Nat.add_zero]

variable {u : State} {us : Nat} (checking : s.stageSt = sgCHECKING) (hu : u = s.put XRDS_B XRDS.CHK_TIME_US us)
include checking hu

theorem State.checkDone_passes
    (ok : checkPlan u.stagedPlan u.xrds.stagedEnd (u.get XRDS_B XRDS.ACTIVE_EPOCH_VALUE) u.xrds.roles = none) : s.checkDone us
    = (((u.wr (XRDS_B + 0x74) 0).setStage sgCHECKED).put XRDS_B XRDS.STAGED_EPOCH_VALUE
        ((u.wr (XRDS_B + 0x74) 0).setStage sgCHECKED).stagedPlan.epoch).raise XRDS_B 0 := by
  subst hu
  refine (if_neg (not_not.2 checking)).trans ?_
  simp only [ok]

/-- A finding of one line is reported as it is. -/
theorem State.checkDone_fails {f : PlanFail}
    (bad : checkPlan u.stagedPlan u.xrds.stagedEnd (u.get XRDS_B XRDS.ACTIVE_EPOCH_VALUE) u.xrds.roles = some f)
    (line : f.code ≠ 13) : s.checkDone us
    = ((u.wr (XRDS_B + 0x74) (BitVec.ofNat 32 { f with line := f.line % 16 }.word)).setStage sgREJECTED).raise XRDS_B 1 := by
  subst hu
  refine (if_neg (not_not.2 checking)).trans ?_
  simp only [bad, line, if_false]

end PlanBank

/-- Settles O43: a write by whether its path is the owner, a check's end by what the checker finds. -/
theorem planBankIsWrittenAndChecked : Obligations.PlanBankIsWrittenAndChecked := by
  intro s u path us v f h0 hs
  refine ⟨fun owner idle unarmed => ⟨_, rfl, completes_of_heard h0 hs rfl (State.stageData_owner owner idle unarmed v)⟩,
    fun other => completes_of_heard h0 hs rfl (State.stageData_other other v), completes_of_heard h0 hs rfl rfl,
    fun within => ?read, fun checking hu => ⟨fun ok => completes_of_live h0 rfl (State.checkDone_passes checking hu ok),
      fun bad line => completes_of_live h0 rfl (State.checkDone_fails checking hu bad line)⟩⟩
  case read =>
    rw [State.activeRead_within within]
    exact ⟨rfl, rfl⟩

/-! ### Commands under a claim (R357, R440-R444) -/

/-- A register of an access path is none of the module's. -/
theorem State.pput64_regs (s : State) (path a : Nat) (f : Fld) (v : Nat) : (s.pput64 path a f v).regs = s.regs := by
  rw [State.pput64, State.pwr_regs, State.pwr_regs]

theorem State.bit_pput64 (s : State) (path a b : Nat) (f g : Fld) (v : Nat) : (s.pput64 path a f v).bit b g = s.bit b g := by
  rw [State.bit, State.bit, State.get_congr (s.pput64_regs path a f v)]

theorem State.on_pput64 (s : State) (path a b : Nat) (f : Fld) (v : Nat) : (s.pput64 path a f v).on b = s.on b := by
  rw [State.on, State.on, State.bit_pput64, State.bit_pput64]

/-- PLAN_CTRL has five command bits. -/
theorem toNat_planBits {bits : Nat} (h : bits < 32) : (BitVec.ofNat 32 bits).toNat % 32 = bits := by
  rw [BitVec.toNat_ofNat]
  omega

section PlanWrite
variable {s u : State} {path claim bits : Nat} (hu : u = s.pput64 path XRDS_B XRDS.CMD_CLAIM_LO claim) (hb : bits < 32)
include hu hb

/-- A write of PLAN_CTRL acts after its claim has been stored. -/
theorem State.planWrite_older (older : u.pget64 path XRDS_B XRDS.CMD_CLAIM_LO < u.claim) : s.planWrite path claim bits
    = (u.staleClaim path (u.pget64 path XRDS_B XRDS.CMD_CLAIM_LO) bits 0).cmdDone path bits 1 := by
  rw [State.planWrite, ← hu, State.planCtrl, toNat_planBits hb]
  exact if_pos (.inr older)

/-- A command r acts under the current claim. -/
theorem State.planWrite_current (known : u.bit CLAIM_B CLAIM.STAT_LOST = false)
    (current : u.pget64 path XRDS_B XRDS.CMD_CLAIM_LO = u.claim) (run : u.on XRDS_B = true) {r : Nat × State}
    (hr : u.planCmd path bits = r) : s.planWrite path claim bits = r.2.cmdDone path bits r.1 := by
  rw [State.planWrite, ← hu]
  simp only [State.planCtrl, toNat_planBits hb, known, current, run, hr, lt_irrefl, Bool.false_eq_true, or_self, if_false,
    Bool.true_eq_false]

end PlanWrite

theorem State.cmdDone_ok (s : State) (path bits : Nat) :
    s.cmdDone path bits 0 = s.pwr path (XRDS_B + 0x4C) (BitVec.ofNat 32 (bits * 2 ^ 8)) := by
  simp only [State.cmdDone, if_true, Nat.zero_add]

theorem State.cmdDone_refused (s : State) (path bits : Nat) {code : Nat} (h : code ≠ 0) : s.cmdDone path bits code
    = ((s.pwr path (XRDS_B + 0x4C) (BitVec.ofNat 32 (code + bits * 2 ^ 8))).recErrX XRDS_B 16 (0x8A00 + code) path).raiseAlways
        XRDS_B 9 := if_neg h

section Present
variable {s : State} {path : Nat} (known : s.bit CLAIM_B CLAIM.STAT_LOST = false)
include known

/-- PRESENT compares the claim presented with the current one. -/
theorem State.present_known : s.present path 1
    = if s.pget64 path CLAIM_B CLAIM.PRESENT_LO < s.claim then
        ((s.staleClaim path (s.pget64 path CLAIM_B CLAIM.PRESENT_LO) 0 1).pwr path (CLAIM_B + 0x54) 1).recErrX CLAIM_B 16 0x8C01 path
      else if s.claim < s.pget64 path CLAIM_B CLAIM.PRESENT_LO then
        (s.raiseClaim path (s.pget64 path CLAIM_B CLAIM.PRESENT_LO)).pwr path (CLAIM_B + 0x54) 0x100
      else s.pwr path (CLAIM_B + 0x54) 0 :=
  (if_neg (by decide)).trans (if_neg (ne_true_of_eq_false known))

theorem State.present_newer (newer : s.claim < s.pget64 path CLAIM_B CLAIM.PRESENT_LO) : s.present path 1
    = (s.raiseClaim path (s.pget64 path CLAIM_B CLAIM.PRESENT_LO)).pwr path (CLAIM_B + 0x54) 0x100 := by
  rw [State.present_known known, if_neg newer.not_gt, if_pos newer]

theorem State.present_older (older : s.pget64 path CLAIM_B CLAIM.PRESENT_LO < s.claim) : s.present path 1
    = ((s.staleClaim path (s.pget64 path CLAIM_B CLAIM.PRESENT_LO) 0 1).pwr path (CLAIM_B + 0x54) 1).recErrX CLAIM_B 16 0x8C01 path := by
  rw [State.present_known known, if_pos older]

end Present

/-- Settles O44: each command by how the claim that it carries stands to the current one. -/
theorem planCommandsObeyTheClaim : Obligations.PlanCommandsObeyTheClaim := by
  intro s u path claim h0 hs
  refine ⟨fun hu known current run => ?current, fun hu older => ?older,
    fun bits code => ⟨u.cmdDone_ok path bits, fun h => u.cmdDone_refused path bits h⟩, fun hu known => ?present⟩
  case current =>
    have known' : u.bit CLAIM_B CLAIM.STAT_LOST = false := by rwa [hu, State.bit_pput64]
    have run' : u.on XRDS_B = true := by rwa [hu, State.on_pput64]
    have done {bits : Nat} (hb : bits < 32) {r : Nat × State} (hr : u.planCmd path bits = r) :
        s.planWrite path claim bits = r.2.cmdDone path bits r.1 := State.planWrite_current hu hb known' current run' hr
    exact ⟨completes_of_heard h0 hs rfl (done (by decide) rfl), completes_of_heard h0 hs rfl (done (by decide) rfl),
      completes_of_heard h0 hs rfl (congrArg State.msgSettle (done (by decide) rfl)),
      completes_of_heard h0 hs rfl (done (by decide) rfl), completes_of_heard h0 hs rfl (done (by decide) rfl)⟩
  case older =>
    have refused {bits : Nat} (hb : bits < 32) := State.planWrite_older hu hb older
    have cancel := completes_of_heard (c := .cancel path claim) h0 hs rfl (congrArg State.msgSettle (refused (by decide)))
    intro x hx
    fin_cases hx <;> exact ⟨completes_of_heard h0 hs rfl (refused (by decide)), cancel⟩
  case present =>
    have known' : u.bit CLAIM_B CLAIM.STAT_LOST = false := by rwa [hu, State.bit_pput64]
    subst hu
    exact ⟨fun newer => completes_of_heard h0 hs rfl (State.present_newer known' newer),
      fun older => completes_of_heard h0 hs rfl (State.present_older known' older)⟩

/-! ### Beacons (R370-R375, R380) -/

section Beacon
variable {s : State} {p l : Nat} {x : Beacon} {e : PathEnt}

/-- The four tests of a beacon against its path's entry (R371, R372). -/
def Beacon.Fits (x : Beacon) (e : PathEnt) (l : Nat) : Prop :=
  x.path = e.id ∧ x.serial = e.peerSerial ∧ x.port = e.peerPort ∧ x.lane = l

/-- A lane of a path hands its beacon to that path. -/
theorem State.beaconIn_path (run : s.portOn p = true) (mode : s.plan.mode p ≠ mdDISCOVER)
    (line : (s.ringLine (rxRing p l)).isSome = true) (path : s.plan.path true (s.plan.lanePath (rxRing p l)) = some e) :
    s.beaconIn p l x = (s.minorCheck p x).pathBeacon p l (9 * p + l) e x := by
  refine (if_neg (ne_false_of_eq_true run)).trans ((if_neg mode).trans ((if_neg ?_).trans ?_))
  · rw [Option.isNone_iff_eq_none, ← Option.not_isSome_iff_eq_none, not_not]
    exact line
  · simp only [path]

theorem State.pathBeacon_match {i : Nat} (fits : x.Fits e l) (major : x.major = s.get XRDS_B XRDS.PROTO_MAJOR) :
    s.pathBeacon p l i e x = s.matchBeacon p l i x := by
  have ok : decide (x.path = e.id ∧ x.serial = e.peerSerial ∧ x.port = e.peerPort ∧ x.lane = l) = true := decide_eq_true fits
  simp only [State.pathBeacon, ok, if_true, ← major, ne_eq, not_true, if_false]

theorem State.pathBeacon_mismatch {i : Nat} (misfit : ¬ x.Fits e l)
    (major : x.major = (s.mismatchBeacon p l i x).get XRDS_B XRDS.PROTO_MAJOR) :
    s.pathBeacon p l i e x = s.mismatchBeacon p l i x := by
  have bad : decide (x.path = e.id ∧ x.serial = e.peerSerial ∧ x.port = e.peerPort ∧ x.lane = l) = false := decide_eq_false misfit
  simp only [State.pathBeacon, bad, Bool.false_eq_true, if_false, ← major, ne_eq, not_true]

theorem State.missing_marks (down : (s.plan.paths.any fun e => e.inbound && decide (e.port = p) && !s.pathUp e) = true)
    (first : s.bit XRDS_B (maskF 0x90 p) = false) : s.missing p = (s.raise (PORT_B p) 19).markPort 0x90 p 5 := by
  simp only [State.missing, down, first, if_true, Bool.false_eq_true, if_false]

variable (h0 : s.power.off = false) (hp : p < 36) (hl : l < 9)
include h0 hp hl

theorem beaconReceive_dropped (full : 32 ≤ s.vc3Held p) : Completes (.beaconReceive p l x) s (s.vc3Drop p).msgSettle :=
  completes_of_live h0 rfl ((if_pos ⟨hp, hl⟩).trans (congrArg State.msgSettle (if_neg full.not_gt)))

/-- Where VC3 has room a running port counts the frame before it judges the beacon. -/
theorem beaconReceive_counted (room : s.vc3Held p < 32) (run : s.portOn p = true) {t : State}
    (h : (s.countIn p).beaconIn p l x = t) : Completes (.beaconReceive p l x) s t.msgSettle := by
  refine completes_of_live h0 rfl ((if_pos ⟨hp, hl⟩).trans (congrArg State.msgSettle ((if_pos room).trans ?_)))
  rwa [if_pos run]

end Beacon

/-- Settles O42: a beacon received by the room in VC3 and its tests, the other commands by their one condition. -/
theorem beaconsIdentifyThePeer : Obligations.BeaconsIdentifyThePeer := by
  intro s u p l i x e h0
  refine ⟨fun run hl up => completes_of_live h0 rfl (if_pos ⟨run, hl, up⟩),
    fun hp hl full => beaconReceive_dropped h0 hp hl full, fun run hp hl room hu run' mode line path => ?judged,
    fun hp down first => completes_of_live h0 rfl ((if_pos hp).trans (State.missing_marks down first)),
    fun hi known fresh => completes_of_live h0 rfl (if_pos ⟨hi, known, fresh⟩)⟩
  case judged =>
    subst hu
    have judge := State.beaconIn_path (x := x) run' mode line path
    exact ⟨fun hid hserial hport hlane major => beaconReceive_counted h0 hp hl room run
        (judge.trans (State.pathBeacon_match ⟨hid, hserial, hport, hlane⟩ major)),
      fun misfit major => beaconReceive_counted h0 hp hl room run (judge.trans (State.pathBeacon_mismatch misfit major))⟩

end Sys2Proof.Machine

/-!
PROOFS. Millrace (11_millrace.md): writes of the descriptor table, and what a frame, a missed one and a timer do to a loop slot.
-/

namespace Sys2Proof.Machine

/-! ### Descriptor writes (R175, R386, R396, R397) -/

/-- A use of a descriptor writes no register but the count of corrections. -/
theorem State.descUse_regs (s : State) (o : Nat) : (s.descUse o).regs = s.regs
    ∨ (s.descUse o).regs = (s.inc MILLRACE_B MILLRACE.DESC_CORR_COUNT).regs := by
  simp only [State.descUse]
  split
  · exact .inr rfl
  · exact .inl rfl

theorem State.descUse_mem (s : State) (o : Nat) : (s.descUse o).mem = s.mem := by
  simp only [State.descUse]
  split
  · exact s.inc_mem MILLRACE_B MILLRACE.DESC_CORR_COUNT
  · rfl

theorem State.rd_descUse (s : State) (o : Nat) {a : Nat} (h : a ≠ MILLRACE_B + 0xCC) : (s.descUse o).rd a = s.rd a := by
  rcases s.descUse_regs o with same | counted
  · exact State.rd_congr same a
  · exact (State.rd_congr counted a).trans (s.rd_put_ne MILLRACE_B a MILLRACE.DESC_CORR_COUNT _ h)

theorem State.byte_descUse (s : State) (o a : Nat) : (s.descUse o).byte a = s.byte a := by
  simp only [State.byte, State.descUse_mem]

/-- The descriptor table lies above the page of Millrace. -/
theorem desc_not_millraceReg (o : Nat) : DESC_B + o ∉ (MILLRACE_B + 0xCC) :: errRegs MILLRACE_B := by
  simp only [DESC_B, MILLRACE_B, errRegs, List.mem_cons, List.not_mem_nil, or_false]
  omega

/-- A refusal recorded at the page of Millrace keeps the word of the table and every byte of memory. -/
theorem State.descRefused_keeps (s : State) (o i code path : Nat) :
    ((s.descUse o).recErr MILLRACE_B i code path o).rd (DESC_B + o) = s.rd (DESC_B + o)
      ∧ SameBytes s ((s.descUse o).recErr MILLRACE_B i code path o) := by
  have refused := (s.descUse o).recErr_onlyRegs MILLRACE_B i code path o
  have unlisted := desc_not_millraceReg o
  exact ⟨(refused.regs.1 _ (List.not_mem_of_not_mem_cons unlisted)).trans (s.rd_descUse o (List.ne_of_not_mem_cons unlisted)),
    fun a => (refused.bytes a).trans (s.byte_descUse o a)⟩

/-- Would the word w at offset o change a field that its running slot keeps? A write of CTRL that clears ENABLE may. -/
def State.descBusy (s : State) (o : Nat) (w : Word) : Bool :=
  s.dRun (o / 64) && !(decide (o % 64 = 0) && !w.getLsbD 0)
    && decide (s.rd (DESC_B + o) &&& BitVec.ofNat 32 (busyMask (o % 64)) ≠ w &&& BitVec.ofNat 32 (busyMask (o % 64)))

theorem State.descBusy_eq_true {s : State} {o : Nat} {w : Word} (run : s.dRun (o / 64) = true)
    (keep : ¬ (o % 64 = 0 ∧ w.getLsbD 0 = false))
    (change : s.rd (DESC_B + o) &&& BitVec.ofNat 32 (busyMask (o % 64)) ≠ w &&& BitVec.ofNat 32 (busyMask (o % 64))) :
    s.descBusy o w = true := by
  have kept : (decide (o % 64 = 0) && !w.getLsbD 0) = false := by simpa using keep
  rw [State.descBusy, run, kept, decide_eq_true change]
  rfl

theorem State.descBusy_eq_false {s : State} {o : Nat} {w : Word}
    (h : s.dRun (o / 64) = false ∨ (o % 64 = 0 ∧ w.getLsbD 0 = false)
      ∨ s.rd (DESC_B + o) &&& BitVec.ofNat 32 (busyMask (o % 64)) = w &&& BitVec.ofNat 32 (busyMask (o % 64))) :
    s.descBusy o w = false := by
  rcases h with idle | ⟨ctrl, stops⟩ | same
  · simp [State.descBusy, idle]
  · rw [State.descBusy, decide_eq_true ctrl, stops, Bool.not_false, Bool.and_self, Bool.not_true, Bool.and_false, Bool.false_and]
  · simp [State.descBusy, same]

/-- A CTRL word with TRIM_EN at 0 clears the trim of slot i (R401). -/
def State.ctrlTrim (s : State) (i : Nat) (w : Word) : State :=
  if w.getLsbD 6 then s else s.modSlot i fun x => { x with trim := 0 }

/-- A CTRL word that sets ENABLE over the word old takes the filtered values as slot i's references (R387). -/
def State.ctrlRefs (s : State) (i : Nat) (old w : Word) : State :=
  if w.getLsbD 0 && !old.getLsbD 0 then s.modSlot i fun x => { x with refW := s.filtW i, refE := s.filtE i } else s

/-- The word w stored at offset o, with what a CTRL word does to its slot. -/
def State.descStore (s : State) (o : Nat) (w : Word) : State :=
  let old := s.rd (DESC_B + o)
  let s := s.wr (DESC_B + o) w
  let s := if o % 64 = 0 ∧ w.getLsbD 6 = false then s.modSlot (o / 64) fun x => { x with trim := 0 } else s
  let s := if o % 64 = 0 ∧ w.getLsbD 0 = true ∧ old.getLsbD 0 = false
    then s.modSlot (o / 64) fun x => { x with refW := s.filtW (o / 64), refE := s.filtE (o / 64) } else s
  s.slotRefresh (o / 64)

theorem State.descStore_other {o : Nat} (other : o % 64 ≠ 0) (s : State) (w : Word) :
    s.descStore o w = (s.wr (DESC_B + o) w).slotRefresh (o / 64) := by
  simp only [State.descStore, other, false_and, if_false]

theorem State.descStore_ctrl {o : Nat} (ctrl : o % 64 = 0) (s : State) (w : Word) : s.descStore o w =
    (((s.wr (DESC_B + o) w).ctrlTrim (o / 64) w).ctrlRefs (o / 64) (s.rd (DESC_B + o)) w).slotRefresh (o / 64) := by
  simp only [State.descStore, State.ctrlTrim, State.ctrlRefs, ctrl, true_and, ← Bool.not_eq_true, ite_not, Bool.and_eq_true,
    Bool.not_eq_true']

/-- A write of a descriptor word is refused as busy, refused as out of range, or stored. -/
theorem State.descWrite_eq (s : State) (path o : Nat) (v : Word) : s.descWrite path o v =
    if (s.descUse o).descBusy o (descBits o v) then (s.descUse o).recErr MILLRACE_B 16 0x8B01 path o
    else if descRange (o / 64) (o % 64) (descBits o v).toNat then (s.descUse o).recErr MILLRACE_B 17 0x8B02 path o
    else (s.descUse o).descStore o (descBits o v) := rfl

/-- Settles O49: each write by what it would change in a running slot, by its range, and by whether it is a CTRL word. -/
theorem descriptorWritesKeepTheirRanges : Obligations.DescriptorWritesKeepTheirRanges := by
  intro s₀ s path o v w h0 hs ho h4 hu hw
  have written {t : State} (h : s₀.descWrite path o v = t) : Completes (.descWrite path o v) s₀ t.msgSettle :=
    completes_of_heard h0 hs rfl ((if_pos ⟨ho, h4⟩).trans (congrArg State.msgSettle h))
  have eq : s₀.descWrite path o v = if s.descBusy o w then s.recErr MILLRACE_B 16 0x8B01 path o
      else if descRange (o / 64) (o % 64) w.toNat then s.recErr MILLRACE_B 17 0x8B02 path o else s.descStore o w := by
    rw [hu, hw]
    exact s₀.descWrite_eq path o v
  have keeps (i code : Nat) := s₀.descRefused_keeps o i code path
  rw [← hu] at keeps
  refine ⟨fun run keep change => ⟨written (eq.trans (if_pos (State.descBusy_eq_true run keep change))), keeps 16 0x8B01⟩,
    fun free => ?free⟩
  case free =>
    rw [if_neg (ne_true_of_eq_false (State.descBusy_eq_false free))] at eq
    refine ⟨fun bad => ⟨written (eq.trans (if_pos bad)), keeps 17 0x8B02⟩, fun good other => ?other, fun good ctrl => ?ctrl⟩
    case other =>
      rw [if_neg (ne_true_of_eq_false good), State.descStore_other (by omega)] at eq
      exact written eq
    case ctrl =>
      rw [if_neg (ne_true_of_eq_false good), State.descStore_ctrl ctrl] at eq
      exact ⟨_, _, rfl, rfl, written eq⟩

/-! ### Frames of a loop slot (R389-R391) -/

/-- What a missed frame does before its run of misses is judged (R391). -/
def State.missed (s : State) (i : Nat) : State :=
  let s := (s.frameLoad i).modSlot i fun x =>
    { x with misses := min 65535 (x.misses + 1), mPrev := none, missRun := x.missRun + 1, due := false }
  let s := if isLinePower i then s.modSlot (lineKey i (zget s.mill.turn i)) fun x => { x with mPrev := none } else s
  ((s.slotFlag i fgDEADLINE_MISS).inc MILLRACE_B MILLRACE.DEADLINE_MISS_COUNT).raise MILLRACE_B 1

theorem State.frameMiss_ready {s : State} {i : Nat} (ready : s.frameReady i = true) : s.frameMiss i =
    if ((s.missed i).slot i).missRun < 64 then s.missed i
    else if isLinePower i then ((s.missed i).modSlot i fun x => { x with missRun := 0 }).linesLost i (List.range 16)
    else ((s.missed i).modSlot i fun x => { x with missRun := 0 }).loopLost i fcFEEDBACK_LOST :=
  if_neg (ne_false_of_eq_true ready)

/-- A slot is run where it is ready and, if triggered, due. -/
theorem State.frame_runs {s : State} {i : Nat} (ready : s.frameReady i = true)
    (due : s.dTrig i = false ∨ (s.slot i).due = true) :
    ¬ (s.frameReady i = false ∨ (s.dTrig i && !(s.slot i).due) = true) := by
  rcases due with free | due <;> simp [*]

/-! ### Timers of a loop slot (R404-R411) -/

theorem isLinePower_of_lt {i : Nat} (h : i < 1620) : isLinePower i = false := by
  simp [isLinePower, show i ≠ 1622 by omega, show i ≠ 1626 by omega]

section Timer
variable {s : State} {i : Nat}

/-- A failed acquisition of a slot other than line power, by the kind of the slot. -/
theorem State.acqTimeout_slot (run : s.slotRuns i = true) (single : isLinePower i = false) (acquiring : (s.slot i).st = slACQUIRE) :
    s.acqTimeout i = if i < 648 then ((s.countAcqFail i).slotSettle i).acqFailed i
      else if i < 1620 then ((s.countAcqFail i).slotAcquire i).acqFailed i else (s.countAcqFail i).slotAcquire i :=
  (if_neg (ne_false_of_eq_true run)).trans ((if_neg (ne_true_of_eq_false single)).trans (if_pos acquiring))

theorem State.acqTimeout_lines (run : s.slotRuns i = true) (lines : isLinePower i = true)
    (acquire : (s.linesOf i fun x => decide (x.st = slACQUIRE)) ≠ []) :
    s.acqTimeout i = (s.countAcqFail i).linesClose i (s.linesOf i fun x => decide (x.st = slACQUIRE)) :=
  (if_neg (ne_false_of_eq_true run)).trans ((if_pos lines).trans (if_neg (by simpa using acquire)))

theorem Slot.stuck_iff (x : Slot) : x.stuck = true ↔ x.st = slFROZEN ∨ x.st = slHELD := by simp [Slot.stuck]

theorem State.feedbackLost_slot (single : isLinePower i = false) (stuck : (s.slot i).st = slFROZEN ∨ (s.slot i).st = slHELD) :
    s.feedbackLost i = s.loopLost i fcFEEDBACK_LOST :=
  (if_neg (ne_true_of_eq_false single)).trans (if_pos ((Slot.stuck_iff _).2 stuck))

/-! ### Hardware failures (R412) -/

/-- The slot stops for good, with its flag. -/
def State.hwStopped (s : State) (i : Nat) : State :=
  ((s.slotFlag i fgHW).slotIdle i).modSlot i fun x => { x with dead := true }

theorem State.loopHwFail_ring (kind : slotKind i = .ring) : s.loopHwFail i = (s.hwStopped i).ringHwFail i := by
  simp only [State.loopHwFail, kind, State.hwStopped]

theorem State.loopHwFail_mzi (kind : slotKind i = .mzi) : s.loopHwFail i =
    (((s.hwStopped i).recErr (PORT_B (ringPort (slotRing i))) 17 0x8702 pathHw (i - 648)).inc
      (ENGINE_B (portEngine (ringPort (slotRing i)))) ENGINE.MZI_FAILED).laneFail (mziRing i) fcHARDWARE := by
  simp only [State.loopHwFail, kind, State.hwStopped]

theorem State.loopHwFail_other (no_ring : slotKind i ≠ .ring) (no_mzi : slotKind i ≠ .mzi) :
    s.loopHwFail i = s.hwStopped i := by
  cases kind : slotKind i
  case ring => exact absurd kind no_ring
  case mzi => exact absurd kind no_mzi
  case comb => simp only [State.loopHwFail, kind, State.hwStopped]
  case free => simp only [State.loopHwFail, kind, State.hwStopped]

end Timer

/-- Settles O48: each command by the state and the kind of its slot. -/
theorem loopSlotsRunFramesAndTimers : Obligations.LoopSlotsRunFramesAndTimers := by
  intro s i m metric dark h0
  have timedOut {t : State} (hi : i < 2048) (h : s.acqTimeout i = t) : Completes (.acqFail i) s t.msgSettle :=
    completes_of_live h0 rfl ((if_pos hi).trans (congrArg State.msgSettle h))
  have lost {t : State} (h : s.feedbackLost i = t) : Completes (.feedbackLost i) s t.msgSettle :=
    completes_of_live h0 rfl (congrArg State.msgSettle h)
  have failed {t : State} (hi : i < 1628) (h : s.loopHwFail i = t) : Completes (.loopHwFail i) s t.msgSettle :=
    completes_of_live h0 rfl ((if_pos hi).trans (congrArg State.msgSettle h))
  refine ⟨fun hi ready due =>
      completes_of_live h0 rfl ((if_pos hi).trans (congrArg State.msgSettle (if_neg (State.frame_runs ready due)))),
    fun hi ready u v hu hv => ?missed, fun hi settling run good => completes_of_live h0 rfl (if_pos ⟨hi, settling, run, good⟩),
    fun hi acquiring run => ?ring, fun hlo hi acquiring run => ?mzi, fun hlo hi single acquiring run => ?rest,
    fun hi lines run acquire => timedOut hi (State.acqTimeout_lines run lines acquire),
    fun single stuck => lost (State.feedbackLost_slot single stuck), fun lines => lost (if_pos lines),
    fun hi closed => completes_of_live h0 rfl (congrArg State.msgSettle (if_pos ⟨hi, closed⟩)), fun hi u hu => ?failed⟩
  case missed =>
    obtain rfl : v = s.missed i := by rw [hv, hu, State.missed]
    have miss {t : State} (h : s.frameMiss i = t) : Completes (.deadlineMiss i) s t.msgSettle :=
      completes_of_live h0 rfl ((if_pos hi).trans (congrArg State.msgSettle h))
    have eq := State.frameMiss_ready ready
    exact ⟨fun few => miss (eq.trans (if_pos few)),
      fun many single => miss (eq.trans ((if_neg many.not_gt).trans (if_neg (ne_true_of_eq_false single)))),
      fun many lines => miss (eq.trans ((if_neg many.not_gt).trans (if_pos lines)))⟩
  case ring =>
    exact timedOut (by omega) ((State.acqTimeout_slot run (isLinePower_of_lt (by omega)) acquiring).trans (if_pos hi))
  case mzi =>
    exact timedOut (by omega)
      ((State.acqTimeout_slot run (isLinePower_of_lt hi) acquiring).trans ((if_neg hlo.not_gt).trans (if_pos hi)))
  case rest =>
    exact timedOut hi
      ((State.acqTimeout_slot run single acquiring).trans ((if_neg (by omega)).trans (if_neg hlo.not_gt)))
  case failed =>
    obtain rfl : u = s.hwStopped i := hu
    exact ⟨fun ring => failed hi (State.loopHwFail_ring ring), fun mzi => failed hi (State.loopHwFail_mzi mzi),
      fun no_ring no_mzi => failed hi (State.loopHwFail_other no_ring no_mzi)⟩

end Sys2Proof.Machine

/-!
PROOFS. The course of a timed switch (12_reconfiguration.md): each of its instants, and the notes of other modules.
-/

namespace Sys2Proof.Machine

section Switch
variable {s : State}

/-- The drain of a switch that is due notes the lit ports, and is reported where the message engines run (R426, R429, R434). -/
theorem State.drainStart_reports (armed : s.stageSt = sgARMED) (first : s.xrds.litArmed = false)
    (due : s.reached ((s.armT + 2 ^ 64 - 200000) % 2 ^ 64) = true)
    (runs : { s with xrds.lit := s.litPorts, xrds.litArmed := true }.msgRuns = true) : s.drainStart =
      ({ s with xrds.lit := s.litPorts, xrds.litArmed := true }.put CLAIM_B CLAIM.SW_STAT_STATE 2).raise CLAIM_B 3 :=
  (if_pos ⟨armed, first, due⟩).trans (if_pos runs)

/-- The report of a switch whose lanes are all up (R433). -/
theorem State.switchReport_done (waits : s.xrds.toReport = true) (due : s.reached ((s.swT + 1200000) % 2 ^ 64) = true)
    (up : s.notUp = []) {u : State}
    (hu : u = (({ s with xrds := { s.xrds with
        toReport := false, refLit := [], before := if s.xrds.before = 3 then 4 else s.xrds.before } }.put
      CLAIM_B CLAIM.SW_STAT_NOT_UP 0).put CLAIM_B CLAIM.SW_STAT_STATE 4).raise CLAIM_B 4) :
    s.switchReport = u.record CLAIM_B 0x0041 [(u.rd (CLAIM_B + 0x80)).toNat, (u.rd (CLAIM_B + 0x9C)).toNat,
      (u.rd (CLAIM_B + 0xA0)).toNat, (u.rd (CLAIM_B + 0xA4)).toNat] := by
  subst hu
  simp only [State.switchReport, waits, due, and_self, if_true, up, List.isEmpty_nil, List.length_nil, portsOf,
    List.map_nil, List.eraseDups_nil, List.foldl_nil]

/-- The count of a frame received at a port leaves the switch's instant. -/
theorem State.countIn_swT (s : State) (p : Nat) : (s.countIn p).swT = s.swT := by
  have not_port {o : Nat} (ho : o < 0x1000) : CLAIM_B + o ∉ [PORT_B p + 0x8C, PORT_B p + 0x8C + 4] := by
    simp only [CLAIM_B, PORT_B, List.mem_cons, List.not_mem_nil, or_false]
    omega
  exact (s.countIn_onlyRegs p).regs.get64_eq (not_port (o := 0x8C) (by decide)) (not_port (o := 0x90) (by decide))

end Switch

/-- Settles O46: each command at its instant, a note by the instant that it names. -/
theorem theTimedSwitchRunsItsCourse : Obligations.TheTimedSwitchRunsItsCourse := by
  intro s p t new x y z h0
  refine ⟨fun armed first due runs =>
      completes_of_live h0 rfl (congrArg State.msgSettle (State.drainStart_reports armed first due runs)),
    fun armed => completes_of_live h0 rfl (if_pos armed), fun done due => completes_of_live h0 rfl (if_pos ⟨done, due⟩),
    fun waits due => completes_of_live h0 rfl (if_pos ⟨waits, due⟩),
    fun waits due up => ⟨_, rfl, completes_of_live h0 rfl (State.switchReport_done waits due up rfl)⟩,
    fun hp other => completes_of_live h0 rfl ((if_pos hp).trans (if_neg ?skew))⟩
  case skew => rwa [State.countIn_swT]

end Sys2Proof.Machine

/-!
PROOFS. Telemetry and traces of Millrace (11_millrace.md) and the parish register (17_parish_register.md).
-/

namespace Sys2Proof.Machine

/-! ### The flag FIFO (R423) -/

/-- A read takes the oldest flag, and shows a loss of later ones once. -/
theorem State.flagRead_oldest {s : State} {x : Nat × Nat} {q : List (Nat × Nat)} (h : s.mill.flagQ = x :: q) : s.flagRead =
    (x.1 + x.2 * 2 ^ 12 + (if s.mill.flagLost then 2 ^ 30 else 0) + 2 ^ 31,
      { s with mill.flagLost := false, mill.flagQ := q }) := by
  simp only [State.flagRead, h]

/-! ### Trace snapshots (R551, R563) -/

/-- A register of an access path decides nothing about which pages there are. -/
theorem State.pageOf_pwr (s : State) (path a ty inst : Nat) (v : Word) : (s.pwr path a v).pageOf ty inst = s.pageOf ty inst := by
  have listed (p : Nat) : (s.pwr path a v).listed p = s.listed p :=
    (sameAccess_of_eq (s.pwr_out ..) (s.pwr_regs ..) (s.pwr_power ..) (by rw [State.pwr_host])).listed p
  simp only [State.pageOf, listed]

theorem State.traceSel_page {s : State} {pg path : Nat} {v : Word} (h : s.pageOf (v.toNat / 2 ^ 16) (v.toNat % 2 ^ 16) = some pg)
    {u : State} (hu : u = s.pwr path (LOG_B + 0x90) v) : s.traceSel path v =
      (u.pwr path (LOG_B + 0x94) (BitVec.ofNat 32 ((zget u.log.trace pg).length + 2 ^ 31))).pwrs path (LOG_B + 0x200)
        (((zget u.log.trace pg).flatMap TraceEnt.words) ++ List.replicate (64 - 4 * (zget u.log.trace pg).length) 0) := by
  have page : u.pageOf (v.toNat / 2 ^ 16) (v.toNat % 2 ^ 16) = some pg := by
    rw [hu, State.pageOf_pwr]
    exact h
  subst hu
  unfold State.traceSel
  dsimp only
  rw [page]

/-! ### Clears (R560) -/

/-- An event leaves the pending records and the state of the controller. -/
theorem State.raise_log (s : State) (b i : Nat) :
    (s.raise b i).log.fifo = s.log.fifo ∧ (s.raise b i).log.dead = s.log.dead := by
  unfold State.raise State.raiseAlways
  split
  · split
    · exact ⟨rfl, rfl⟩
    · simp only [State.traceEntry, State.put_log, and_self]
  · exact ⟨rfl, rfl⟩

/-- A clear with the key enters where the FIFO has room and the controller works. -/
theorem State.logClear_enters {s : State} {path : Nat} {v : Word} (key : v.toNat % 2 ^ 16 = 0x434C)
    (room : s.log.fifo.length < 64) (alive : s.log.dead = false) :
    s.logClear path v = ((s.inc LOG_B LOG.CLEARS_COUNT).raise LOG_B 2).enterClear path := by
  obtain ⟨fifo, dead⟩ := (s.inc LOG_B LOG.CLEARS_COUNT).raise_log LOG_B 2
  rw [State.inc_log] at fifo dead
  rw [← fifo] at room
  rw [← dead] at alive
  exact (if_pos key).trans (if_pos ⟨room, alive⟩)

/-- Settles O50: each command by its operand or by what the FIFO holds. -/
theorem telemetryTracesAndTheLogAct : Obligations.TelemetryTracesAndTheLogAct := by
  intro s path seq pg v ps ts ports h0 hs
  refine ⟨completes_of_live h0 rfl rfl, completes_of_live h0 rfl rfl, fun x q oldest => ?flag, fun busy => ?page,
    fun hq => completes_of_heard h0 hs rfl (congrArg (s.cursorWrite path) (Nat.mod_eq_of_lt hq)), completes_of_heard h0 hs rfl rfl,
    fun key room alive => ⟨_, rfl, completes_of_heard h0 hs rfl (State.logClear_enters key room alive)⟩,
    fun bad => completes_of_heard h0 hs rfl (if_neg bad), fun own => completes_of_heard h0 hs rfl (if_pos own),
    fun low => completes_of_heard h0 hs rfl (if_neg low.not_ge),
    fun page => ⟨_, rfl, completes_of_heard h0 hs rfl (State.traceSel_page page rfl)⟩⟩
  case flag =>
    have done : Completes .flagFifoRead s (State.answer s.flagRead) := completes_of_live h0 rfl rfl
    rw [State.flagRead_oldest oldest] at done
    exact ⟨_, done, rfl, rfl, rfl, ⟨fun _ _ => rfl, fun _ _ => rfl⟩, fun _ => rfl⟩
  case page =>
    exact ⟨completes_of_live h0 rfl ((if_neg busy).trans (if_pos (by decide))),
      completes_of_live h0 rfl ((if_neg busy).trans (if_neg (by decide)))⟩

end Sys2Proof.Machine

/-!
PROOFS. The step (00_scope.md): what every command answers, whatever it means, and what a step does with the queue.
-/

namespace Sys2Proof.Machine

/-- Every command but AUX_START answers through State.live, and AUX_START on a module that is OFF alone. -/
theorem exec_auxStart_or_live (c : Instr) (s : State) :
    (∃ straps lost epoch cool, c = .auxStart straps lost epoch cool) ∨ ∃ b, exec c s = s.live b := by
  cases c
  case auxStart => exact .inl ⟨_, _, _, _, rfl⟩
  all_goals exact .inr ⟨_, rfl⟩

theorem exec_auxStart_off {s : State} (off : s.power.off = true) (straps lost epoch cool : Nat) :
    exec (.auxStart straps lost epoch cool) s = .next { s.auxStart straps lost epoch cool with pending := s.pending } :=
  congrArg Host.Outcome.next (if_pos off)

theorem exec_auxStart_on {s : State} (on : s.power.off = false) (straps lost epoch cool : Nat) :
    exec (.auxStart straps lost epoch cool) s = .next s := congrArg Host.Outcome.next (if_neg (by simp [on]))

/-- A command answers a next state with the queue that it found. -/
theorem exec_next_same_queue (c : Instr) (s : State) : ∃ t, exec c s = .next t ∧ t.pending = s.pending := by
  obtain ⟨straps, lost, epoch, cool, rfl⟩ | ⟨b, hb⟩ := exec_auxStart_or_live c s
  · cases off : s.power.off
    · exact ⟨_, exec_auxStart_on off .., rfl⟩
    · exact ⟨_, exec_auxStart_off off .., rfl⟩
  · rw [hb]
    exact s.live_next b

/-- Settles O3: each command answers through State.live or is AUX_START. -/
theorem everyCommandAnswersANextState : Obligations.EveryCommandAnswersANextState := fun c s =>
  (exec_next_same_queue c s).imp fun _ h => h.1

/-- Settles O4: the state that a command answers takes the queue of the one before it. -/
theorem noCommandTouchesTheQueue : Obligations.NoCommandTouchesTheQueue := by
  intro c s t answers
  obtain ⟨u, answer, queue⟩ := exec_next_same_queue c s
  rw [answer] at answers
  cases answers
  exact queue

/-- Settles O5: State.live answers the state of a module that is OFF itself. -/
theorem onlyAuxStartActsOnAModuleThatIsOff : Obligations.OnlyAuxStartActsOnAModuleThatIsOff := by
  refine fun s off => ⟨fun c other => ?_, exec_auxStart_off off⟩
  obtain ⟨straps, lost, epoch, cool, aux⟩ | ⟨b, hb⟩ := exec_auxStart_or_live c s
  · exact (other _ _ _ _ aux).elim
  · rw [hb, State.live_off off]

theorem step_cons {s : State} {c : Instr} {rest : List Instr} (h : s.pending = c :: rest) :
    step s = exec c { s with pending := rest } := by rw [step, h]

theorem step_nil {s : State} (h : s.pending = []) : step s = .next s.idleTick := by rw [step, h]

/-- Settles O1. -/
theorem stepTakesTheFrontCommand : Obligations.StepTakesTheFrontCommand := fun _ _ _ => step_cons

/-- Settles O2: the tick of an empty queue, by whether the module is OFF. -/
theorem stepOnAnEmptyQueueIsATick : Obligations.StepOnAnEmptyQueueIsATick := fun s empty =>
  ⟨fun off => (step_nil empty).trans (congrArg Host.Outcome.next (if_pos off)),
    fun on => (step_nil empty).trans (congrArg Host.Outcome.next (if_neg (by simp [on])))⟩

end Sys2Proof.Machine

/-!
PROOFS. The shared window (13_host_mgmt.md): what an access meets in the window, the segments and the handoff of slots.
-/

namespace Sys2Proof.Machine

/-! ### What leaves the bytes of memory -/

theorem sameBytes_of_mem {s t : State} (h : t.mem = s.mem) : SameBytes s t := fun a => by rw [State.byte, State.byte, h]

theorem State.raise_mem (s : State) (a i : Nat) : (s.raise a i).mem = s.mem := by
  unfold State.raise State.raiseAlways
  split
  · split <;> rfl
  · rfl

theorem SameBytes.trans {s t u : State} (h : SameBytes s t) (k : SameBytes t u) : SameBytes s u := fun a => (k a).trans (h a)

theorem SameBytes.foldl {α : Type} {f : State → α → State} (h : ∀ s x, SameBytes s (f s x)) (l : List α) (s : State) :
    SameBytes s (l.foldl f s) :=
  List.foldlRecOn l f (motive := SameBytes s) (fun _ => rfl) fun t ht x _ => ht.trans (h t x)

/-! ### Accesses through BAR2 (R458, R461) -/

/-- A drop is counted and recorded (R461). -/
theorem State.firstDrop_sameBytes (s : State) (o : Nat) : SameBytes s (s.firstDrop o) := by
  unfold State.firstDrop
  dsimp only
  split
  · exact fun _ => rfl
  · refine SameBytes.trans (sameBytes_of_mem ?_) (State.record_onlyRegs ..).bytes
    rw [State.raise_mem, State.put_mem]

section Window
variable {s : State} {o n : Nat} {l : List Nat}

/-- In STANDBY the window is unmapped (R455). -/
theorem State.bar2At_standby (standby : s.get POWER_B POWER.STATE_STATE < 2) (o : Nat) : (s.bar2At o).1 = 0 := by
  simp [State.bar2At, Nat.not_le.2 standby]

theorem State.windowSource_unowned (foreign : ∀ e ∈ bar2Bytes o l, (s.bar2At e.1).1 ≠ 2) : s.windowSource o l = s := by
  refine if_neg fun ⟨_, _, _, hit⟩ => ?_
  obtain ⟨e, he, hit⟩ := List.any_eq_true.1 hit
  simp [foreign e he] at hit

/-- A window write that meets no byte of the host stores nothing. -/
theorem State.bar2Write_unowned (foreign : ∀ e ∈ bar2Bytes o l, (s.bar2At e.1).1 ≠ 2) : SameBytes s (s.bar2Write o l) := by
  have none_kept : ((bar2Bytes o l).map fun e => (e.1, e.2, s.bar2At e.1)).filter (fun e => decide (e.2.2.1 = 2)) = [] := by
    rw [List.filter_eq_nil_iff]
    rintro _ hx
    obtain ⟨e, he, rfl⟩ := List.mem_map.1 hx
    simpa using foreign e he
  unfold State.bar2Write
  simp only [none_kept, List.map_nil, State.hostWrite, List.isEmpty_nil, if_true]
  refine SameBytes.trans (sameBytes_of_mem ?_) (SameBytes.foldl State.firstDrop_sameBytes _ _)
  split <;> split
  · rw [State.inc_mem]
  · rfl
  · rw [State.inc_mem, State.inc_mem]
  · rw [State.inc_mem]

/-- What a window read has counted before it reads. -/
def State.bar2Counted (s : State) (bs : List (Nat × Nat)) : State :=
  let s := if bs.any fun e => decide (e.1 = 0) then s.inc HOSTWIN_B HOSTWIN.UNMAPPED_COUNT else s
  if bs.any fun e => decide (e.1 = 1) then s.inc HOSTWIN_B HOSTWIN.READ_DENIED_COUNT else s

theorem State.bar2Read_eq (s : State) (o n : Nat) : s.bar2Read o n =
    (s.bar2Counted ((List.range n).map fun i => s.bar2At ((o + i) % 2 ^ 30))).hostRead
      ((List.range n).map fun i => s.bar2At ((o + i) % 2 ^ 30)) := rfl

theorem State.bar2Counted_onlyRegs (s : State) (bs : List (Nat × Nat)) :
    OnlyRegs [HOSTWIN_B + HOSTWIN.UNMAPPED_COUNT.off, HOSTWIN_B + HOSTWIN.READ_DENIED_COUNT.off] s (s.bar2Counted bs) := by
  unfold State.bar2Counted
  dsimp only
  split <;> split
  · exact (OnlyRegs.inc (by simp) s).trans (.inc (by simp) _)
  · exact .inc (by simp) s
  · exact .inc (by simp) s
  · exact .refl _ s

theorem State.bar2Counted_out (s : State) (bs : List (Nat × Nat)) : (s.bar2Counted bs).out = s.out := by
  unfold State.bar2Counted
  dsimp only
  split <;> split
  · rw [State.inc_out, State.inc_out]
  · rw [State.inc_out]
  · rw [State.inc_out]
  · rfl

/-- A window read whose bytes all lie outside the host's slots, with none waiting before it, answers ones. -/
theorem State.hostRead_unowned {bs : List (Nat × Nat)} (foreign : ∀ e ∈ bs, e.1 ≠ 2) (clear : ∀ x ∈ s.msg.offers, x.host = false) :
    s.hostRead bs = s.emit .bar2 (List.replicate bs.length 255) := by
  have none_kept : bs.filter (fun e => decide (e.1 = 2)) = [] := by simpa [List.filter_eq_nil_iff] using foreign
  have free : s.hostHeld [] = false := by simpa [State.hostHeld] using clear
  have ones (f : Nat × Nat → Nat) : (bs.map fun e => if e.1 = 2 then f e else 255) = List.replicate bs.length 255 := by
    rw [List.eq_replicate_iff, List.length_map]
    refine ⟨rfl, fun x hx => ?_⟩
    obtain ⟨e, he, rfl⟩ := List.mem_map.1 hx
    exact if_neg (foreign e he)
  unfold State.hostRead
  simp only [none_kept, List.map_nil, free, Bool.false_eq_true, if_false, ones]
  rfl

theorem State.bar2Read_unowned (foreign : ∀ i < n, (s.bar2At ((o + i) % 2 ^ 30)).1 ≠ 2) (clear : ∀ x ∈ s.msg.offers, x.host = false) :
    ∃ u, s.bar2Read o n = u.emit .bar2 (List.replicate n 255) ∧ u.out = s.out ∧ SameBytes s u ∧ SameParts s u := by
  have same := s.bar2Counted_onlyRegs ((List.range n).map fun i => s.bar2At ((o + i) % 2 ^ 30))
  refine ⟨_, ?_, State.bar2Counted_out .., same.bytes, same.parts⟩
  rw [State.bar2Read_eq, State.hostRead_unowned, List.length_map, List.length_range]
  · simpa using foreign
  · rwa [same.parts.2.2.2.2.1]

end Window

/-! ### Segments (R459) -/

theorem State.rd_pending (s : State) (q : List Instr) (a : Nat) : ({ s with pending := q } : State).rd a = s.rd a := rfl

section Segment
variable {s : State} {k : Nat}

theorem segBaseWrite_completes {path lo hi : Nat} (h0 : s.power.off = false) (hs : s.hears path = true) (hk : k < 16) {t : State}
    (h : s.segWrite path k lo hi = t) : Completes (.segBaseWrite path k lo hi) s t :=
  completes_of_heard h0 hs rfl ((if_pos hk).trans h)

theorem any_owned_iff : ((List.range 1024).any fun i => s.owned (1024 * k + i)) = true ↔ ∃ j < 1024, s.owned (1024 * k + j) = true := by
  simp

theorem not_any_owned (host : ∀ j < 1024, s.owned (1024 * k + j) = false) :
    ¬ ((List.range 1024).any fun i => s.owned (1024 * k + i)) = true := by simpa using host

theorem State.segWrite_owned (owned : ∃ j < 1024, s.owned (1024 * k + j) = true) (path lo hi : Nat) :
    s.segWrite path k lo hi = s.recErr HOSTWIN_B 16 0x8D01 path k := if_pos (any_owned_iff.2 owned)

theorem State.segWrite_absent (host : ∀ j < 1024, s.owned (1024 * k + j) = false) {lo hi : Nat} (enabled : lo % 2 = 1)
    (absent : s.presentRange (segAddr lo hi) (2 ^ 26) = false) (path : Nat) :
    s.segWrite path k lo hi = s.recErr HOSTWIN_B 17 0x8D02 path k :=
  (if_neg (not_any_owned host)).trans (if_pos (by rw [enabled, absent]; rfl))

theorem State.segWrite_stores (host : ∀ j < 1024, s.owned (1024 * k + j) = false) {lo hi : Nat}
    (ok : lo % 2 = 0 ∨ s.presentRange (segAddr lo hi) (2 ^ 26) = true) (path : Nat) :
    s.segWrite path k lo hi = (s.wr (HOSTWIN_B + 0x80 + 8 * k) (BitVec.ofNat 32 (lo / 2 ^ 26 * 2 ^ 26 + lo % 2))).wr
      (HOSTWIN_B + 0x84 + 8 * k) (BitVec.ofNat 32 (hi % 256)) := by
  refine (if_neg (not_any_owned host)).trans (if_neg ?_)
  rcases ok with even | present
  · simp [even]
  · rw [present]
    simp

end Segment

/-! ### Handoff (R460, R462) -/

section Handoff
variable {s : State} {path : Nat} {v : Word}

/-- A handoff that no access of the host waits before. -/
theorem handoff_completes (h0 : s.power.off = false) (hs : s.hears path = true) (clear : path ≠ 0 ∨ ∀ x ∈ s.msg.offers, x.host = false)
    {t : State} (h : s.handoff path v = t) : Completes (.handoff path v) s t := by
  refine completes_of_heard h0 hs rfl ((if_neg ?_).trans h)
  rintro ⟨pcie, waits⟩
  obtain ⟨x, hx, host⟩ := List.any_eq_true.1 waits
  exact clear.elim (· pcie) fun none => by simp [none x hx] at host

theorem State.handoff_beyond (beyond : 16383 < fget v HOSTWIN.HANDOFF_SLOT + fget v HOSTWIN.HANDOFF_COUNT) :
    s.handoff path v = s.pwr path (HOSTWIN_B + 0x48) 2 := if_pos beyond

theorem State.handoff_passes (inside : fget v HOSTWIN.HANDOFF_SLOT + fget v HOSTWIN.HANDOFF_COUNT ≤ 16383)
    (own : ∀ j ≤ fget v HOSTWIN.HANDOFF_COUNT, s.owned (fget v HOSTWIN.HANDOFF_SLOT + j) = decide (fget v HOSTWIN.HANDOFF_FROM = 1)) :
    s.handoff path v = (s.pwr path (HOSTWIN_B + 0x48) 0).passSlots (fget v HOSTWIN.HANDOFF_SLOT) (fget v HOSTWIN.HANDOFF_COUNT)
      (fget v HOSTWIN.HANDOFF_FROM) (decide (fget v HOSTWIN.HANDOFF_NOTIFY = 1)) := by
  have found : ((List.range (fget v HOSTWIN.HANDOFF_COUNT + 1)).find? fun i =>
      decide (s.owned (fget v HOSTWIN.HANDOFF_SLOT + i) ≠ decide (fget v HOSTWIN.HANDOFF_FROM = 1))) = none := by
    rw [List.find?_eq_none]
    intro j hj
    simp [own j (Nat.lt_succ_iff.1 (List.mem_range.1 hj))]
  refine (if_neg inside.not_gt).trans ?_
  rw [found]

theorem State.handoff_stops {i : Nat} (inside : fget v HOSTWIN.HANDOFF_SLOT + fget v HOSTWIN.HANDOFF_COUNT ≤ 16383)
    (hi : i ≤ fget v HOSTWIN.HANDOFF_COUNT)
    (own : ∀ j < i, s.owned (fget v HOSTWIN.HANDOFF_SLOT + j) = decide (fget v HOSTWIN.HANDOFF_FROM = 1))
    (other : s.owned (fget v HOSTWIN.HANDOFF_SLOT + i) ≠ decide (fget v HOSTWIN.HANDOFF_FROM = 1)) :
    s.handoff path v = s.pwr path (HOSTWIN_B + 0x48) (BitVec.ofNat 32 (1 + (fget v HOSTWIN.HANDOFF_SLOT + i) * 2 ^ 16)) := by
  have found : ((List.range (fget v HOSTWIN.HANDOFF_COUNT + 1)).find? fun i =>
      decide (s.owned (fget v HOSTWIN.HANDOFF_SLOT + i) ≠ decide (fget v HOSTWIN.HANDOFF_FROM = 1))) = some i := by
    rw [List.find?_range_eq_some]
    exact ⟨by simpa using other, List.mem_range.2 (Nat.lt_succ_of_le hi), fun j hj => by simpa using own j hj⟩
  refine (if_neg inside.not_gt).trans ?_
  rw [found]

end Handoff

/-- Settles O51: an access by what its bytes meet, a base by its slots and its memory, a handoff by its first foreign slot. -/
theorem hostWindowAccessesObeyOwnership : Obligations.HostWindowAccessesObeyOwnership := by
  intro s path o n k lo hi i bytes v h0 hs
  have heard {c : Instr} {b t : State} (d0 : s.host.d3 = false) (he : exec c s = s.live (if s.host.d3 then s else b)) (h : b = t) :
      Completes c s t := completes_of_live h0 he ((if_neg (by simp [d0])).trans h)
  refine ⟨fun standby => s.bar2At_standby standby o, fun d0 => heard d0 rfl rfl, ?write, fun d3 => ?d3hot, fun d0 => heard d0 rfl rfl,
    ?read, ?segment, fun hk owned => segBaseWrite_completes h0 hs hk (State.segWrite_owned owned ..),
    fun hk host enabled absent => segBaseWrite_completes h0 hs hk (State.segWrite_absent host enabled absent _), ?waits,
    fun clear inside own => handoff_completes h0 hs clear (State.handoff_passes inside own),
    fun clear inside hi own other => handoff_completes h0 hs clear (State.handoff_stops inside hi own other),
    fun clear beyond => handoff_completes h0 hs clear (State.handoff_beyond beyond)⟩
  case write =>
    intro d0 foreign
    have done := heard (c := .bar2Write o bytes) d0 rfl rfl
    rw [State.windowSource_unowned foreign] at done
    exact ⟨_, done, State.bar2Write_unowned foreign⟩
  case d3hot => exact ⟨completes_of_live h0 rfl (if_pos d3), completes_of_live h0 rfl (if_pos d3)⟩
  case read =>
    intro d0 foreign clear
    obtain ⟨u, reads, out, same, parts⟩ := State.bar2Read_unowned foreign clear
    exact ⟨_, heard (c := .bar2Read o n) d0 rfl reads, congrArg (· ++ _) out, same, parts⟩
  case segment =>
    intro hk host ok
    have done := segBaseWrite_completes h0 hs hk (State.segWrite_stores host ok path)
    have same := OnlyRegs.wr_pair s (HOSTWIN_B + 0x80 + 8 * k) (HOSTWIN_B + 0x84 + 8 * k)
      (BitVec.ofNat 32 (lo / 2 ^ 26 * 2 ^ 26 + lo % 2)) (BitVec.ofNat 32 (hi % 256))
    refine ⟨_, done, ?_, ?_, (same.pending _).regs, (same.pending _).bytes, (same.pending _).parts⟩
    · rw [State.rd_pending, State.rd_wr_ne _ _ (by omega), State.rd_wr_same]
    · rw [State.rd_pending, State.rd_wr_same]
  case waits =>
    rintro d0 ⟨x, hx, host⟩
    refine completes_of_heard h0 (by simp [State.hears, d0]) rfl (if_pos ⟨rfl, List.any_eq_true.2 ⟨x, hx, host⟩⟩)

end Sys2Proof.Machine

/-!
PROOFS. The PCIe function (13_host_mgmt.md): the notify FIFO, the mailbox, BAR4, D3hot, resets and the link.
-/

namespace Sys2Proof.Machine

section Function
variable {s : State}

/-! ### The notify FIFO (R462) -/

theorem State.notifyRead_oldest {f c : Nat} {l : List (Nat × Nat)} (h : s.host.notify = (f, c) :: l) : s.notifyRead =
    (f + c * 2 ^ 14 + (if s.host.notifyLost then 2 ^ 30 else 0) + 2 ^ 31, { s with host.notify := l, host.notifyLost := false }) := by
  simp only [State.notifyRead, h]

/-! ### BAR4 (R454, R457) -/

theorem atBar4_word {v : Nat} (h : v < 4096) : atBar4 0 (2 ^ 26 + 4 * v) = true :=
  decide_eq_true ⟨rfl, by omega, by omega, by omega⟩

theorem bar4Write_completes {v : Nat} (h0 : s.power.off = false) (hs : s.hears 0 = true) (hv : v < 4096) (w : Word) :
    Completes (.registerWrite 0 (2 ^ 26 + 4 * v) w) s (s.bar4Write (4 * v) w) := by
  refine completes_of_heard h0 hs rfl ((if_neg (by omega)).trans ((if_pos (atBar4_word hv)).trans ?_))
  rw [Nat.add_sub_cancel_left]

theorem bar4Read_completes {v : Nat} (h0 : s.power.off = false) (hs : s.hears 0 = true) (hv : v < 4096) :
    Completes (.pairLowRead 0 (2 ^ 26 + 4 * v)) s (s.emit .read [s.bar4Read (4 * v)]) := by
  refine completes_of_heard h0 hs rfl ((if_neg (by omega)).trans ((if_pos (atBar4_word hv)).trans ?_))
  rw [Nat.add_sub_cancel_left]

theorem msixUnmask_sets {v : Nat} (h0 : s.power.off = false) (hs : s.hears 0 = true) (hv : v < 64) : Completes (.msixUnmask (64 + v)) s
    ({ s with host.unmasked := zset s.host.unmasked v false }.msixFlush v) := by
  refine completes_of_heard h0 hs rfl ((if_neg (by omega)).trans ((if_pos (by omega)).trans ?_))
  rw [Nat.add_sub_cancel_left]
  rfl

/-! ### D3hot (R454, R487) -/

theorem hears_pcie (d0 : s.host.d3 = false) : s.hears 0 = true := by simp [State.hears, d0]

theorem not_hears_pcie (d3 : s.host.d3 = true) : ¬ s.hears 0 = true := by simp [State.hears, d3]

/-- In D3hot a command that comes over PCIe has no effect. -/
theorem deaf_completes (h0 : s.power.off = false) (d3 : s.host.d3 = true) {l : List Instr} (h : ∀ c ∈ l, ∃ b, exec c s = s.heard 0 b) :
    ∀ c ∈ l, Completes c s s := by
  intro c hc
  obtain ⟨b, hb⟩ := h c hc
  exact completes_of_live h0 hb (if_neg (not_hears_pcie d3))

/-! ### The link (R455, R465, R466) -/

theorem State.linkTo_changed {rate width : Nat} (flit : Nat) (changed : (s.get HOSTWIN_B HOSTWIN.LINK_RATE, s.get HOSTWIN_B HOSTWIN.LINK_WIDTH) ≠
    (rate % 8, width % 32)) : s.linkTo rate width flit = (s.linkSet rate width flit).raise HOSTWIN_B 5 := if_neg changed

/-- A link that comes up, where none was. -/
theorem linkChange_trains {rate width flit : Nat} (h0 : s.power.off = false) (down : s.get HOSTWIN_B HOSTWIN.LINK_RATE = 0) (hr : 0 < rate)
    (h8 : rate < 8) (high : s.pinLevel 148 = true) :
    Completes (.linkChange rate width flit) s ((s.linkSet rate width flit).raise HOSTWIN_B 5) := by
  refine completes_of_live h0 rfl ((if_neg (by simp [high])).trans ?_)
  rw [if_neg hr.ne', if_pos down, State.linkTo_changed]
  rw [down, Nat.mod_eq_of_lt h8]
  exact fun e => hr.ne (Prod.mk.inj e).1

/-- A link that was up retrains to another rate or width. -/
theorem linkChange_retrains {rate width flit : Nat} (h0 : s.power.off = false) (up : s.get HOSTWIN_B HOSTWIN.LINK_RATE ≠ 0) (hr : 0 < rate)
    (high : s.pinLevel 148 = true)
    (changed : (rate % 8, width % 32) ≠ (s.get HOSTWIN_B HOSTWIN.LINK_RATE, s.get HOSTWIN_B HOSTWIN.LINK_WIDTH)) :
    Completes (.linkChange rate width flit) s
      (((s.inc HOSTWIN_B HOSTWIN.LINK_RETRAINS).linkSet rate width flit).raise HOSTWIN_B 5) := by
  refine completes_of_live h0 rfl ((if_neg (by simp [high])).trans ?_)
  rw [if_neg hr.ne', if_neg up, State.linkTo_changed]
  have keeps (f : Fld) (beside : f.hi < HOSTWIN.LINK_RETRAINS.lo ∨ HOSTWIN.LINK_RETRAINS.hi < f.lo) :
      (s.inc HOSTWIN_B HOSTWIN.LINK_RETRAINS).get HOSTWIN_B f = s.get HOSTWIN_B f :=
    State.get_put_beside _ _ _ _ _ _ (by decide) (by decide) beside
  rw [keeps _ (by decide), keeps _ (by decide)]
  exact changed.symm

end Function

/-- Settles O52: each command by what it finds: the mailbox free or busy, the function in D0 or D3hot, the link up or down. -/
theorem hostFunctionEventsAct : Obligations.HostFunctionEventsAct := by
  intro s path v rate width flit f c l h0 hs
  refine ⟨?notify, fun free => ⟨_, rfl, completes_of_heard h0 hs rfl (if_neg (by simp [free]))⟩,
    fun busy => completes_of_heard h0 hs rfl (if_pos busy), fun busy serves => completes_of_live h0 rfl (if_pos ⟨busy, serves⟩),
    fun d0 hv => ⟨completes_of_heard h0 (hears_pcie d0) rfl (if_pos hv), msixUnmask_sets h0 (hears_pcie d0) hv⟩,
    fun d0 hv w => ⟨bar4Write_completes h0 (hears_pcie d0) hv w, bar4Read_completes h0 (hears_pcie d0) hv⟩, ?d3hot,
    completes_of_live h0 rfl (if_pos rfl), completes_of_live h0 rfl (if_neg (by decide)), completes_of_live h0 rfl rfl,
    completes_of_live h0 rfl rfl, completes_of_live h0 rfl rfl,
    fun low hr => completes_of_live h0 rfl (if_pos ⟨hr.ne', low⟩), fun down hr h8 _ high => linkChange_trains h0 down hr h8 high,
    fun up hr high changed => linkChange_retrains h0 up hr high changed, fun on => completes_of_live h0 rfl (if_pos on)⟩
  case notify =>
    intro oldest
    have done : Completes .notifyFifoRead s (State.answer s.notifyRead) := completes_of_live h0 rfl rfl
    rw [State.notifyRead_oldest oldest] at done
    exact ⟨_, done, rfl, rfl, rfl, ⟨fun _ _ => rfl, fun _ _ => rfl⟩, fun _ => rfl⟩
  case d3hot =>
    intro d3 a n k w
    refine deaf_completes h0 d3 ?_
    repeat refine List.forall_mem_cons.2 ⟨⟨_, rfl⟩, ?_⟩
    exact List.forall_mem_nil _

end Sys2Proof.Machine

/-!
PROOFS. The management ports (13_host_mgmt.md): requests, the frames that carry none, and the ports' links.
-/

namespace Sys2Proof.Machine

section Port
variable {s : State} {n who : Nat} (h0 : s.power.off = false) (up : s.mgmtUp n = true)

/-! ### Requests (R467, R470) -/

/-- A request that has arrived is counted. -/
def State.requestIn (s : State) (n : Nat) : State := (s.inc (MGMT_B n) MGMT.RX_FRAMES).inc (MGMT_B n) MGMT.REQUESTS

theorem State.requestIn_host (s : State) (n : Nat) : (s.requestIn n).host = s.host := by
  rw [State.requestIn, State.inc_host, State.inc_host]

theorem State.requestIn_mgmtWaits (s : State) (n : Nat) : (s.requestIn n).mgmtWaits = s.mgmtWaits := by
  unfold State.requestIn State.mgmtWaits
  rw [State.inc_reeve, State.inc_reeve, State.inc_upd, State.inc_upd]

/-- The arrival of a frame leaves the protocol's enable. -/
theorem State.protoEn_inc (s : State) (n : Nat) : (s.inc (MGMT_B n) MGMT.RX_FRAMES).bit (MGMT_B n) MGMT.CTRL_PROTO_EN =
    s.bit (MGMT_B n) MGMT.CTRL_PROTO_EN :=
  (OnlyRegs.inc (List.mem_singleton.2 rfl) s).regs.bit_eq (by simp)

section Request
variable (en : s.bit (MGMT_B n) MGMT.CTRL_PROTO_EN = true) {c : Instr} {r : MReq} (he : exec c s = s.live (s.mgmtIn n who r))
include h0 up en he

theorem request_completes {t : State} (h : (if (s.requestIn n).mgmtWaits then
      if (zget (s.requestIn n).host.waiting n).length < 64 then
        { s.requestIn n with host.waiting := zset (s.requestIn n).host.waiting n (zget (s.requestIn n).host.waiting n ++ [(who, r)]) }
      else (s.requestIn n).inc (MGMT_B n) MGMT.HELD_DROP
    else ((s.requestIn n).mgmtAnswer n who r).msgSettle) = t) : Completes c s t :=
  completes_of_live h0 he (State.mgmtFrame_up up ((if_pos ((s.protoEn_inc n).trans en)).trans h))

theorem request_served (serves : s.mgmtWaits = false) : Completes c s ((s.requestIn n).mgmtAnswer n who r).msgSettle :=
  request_completes h0 up en he (if_neg (by simp [State.requestIn_mgmtWaits, serves]))

theorem request_waits (waits : s.mgmtWaits = true) (room : (zget s.host.waiting n).length < 64) : Completes c s
    { s.requestIn n with host.waiting := zset (s.requestIn n).host.waiting n (zget (s.requestIn n).host.waiting n ++ [(who, r)]) } :=
  request_completes h0 up en he ((if_pos ((s.requestIn_mgmtWaits n).trans waits)).trans (if_pos (by rwa [State.requestIn_host])))

theorem request_dropped (waits : s.mgmtWaits = true) (full : 64 ≤ (zget s.host.waiting n).length) :
    Completes c s ((s.requestIn n).inc (MGMT_B n) MGMT.HELD_DROP) :=
  request_completes h0 up en he ((if_pos ((s.requestIn_mgmtWaits n).trans waits)).trans
    (if_neg (by rw [State.requestIn_host]; exact full.not_gt)))

end Request

/-- The commands that are requests at port n, each with the request that it carries. -/
def requestCommands (n who seq a count o : Nat) (vs bytes : List Nat) : List (Instr × MReq) :=
  [(.hello n who seq, ⟨1, 0, moHELLO, seq, []⟩), (.regRead n who seq a count, ⟨1, 0, moREG_READ, seq, word4 a ++ word4 count⟩),
    (.regWrite n who seq a count vs, ⟨1, 0, moREG_WRITE, seq, word4 a ++ word4 count ++ vs.flatMap word4⟩),
    (.mgmtResetModule n who seq, ⟨1, 0, moRESET, seq, word4 1⟩), (.mgmtResetWarm n who seq, ⟨1, 0, moRESET, seq, word4 2⟩),
    (.updateData n who seq o bytes, ⟨1, 0, moUPDATE_DATA, seq, (leBytes 8 o).map BitVec.toNat ++ bytes⟩)]

theorem exec_of_mem_requestCommands {seq a count o : Nat} {vs bytes : List Nat} {x : Instr × MReq}
    (hx : x ∈ requestCommands n who seq a count o vs bytes) (s : State) : exec x.1 s = s.live (s.mgmtIn n who x.2) := by
  simp only [requestCommands, List.mem_cons, List.not_mem_nil, or_false] at hx
  rcases hx with rfl | rfl | rfl | rfl | rfl | rfl <;> rfl

/-! ### Frames that carry no request (R468, R472) -/

include h0 up

theorem mgmtBadRequest_noMessage (en : s.bit (MGMT_B n) MGMT.CTRL_PROTO_EN = true) {bytes : List Nat} (none : mgParse bytes = none)
    (datagram : bytes.headD 0 < 256) : Completes (.mgmtBadRequest n who bytes) s
      (((s.requestIn n).inc (MGMT_B n) MGMT.REQ_ERR).raise (MGMT_B n) 2) := by
  refine completes_of_live h0 rfl ((if_neg datagram.not_ge).trans ?_)
  rw [none]
  exact State.mgmtFrame_up up (if_pos ((s.protoEn_inc n).trans en))

theorem mgmtBadRequest_badFcs (bytes : List Nat) : Completes (.mgmtBadRequest n who (256 :: bytes)) s (s.inc (MGMT_B n) MGMT.RX_ERR) := by
  refine completes_of_live h0 rfl ?_
  simp only [List.headD_cons, le_refl, if_true, Nat.sub_self, State.mgmtOther, up]

theorem mgmtBadRequest_dropped (bytes : List Nat) : Completes (.mgmtBadRequest n who (257 :: bytes)) s
    ((s.inc (MGMT_B n) MGMT.RX_FRAMES).inc (MGMT_B n) MGMT.RX_DROP) := by
  have kind : (257 :: bytes).headD 0 - 256 = 1 := by rw [List.headD_cons]
  refine completes_of_live h0 rfl ((if_pos (Nat.le_succ 256)).trans ?_)
  rw [kind]
  exact (if_neg one_ne_zero).trans (State.mgmtFrame_up up (if_pos rfl))

end Port

/-! ### Links (R474) -/

section Link
variable {s : State} {n : Nat} (h0 : s.power.off = false) (hn : n < 2)
include h0 hn

theorem mgmtLinkChange_up (on : s.on (MGMT_B n) = true) (down : s.bit (MGMT_B n) MGMT.STAT_LINK_UP = false) :
    Completes (.mgmtLinkChange n 1) s ((s.put (MGMT_B n) MGMT.STAT_LINK_UP 1).raise (MGMT_B n) 0) := by
  refine completes_of_live h0 rfl ((if_pos hn).trans ?_)
  simp [on, down]

theorem mgmtLinkChange_down (up : s.bit (MGMT_B n) MGMT.STAT_LINK_UP = true) :
    Completes (.mgmtLinkChange n 0) s ((s.put (MGMT_B n) MGMT.STAT_LINK_UP 0).raise (MGMT_B n) 1) := by
  refine completes_of_live h0 rfl ((if_pos hn).trans ?_)
  simp [up]

end Link

/-- Settles O53: a request by whether the Reeve serves, a frame by what it carries, a link by its present state. -/
theorem managementRequestsAreServedOrHeld : Obligations.ManagementRequestsAreServedOrHeld := by
  intro s u n who seq a count o target mac src ident vs bytes data h0
  refine ⟨?request, fun up => ⟨mgmtBadRequest_badFcs h0 up bytes, mgmtBadRequest_dropped h0 up bytes⟩, ?answered,
    fun hn on down => mgmtLinkChange_up h0 hn on down, fun hn up => mgmtLinkChange_down h0 hn up⟩
  case request =>
    rintro up en rfl
    refine ⟨fun x hx => ?_, fun none datagram => mgmtBadRequest_noMessage h0 up en none datagram⟩
    have he := exec_of_mem_requestCommands hx s
    exact ⟨request_served h0 up en he, request_waits h0 up en he, request_dropped h0 up en he⟩
  case answered =>
    rintro up rfl own
    exact ⟨completes_of_live h0 rfl (State.mgmtFrame_up up (if_pos own)), completes_of_live h0 rfl (State.mgmtFrame_up up (if_pos own))⟩

end Sys2Proof.Machine

/-!
PROOFS. Belfry (14_belfry.md): claims, completions, and the sources' configuration and samples.
-/

namespace Sys2Proof.Machine

section Belfry
variable {s : State} {k : Nat}

/-! ### A source's state (R495) -/

/-- The address of SRC_CFG_i. -/
def srcCfg (i : Nat) : Nat := srcBase i + 0x40 + 4 * (i % 512)

theorem srcCfg_field (i : Nat) {f : Fld} (h : f.off = 0x40) : srcBase i + (srcF i f).off = srcCfg i := by
  rw [srcF, h, srcCfg, Nat.add_assoc]

theorem State.setSrc_onlyRegs (s : State) (i : Nat) {f : Fld} (h : f.off = 0x40) (v : Nat) : OnlyRegs [srcCfg i] s (s.setSrc i f v) :=
  .put (List.mem_singleton.2 (srcCfg_field i h)) s v

section Fields
variable (s) (i : Nat) {f g : Fld} (v : Nat) (h1 : f.lo ≤ f.hi) (h2 : f.hi < 32)
include h1 h2

theorem State.src_setSrc_same : (s.setSrc i f v).src i f = v % 2 ^ (f.hi + 1 - f.lo) :=
  State.get_put_same s (srcBase i) (srcF i f) v h1 h2

theorem State.src_setSrc_beside (h : g.hi < f.lo ∨ f.hi < g.lo) : (s.setSrc i f v).src i g = s.src i g :=
  State.get_put_beside s (srcBase i) (srcBase i) (srcF i f) (srcF i g) v h1 h2 h

end Fields

/-! ### Claims (R482) -/

/-- Source w as target k claims it. -/
def State.takeSrc (s : State) (w k : Nat) : State :=
  (((s.setSrc w BELFRY_SRC.SRC_CFG_PEND 0).setSrc w BELFRY_SRC.SRC_CFG_CLAIMED 1).setSrc w BELFRY_SRC.SRC_CFG_CLAIMANT k).setSrc w
    BELFRY_SRC.SRC_CFG_CLAIM_PRIO (s.src w BELFRY_SRC.SRC_CFG_PRIO)

theorem State.claimRead_none (h : s.winner k = 0) : s.claimRead k = (0, s) := if_pos h

theorem State.claimRead_winner (h : 0 < s.winner k) : s.claimRead k = (s.winner k, s.takeSrc (s.winner k) k) := if_neg h.ne'

theorem State.takeSrc_onlyRegs (s : State) (w k : Nat) : OnlyRegs [srcCfg w] s (s.takeSrc w k) :=
  (((s.setSrc_onlyRegs w rfl 0).trans (State.setSrc_onlyRegs _ w rfl 1)).trans (State.setSrc_onlyRegs _ w rfl k)).trans
    (State.setSrc_onlyRegs _ w rfl _)

theorem State.takeSrc_pend (s : State) (w k : Nat) : (s.takeSrc w k).pend w = false := by
  rw [State.pend, State.takeSrc, State.src_setSrc_beside _ _ _ (by decide) (by decide) (by decide),
    State.src_setSrc_beside _ _ _ (by decide) (by decide) (by decide), State.src_setSrc_beside _ _ _ (by decide) (by decide) (by decide),
    State.src_setSrc_same _ _ _ (by decide) (by decide)]
  rfl

theorem State.takeSrc_claimed (s : State) (w k : Nat) : (s.takeSrc w k).claimed w = true := by
  rw [State.claimed, State.takeSrc, State.src_setSrc_beside _ _ _ (by decide) (by decide) (by decide),
    State.src_setSrc_beside _ _ _ (by decide) (by decide) (by decide), State.src_setSrc_same _ _ _ (by decide) (by decide)]
  rfl

theorem State.takeSrc_claimant (s : State) (w : Nat) (hk : k < 5) : (s.takeSrc w k).claimant w = k := by
  rw [State.claimant, State.takeSrc, State.src_setSrc_beside _ _ _ (by decide) (by decide) (by decide),
    State.src_setSrc_same _ _ _ (by decide) (by decide)]
  exact Nat.mod_eq_of_lt (Nat.lt_trans hk (by decide))

theorem State.takeSrc_claimPrio (s : State) (w k : Nat) :
    (s.takeSrc w k).src w BELFRY_SRC.SRC_CFG_CLAIM_PRIO = s.src w BELFRY_SRC.SRC_CFG_PRIO := by
  rw [State.takeSrc, State.src_setSrc_same _ _ _ (by decide) (by decide)]
  exact Nat.mod_eq_of_lt (fget_lt _ (srcF w BELFRY_SRC.SRC_CFG_PRIO))

/-- A state with the registers of another differs from a third where that one does. -/
theorem SameRegsBut.congr {l : List Nat} {t u : State} (h : SameRegsBut l s u) (hr : t.regs = u.regs) (hp : t.pregs = u.pregs) :
    SameRegsBut l s t :=
  ⟨fun a ha => (State.rd_congr hr a).trans (h.1 a ha), fun p a => by rw [State.prd, hp]; exact h.2 p a⟩

theorem State.src_congr {t u : State} (h : t.regs = u.regs) (i : Nat) (f : Fld) : t.src i f = u.src i f := by
  simp only [State.src, State.get, State.rd_congr h]

/-- Core k runs. -/
def State.coreRuns (s : State) (k : Nat) : State := { s with reeve.sleep := zset s.reeve.sleep k 0 }

/-- What a claim leaves of a state, and what its answer says of it. -/
structure SameButSleep (t u : State) : Prop where
  out : t.out = u.out
  regs : t.regs = u.regs
  pregs : t.pregs = u.pregs
  mem : t.mem = u.mem
  host : t.host = u.host
  tile : t.tile = u.tile
  job : t.job = u.job
  msg : t.msg = u.msg
  opt : t.opt = u.opt
  mill : t.mill = u.mill

theorem SameButSleep.trans {t u v : State} (h : SameButSleep t u) (k : SameButSleep u v) : SameButSleep t v :=
  ⟨h.out.trans k.out, h.regs.trans k.regs, h.pregs.trans k.pregs, h.mem.trans k.mem, h.host.trans k.host, h.tile.trans k.tile,
    h.job.trans k.job, h.msg.trans k.msg, h.opt.trans k.opt, h.mill.trans k.mill⟩

theorem State.coreRuns_same (s : State) (k : Nat) : SameButSleep (s.coreRuns k) s := ⟨rfl, rfl, rfl, rfl, rfl, rfl, rfl, rfl, rfl, rfl⟩

theorem State.takeSrc_out (s : State) (w k : Nat) : (s.takeSrc w k).out = s.out := by
  rw [State.takeSrc, State.setSrc, State.put_out, State.setSrc, State.put_out, State.setSrc, State.put_out, State.setSrc, State.put_out]

/-- A claim with a winner takes it; the core of a target below 4 runs. -/
theorem State.claimOwn_winner (h : 0 < s.winner k) :
    ∃ t, s.claimOwn k = (s.winner k, t) ∧ SameButSleep t (s.takeSrc (s.winner k) k) := by
  rw [State.claimOwn, State.claimRead_winner h]
  by_cases h4 : 4 ≤ k
  · exact ⟨_, if_pos h4, rfl, rfl, rfl, rfl, rfl, rfl, rfl, rfl, rfl, rfl⟩
  · exact ⟨_, (if_neg h4).trans (if_neg h.ne'), State.coreRuns_same ..⟩

theorem State.claimOwn_none (hk : k < 4) (h : s.winner k = 0) : s.claimOwn k = (0, s.coreIdle k) := by
  rw [State.claimOwn, State.claimRead_none h]
  exact (if_neg hk.not_ge).trans (if_pos rfl)

/-- Belfry delivers nothing while GCTRL.DISABLE is 1 (R485). -/
theorem State.winner_disabled (h : s.bit BELFRY_B BELFRY.GCTRL_DISABLE = true) (k : Nat) : s.winner k = 0 := by
  simp [State.winner, State.eligible, State.delivers, h]

/-- A claim of a target that hears its own path. -/
theorem claim_completes (h0 : s.power.off = false) (hk : k < 5) (d0 : k = 4 → s.host.d3 = false) {w : Nat} {t : State}
    (h : s.claimOwn k = (w, t)) : Completes (.claim k) s (t.emit .read [w]) := by
  have hears : s.hears (if k = 4 then 0 else 3 + k) = true := by
    split
    · next h4 => simp [State.hears, d0 h4]
    · simp [State.hears]
  refine completes_of_heard h0 hears rfl ((if_pos hk).trans ?_)
  rw [h]

/-! ### Sleep (R486) -/

/-- The sleeping cores that wake, core by core. -/
theorem zget_woken {p : Nat → Bool} (l : List Nat) (nodup : l.Nodup) (m : SMap Nat) (k : Nat) :
    zget (l.foldl (fun m j => if zget m j = 1 && p j then zset m j 2 else m) m) k =
      if k ∈ l ∧ zget m k = 1 ∧ p k = true then 2 else zget m k := by
  induction l generalizing m with
  | nil => simp
  | cons j l ih =>
    obtain ⟨fresh, nodup⟩ := List.nodup_cons.1 nodup
    rw [List.foldl_cons, ih nodup]
    by_cases e : k = j
    · subst e
      by_cases w : zget m k = 1 ∧ p k = true <;> simp [fresh, w]
    · have same : zget (if zget m j = 1 && p j then zset m j 2 else m) k = zget m k := by
        split
        · exact zget_zset_ne m 2 e
        · rfl
      rw [same]
      simp [e]

theorem State.wakeCores_sleep (hk : k < 4) (asleep : zget s.reeve.sleep k = 1) :
    zget s.wakeCores.reeve.sleep k = if s.wake k then 2 else 1 := by
  have some_sleeps : s.reeve.sleep.isEmpty = false := by
    cases h : s.reeve.sleep with
    | nil => simp [h, zget, mget] at asleep
    | cons _ _ => rfl
  rw [State.wakeCores, some_sleeps]
  refine (zget_woken (p := s.wake) (List.range 4) List.nodup_range _ k).trans ?_
  simp [hk, asleep]

/-- Core k may sleep, and the wake condition wakes it at once where it holds. -/
def State.coreSleeps (s : State) (k : Nat) : State := { s with reeve.sleep := zset s.reeve.sleep k 1 }.wakeCores

/-- A core that the wake condition had woken goes back to sleep, as does one that sleeps; another where a free value says so. -/
theorem State.coreIdle_eq (s : State) (k : Nat) : s.coreIdle k =
    if zget s.reeve.sleep k = 0 then
      if Config.free s.free % 2 = 1 then { s with free := s.free + 1 }.coreSleeps k else { s with free := s.free + 1 }
    else s.coreSleeps k := by
  unfold State.coreIdle
  by_cases awake : zget s.reeve.sleep k = 0
  · rw [if_pos awake, if_pos awake]
    by_cases odd : Config.free s.free % 2 = 1
    · exact (if_pos (decide_eq_true odd)).trans (if_pos odd).symm
    · exact (if_neg (by simpa [State.freeVal] using odd)).trans (if_neg odd).symm
  · rw [if_neg awake, if_neg awake]
    rfl

theorem State.coreSleeps_sleep (hk : k < 4) :
    zget (s.coreSleeps k).reeve.sleep k = if { s with reeve.sleep := zset s.reeve.sleep k 1 }.wake k then 2 else 1 :=
  State.wakeCores_sleep hk (zget_zset_same s.reeve.sleep k 1)

theorem State.coreSleeps_same (s : State) (k : Nat) : SameButSleep (s.coreSleeps k) s := by
  unfold State.coreSleeps State.wakeCores
  split <;> exact ⟨rfl, rfl, rfl, rfl, rfl, rfl, rfl, rfl, rfl, rfl⟩

theorem State.coreIdle_same (s : State) (k : Nat) : SameButSleep (s.coreIdle k) s := by
  have free : SameButSleep { s with free := s.free + 1 } s := ⟨rfl, rfl, rfl, rfl, rfl, rfl, rfl, rfl, rfl, rfl⟩
  rw [State.coreIdle_eq]
  split
  · split
    · exact (State.coreSleeps_same ..).trans free
    · exact free
  · exact s.coreSleeps_same k

/-! ### Completions (R483) -/

theorem State.complete_claimed {n : Nat} (hk : k < 4) (hn : 0 < n) (claimed : s.claimed n = true) (mine : s.claimant n = k) (path : Nat) :
    s.complete path k n = (s.endClaim n).line4 s :=
  (if_pos (by simp [claimed, mine, hn.ne'])).trans (if_neg (Nat.ne_of_lt hk))

theorem State.complete_other {n : Nat} (hn : n < 1024) (other : s.claimed n = false ∨ s.claimant n ≠ k) (path : Nat) :
    s.complete path k n = s.recErr BELFRY_B 16 0x8E01 path (k % 8 + n * 2 ^ 16) := by
  refine (if_neg ?_).trans (by rw [Nat.mod_eq_of_lt hn])
  rcases other with free | foreign
  · simp [free]
  · simp [foreign]

theorem complete_completes {path n : Nat} (h0 : s.power.off = false) (hs : s.hears path = true) (hk : k < 5) (hn : n < 1024) {t : State}
    (h : s.complete path k n = t) : Completes (.complete path k n) s t :=
  completes_of_heard h0 hs rfl ((if_pos hk).trans (by rw [Nat.mod_eq_of_lt hn, h]))

/-! ### Software sources (R494) -/

/-- The software sources whose bits a written word names are sampled. -/
def State.sampleSw (s : State) (v : Word) : State :=
  (List.range 16).foldl (fun s b => if v.getLsbD b then s.sampleNow (128 + b) 0 else s) s

theorem State.sampleSw_low (s : State) (v : Word) : s.sampleSw (v &&& 0xFFFF) = s.sampleSw v := by
  refine List.foldl_ext _ _ _ fun t b hb => ?_
  have low : (v &&& 0xFFFF).getLsbD b = v.getLsbD b := by
    have hb := List.mem_range.1 hb
    interval_cases b <;> simp
  rw [low]

theorem State.swLatch_eq (s : State) (v : Word) (set : Bool) : s.swLatch v set =
    (s.wr (BELFRY_B + 0x48) (if set then s.rd (BELFRY_B + 0x48) ||| v &&& 0xFFFF
      else s.rd (BELFRY_B + 0x48) &&& ~~~(v &&& 0xFFFF))).sampleSw v := State.sampleSw_low ..

end Belfry

/-- Settles O54: a claim by whether there is a winner, a completion by the source's claimant, the others by their source. -/
theorem belfryClaimsAndCompletes : Obligations.BelfryClaimsAndCompletes := by
  intro s path k i w n v h0 hs
  refine ⟨fun hk none => claim_completes h0 (by omega) (by omega) (State.claimOwn_none hk none), ?host,
    fun hk off => claim_completes h0 (by omega) (by omega) (State.claimOwn_none hk (State.winner_disabled off k)), ?woken,
    fun _ => ⟨SameRegsBut.congr ⟨fun _ _ => rfl, fun _ _ => rfl⟩ (s.coreIdle_same k).regs (s.coreIdle_same k).pregs,
      sameBytes_of_mem (s.coreIdle_same k).mem⟩, ?winner,
    fun hk h1 hn claimed mine => complete_completes h0 hs (by omega) hn (State.complete_claimed hk h1 claimed mine path),
    fun hk hn other => complete_completes h0 hs hk hn (State.complete_other hn other path), completes_of_live h0 rfl rfl,
    completes_of_live h0 rfl (congrArg (State.line4 · s) (s.swLatch_eq v true)),
    completes_of_live h0 rfl (congrArg (State.line4 · s) (s.swLatch_eq v false)), fun hi => completes_of_live h0 rfl (if_pos hi), ?edge,
    fun hw => completes_of_live h0 rfl (if_pos hw)⟩
  case host =>
    intro none d0
    refine claim_completes h0 (by decide) (fun _ => d0) ?_
    rw [State.claimOwn, State.claimRead_none none]
    rfl
  case woken =>
    intro hk woken
    rw [State.coreIdle_eq, if_neg (by rw [woken]; decide)]
    exact State.coreSleeps_sleep hk
  case winner =>
    intro hk d0 wins _
    obtain ⟨t, claims, same⟩ := State.claimOwn_winner wins
    have took := s.takeSrc_onlyRegs (s.winner k) k
    obtain ⟨tile, _, job, _, msg, mill, opt, _, host, _⟩ := took.parts
    have cfg (f : Fld) := State.src_congr same.regs (s.winner k) f
    refine ⟨_, claim_completes h0 hk d0 claims, ?_, ?_, ?_, ?_, ?_, ?_, ?_, same.host.trans host, same.tile.trans tile,
      same.job.trans job, same.msg.trans msg, same.opt.trans opt, same.mill.trans mill⟩
    · exact congrArg (· ++ _) (same.out.trans (s.takeSrc_out _ _))
    · exact (congrArg (fun x => decide (x = 1)) (cfg _)).trans (s.takeSrc_pend _ k)
    · exact (congrArg (fun x => decide (x = 1)) (cfg _)).trans (s.takeSrc_claimed _ k)
    · exact (cfg _).trans (s.takeSrc_claimant _ hk)
    · exact (cfg _).trans (s.takeSrc_claimPrio _ k)
    · exact took.regs.congr same.regs same.pregs
    · exact (took.bytes).trans (sameBytes_of_mem same.mem)
  case edge =>
    intro hi noPin
    refine completes_of_live h0 rfl ?_
    rw [if_neg noPin]
    refine if_pos ?_
    cases s.srcInput i <;> simp [hi]

end Sys2Proof.Machine

/-!
PROOFS. Power (15_power_reset.md): the input, the cap, the temperatures and the pins that show them.
-/

namespace Sys2Proof.Machine

section Power
variable {s : State}

theorem State.bit_pending (s : State) (q : List Instr) (a : Nat) (f : Fld) : ({ s with pending := q } : State).bit a f = s.bit a f := rfl

/-- A register write elsewhere leaves whether the page operates. -/
theorem OnlyRegs.on_eq {l : List Nat} {s t : State} (h : OnlyRegs l s t) {b : Nat} (hb : b + 0x0C ∉ l) : t.on b = s.on b := h.regs.on_eq hb

/-! ### Temperatures (R503, R504) -/

/-- The warning begins with its event. -/
def State.warned (s : State) : State := (s.put POWER_B POWER.THERM_WARN 1).raise POWER_B 2

theorem State.warned_onlyRegs (s : State) : OnlyRegs [POWER_B + 0x14, POWER_B + POWER.THERM_WARN.off] s s.warned :=
  (OnlyRegs.put (by decide) s 1).trans ((State.raise_onlyRegs ..).mono (by decide))

theorem State.warned_bit (s : State) : s.warned.bit POWER_B POWER.THERM_WARN = true := by
  rw [State.warned, (State.raise_onlyRegs ..).regs.bit_eq (by decide), State.bit_put_same _ _ _ _ rfl (by decide)]
  rfl

theorem State.warned_event (on : s.on POWER_B = true) : s.warned.bit POWER_B (bitF 0x14 2) = true :=
  State.raise_bit (((s.put_onlyRegs POWER_B POWER.THERM_WARN 1).on_eq (by decide)).trans on) (by decide)

/-! ### The cap (R501, R525) -/

theorem SameRegsBut.after_same {l : List Nat} {t u : State} (h : SameRegsBut [] s u) (k : SameRegsBut l u t) : SameRegsBut l s t :=
  ⟨fun a ha => (k.1 a ha).trans (h.1 a List.not_mem_nil), fun p a => (k.2 p a).trans (h.2 p a)⟩

/-- The averages that a report of the cap gives. -/
def State.averages (s : State) (x y : Nat) : State := { s with free := s.free + 2, power.avg10 := x, power.avg1 := y }

theorem State.averages_frame (s : State) (x y : Nat) : SameRegsBut [] s (s.averages x y) ∧ SameBytes s (s.averages x y)
    ∧ (s.averages x y).tile = s.tile ∧ (s.averages x y).job = s.job := ⟨⟨fun _ _ => rfl, fun _ _ => rfl⟩, fun _ => rfl, rfl, rfl⟩

/-- The cap engages with its event. -/
def State.capEngages (s : State) : State :=
  ((s.put POWER_B POWER.CAP_STAT_ENGAGED 1).inc POWER_B POWER.CAP_STAT_COUNT).raise POWER_B 3

theorem State.capCounts_onlyRegs (s : State) :
    OnlyRegs [POWER_B + POWER.CAP_STAT_ENGAGED.off] s ((s.put POWER_B POWER.CAP_STAT_ENGAGED 1).inc POWER_B POWER.CAP_STAT_COUNT) :=
  (OnlyRegs.put (by decide) s 1).trans (.inc (by decide) _)

theorem State.capEngages_onlyRegs (s : State) : OnlyRegs [POWER_B + 0x14, POWER_B + POWER.CAP_STAT_ENGAGED.off] s s.capEngages :=
  (s.capCounts_onlyRegs.mono (by decide)).trans ((State.raise_onlyRegs ..).mono (by decide))

theorem State.capEngages_bit (s : State) : s.capEngages.bit POWER_B POWER.CAP_STAT_ENGAGED = true := by
  rw [State.capEngages, (State.raise_onlyRegs ..).regs.bit_eq (by decide)]
  exact decide_eq_true ((State.get_put_beside _ _ _ _ _ _ (by decide) (by decide) (by decide)).trans
    (State.get_put_same s POWER_B POWER.CAP_STAT_ENGAGED 1 (by decide) (by decide)))

theorem State.capEngages_event (on : s.on POWER_B = true) : s.capEngages.bit POWER_B (bitF 0x14 3) = true :=
  State.raise_bit ((s.capCounts_onlyRegs.on_eq (by decide)).trans on) (by decide)

theorem State.capCheck_exceeds (free : s.bit POWER_B POWER.CAP_STAT_ENGAGED = false)
    (exceeds : s.capW < s.power.avg10 ∨ s.capW + 400 < s.power.avg1) : s.capCheck = s.capEngages :=
  (if_pos exceeds).trans (if_neg (by simp [free]))

theorem State.capCheck_below (low10 : s.power.avg10 < s.capW) (low1 : s.power.avg1 < s.capW + 400) : s.capCheck =
    if s.bit POWER_B POWER.CAP_STAT_ENGAGED = true then s.put POWER_B POWER.CAP_STAT_ENGAGED 0 else s := by
  refine (if_neg (by omega)).trans (if_congr ?_ rfl rfl)
  exact and_iff_left ⟨low10, low1⟩

theorem State.capCheck_below_bit (low10 : s.power.avg10 < s.capW) (low1 : s.power.avg1 < s.capW + 400) :
    s.capCheck.bit POWER_B POWER.CAP_STAT_ENGAGED = false := by
  rw [State.capCheck_below low10 low1]
  split
  · rw [State.bit_put_same _ _ _ _ rfl (by decide)]
    rfl
  · next off => exact Bool.eq_false_iff.2 off

theorem State.capCheck_below_onlyRegs (low10 : s.power.avg10 < s.capW) (low1 : s.power.avg1 < s.capW + 400) :
    OnlyRegs [POWER_B + POWER.CAP_STAT_ENGAGED.off] s s.capCheck := by
  rw [State.capCheck_below low10 low1]
  split
  · exact s.put_onlyRegs ..
  · exact .refl _ s

theorem State.capW_pos (s : State) : 0 < s.capW := Nat.lt_of_lt_of_le (by decide) (Nat.le_max_left 1000 _)

theorem State.capW_averages (s : State) (x y : Nat) : (s.averages x y).capW = s.capW := rfl

/-- A report that the averages exceed the cap. -/
theorem cap_answers (h0 : s.power.off = false) : ∃ x y, exec .cap s = .next { (s.averages x y).capCheck with pending := s.pending }
    ∧ (s.capW < x ∨ s.capW + 400 < y) := by
  refine ⟨Config.free s.free, if s.capW < Config.free s.free then Config.free (s.free + 1) else s.capW + 401 + Config.free (s.free + 1),
    exec_of_live h0 rfl, ?_⟩
  split
  · next high => exact .inl high
  · exact .inr (by omega)

/-- A report that both averages are below their limits. -/
theorem capDisengaged_answers (h0 : s.power.off = false) :
    ∃ x y, exec .capDisengaged s = .next { (s.averages x y).capCheck with pending := s.pending } ∧ x < s.capW ∧ y < s.capW + 400 :=
  ⟨_, _, exec_of_live h0 rfl, Nat.mod_lt _ s.capW_pos, Nat.mod_lt _ (Nat.add_pos_left s.capW_pos _)⟩

/-! ### The resets of a brownout and of a trip (R500, R504) -/

theorem State.causedReset_brownout (s : State) : s.causedReset 2 = { s with power.railsOk := false }.moduleReset 2 := by
  simp only [State.causedReset, State.causeHolds, show Nat.testBit 2 2 = false from rfl, show Nat.testBit 2 1 = true from rfl,
    show Nat.testBit 2 4 = false from rfl, if_true, Bool.false_eq_true, if_false]

theorem State.causedReset_trip (s : State) : s.causedReset 0x10 =
    ((s.put POWER_B POWER.STATE_THERM_HOLD 1).put POWER_B POWER.THERM_TRIPPED 1).moduleReset 0x10 := by
  simp only [State.causedReset, State.causeHolds, show Nat.testBit 0x10 2 = false from rfl, show Nat.testBit 0x10 1 = false from rfl,
    show Nat.testBit 0x10 4 = true from rfl, if_true, Bool.false_eq_true, if_false]

/-! ### The pins (R503, R515, R519) -/

theorem State.openDrain_driven (driven : s.pinsDriven = true) (low : Bool) : s.openDrain low = if low then 0 else 1 :=
  if_neg (by simp [driven])

theorem State.openDrain_released (off : s.pinsDriven = false) (low : Bool) : s.openDrain low = 2 := if_pos (by simp [off])

theorem State.openDrain_eq_zero (driven : s.pinsDriven = true) (low : Bool) : s.openDrain low = 0 ↔ low = true := by
  rw [State.openDrain_driven driven]
  cases low <;> simp

end Power

/-- Settles O55: a report by the condition that it sets, a resume by the hold, a pin by whether it is driven. -/
theorem powerEventsSetTheirConditions : Obligations.PowerEventsSetTheirConditions := by
  intro s path volts w v h0 hs
  refine ⟨?clear, ?warn, ?cap, ?uncap, ?pins, fun off => ⟨State.openDrain_released off _, State.openDrain_released off _⟩,
    completes_of_live h0 rfl rfl, completes_of_live h0 rfl rfl, completes_of_live h0 rfl rfl, completes_of_live h0 rfl rfl,
    completes_of_live h0 rfl rfl, completes_of_live h0 rfl (by rw [State.causedReset_brownout]), completes_of_live h0 rfl rfl,
    completes_of_live h0 rfl s.causedReset_trip,
    fun held => ⟨completes_of_heard h0 hs rfl (if_pos (by simp [held])), completes_of_heard h0 hs rfl (if_neg (by simp))⟩,
    fun free => completes_of_heard h0 hs rfl (if_neg (by simp [free])), completes_of_live h0 rfl rfl,
    fun flat => completes_of_live h0 rfl (if_neg (by simp [flat]))⟩
  case clear =>
    have only := (s.put_onlyRegs POWER_B POWER.THERM_WARN 0).pending s.pending
    refine ⟨_, State.live_on h0, ?_, only.regs, only.bytes, only.parts⟩
    rw [State.bit_pending, State.bit_put_same _ _ _ _ rfl (by decide)]
    rfl
  case warn =>
    intro cool
    have only := s.warned_onlyRegs.pending s.pending
    have done : Completes .thermWarn s s.warned := completes_of_live h0 rfl (if_neg (by simp [cool]))
    exact ⟨_, done, (State.bit_pending ..).trans s.warned_bit, fun on => (State.bit_pending ..).trans (State.warned_event on), only.regs,
      only.bytes, only.parts⟩
  case cap =>
    intro free
    obtain ⟨x, y, answers, exceeds⟩ := cap_answers h0
    obtain ⟨regs, bytes, tile, job⟩ := s.averages_frame x y
    rw [State.capCheck_exceeds (s := s.averages x y) free exceeds] at answers
    have only := (s.averages x y).capEngages_onlyRegs.pending s.pending
    obtain ⟨tile', -, job', -, -, -, -, -, -, -, power, -⟩ := only.parts
    refine ⟨_, answers, (State.bit_pending ..).trans (State.capEngages_bit _), fun on => (State.bit_pending ..).trans
      (State.capEngages_event on), ?_, regs.after_same only.regs, bytes.trans only.bytes, tile'.trans tile, job'.trans job⟩
    rw [power]
    exact exceeds
  case uncap =>
    obtain ⟨x, y, answers, low10, low1⟩ := capDisengaged_answers h0
    obtain ⟨regs, bytes, tile, job⟩ := s.averages_frame x y
    have only := (State.capCheck_below_onlyRegs (s := s.averages x y) low10 low1).pending s.pending
    obtain ⟨tile', -, job', -, -, -, -, -, -, -, power, -⟩ := only.parts
    refine ⟨_, answers, (State.bit_pending ..).trans (State.capCheck_below_bit (s := s.averages x y) low10 low1), ?_, ?_,
      regs.after_same only.regs, bytes.trans only.bytes, tile'.trans tile, job'.trans job⟩
    · rw [power]
      exact low10
    · rw [power]
      exact low1
  case pins =>
    refine fun driven => ⟨fun hot => (State.openDrain_eq_zero driven _).2 (by simpa using hot), fun ⟨cool, calm⟩ => ?_,
      (State.openDrain_eq_zero driven _).trans decide_eq_true_iff⟩
    rw [State.thermN, State.openDrain_driven driven, cool, calm]
    rfl

end Sys2Proof.Machine

/-!
PROOFS. Calibration and ageing (16_calibration.md): when calibrations start, and how the commands about one end it.
-/

namespace Sys2Proof.Machine

section Calibration
variable {s : State} {path l : Nat}

/-! ### Full calibration (R537) -/

theorem State.calFull_begins (ready : 2 ≤ s.pstate) (noPowerUp : s.get CAL_B CAL.STAT_STATE ≠ 1) (noFull : s.get CAL_B CAL.STAT_STATE ≠ 3)
    (dark : ∀ p < 36, s.on (PORT_B p) = false) : s.calFull path = s.calBegin 3 :=
  if_pos ⟨ready, noPowerUp, noFull, by simpa using dark⟩

theorem State.calFull_refused {p : Nat} (hp : p < 36) (on : s.on (PORT_B p) = true) : s.calFull path = s.recErrX CAL_B 16 0x9101 path := by
  refine if_neg fun ⟨_, _, _, dark⟩ => ?_
  have := List.all_eq_true.1 dark p (List.mem_range.2 hp)
  simp [on] at this

/-! ### Lane calibration (R538-R542) -/

section Path
variable {e : PathEnt} (h0 : s.power.off = false)
include h0

theorem laneCalStart_leads (he : s.plan.path false path = some e) (may : s.calMay e l = true) (oldest : s.calOldest (txRing e.port l) = true) :
    Completes (.laneCalStart path l) s (s.calLead e l).msgSettle := by
  refine completes_of_live h0 rfl ?_
  rw [he]
  exact if_pos ⟨may, oldest⟩

theorem calStart_takes (he : s.plan.path true path = some e) (hl : l < 9) (has : e.has l = true) (serves : serving (s.rxSt e.port l) = true)
    (free : s.inCal (rxRing e.port l) = false) (epoch seq : Nat) :
    Completes (.calStart path l epoch seq) s ((s.countPath path).calDropEnd e l seq).msgSettle := by
  refine completes_of_live h0 rfl ?_
  rw [he]
  exact if_pos ⟨hl, has, serves, free⟩

theorem laneCalSkipped_counts (he : s.plan.path false path = some e) (lane : s.calLane e l = true) (free : s.inCal (txRing e.port l) = false)
    (late : 2 * s.calPeriod ≤ s.upNs - s.calUp (txRing e.port l)) :
    Completes (.laneCalSkipped path l) s (s.inc CAL_B CAL.SKIPPED_COUNT) := by
  refine completes_of_live h0 rfl ?_
  rw [he]
  exact if_pos ⟨lane, free, late⟩

end Path

section Lane
variable {c : LaneCal} (h0 : s.power.off = false)
include h0

theorem laneCalSweepDone_ends {f : RingFound} (found : (s.cal.lanes.find? fun c => decide (c.ring = f.ring) && !c.swept) = some c) :
    Completes (.laneCalSweepDone f) s (s.calSwept c f).msgSettle := by
  refine completes_of_live h0 rfl ?_
  rw [found]

theorem calAbort_leader {epoch seq : Nat}
    (found : (s.cal.lanes.find? fun c => decide (c.path = path ∧ c.lane = l ∧ c.seq = seq)) = some c) (lead : c.lead = true) :
    Completes (.calAbort path l epoch seq) s ((s.countReturn path).calAborted c).msgSettle := by
  refine completes_of_live h0 rfl ?_
  rw [found]
  exact congrArg (fun t => (State.calAborted t c).msgSettle) (if_pos lead)

theorem laneCalTimeout_abandons {ring : Nat} (found : (s.cal.lanes.find? fun c => decide (c.ring = ring)) = some c) :
    Completes (.laneCalTimeout ring) s (s.calAbandon c).msgSettle := by
  refine completes_of_live h0 rfl ?_
  rw [found]

end Lane
end Calibration

/-- Settles O58: a start by its conditions, the commands about a running calibration by the one that they name. -/
theorem calibrationsRunAndEnd : Obligations.CalibrationsRunAndEnd := by
  intro s u path l epoch seq ring e c f ms h0 hs
  refine ⟨fun ready noPowerUp noFull dark => completes_of_heard h0 hs rfl (State.calFull_begins ready noPowerUp noFull dark),
    fun p hp on => completes_of_heard h0 hs rfl (State.calFull_refused hp on), laneCalStart_leads h0,
    fun he hl has serves free => calStart_takes h0 he hl has serves free epoch seq, laneCalSweepDone_ends h0,
    completes_of_live h0 rfl rfl, calAbort_leader h0, laneCalTimeout_abandons h0, laneCalSkipped_counts h0, completes_of_live h0 rfl rfl,
    fun due => completes_of_live h0 rfl (if_pos due), ?rates, completes_of_live h0 rfl rfl⟩
  case rates =>
    rintro rfl
    exact completes_of_live h0 rfl rfl

end Sys2Proof.Machine

/-!
PROOFS. Firmware update (18_update.md): the commands of UPDATE.CTRL, activation and handover, the tables, the staging area.
-/

namespace Sys2Proof.Machine

section Update
variable {s : State}

/-! ### Commands (R570) -/

/-- The commands of UPDATE.CTRL write their bit with the key. -/
theorem exec_of_mem_updCommands {path key : Nat} {x : Instr × Nat} (hx : x ∈ [(Instr.download path key, 1), (.verify path key, 2),
    (.activate path key, 4), (.confirm path key, 8), (.abort path key, 16)]) (s : State) :
    x.2 < 32 ∧ exec x.1 s = s.heard path (s.updCtrl path (key % 2 ^ 16 * 2 ^ 16 + x.2)) := by
  simp only [List.mem_cons, List.not_mem_nil, or_false] at hx
  rcases hx with rfl | rfl | rfl | rfl | rfl <;> exact ⟨by simp only; omega, rfl⟩

section Ctrl
variable {bits : Nat} (hb : bits < 32) (path key : Nat)
include hb

theorem updWord_bits : (key % 2 ^ 16 * 2 ^ 16 + bits) % 32 = bits := by omega

theorem updWord_key : (key % 2 ^ 16 * 2 ^ 16 + bits) / 2 ^ 16 % 2 ^ 16 = key % 2 ^ 16 := by omega

theorem State.updCtrl_word : s.updCtrl path (key % 2 ^ 16 * 2 ^ 16 + bits) =
    if key % 2 ^ 16 = 0x5550 ∧ s.updOn = true ∧ s.updAccepts bits = true then s.updCmd bits
    else s.recErr UPDATE_B 16 0x9301 path (bits + s.updSt * 2 ^ 8) := by
  simp only [State.updCtrl, updWord_bits hb, updWord_key hb]

end Ctrl

/-! ### Activation and handover (R573, R574) -/

theorem flashWritten_completes (h0 : s.power.off = false) (activating : s.updSt = upACTIVATING) {n fail : Nat} {t : State}
    (h : (if (s.flashWritten n fail).updSt = upHANDOVER then (s.flashWritten n fail).handoverBegin else s.flashWritten n fail) = t) :
    Completes (.flashWritten n fail) s t.msgSettle := by
  have outside : s.updSt ≠ upHANDOVER := by rw [activating]; decide
  refine completes_of_live h0 rfl (congrArg State.msgSettle ?_)
  rw [← h]
  exact if_congr (and_iff_right outside) rfl rfl

theorem handoverTimeout_completes (h0 : s.power.off = false) (handover : s.updSt = upHANDOVER) {wdt : Nat} {t : State}
    (h : (if wdt = 1 then s.wdtFirst else s.warmReset 14) = t) : Completes (.handoverTimeout wdt) s (t.setResult 0x12 0) :=
  completes_of_live h0 rfl ((if_pos handover).trans (congrArg (State.setResult · 0x12 0) h))

/-! ### Tables (R575) -/

/-- Words of the descriptor table take an image's values. -/
def State.takeWords (s : State) (k : PkgInfo) (i : Nat) (l : List Nat) : State :=
  l.foldl (fun t o => t.wr (DESC_B + 64 * i + o) (k.word (64 * i + o) (t.rd (DESC_B + 64 * i + o)))) s

theorem State.takeWords_upd (s : State) (k : PkgInfo) (i : Nat) (l : List Nat) : (s.takeWords k i l).upd = s.upd :=
  List.foldlRecOn l _ (motive := fun t : State => t.upd = s.upd) rfl fun _ h _ _ => h

/-- The slots whose tables are due. -/
def State.setDue (s : State) (l : List Nat) : State := { s with upd.due := l }

/-- A slot that has taken its tables is due no longer. -/
def State.slotDone (s : State) (i : Nat) : State := (s.setDue (s.upd.due.filter (· ≠ i))).slotRefresh i

theorem State.tableApply_due {i : Nat} (due : s.upd.due.contains i = true) {r u : State} (hr : r = s.modLines i Slot.onHold)
    (hu : u = (r.takeWords s.upd.run i (r.tableDiff s.upd.run i)).slotDone i) : s.tableApply i =
      if u.upd.due.isEmpty then u.put UPDATE_B (UPDATE.PART_RUN_VERSION.at 1 4) (s.upd.run.vers.getD 1 0) else u := by
  subst hu hr
  exact if_pos due

/-- Slot i takes its tables while others are due. -/
theorem State.tableApply_more {i : Nat} (due : s.upd.due.contains i = true) {r u : State} (hr : r = s.modLines i Slot.onHold)
    (hu : u = ((r.takeWords s.upd.run i (r.tableDiff s.upd.run i)).setDue (r.upd.due.filter (· ≠ i))).slotRefresh i)
    (more : u.upd.due ≠ []) : s.tableApply i = u := by
  have done : u = (r.takeWords s.upd.run i (r.tableDiff s.upd.run i)).slotDone i := by
    rw [hu, State.slotDone, State.takeWords_upd]
  exact (State.tableApply_due due hr done).trans (if_neg (by simpa using more))

/-! ### Staging (R571, R586) -/

theorem State.stageWrite_taken {path lo hi : Nat} (idle : s.updSt = upIDLE ∨ s.updSt = upREJECTED)
    (aligned : (lo % 2 ^ 32 + hi % 256 * 2 ^ 32) % 65536 = 0) (hbm : isHbm (lo % 2 ^ 32 + hi % 256 * 2 ^ 32) = true)
    (present : s.presentRange (lo % 2 ^ 32 + hi % 256 * 2 ^ 32) (2 ^ 24) = true) :
    s.stageWrite path lo hi = (s.put UPDATE_B UPDATE.STAGE_LO lo).put UPDATE_B UPDATE.STAGE_HI hi :=
  if_pos ⟨idle, aligned, hbm, present⟩

theorem State.stageWrite_refused {path lo hi : Nat} (bad : s.updSt ≠ upIDLE ∧ s.updSt ≠ upREJECTED
      ∨ (lo % 2 ^ 32 + hi % 256 * 2 ^ 32) % 65536 ≠ 0 ∨ isHbm (lo % 2 ^ 32 + hi % 256 * 2 ^ 32) = false
      ∨ s.presentRange (lo % 2 ^ 32 + hi % 256 * 2 ^ 32) (2 ^ 24) = false) :
    s.stageWrite path lo hi = s.recErrX UPDATE_B 17 0x9302 path := by
  refine if_neg fun ⟨idle, aligned, hbm, present⟩ => ?_
  rcases bad with ⟨busy, busy'⟩ | odd | other | absent
  · exact idle.elim busy busy'
  · exact odd aligned
  · rw [hbm] at other
    cases other
  · rw [present] at absent
    cases absent

end Update

/-- Settles O59: a command by its key and state, the steps of an update by the state that they find. -/
theorem updateCommandsNeedKeyAndState : Obligations.UpdateCommandsNeedKeyAndState := by
  intro s path key ms i lo hi n fail a tables h0 hs
  refine ⟨?ctrl, fun _ => completes_of_live h0 rfl rfl,
    fun activating handover => flashWritten_completes h0 activating (if_pos handover),
    fun activating other => flashWritten_completes h0 activating (if_neg other),
    fun handover => ⟨completes_of_live h0 rfl (if_pos handover), handoverTimeout_completes h0 handover (if_pos rfl),
      handoverTimeout_completes h0 handover (if_neg (by decide))⟩, ?table, ?stage⟩
  case ctrl =>
    intro x hx
    obtain ⟨hb, he⟩ := exec_of_mem_updCommands hx s
    rw [State.updCtrl_word hb] at he
    refine ⟨fun key on accepts => completes_of_heard h0 hs he (if_pos ⟨key, on, accepts⟩),
      fun bad => completes_of_heard h0 hs he (if_neg fun ⟨key, on, accepts⟩ => ?_)⟩
    rw [on, accepts] at bad
    exact bad.elim (· key) (by simp)
  case table =>
    intro up due
    exact ⟨_, _, rfl, rfl, fun more => completes_of_live h0 rfl ((if_neg (by simp [up])).trans
      (congrArg State.msgSettle (State.tableApply_more due rfl rfl more)))⟩
  case stage =>
    rintro rfl
    exact ⟨fun idle aligned hbm present => completes_of_heard h0 hs rfl (State.stageWrite_taken idle aligned hbm present),
      fun bad => completes_of_heard h0 hs rfl (State.stageWrite_refused bad)⟩

end Sys2Proof.Machine

/-!
PROOFS. The bucket chain (18_update.md): frames that are taken, wait or are dropped, and what each kind does; the FRU device.
-/

namespace Sys2Proof.Machine

/-! ### What the update machine sees (R582, R583) -/

/-- The UPDATE page and the update machine's state read in t as in s. -/
structure SameUpdate (s t : State) : Prop where
  get : ∀ f : Fld, f.off < 0x1000 → t.get UPDATE_B f = s.get UPDATE_B f
  upd : t.upd = s.upd

section SameUpdate
variable {s t : State} (h : SameUpdate s t)
include h

theorem SameUpdate.bit {f : Fld} (hf : f.off < 0x1000) : t.bit UPDATE_B f = s.bit UPDATE_B f := by
  rw [State.bit, State.bit, h.get f hf]

theorem SameUpdate.on : t.on UPDATE_B = s.on UPDATE_B := by
  rw [State.on, State.on, h.bit (by decide), h.bit (by decide)]

theorem SameUpdate.updSt : t.updSt = s.updSt := h.get _ (by decide)

theorem SameUpdate.pkgLen : t.pkgLen = s.pkgLen := h.get _ (by decide)

theorem SameUpdate.chunks : t.chunks = s.chunks := by rw [State.chunks, State.chunks, h.pkgLen]

theorem SameUpdate.chunkLen (c : Nat) : t.chunkLen c = s.chunkLen c := by rw [State.chunkLen, State.chunkLen, h.pkgLen]

theorem SameUpdate.updOn : t.updOn = s.updOn := by rw [State.updOn, State.updOn, h.on, h.upd]

theorem SameUpdate.hasEnded (p xfer : Nat) : t.hasEnded p xfer = s.hasEnded p xfer := by rw [State.hasEnded, State.hasEnded, h.upd]

theorem SameUpdate.takesOffer (len : Nat) : t.takesOffer len = s.takesOffer len := by
  simp only [State.takesOffer, h.updSt, h.upd, h.bit (f := UPDATE.BC_CTRL_ACCEPT) (by decide)]

theorem SameUpdate.relays : t.relays = s.relays := by
  simp only [State.relays, h.on, h.upd, h.updSt]

theorem SameUpdate.offers {p : Nat} (hp : p < 36) : t.offers p = s.offers p := by
  have low : (bitF (0x74 + p / 32 * 4) (p % 32)).off < 0x1000 := by
    show 0x74 + p / 32 * 4 < 0x1000
    omega
  simp only [State.offers, h.relays, h.upd, h.bit low]

end SameUpdate

/-- A counted frame changes nothing that the update machine sees. -/
theorem State.countIn_sameUpdate (s : State) (p : Nat) : SameUpdate s (s.countIn p) where
  get f hf := (s.countIn_onlyRegs p).regs.get_eq (by
    simp only [UPDATE_B, PORT_B, List.mem_cons, List.not_mem_nil, or_false]
    omega)
  upd := by
    obtain ⟨-, -, -, -, -, -, -, -, -, -, -, -, upd⟩ := (s.countIn_onlyRegs p).parts
    exact upd

section Chain
variable {s : State} {p ty xfer : Nat} {args : List Nat}

/-! ### Frames that arrive (R317) -/

theorem State.chainIn_dropped (full : 32 ≤ s.vc3Held p) : s.chainIn p ty xfer args = s.vc3Drop p := if_pos full

theorem State.chainIn_waits (room : s.vc3Held p < 32) (down : s.reeve.down = true) (noRom : s.upd.rom = 0) :
    s.chainIn p ty xfer args = s.offer (.chain p ty xfer args) :=
  (if_neg room.not_ge).trans (if_pos (by simp [down, noRom]))

theorem State.chainIn_waits_stack (room : s.vc3Held p < 32) (held : s.stageHeld = true) :
    s.chainIn p 0x21 xfer args = s.offer (.chain p 0x21 xfer args) :=
  (if_neg room.not_ge).trans (if_pos (by simp [held]))

theorem State.chainIn_runs (serves : s.reeve.down = false ∨ s.upd.rom ≠ 0) (room : s.vc3Held p < 32)
    (free : ty = 0x21 → s.stageHeld = false) : s.chainIn p ty xfer args = (s.countIn p).chainRun p ty xfer args := by
  refine (if_neg room.not_ge).trans (if_neg ?_)
  have runs : (s.reeve.down && decide (s.upd.rom = 0)) = false := by
    rcases serves with up | rom
    · rw [up, Bool.false_and]
    · simp [rom]
  have reads : (decide (ty = 0x21) && s.stageHeld) = false := by
    by_cases h : ty = 0x21
    · rw [free h, Bool.and_false]
    · simp [h]
  simp [runs, reads]

/-- The commands of chain frames hand them to the port. -/
theorem exec_of_mem_chainCommands {serial len version tag first count c code : Nat} {bytes : List Nat} (hp : p < 36)
    {y : Instr × Nat × List Nat} (hy : y ∈ [(Instr.offer p serial xfer len version tag, 0x20, [len, tag]),
      (.req p xfer first count, 0x21, [first, count]), (.data p xfer c bytes, 0x22, c :: bytes), (.bcEnd p xfer code, 0x23, [code])])
    (s : State) : ∃ b, exec y.1 s = s.live b ∧ b = s.chainIn p y.2.1 xfer y.2.2 := by
  simp only [List.mem_cons, List.not_mem_nil, or_false] at hy
  rcases hy with rfl | rfl | rfl | rfl <;> exact ⟨_, rfl, if_pos hp⟩

/-! ### Offers (R582) -/

theorem State.offerIn_taken {len tag : Nat} (on : s.updOn = true) (idle : s.upd.inc = none) (fresh : s.hasEnded p xfer = false)
    (other : ¬ (s.upd.rom = 0 ∧ tag = s.upd.run.tag)) (takes : s.takesOffer len = true) : s.offerIn p xfer len tag =
      (((({ s.updStart 5 len with upd.inc := some ⟨p, xfer, [], []⟩ }.put UPDATE_B UPDATE.BC_STAT_ACTIVE 1).put UPDATE_B
        UPDATE.BC_STAT_PORT p).put UPDATE_B UPDATE.BC_STAT_CHUNKS 0)).ask :=
  (if_neg (by simp [on, idle, fresh])).trans ((if_neg other).trans (if_pos takes))

/-! ### Data (R583) -/

/-- A new chunk of transfer x is stored. -/
def State.takeChunk (s : State) (x : Xfer) (c : Nat) (l : List Nat) : State :=
  { s.stageBytes (512 * c) l with upd.inc := some { x with got := c :: x.got, asked := x.asked.filter (· ≠ c) } }.put UPDATE_B
    UPDATE.BC_STAT_CHUNKS (x.got.length + 1)

theorem State.dataIn_new {x : Xfer} {c : Nat} {l : List Nat} (running : s.upd.inc = some x) (downloading : s.updSt = upDOWNLOADING)
    (hp : x.port = p) (hx : x.xfer = xfer) (hc : c < s.chunks) (whole : l.length = s.chunkLen c) (new : x.got.contains c = false) :
    s.dataIn p xfer c l = if x.got.length + 1 = (s.takeChunk x c l).chunks then (s.takeChunk x c l).setUpd upVERIFYING
      else (s.takeChunk x c l).ask := by
  unfold State.dataIn
  rw [running]
  refine (if_pos ⟨downloading, hp, hx, hc, whole⟩).trans ?_
  have got : (if x.got.contains c then x.got else c :: x.got) = c :: x.got := if_neg (by rw [new]; decide)
  rw [got]
  rfl

/-! ### The end of a transfer (R583) -/

/-- The ports whose relay has ended. -/
def State.setStopped (s : State) (m : SMap Bool) : State := { s with upd.stopped := m }

theorem State.endIn_done {code : Nat} (hp : p < 36) (offers : s.offers p = true) (mine : zget s.upd.xfers p = xfer)
    (ok : code = 0 ∨ code = 0x21) : s.endIn p xfer code =
      ((((s.setStopped (zset s.upd.stopped p true)).put UPDATE_B (bitF (0x7C + p / 32 * 4) (p % 32)) 1).raise UPDATE_B 5).record
        UPDATE_B 0x060A [p, code]) :=
  (if_pos ⟨hp, offers, mine⟩).trans (congrArg (State.record · UPDATE_B 0x060A [p, code]) (if_pos ok))

theorem State.endIn_failed {code : Nat} (hp : p < 36) (offers : s.offers p = true) (mine : zget s.upd.xfers p = xfer)
    (failed : ¬ (code = 0 ∨ code = 0x21)) : s.endIn p xfer code =
      (s.setStopped (zset s.upd.stopped p true)).record UPDATE_B 0x060A [p, code] :=
  (if_pos ⟨hp, offers, mine⟩).trans (congrArg (State.record · UPDATE_B 0x060A [p, code]) (if_neg failed))

/-! ### The receiver's timers (R583) -/

theorem State.askAgain_asked {x : Xfer} {c : Nat} (running : s.upd.inc = some x) (asked : x.asked.contains c = true) :
    s.askAgain c = s.chainSend 0x21 x.port x.xfer [c, 1] := by
  rw [State.askAgain, running]
  exact if_pos asked

theorem State.bcTimeout_abandons {x : Xfer} (running : s.upd.inc = some x) (downloading : s.updSt = upDOWNLOADING) : s.bcTimeout =
    (((s.setResult 0x20 0).record UPDATE_B 0x060B [x.port, s.get UPDATE_B UPDATE.BC_STAT_CHUNKS]).updDiscard).updIdle := by
  rw [State.bcTimeout, running]
  exact if_pos downloading

theorem endRepeat_sends {code : Nat} (h0 : s.power.off = false) (serves : s.reeve.down = false ∨ s.upd.rom ≠ 0)
    (ended : s.upd.ended = some (p, xfer, code)) : Completes .endRepeat s (s.endSend p xfer code) := by
  refine completes_of_live h0 rfl ((if_neg ?_).trans ?_)
  · rcases serves with up | rom
    · simp [up]
    · simp [rom]
  · rw [State.endRepeat, ended]

theorem offerSend_offers {k : PkgInfo} (h0 : s.power.off = false) (up : s.reeve.down = false) (pkg : s.upd.pkg = some k) :
    Completes .offerSend s (((List.range 36).filter s.offers).foldl (fun s p =>
      s.chainSend 0x20 p (zget s.upd.xfers p) [s.pkgLen, k.vers.getD 0 0, k.tag]) s) := by
  refine completes_of_live h0 rfl ((if_neg (by simp [up])).trans ?_)
  rw [State.offerSend, pkg]

end Chain

/-- Settles O60: a frame by whether it is taken, and by the transfer that it belongs to. -/
theorem theBucketChainOffersAndTransfers : Obligations.TheBucketChainOffersAndTransfers := by
  intro s p serial xfer len version tag first count c code o b bytes k x h0
  have same := s.countIn_sameUpdate p
  refine ⟨?frames, offerSend_offers h0, ?taken, endRepeat_sends h0,
    fun running asked => completes_of_live h0 rfl (State.askAgain_asked running asked),
    fun running downloading => completes_of_live h0 rfl (State.bcTimeout_abandons running downloading), completes_of_live h0 rfl rfl⟩
  case frames =>
    intro y hy hp
    obtain ⟨b, he, rfl⟩ := exec_of_mem_chainCommands hp hy s
    exact ⟨fun full => completes_of_live h0 he (State.chainIn_dropped full),
      fun room down noRom => completes_of_live h0 he (State.chainIn_waits room down noRom)⟩
  case taken =>
    intro serves room
    have runs {ty : Nat} {args : List Nat} (free : ty = 0x21 → s.stageHeld = false) :=
      State.chainIn_runs (xfer := xfer) (args := args) serves room free
    refine ⟨?offer, ?req, fun hp held => completes_of_live h0 rfl ((if_pos hp).trans (State.chainIn_waits_stack room held)), ?data,
      ?failed, ?done⟩
    case offer =>
      intro hp on idle fresh other takes
      refine completes_of_live h0 rfl ((if_pos hp).trans ((runs fun h => absurd h (by decide)).trans ?_))
      exact State.offerIn_taken (same.updOn.trans on) (by rw [same.upd, idle]) ((same.hasEnded p xfer).trans fresh)
        (by rwa [same.upd]) ((same.takesOffer len).trans takes)
    case req =>
      intro hp free offers mine
      exact completes_of_live h0 rfl ((if_pos hp).trans ((runs fun _ => free).trans (if_pos ⟨offers, mine⟩)))
    case data =>
      intro hp running downloading port mine hc whole new
      have takes := State.dataIn_new (by rw [same.upd, running]) (same.updSt.trans downloading) port mine (same.chunks.symm ▸ hc)
        (whole.trans (same.chunkLen c).symm) new
      have done {t : State} (h : (s.countIn p).dataIn p xfer c bytes = t) : Completes (.data p xfer c bytes) s t :=
        completes_of_live h0 rfl ((if_pos hp).trans ((runs fun h => absurd h (by decide)).trans h))
      exact ⟨_, rfl, fun last => done (takes.trans (if_pos last)), fun more => done (takes.trans (if_neg more))⟩
    case failed =>
      intro hp offers mine h1 h2
      refine completes_of_live h0 rfl ((if_pos hp).trans ((runs fun h => absurd h (by decide)).trans ?_))
      have ends := State.endIn_failed (code := code) hp ((same.offers hp).trans offers) (by rw [same.upd, mine]) (not_or.2 ⟨h1, h2⟩)
      rw [same.upd] at ends
      exact ends
    case done =>
      intro hp offers mine ok
      refine completes_of_live h0 rfl ((if_pos hp).trans ((runs fun h => absurd h (by decide)).trans ?_))
      have ends := State.endIn_done (code := code) hp ((same.offers hp).trans offers) (by rw [same.upd, mine]) ok
      rw [same.upd] at ends
      exact ends

end Sys2Proof.Machine

/-!
PROOFS. What every command keeps (00_scope.md): the queue of waiting commands, and the canonical form of the registers, of
the registers of the access paths and of the module memory. Keeps s₀ s says that s stands to s₀ so; each operation of the
machine carries it from the state before to the state after, so a function of several operations composes their lemmas.
-/

namespace Sys2Proof.Machine

/-! ### The canonical form of a filtered map -/

/-- Entries that are dropped or change their value, under the key that they have, to one that is no default. -/
theorem mwfFrom_filterMap {α : Type} [DecidableEq α] (d : Nat → α) {f : Nat × α → Option (Nat × α)}
    (hf : ∀ p q, p.2 ≠ d p.1 → f p = some q → q.1 = p.1 ∧ q.2 ≠ d p.1) (m : SMap α) (a : Nat) (hm : mwfFrom d a m = true) :
    mwfFrom d a (m.filterMap f) = true := by
  induction m generalizing a with
  | nil => rfl
  | cons p m ih =>
    obtain ⟨k, v⟩ := p
    simp only [mwfFrom, Bool.and_eq_true, decide_eq_true_eq] at hm
    obtain ⟨⟨low, other⟩, rest⟩ := hm
    cases e : f (k, v) with
    | none => simpa [List.filterMap_cons, e] using mwfFrom_mono d _ (by omega) (ih _ rest)
    | some q =>
      obtain ⟨l, w⟩ := q
      obtain ⟨key, value⟩ := hf _ _ other e
      cases key
      simpa [List.filterMap_cons, e, mwfFrom, low] using ⟨value, ih _ rest⟩

/-! ### The relation and what it composes by -/

/-- s has the queue of s₀, and is in canonical form where s₀ is. -/
structure Keeps (s₀ s : State) : Prop where
  canon : s₀.Canon → s.Canon
  queue : s.pending = s₀.pending

/-- The command's answer is a next state that keeps what s has. -/
def ResKeeps (s : State) (x : Res) : Prop := ∃ t, x = .next t ∧ Keeps s t

variable {s₀ s t : State}

theorem Keeps.refl : Keeps s s := ⟨id, rfl⟩

theorem Keeps.trans (h : Keeps s₀ s) (k : Keeps s t) : Keeps s₀ t := ⟨k.canon ∘ h.canon, k.queue.trans h.queue⟩

/-- Neither the queue nor the canonical form speaks of the other parts of the machine. -/
theorem Keeps.same (h : Keeps s₀ s) {free out shadow held upset poison chanFail mapoutRec tile flights job time log msg mill
    opt xrds host reeve power cal upd} :
    Keeps s₀ { s with free, out, shadow, held, upset, poison, chanFail, mapoutRec, tile, flights, job, time, log, msg, mill,
                      opt, xrds, host, reeve, power, cal, upd } := h.trans ⟨id, rfl⟩

theorem Keeps.ite {c : Prop} {_ : Decidable c} (h : Keeps s₀ s) (k : Keeps s₀ t) : Keeps s₀ (if c then s else t) := by
  split
  · exact h
  · exact k

theorem Keeps.iteSnd {α : Type} {x y : α × State} {c : Prop} {_ : Decidable c} (h : Keeps s₀ x.2) (k : Keeps s₀ y.2) :
    Keeps s₀ (if c then x else y).2 := by
  split
  · exact h
  · exact k

theorem Keeps.snd {α : Type} {x : α × State} {a : α} (e : x = (a, s)) (h : Keeps s₀ x.2) : Keeps s₀ s := by
  cases e
  exact h

theorem Keeps.elim {α : Type} {o : Option α} {f : α → State} (h : Keeps s₀ s) (k : ∀ a, Keeps s₀ (f a)) :
    Keeps s₀ (o.elim s f) := by
  cases o with
  | none => exact h
  | some a => exact k a

theorem Keeps.foldl {α : Type} {f : State → α → State} {l : List α} (h : Keeps s₀ s)
    (k : ∀ s x, Keeps s₀ s → Keeps s₀ (f s x)) : Keeps s₀ (l.foldl f s) := by
  induction l generalizing s with
  | nil => exact h
  | cons x l ih => exact ih (k s x h)

theorem Keeps.foldlSnd {α β : Type} {f : β × State → α → β × State} {b : β} {l : List α} (h : Keeps s₀ s)
    (k : ∀ x y, Keeps s₀ x.2 → Keeps s₀ (f x y).2) : Keeps s₀ (l.foldl f (b, s)).2 := by
  induction l generalizing b s with
  | nil => exact h
  | cons y l ih => exact ih (k (b, s) y h)

theorem Keeps.foldlFst {α β : Type} {f : State × β → α → State × β} {b : β} {l : List α} (h : Keeps s₀ s)
    (k : ∀ x y, Keeps s₀ x.1 → Keeps s₀ (f x y).1) : Keeps s₀ (l.foldl f (s, b)).1 := by
  induction l generalizing b s with
  | nil => exact h
  | cons y l ih => exact ih (k (s, b) y h)

/-- The state that a write with an effect of its own answers, where it is one, keeps what s₀ has. -/
def OptKeeps (s₀ : State) (o : Option State) : Prop := ∀ t, o = some t → Keeps s₀ t

theorem Keeps.getD {o : Option State} (h : OptKeeps s₀ o) (k : Keeps s₀ s) : Keeps s₀ (o.getD s) := by
  cases o with
  | none => exact k
  | some t => exact h t rfl

theorem OptKeeps.none : OptKeeps s₀ none := fun _ e => nomatch e

theorem OptKeeps.some (h : Keeps s₀ s) : OptKeeps s₀ (some s) := fun _ e => Option.some.inj e ▸ h

theorem OptKeeps.ite {o p : Option State} {c : Prop} {_ : Decidable c} (h : OptKeeps s₀ o) (k : OptKeeps s₀ p) :
    OptKeeps s₀ (if c then o else p) := by
  split
  · exact h
  · exact k

theorem ResKeeps.ite {x y : Res} {c : Prop} {_ : Decidable c} (h : ResKeeps s x) (k : ResKeeps s y) :
    ResKeeps s (if c then x else y) := by
  split
  · exact h
  · exact k

theorem ResKeeps.live (h : Keeps s t) : ResKeeps s (s.live t) := by
  refine ⟨_, rfl, .ite .refl ⟨h.canon, rfl⟩⟩

theorem ResKeeps.heard {path : Nat} (h : Keeps s t) : ResKeeps s (s.heard path t) := .live (.ite h .refl)

/-! ### The operations that write a register or a byte -/

theorem Keeps.wr (h : Keeps s₀ s) {a : Nat} {v : Word} : Keeps s₀ (s.wr a v) :=
  h.trans ⟨fun ⟨regs, pregs, mem⟩ => ⟨mwf_mset _ _ _ regs, pregs, mem⟩, rfl⟩

theorem Keeps.pwr (h : Keeps s₀ s) {path a : Nat} {v : Word} : Keeps s₀ (s.pwr path a v) :=
  h.trans ⟨fun ⟨regs, pregs, mem⟩ => by cases s; exact ⟨regs, mwf_mset _ _ _ pregs, mem⟩, State.pwr_pending ..⟩

theorem Keeps.setByte (h : Keeps s₀ s) {a : Nat} {v : Byte} : Keeps s₀ (s.setByte a v) :=
  h.trans ⟨fun ⟨regs, pregs, mem⟩ => ⟨regs, pregs, mwf_mset _ _ _ mem⟩, rfl⟩

theorem Keeps.setBytes {bs : List Byte} : ∀ {s : State}, Keeps s₀ s → ∀ {a : Nat}, Keeps s₀ (s.setBytes a bs) := by
  induction bs with
  | nil => exact fun h _ => h
  | cons b bs ih => exact fun h _ => ih h.setByte

theorem Keeps.filterRegs (h : Keeps s₀ s) {q : Nat × Word → Bool} : Keeps s₀ { s with regs := s.regs.filter q } :=
  h.trans ⟨fun ⟨regs, pregs, mem⟩ => ⟨mwf_filter _ _ regs, pregs, mem⟩, rfl⟩

theorem Keeps.filterPregs (h : Keeps s₀ s) {q : Nat × Word → Bool} : Keeps s₀ { s with pregs := s.pregs.filter q } :=
  h.trans ⟨fun ⟨regs, pregs, mem⟩ => ⟨regs, mwf_filter _ _ pregs, mem⟩, rfl⟩

theorem Keeps.filterMem (h : Keeps s₀ s) {q : Host.Cell → Bool} : Keeps s₀ { s with mem := s.mem.filter q } :=
  h.trans ⟨fun ⟨regs, pregs, mem⟩ => ⟨regs, pregs, mwf_filter _ _ mem⟩, rfl⟩

theorem Keeps.after (h : Keeps s₀ s) {x : Res} (k : ResKeeps s x) : Keeps s₀ (s.after x) := by
  obtain ⟨t, rfl, k⟩ := k
  exact h.trans k

end Sys2Proof.Machine

/-!
PROOFS. What every command keeps, function by function in the order of the model: a lemma follows the branches of its
function's definition and composes, in each, the lemmas of the functions that it calls there.
-/

namespace Sys2Proof.Machine

variable {s₀ s t : State}

/-! ### Fields, events, errors, records and protected memory -/

theorem Keeps.put (h : Keeps s₀ s) {a : Nat} {f : Fld} {v : Nat} : Keeps s₀ (s.put a f v) := h.wr

theorem Keeps.incBy (h : Keeps s₀ s) {a : Nat} {f : Fld} {n : Nat} : Keeps s₀ (s.incBy a f n) := h.put

theorem Keeps.inc (h : Keeps s₀ s) {a : Nat} {f : Fld} : Keeps s₀ (s.inc a f) := h.incBy

theorem Keeps.put64 (h : Keeps s₀ s) {a : Nat} {f : Fld} {v : Nat} : Keeps s₀ (s.put64 a f v) := h.wr.wr

theorem Keeps.add64 (h : Keeps s₀ s) {a : Nat} {f : Fld} {n : Nat} : Keeps s₀ (s.add64 a f n) := h.put64

theorem Keeps.pput (h : Keeps s₀ s) {path a : Nat} {f : Fld} {v : Nat} : Keeps s₀ (s.pput path a f v) := h.pwr

theorem Keeps.pput64 (h : Keeps s₀ s) {path a : Nat} {f : Fld} {v : Nat} : Keeps s₀ (s.pput64 path a f v) := h.pwr.pwr

theorem Keeps.traceEntry (h : Keeps s₀ s) {a kind bit code arg : Nat} : Keeps s₀ (s.traceEntry a kind bit code arg) :=
  h.same

theorem Keeps.raiseAlways (h : Keeps s₀ s) {a i : Nat} : Keeps s₀ (s.raiseAlways a i) := .ite h h.put.traceEntry

theorem Keeps.raise (h : Keeps s₀ s) {a i : Nat} : Keeps s₀ (s.raise a i) := .ite h.raiseAlways h

theorem Keeps.recErr (h : Keeps s₀ s) {a bit code path addr : Nat} : Keeps s₀ (s.recErr a bit code path addr) :=
  .ite h.put.put.put.put.put64.traceEntry h.put.inc.traceEntry

theorem Keeps.recErrX (h : Keeps s₀ s) {a bit code path : Nat} : Keeps s₀ (s.recErrX a bit code path) := h.same.recErr

theorem Keeps.emit (h : Keeps s₀ s) {k : OutKind} {args : List Nat} : Keeps s₀ (s.emit k args) := h.same

theorem Keeps.freeVal (h : Keeps s₀ s) : Keeps s₀ s.freeVal.2 := h.same

theorem Keeps.logDrop (h : Keeps s₀ s) {o : Nat} : Keeps s₀ (s.logDrop o) := h.same

theorem Keeps.logPresent (h : Keeps s₀ s) {seq : Nat} : Keeps s₀ (s.logPresent seq) :=
  .ite h (.ite h.put64 (.ite h h.put64.logDrop))

theorem Keeps.logProgram (h : Keeps s₀ s) : Keeps s₀ s.logProgram := .ite h.put.same h

theorem Keeps.enterRec (h : Keeps s₀ s) {source code flags : Nat} {w : List Nat} :
    Keeps s₀ (s.enterRec source code flags w) :=
  h.same.put64.put.logPresent.logProgram

theorem Keeps.loseRec (h : Keeps s₀ s) : Keeps s₀ s.loseRec := .ite h.inc.inc.same.raise h.inc.inc.same

theorem Keeps.pushRec (h : Keeps s₀ s) {source code flags : Nat} {w : List Nat} :
    Keeps s₀ (s.pushRec source code flags w) :=
  .ite h.enterRec h.loseRec

theorem Keeps.record (h : Keeps s₀ s) {source code : Nat} {w : List Nat} : Keeps s₀ (s.record source code w) :=
  h.pushRec

theorem Keeps.setUnit (h : Keeps s₀ s) {u d : Nat} {poison : Bool} : Keeps s₀ (s.setUnit u d poison) :=
  h.setBytes.same

theorem Keeps.hbmUncorr (h : Keeps s₀ s) {u : Nat} : Keeps s₀ (s.hbmUncorr u) :=
  .ite h.inc.put.put.put.raise.put.raise.same h.inc.put.put.put.raise

theorem Keeps.readBlock (h : Keeps s₀ s) {u : Nat} : Keeps s₀ (s.readBlock u).2 := by
  refine .iteSnd h.inc ?_
  split
  · exact h
  · exact h.setUnit.inc
  · exact h.setUnit.hbmUncorr
  · exact h.inc.raise

theorem Keeps.readTileUnit (h : Keeps s₀ s) {g u : Nat} : Keeps s₀ (s.readTileUnit g u).2 := by
  unfold State.readTileUnit
  split
  split
  · exact h
  · exact h.inc.same
  · exact h.inc.same
  · exact h

theorem Keeps.readMemUnit (h : Keeps s₀ s) {u : Nat} : Keeps s₀ (s.readMemUnit u).2 :=
  .iteSnd h.readBlock h.readTileUnit

theorem Keeps.writeMemUnit (h : Keeps s₀ s) {u d : Nat} {poison : Bool} : Keeps s₀ (s.writeMemUnit u d poison) :=
  .ite h.inc h.setUnit

theorem Keeps.readRange (h : Keeps s₀ s) {a n : Nat} : Keeps s₀ (s.readRange a n).2 :=
  .foldlSnd h fun _ _ h => h.readMemUnit

theorem Keeps.writePart (h : Keeps s₀ s) {u o : Nat} {bs : List (Byte × Bool)} : Keeps s₀ (s.writePart u o bs) :=
  .ite h.writeMemUnit h.readMemUnit.writeMemUnit

theorem Keeps.writeRange (h : Keeps s₀ s) {a : Nat} {bs : List (Byte × Bool)} : Keeps s₀ (s.writeRange a bs) :=
  .foldl h fun _ _ h => h.writePart

theorem Keeps.offer (h : Keeps s₀ s) {x : Offer} : Keeps s₀ (s.offer x) := h.same

theorem Keeps.setPin (h : Keeps s₀ s) {i : Nat} {level : Bool} : Keeps s₀ (s.setPin i level) := h.same

theorem Keeps.readPair (h : Keeps s₀ s) {a : Nat} : Keeps s₀ (s.readPair a).2 :=
  .iteSnd h.readRange.freeVal h.readRange

theorem Keeps.readTW (h : Keeps s₀ s) {g wa : Nat} : Keeps s₀ (s.readTW g wa).2 :=
  .iteSnd h.readTileUnit.freeVal h.readTileUnit

theorem Keeps.writeTW (h : Keeps s₀ s) {g wa d : Nat} {poison : Bool} : Keeps s₀ (s.writeTW g wa d poison) :=
  h.setUnit

theorem Keeps.readTWs (h : Keeps s₀ s) {g wa n : Nat} : Keeps s₀ (s.readTWs g wa n).2 :=
  .foldlSnd h fun _ _ h => h.readTW

theorem Keeps.writeTWs (h : Keeps s₀ s) {g wa : Nat} {ws : List (Nat × Bool)} : Keeps s₀ (s.writeTWs g wa ws) := by
  induction ws generalizing s wa with
  | nil => exact h
  | cons w ws ih => exact ih h.writeTW

theorem Keeps.setT (h : Keeps s₀ s) {g st kind : Nat} : Keeps s₀ (s.setT g st kind) := h.put.put

theorem Keeps.setPc (h : Keeps s₀ s) {g v : Nat} : Keeps s₀ (s.setPc g v) := h.put

theorem Keeps.setFlags (h : Keeps s₀ s) {g pc : Nat} {f : Flags} : Keeps s₀ (s.setFlags g pc f) :=
  .ite h (.raise (.put (.ite h.put.put h)))

theorem Keeps.poisonRead (h : Keeps s₀ s) {g pc wa : Nat} : Keeps s₀ (s.poisonRead g pc wa) := h.setFlags.recErr

theorem Keeps.tfault (h : Keeps s₀ s) {g pc code addr : Nat} : Keeps s₀ (s.tfault g pc code addr) := h.recErr.same

theorem Keeps.bumpToken (h : Keeps s₀ s) {g k pc : Nat} : Keeps s₀ (s.bumpToken g k pc) := .ite h.tfault h.put

theorem Keeps.flagsWrite (h : Keeps s₀ s) {g : Nat} {v : Word} : Keeps s₀ (s.flagsWrite g v) := .ite h.wr.put h.wr

theorem Keeps.setQueue (h : Keeps s₀ s) {g u : Nat} {q : List Op} : Keeps s₀ (s.setQueue g u q) := h.same

/-! ### Tile operations (R84-R94, R103, R105) -/

theorem Keeps.consume (h : Keeps s₀ s) {g pc wa n : Nat} : Keeps s₀ (s.consume g pc wa n).2 :=
  .foldlSnd h fun _ _ h => .ite h.readTW.poisonRead h.readTW

theorem Keeps.consumeBytes (h : Keeps s₀ s) {g pc b n : Nat} : Keeps s₀ (s.consumeBytes g pc b n).2 :=
  .iteSnd h h.consume

theorem Keeps.setAcc (h : Keeps s₀ s) {g bank e : Nat} {v : AccEntry} : Keeps s₀ (s.setAcc g bank e v) := h.same

theorem Keeps.storeAcc (h : Keeps s₀ s) {g bank e : Nat} {exact : Bool} {v : AccEntry} :
    Keeps s₀ (s.storeAcc g bank e exact v) :=
  .ite h.freeVal.setAcc h.setAcc

theorem Keeps.accChannel (h : Keeps s₀ s) {g bank e : Nat} {exact init sparse : Bool} {K : Nat} {ws xs : List Elem} :
    Keeps s₀ (s.accChannel g bank e exact init sparse K ws xs).1 :=
  h.storeAcc

theorem Keeps.opMmaS (h : Keeps s₀ s) {g : Nat} {o : Op} : Keeps s₀ (opMmaS g o s) := by
  unfold Machine.opMmaS
  extract_lets
  split
  · exact h.tfault
  · refine .setFlags (.foldlFst h.consume fun _ _ h => ?_)
    exact .foldlFst h.consume fun _ _ h => .foldlFst h fun _ _ h => h.accChannel

theorem Keeps.loadChunk (h : Keeps s₀ s) {g pc bank off sel N : Nat} : Keeps s₀ (s.loadChunk g pc bank off sel N).2 :=
  .iteSnd h h.consume.consume.same

theorem Keeps.opWload (h : Keeps s₀ s) {g : Nat} {o : Op} : Keeps s₀ (opWload g o s) :=
  .foldl h fun _ _ h => h.loadChunk.setFlags.same

theorem Keeps.opMmaW (h : Keeps s₀ s) {g : Nat} {o : Op} : Keeps s₀ (opMmaW g o s) := by
  unfold Machine.opMmaW
  extract_lets
  split
  · exact h.tfault
  split
  · exact h.tfault
  · refine .setFlags (.foldlFst h.consume fun _ _ h => ?_)
    exact .foldlFst h fun _ _ h => .foldlFst h fun _ _ h => h.accChannel

theorem Keeps.opAccBind (h : Keeps s₀ s) {g : Nat} {o : Op} : Keeps s₀ (opAccBind g o s) :=
  .foldl h fun _ _ h => .foldl h fun _ _ k => k.setAcc

theorem Keeps.opAccAdd (h : Keeps s₀ s) {g : Nat} {o : Op} : Keeps s₀ (opAccAdd g o s) := by
  unfold Machine.opAccAdd
  extract_lets
  split
  · exact h.tfault
  · exact .setFlags (.foldlFst h fun _ _ h => .foldlFst h.consume fun _ _ k => k.storeAcc)

theorem Keeps.readScales (h : Keeps s₀ s) {g pc : Nat} {req : List (Option (TDesc × Nat))} :
    Keeps s₀ (s.readScales g pc req).2 := by
  unfold State.readScales
  exact .foldlSnd h fun _ _ h => h.consume

theorem Keeps.opAccOut (h : Keeps s₀ s) {g : Nat} {o : Op} : Keeps s₀ (opAccOut g o s) := by
  unfold Machine.opAccOut
  extract_lets
  split
  · exact h.tfault
  · refine .ite h.tfault ?_
    split
    · exact h.tfault
    · exact .foldl h.readScales.readScales fun _ _ h => .ite h.writeRange (.setFlags (.ite h.writeRange.writeRange
        h.writeRange))

theorem Keeps.setLane (h : Keeps s₀ s) {g v l : Nat} {c : Nat × Bool} : Keeps s₀ (s.setLane g v l c) := h.same

theorem Keeps.setLanes (h : Keeps s₀ s) {g v : Nat} {cs : List (Nat × Bool)} : Keeps s₀ (s.setLanes g v cs) :=
  .foldl h fun _ _ h => h.setLane

theorem Keeps.opVld (h : Keeps s₀ s) {g : Nat} {o : Op} : Keeps s₀ (opVld g o s) := by
  refine .setFlags (.setLanes (.readScales (.readScales ?_)))
  exact .iteSnd h.consumeBytes.consumeBytes h.consumeBytes

theorem Keeps.opVst (h : Keeps s₀ s) {g : Nat} {o : Op} : Keeps s₀ (opVst g o s) :=
  .setFlags (.ite h.readScales.writeRange.writeRange h.readScales.writeRange)

theorem Keeps.opVop (h : Keeps s₀ s) {g : Nat} {o : Op} : Keeps s₀ (opVop g o s) := h.setLanes.setFlags

theorem Keeps.opVred (h : Keeps s₀ s) {g : Nat} {o : Op} : Keeps s₀ (opVred g o s) := h.setLanes.setFlags

theorem Keeps.opCopy (h : Keeps s₀ s) {g : Nat} {o : Op} : Keeps s₀ (opCopy g o s) := h.readTWs.writeTWs

theorem Keeps.opPrefetch (h : Keeps s₀ s) {g : Nat} {o : Op} : Keeps s₀ (opPrefetch g o s) :=
  .foldl h fun _ _ h => h.readPair.writeTWs

theorem Keeps.opStore (h : Keeps s₀ s) {g : Nat} {o : Op} : Keeps s₀ (opStore g o s) := by
  unfold Machine.opStore
  dsimp only
  exact .foldl h fun _ _ h => h.readTWs.writeRange

/-! ### Loop slots (R383-R388, R395, R402-R404) -/

theorem Keeps.setSlot (h : Keeps s₀ s) {i : Nat} {x : Slot} : Keeps s₀ (s.setSlot i x) := h.same

theorem Keeps.modSlot (h : Keeps s₀ s) {i : Nat} {f : Slot → Slot} : Keeps s₀ (s.modSlot i f) := h.setSlot

theorem Keeps.modLines (h : Keeps s₀ s) {i : Nat} {f : Slot → Slot} : Keeps s₀ (s.modLines i f) :=
  .foldl h fun _ _ h => h.modSlot

theorem Keeps.settleFrom (h : Keeps s₀ s) {i : Nat} {p : Int} : Keeps s₀ (s.settleFrom i p) := h.setSlot

theorem Keeps.slotSettle (h : Keeps s₀ s) {i : Nat} : Keeps s₀ (s.slotSettle i) := by
  unfold State.slotSettle
  split
  · exact h.settleFrom
  · exact h

theorem Keeps.slotAcquire (h : Keeps s₀ s) {i : Nat} : Keeps s₀ (s.slotAcquire i) := h.modLines

theorem Keeps.slotIdle (h : Keeps s₀ s) {i : Nat} : Keeps s₀ (s.slotIdle i) := h.modLines

theorem Keeps.slotResettle (h : Keeps s₀ s) {i : Nat} : Keeps s₀ (s.slotResettle i) := .ite h.modSlot h

theorem Keeps.slotRefresh (h : Keeps s₀ s) {i : Nat} : Keeps s₀ (s.slotRefresh i) :=
  .ite (.ite (.ite h.slotSettle h.slotAcquire) h) (.ite h h.slotIdle)

theorem Keeps.slotsRefresh (h : Keeps s₀ s) {l : List Nat} : Keeps s₀ (s.slotsRefresh l) :=
  .foldl h fun _ _ h => h.slotRefresh

theorem Keeps.traceStop (h : Keeps s₀ s) {c : Nat} : Keeps s₀ (s.traceStop c) := h.same.put.put.raise

theorem Keeps.traceFlag (h : Keeps s₀ s) {i code : Nat} : Keeps s₀ (s.traceFlag i code) :=
  .foldl h fun _ _ h => .ite (.ite h.traceStop h.same) h

theorem Keeps.tracePut (h : Keeps s₀ s) {c : Nat} {v : Int} {n : Nat} : Keeps s₀ (s.tracePut c v n) := by
  refine .ite h ?_
  split
  · exact .ite (.traceStop (.inc (.ite h.wr.put.put h.wr.put))) (.same (.inc (.ite h.wr.put.put h.wr.put)))
  · exact .inc (.ite h.wr.put.put h.wr.put)

theorem Keeps.traceAll (h : Keeps s₀ s) {src n : Nat} {nodes : List (Nat × Int)} :
    Keeps s₀ (s.traceAll src n nodes) := by
  refine .foldl h fun _ _ h => .ite ?_ h
  split
  · exact h.tracePut
  · exact h

theorem Keeps.traceArm (h : Keeps s₀ s) {v : Nat} : Keeps s₀ (s.traceArm v) :=
  .foldl h fun _ _ h => .ite h.wr.put.same h

theorem Keeps.slotFlag (h : Keeps s₀ s) {i code : Nat} : Keeps s₀ (s.slotFlag i code) :=
  .ite h (.traceFlag (.ite h.modSlot.put.same.raise h.modSlot.put.same))

theorem Keeps.slotFlagClear (h : Keeps s₀ s) {i v : Nat} : Keeps s₀ (s.slotFlagClear i v) :=
  .ite h.modSlot.put h.modSlot

theorem Keeps.flagRead (h : Keeps s₀ s) : Keeps s₀ s.flagRead.2 := by
  unfold State.flagRead
  extract_lets
  split
  · exact h.same
  · exact h.same.same

theorem Keeps.descUse (h : Keeps s₀ s) {o : Nat} : Keeps s₀ (s.descUse o) := .ite h.inc.same h

/-! ### The time base (08_time.md) -/

theorem Keeps.setInc (h : Keeps s₀ s) {v : Nat} : Keeps s₀ (s.setInc v) := h.put.put

theorem Keeps.incWrite (h : Keeps s₀ s) {ns frac : Nat} : Keeps s₀ (s.incWrite ns frac) :=
  .ite h.setInc.raiseAlways (.ite h.setInc.raiseAlways h.setInc)

theorem Keeps.count64 (h : Keeps s₀ s) {a : Nat} {f : Fld} {n : Nat} : Keeps s₀ (s.count64 a f n) := .ite h h.add64

theorem Keeps.cycleCounts (h : Keeps s₀ s) {k : Nat} : Keeps s₀ (s.cycleCounts k) :=
  .foldl h fun _ _ h => .count64 (.count64 (.ite h.add64 h))

theorem Keeps.schedCounts (h : Keeps s₀ s) {k : Nat} : Keeps s₀ (s.schedCounts k) :=
  .foldl h fun _ _ h => .ite h.count64.count64 h

theorem Keeps.stepped (h : Keeps s₀ s) : Keeps s₀ s.stepped :=
  .record (.ite h.same.put.raiseAlways.raiseAlways h.same.put.raiseAlways)

theorem Keeps.stepBusy (h : Keeps s₀ s) {path : Nat} : Keeps s₀ (s.stepBusy path) := h.recErrX

theorem Keeps.stepGo (h : Keeps s₀ s) {v : Word} : Keeps s₀ (s.stepGo v) := .ite h.put h

theorem Keeps.setServo (h : Keeps s₀ s) {v : Nat} : Keeps s₀ (s.setServo v) :=
  .ite h.put.raiseAlways (.ite h.put.raiseAlways h.put)

theorem Keeps.servoHold (h : Keeps s₀ s) : Keeps s₀ s.servoHold :=
  .ite h (.ite h.setServo.same h.setServo.same.setInc)

theorem Keeps.tick (h : Keeps s₀ s) : Keeps s₀ s.tick :=
  .schedCounts (.cycleCounts (.ite h.servoHold.same.stepped h.servoHold.same.same))

theorem Keeps.servoInc (h : Keeps s₀ s) {v : Nat} : Keeps s₀ (s.servoInc v) := h.setInc.same

theorem Keeps.servoTrim (h : Keeps s₀ s) : Keeps s₀ s.servoTrim := h.freeVal.servoInc

theorem Keeps.servoStep (h : Keeps s₀ s) {d : Int} : Keeps s₀ (s.servoStep d) := .ite h.stepBusy h.put.put64.put

theorem Keeps.sourceBack (h : Keeps s₀ s) : Keeps s₀ s.sourceBack := .ite h.same.setServo.same h.same

theorem Keeps.countGood (h : Keeps s₀ s) {off : Int} : Keeps s₀ (s.countGood off) := h.same

theorem Keeps.servoNext (h : Keeps s₀ s) {off : Int} : Keeps s₀ (s.servoNext off) :=
  .ite h.setServo (.ite h.setServo h)

theorem Keeps.servoSample (h : Keeps s₀ s) {off : Int} : Keeps s₀ (s.servoSample off) :=
  .ite h.sourceBack (.ite (.ite h.put.sourceBack.countGood.servoNext.servoInc
    h.put.sourceBack.countGood.servoNext.servoStep) h.put.sourceBack.countGood.servoNext.servoTrim)

theorem Keeps.sourceLost (h : Keeps s₀ s) : Keeps s₀ s.sourceLost := .servoHold (.ite h.same.same h.same)

theorem Keeps.srcWrite (h : Keeps s₀ s) {v : Word} : Keeps s₀ (s.srcWrite v) := h.wr.same.setServo

theorem Keeps.capture (h : Keeps s₀ s) {c half : Nat} {rising merged : Bool} :
    Keeps s₀ (s.capture c half rising merged) :=
  .ite h.put h.same.put.raiseAlways

theorem Keeps.capRead (h : Keeps s₀ s) {c : Nat} : Keeps s₀ (s.capRead c).2 := by
  unfold State.capRead
  split
  · exact h.wr.wr
  · exact h.same.put.put.wr

theorem Keeps.ppsPulse (h : Keeps s₀ s) {rising merged : Bool} {half : Nat} :
    Keeps s₀ (s.ppsPulse rising merged half) :=
  .ite h (.ite (.ite (.servoSample (.ite h.capture.same.put.raiseAlways.same h.capture.same.put)) (.ite
    h.capture.same.put.raiseAlways.same h.capture.same.put)) h.inc)

theorem Keeps.ppsGone (h : Keeps s₀ s) : Keeps s₀ s.ppsGone :=
  .ite h (.ite h.same.put.inc.raiseAlways.sourceLost h.same.put.inc.raiseAlways)

theorem Keeps.mgmtSend (h : Keeps s₀ s) {n : Nat} {k : OutKind} {l : List Nat} : Keeps s₀ (s.mgmtSend n k l) :=
  h.inc.emit

theorem Keeps.mgmtFrame (h : Keeps s₀ s) {n : Nat} {f : State → State} (k : ∀ t, Keeps s₀ t → Keeps s₀ (f t)) :
    Keeps s₀ (s.mgmtFrame n f) := .ite (k _ h.inc) h

theorem Keeps.ptpOut (h : Keeps s₀ s) {n ty id t : Nat} : Keeps s₀ (s.ptpOut n ty id t) := .ite h.mgmtSend h

theorem Keeps.ptpSyncIn (h : Keeps s₀ s) {n dom master t1 : Nat} : Keeps s₀ (s.ptpSyncIn n dom master t1) :=
  .ite (.ptpOut (.ite h.same.sourceBack h.same)) h

theorem Keeps.ptpRespIn (h : Keeps s₀ s) {n dom master t4 : Nat} : Keeps s₀ (s.ptpRespIn n dom master t4) := by
  refine .ite ?_ h
  split
  · exact .ite h.same.servoSample h.same
  · exact h

/-! ### The transmitting side of a lane (R313-R317, R325) -/

theorem Keeps.setOut (h : Keeps s₀ s) {p l o : Nat} : Keeps s₀ (s.setOut p l o) := h.put.same

theorem Keeps.sendCodeword (h : Keeps s₀ s) {p l off : Nat} {ws : List Nat} {path vc credits rxok : Nat} :
    Keeps s₀ (s.sendCodeword p l off ws path vc credits rxok) :=
  .emit (.same (.ite h.emit h))

theorem Keeps.sendWords (h : Keeps s₀ s) {p l : Nat} {ws : List Nat} : Keeps s₀ (s.sendWords p l ws) :=
  .foldl h fun _ _ h => h.sendCodeword

theorem Keeps.sendIdle (h : Keeps s₀ s) {p l n : Nat} : Keeps s₀ (s.sendIdle p l n) :=
  .foldl h fun _ _ h => h.sendCodeword

theorem Keeps.noteT3 (h : Keeps s₀ s) {f : TxFrame} : Keeps s₀ (s.noteT3 f) := by
  unfold State.noteT3
  split
  · exact .ite h.same h
  · exact h

theorem Keeps.startFrame (h : Keeps s₀ s) {f : TxFrame} : Keeps s₀ (s.startFrame f) :=
  .sendWords (.emit (.noteT3 (.ite h.add64 h)))

theorem Keeps.sendOn (h : Keeps s₀ s) {f : TxFrame} : Keeps s₀ (s.sendOn f) := .ite h.startFrame h.same

theorem Keeps.serveWaitN (h : Keeps s₀ s) {n : Nat} : Keeps s₀ (State.serveWaitN n s) := by
  induction n generalizing s with
  | zero => exact h
  | succ n ih =>
    unfold State.serveWaitN
    split
    · exact ih h.same.startFrame
    · exact h

theorem Keeps.serveWait (h : Keeps s₀ s) : Keeps s₀ s.serveWait := h.serveWaitN

theorem Keeps.dropWait (h : Keeps s₀ s) {p l : Nat} : Keeps s₀ (s.dropWait p l) := .ite h h.same

theorem Keeps.sendPath (h : Keeps s₀ s) {path : Nat} {k : OutKind} {args : List Nat} :
    Keeps s₀ (s.sendPath path k args) := by
  unfold State.sendPath
  split
  · exact h
  · exact .elim h fun _ => h.sendOn

theorem Keeps.countIn (h : Keeps s₀ s) {p : Nat} : Keeps s₀ (s.countIn p) := .ite h.add64 h

theorem Keeps.countPath (h : Keeps s₀ s) {path : Nat} : Keeps s₀ (s.countPath path) := h.countIn

theorem Keeps.countReturn (h : Keeps s₀ s) {path : Nat} : Keeps s₀ (s.countReturn path) := by
  unfold State.countReturn
  split
  · exact h.countPath
  · exact h

theorem Keeps.vc3Drop (h : Keeps s₀ s) {p : Nat} : Keeps s₀ (s.vc3Drop p) := h.inc.raise

/-! ### Advisories and lanes under calibration (R531-R548) -/

theorem Keeps.setAdv (h : Keeps s₀ s) {l : List Advis} : Keeps s₀ (s.setAdv l) := h.put.same

theorem Keeps.advise (h : Keeps s₀ s) {kind sev obj : Nat} {v : Int} : Keeps s₀ (s.advise kind sev obj v) :=
  .ite h.setAdv (.ite h (.ite h.put.raise h.setAdv.raise.record))

theorem Keeps.writeCurve (h : Keeps s₀ s) {i : Nat} {c : RingCurve} : Keeps s₀ (s.writeCurve i c) := h.wr.wr.wr

theorem Keeps.setCals (h : Keeps s₀ s) {l : List LaneCal} : Keeps s₀ (s.setCals l) := .ite h.put.same h.put.same.put

theorem Keeps.endCal (h : Keeps s₀ s) {i : Nat} : Keeps s₀ (s.endCal i) := h.setCals

theorem Keeps.calNote (h : Keeps s₀ s) {ty lane path seq : Nat} : Keeps s₀ (s.calNote ty lane path seq) := h.sendPath

theorem Keeps.calLaunched (h : Keeps s₀ s) {i : Nat} : Keeps s₀ (s.calLaunched i) := by
  unfold State.calLaunched
  split
  · exact h.calNote
  · exact h

theorem Keeps.calReturn (h : Keeps s₀ s) {i : Nat} : Keeps s₀ (s.calReturn i) := by
  unfold State.calReturn
  split
  · exact .ite h.endCal.inc h.endCal
  · exact h

theorem Keeps.calAbandon (h : Keeps s₀ s) {c : LaneCal} : Keeps s₀ (s.calAbandon c) :=
  .ite h.endCal.calNote.inc.same.raise (.ite h.endCal.calNote.inc.same.raise.slotSettle
    h.endCal.calNote.inc.same.raise.slotIdle)

theorem Keeps.calBegin (h : Keeps s₀ s) {kind : Nat} : Keeps s₀ (s.calBegin kind) :=
  .foldl h.put fun _ _ h => h.modLines

theorem Keeps.calSlotsIdle (h : Keeps s₀ s) : Keeps s₀ s.calSlotsIdle := .foldl h fun _ _ h => h.slotIdle

theorem Keeps.calStop (h : Keeps s₀ s) : Keeps s₀ s.calStop :=
  .ite h.put.calSlotsIdle.same (.ite h.put.calSlotsIdle h)

theorem Keeps.deferredCal (h : Keeps s₀ s) : Keeps s₀ s.deferredCal := .ite h.calBegin h

/-! ### Ports, lanes, combs and beacons (09_optics.md, R370-R376) -/

theorem Keeps.laneMoved (h : Keeps s₀ s) {p l old new : Nat} : Keeps s₀ (s.laneMoved p l old new) :=
  .ite h.raise (.ite h.inc.raise h)

theorem Keeps.markUp (h : Keeps s₀ s) {i old new : Nat} : Keeps s₀ (s.markUp i old new) := .ite h.put h

theorem Keeps.takeDac (h : Keeps s₀ s) {p l : Nat} : Keeps s₀ (s.takeDac p l) := h.same

theorem Keeps.laneSetup (h : Keeps s₀ s) {p l : Nat} : Keeps s₀ (s.laneSetup p l) := h.freeVal.same

theorem Keeps.setTx (h : Keeps s₀ s) {p l st : Nat} : Keeps s₀ (s.setTx p l st) :=
  .ite (.laneSetup (.ite (.takeDac (.markUp (.ite h.put h.put.laneMoved))) (.markUp (.ite h.put h.put.laneMoved))))
    (.ite (.takeDac (.markUp (.ite h.put h.put.laneMoved))) (.markUp (.ite h.put h.put.laneMoved)))

theorem Keeps.setCause (h : Keeps s₀ s) {p l c : Nat} : Keeps s₀ (s.setCause p l c) := h.put

theorem Keeps.markPort (h : Keeps s₀ s) {off p ev : Nat} : Keeps s₀ (s.markPort off p ev) := .ite h h.put.raise

theorem Keeps.discUpdate (h : Keeps s₀ s) : Keeps s₀ s.discUpdate :=
  .foldl (.ite h.put.put.put.raise h.put.put.put) fun _ _ h => .ite (.markPort (.ite h.put h)) (.put (.ite h.put h))

theorem Keeps.missing (h : Keeps s₀ s) {p : Nat} : Keeps s₀ (s.missing p) := .ite (.markPort (.ite h h.raise)) h

theorem Keeps.extraUpdate (h : Keeps s₀ s) {p : Nat} : Keeps s₀ (s.extraUpdate p) :=
  .ite (.markPort (.ite h h.raise)) h.put

theorem Keeps.moveRx (h : Keeps s₀ s) {p l st : Nat} : Keeps s₀ (s.moveRx p l st) :=
  .markUp (.ite h.put h.put.laneMoved)

theorem Keeps.setRx (h : Keeps s₀ s) {p l st : Nat} : Keeps s₀ (s.setRx p l st) := h.moveRx.discUpdate

theorem Keeps.sendBeacon (h : Keeps s₀ s) {p l : Nat} : Keeps s₀ (s.sendBeacon p l) := h.same.sendOn

theorem Keeps.tryLaunch (h : Keeps s₀ s) {p l : Nat} : Keeps s₀ (s.tryLaunch p l) :=
  .ite h.setOut.setTx.sendBeacon.calLaunched h

theorem Keeps.reparked (h : Keeps s₀ s) {p l : Nat} : Keeps s₀ (s.reparked p l) := .ite h.setTx h

theorem Keeps.launchAll (h : Keeps s₀ s) {q : Nat} : Keeps s₀ (s.launchAll q) :=
  .foldl h fun _ _ h => .ite h.reparked.tryLaunch h

theorem Keeps.spareTake (h : Keeps s₀ s) {p l : Nat} : Keeps s₀ (s.spareTake p l) := by
  unfold State.spareTake
  split
  · exact .ite h.put.setTx.raise h
  · exact h

theorem Keeps.spareEnd (h : Keeps s₀ s) {p : Nat} : Keeps s₀ (s.spareEnd p) := .ite h.put.setTx h.put

theorem Keeps.spareNext (h : Keeps s₀ s) {p : Nat} : Keeps s₀ (s.spareNext p) := by
  unfold State.spareNext
  split
  · exact h.spareTake
  · exact h

theorem Keeps.tryTxService (h : Keeps s₀ s) {p l : Nat} : Keeps s₀ (s.tryTxService p l) :=
  .ite (.ite h.setTx.same.calReturn.spareNext (.ite h.setTx.same.calReturn.spareEnd.spareNext h.setTx.same.calReturn))
    h

theorem Keeps.txLeave (h : Keeps s₀ s) {p l st : Nat} {park : Bool} : Keeps s₀ (s.txLeave p l st park) :=
  .dropWait (.ite (.ite (.put (.setTx (.ite h.setOut h))) (.setTx (.ite h.setOut h))) (.ite (.spareTake (.same (.setTx
    (.ite h.setOut h)))) (.setTx (.ite h.setOut h))))

theorem Keeps.dropChecks (h : Keeps s₀ s) {p l : Nat} : Keeps s₀ (s.dropChecks p l) := h.put.same

theorem Keeps.checked (h : Keeps s₀ s) {p l which : Nat} {ok : Bool} : Keeps s₀ (s.checked p l which ok) := h.put.same

theorem Keeps.tryRxService (h : Keeps s₀ s) {p l : Nat} : Keeps s₀ (s.tryRxService p l) :=
  .ite h.setCause.setRx.same.calReturn h

theorem Keeps.rxLeave (h : Keeps s₀ s) {p l st cause : Nat} : Keeps s₀ (s.rxLeave p l st cause) :=
  h.dropChecks.setCause.setRx

theorem Keeps.laneFail (h : Keeps s₀ s) {i cause : Nat} : Keeps s₀ (s.laneFail i cause) :=
  .ite h.advise.same.txLeave.setCause h.advise.same.rxLeave

theorem Keeps.laneRelock (h : Keeps s₀ s) {i cause : Nat} : Keeps s₀ (s.laneRelock i cause) :=
  .ite h (.ite (.ite h h.txLeave.setCause.same) (.ite h h.rxLeave))

theorem Keeps.ringLocked (h : Keeps s₀ s) {i : Nat} : Keeps s₀ (s.ringLocked i) :=
  .ite (.ite h.setTx h) (.ite h.dropChecks.setRx h)

theorem Keeps.acqFailed (h : Keeps s₀ s) {i : Nat} : Keeps s₀ (s.acqFailed i) :=
  .ite h (.ite h.same h.same.laneFail.slotIdle)

theorem Keeps.acqDone (h : Keeps s₀ s) {i : Nat} : Keeps s₀ (s.acqDone i) := h.same

theorem Keeps.parkPort (h : Keeps s₀ s) {q st cause : Nat} : Keeps s₀ (s.parkPort q st cause) :=
  .foldl h fun _ _ h => .ite h.txLeave.put h.txLeave.put.setCause

theorem Keeps.txDown (h : Keeps s₀ s) {p l st : Nat} : Keeps s₀ (s.txDown p l st) :=
  .dropWait (.ite h.setOut.setTx.put h.setOut.setTx)

theorem Keeps.laneApply (h : Keeps s₀ s) {i : Nat} : Keeps s₀ (s.laneApply i) :=
  .ite (.slotSettle (.modSlot (.same (.setCause (.ite h.txDown.same h.dropChecks.moveRx))))) (.slotIdle (.modSlot
    (.same (.setCause (.ite h.txDown.same h.dropChecks.moveRx)))))

theorem Keeps.portApply (h : Keeps s₀ s) {p : Nat} : Keeps s₀ (s.portApply p) :=
  .slotsRefresh (.put (.put (.discUpdate (.foldl h fun _ _ h => h.laneApply.laneApply))))

theorem Keeps.portEnable (h : Keeps s₀ s) {p : Nat} : Keeps s₀ (s.portEnable p) :=
  .ite h.portApply.parkPort (.launchAll (.foldl h.portApply fun _ _ h => h.modSlot.slotIdle.laneFail))

theorem Keeps.failForget (h : Keeps s₀ s) {f : Nat → Bool} : Keeps s₀ (s.failForget f) := h.same

theorem Keeps.engineApply (h : Keeps s₀ s) {e : Nat} : Keeps s₀ (s.engineApply e) := .foldl h fun _ _ h => h.portApply

theorem Keeps.combDark (h : Keeps s₀ s) {e : Nat} : Keeps s₀ (s.combDark e) :=
  .foldl h fun _ _ h => .foldl h fun _ _ k => .ite (.slotSettle (.ite (.slotSettle (.ite (.ite k k.txLeave.same)
    (.rxLeave (.ite k k.txLeave.same)))) (.ite (.ite k k.txLeave.same) (.rxLeave (.ite k k.txLeave.same))))) (.ite
    (.slotSettle (.ite (.ite k k.txLeave.same) (.rxLeave (.ite k k.txLeave.same)))) (.ite (.ite k k.txLeave.same)
    (.rxLeave (.ite k k.txLeave.same))))

theorem Keeps.setWeak (h : Keeps s₀ s) {c k : Nat} {w : Bool} : Keeps s₀ (s.setWeak c k w) :=
  .ite (.advise (.ite h.put.put.raise h.put.put)) (.ite h.put.put.raise h.put.put)

theorem Keeps.linePower (h : Keeps s₀ s) {c k : Nat} {p : Int} : Keeps s₀ (s.linePower c k p) := h.put.setWeak

theorem Keeps.linesDark (h : Keeps s₀ s) {c : Nat} : Keeps s₀ (s.linesDark c) :=
  .foldl h fun _ _ h => h.freeVal.linePower

theorem Keeps.setComb (h : Keeps s₀ s) {e st : Nat} : Keeps s₀ (s.setComb e st) :=
  .slotsRefresh (.ite (.ite h.put.put.put.put.linesDark.combDark h.put) (.same (.ite
    h.put.put.put.put.linesDark.combDark h.put)))

theorem Keeps.combEnable (h : Keeps s₀ s) {e : Nat} {on : Bool} : Keeps s₀ (s.combEnable e on) :=
  .ite h (.ite (.ite h.setComb h) h.setComb)

theorem Keeps.combArm (h : Keeps s₀ s) {e path : Nat} : Keeps s₀ (s.combArm e path) :=
  .ite (.ite h.setComb h) h.recErrX

theorem Keeps.laserDrop (h : Keeps s₀ s) : Keeps s₀ s.laserDrop :=
  .foldl h.setPin.calStop fun _ _ h => .ite h.put.inc.raise.setComb h.put.inc.raise

theorem Keeps.laserStable (h : Keeps s₀ s) : Keeps s₀ s.laserStable := .foldl h.setPin fun _ _ h => h.put

theorem Keeps.combLocked (h : Keeps s₀ s) {e : Nat} : Keeps s₀ (s.combLocked e) := .ite h.put.put.setComb.raise h

theorem Keeps.combUnlock (h : Keeps s₀ s) {e which : Nat} : Keeps s₀ (s.combUnlock e which) :=
  .ite (.raise (.inc (.setComb (.ite h.put h.put)))) (.ite h.put h.put)

theorem Keeps.combFail (h : Keeps s₀ s) {e : Nat} : Keeps s₀ (s.combFail e) := h.setComb.put.recErrX

theorem Keeps.lightSeen (h : Keeps s₀ s) {p : Nat} : Keeps s₀ (s.lightSeen p) :=
  .launchAll (.extraUpdate (.ite h.put.put h.put.put.raise))

theorem Keeps.openFibre (h : Keeps s₀ s) {q : Nat} : Keeps s₀ (s.openFibre q) := h.put.put.inc.raise.parkPort

theorem Keeps.launchLimit (h : Keeps s₀ s) {q : Nat} : Keeps s₀ (s.launchLimit q) := h.put.inc.raise.parkPort.same

theorem Keeps.relaunch (h : Keeps s₀ s) {q : Nat} : Keeps s₀ (s.relaunch q) :=
  .foldl h.put.same.launchAll fun _ _ h => h.tryLaunch

theorem Keeps.toneRx (h : Keeps s₀ s) {p l k : Nat} : Keeps s₀ (s.toneRx p l k) :=
  .ite h.checked.tryRxService (.slotResettle (.ite h.checked.setCause.raise.rxLeave (.ite
    h.checked.setCause.raise.rxLeave h.checked.setCause.raise)))

theorem Keeps.toneTx (h : Keeps s₀ s) {p l k : Nat} : Keeps s₀ (s.toneTx p l k) :=
  .ite h.put.same.reparked.tryLaunch h.put.raise.laneRelock.slotResettle

theorem Keeps.measured (h : Keeps s₀ s) {p l ber : Nat} {power : Int} : Keeps s₀ (s.measured p l ber power) :=
  h.put.put.put

theorem Keeps.serviceCheck (h : Keeps s₀ s) {p l uncorr ber : Nat} {power : Int} :
    Keeps s₀ (s.serviceCheck p l uncorr ber power) :=
  .ite h.measured (.ite h.measured.rxLeave.slotSettle h.measured.rxLeave)

theorem Keeps.errorCheck (h : Keeps s₀ s) {p l uncorr ber : Nat} {power : Int} :
    Keeps s₀ (s.errorCheck p l uncorr ber power) :=
  .ite (.ite (.raise (.laneFail (.checked (.ite h.measured.advise h.measured)))) (.tryRxService (.checked (.ite
    h.measured.advise h.measured)))) (.setCause (.checked (.ite h.measured.advise h.measured)))

theorem Keeps.recordBeacon (h : Keeps s₀ s) {i : Nat} {x : Beacon} : Keeps s₀ (s.recordBeacon i x) :=
  h.put64.wr.put.put.put.put.inc.same

theorem Keeps.discoverBeacon (h : Keeps s₀ s) {p i : Nat} {x : Beacon} : Keeps s₀ (s.discoverBeacon p i x) :=
  .ite h.recordBeacon.put.raise h.recordBeacon.put

theorem Keeps.mismatchBeacon (h : Keeps s₀ s) {p l i : Nat} {x : Beacon} : Keeps s₀ (s.mismatchBeacon p l i x) :=
  .ite (.ite h.recordBeacon.put.raise.markPort.put.rxLeave.slotSettle h.recordBeacon.put.raise.markPort.put.rxLeave)
    h.recordBeacon.put.raise.markPort.put.setCause

theorem Keeps.majorBeacon (h : Keeps s₀ s) {p l i : Nat} {x : Beacon} : Keeps s₀ (s.majorBeacon p l i x) := by
  unfold State.majorBeacon
  exact .discUpdate (.ite h.recordBeacon.put.raise.put.rxLeave h.recordBeacon.put.raise.put)

theorem Keeps.matchBeacon (h : Keeps s₀ s) {p l i : Nat} {x : Beacon} : Keeps s₀ (s.matchBeacon p l i x) :=
  .tryRxService (.ite h.recordBeacon.put.put.put.raise h.recordBeacon.put.put.put.raise.put)

theorem Keeps.minorCheck (h : Keeps s₀ s) {p : Nat} {x : Beacon} : Keeps s₀ (s.minorCheck p x) := .ite h.raise h

theorem Keeps.pathBeacon (h : Keeps s₀ s) {p l i : Nat} {e : PathEnt} {x : Beacon} :
    Keeps s₀ (s.pathBeacon p l i e x) :=
  .ite (.majorBeacon (.ite h h.mismatchBeacon)) (.ite (.matchBeacon (.ite h h.mismatchBeacon)) (.ite h
    h.mismatchBeacon))

theorem Keeps.beaconIn (h : Keeps s₀ s) {p l : Nat} {x : Beacon} : Keeps s₀ (s.beaconIn p l x) := by
  refine .ite h (.ite (.ite h.minorCheck.discoverBeacon h) (.ite h ?_))
  split
  · exact h
  · exact h.minorCheck.pathBeacon

/-! ### The sequencer, the end of a job and the wipe of a tile (R95-R97, R108-R123) -/

theorem Keeps.powerTo (h : Keeps s₀ s) {old new : Nat} : Keeps s₀ (s.powerTo old new) := .ite h.put.raise h

theorem Keeps.disarm (h : Keeps s₀ s) : Keeps s₀ s.disarm := h.put.put.same

theorem Keeps.jobEnds (h : Keeps s₀ s) {st : Nat} : Keeps s₀ (s.jobEnds st) := h.disarm.put.powerTo

theorem Keeps.jobFails (h : Keeps s₀ s) {cause : Nat} : Keeps s₀ (s.jobFails cause) := h.jobEnds.put.raise

theorem Keeps.settleJob (h : Keeps s₀ s) : Keeps s₀ s.settleJob := .ite h.jobEnds.raise h

theorem Keeps.setStop (h : Keeps s₀ s) {g c : Nat} : Keeps s₀ (s.setStop g c) := h.same

theorem Keeps.barrierMask (h : Keeps s₀ s) {b : Nat} : Keeps s₀ (s.barrierMask b) := h.put

theorem Keeps.abandonWait (h : Keeps s₀ s) {g : Nat} : Keeps s₀ (s.abandonWait g) := by
  unfold State.abandonWait
  split
  · exact h.setT.same.barrierMask
  · exact .ite h.setT h

theorem Keeps.haltTile (h : Keeps s₀ s) {g : Nat} : Keeps s₀ (s.haltTile g) :=
  .ite (.ite h.abandonWait.put h.abandonWait.put.setStop) (.ite h.setT.put.raise h.put)

theorem Keeps.haltAll (h : Keeps s₀ s) : Keeps s₀ s.haltAll := .foldl h fun _ _ h => h.haltTile

theorem Keeps.reshardStop (h : Keeps s₀ s) : Keeps s₀ s.reshardStop := .foldl h.same fun _ _ h => h.put

theorem Keeps.meshFails (h : Keeps s₀ s) : Keeps s₀ s.meshFails := .ite h.haltAll.jobFails h.haltAll

theorem Keeps.settleTile (h : Keeps s₀ s) {g : Nat} : Keeps s₀ (s.settleTile g) :=
  .ite h.setT.setStop.raise.settleJob h

theorem Keeps.fetch (h : Keeps s₀ s) {g : Nat} : Keeps s₀ (s.fetch g).2 := h.readTileUnit

theorem Keeps.issue (h : Keeps s₀ s) {g opc : Nat} {f : Op → State → State} (k : ∀ o t, Keeps s₀ t → Keeps s₀ (f o t)) :
    Keeps s₀ (s.issue g opc f) := .ite (.ite h.fetch.tfault (.ite (k _ _ h.fetch) h)) h

theorem Keeps.setIdx (h : Keeps s₀ s) {g k : Nat} {v : Int} : Keeps s₀ (s.setIdx g k v) := h.put

theorem Keeps.setLoops (h : Keeps s₀ s) {g : Nat} {l : List LoopFrame} : Keeps s₀ (s.setLoops g l) := h.put.same

theorem Keeps.advance (h : Keeps s₀ s) {g : Nat} : Keeps s₀ (s.advance g) :=
  .setPc (.setLoops (.foldl h fun _ _ h => .ite h h.setIdx))

theorem Keeps.hold (h : Keeps s₀ s) {g kind : Nat} : Keeps s₀ (s.hold g kind) := h.setT

theorem Keeps.release (h : Keeps s₀ s) {g : Nat} : Keeps s₀ (s.release g) := h.setT.advance

theorem Keeps.auditRec (h : Keeps s₀ s) {g kind pcA pcB twa : Nat} : Keeps s₀ (s.auditRec g kind pcA pcB twa) :=
  .ite h.inc.put.put.put.put.raise h.inc

theorem Keeps.lateSend (h : Keeps s₀ s) {g pc : Nat} : Keeps s₀ (s.lateSend g pc) :=
  .ite h.inc.raise.auditRec h.inc.raise

theorem Keeps.audit (h : Keeps s₀ s) {g u : Nat} {o : Op} : Keeps s₀ (s.audit g u o) :=
  .ite (.foldl h fun _ _ h => .foldl h fun _ _ k => .foldl k fun _ _ l => .ite l.auditRec l) h

theorem Keeps.issueUnit (h : Keeps s₀ s) {g opc u : Nat} : Keeps s₀ (s.issueUnit g opc u) := by
  refine h.issue fun _ _ h => ?_
  split
  · exact h.tfault
  · exact .ite h.hold h.audit.setQueue.same.advance

theorem Keeps.dequeue (h : Keeps s₀ s) {g u k : Nat} : Keeps s₀ (s.dequeue g u k) :=
  .settleTile (.ite h.setQueue.setT h.setQueue)

theorem Keeps.completeOp (h : Keeps s₀ s) {g u k : Nat} {o : Op} : Keeps s₀ (s.completeOp g u k o) :=
  h.bumpToken.dequeue

theorem Keeps.tilePending (h : Keeps s₀ s) {d row col : Nat} : Keeps s₀ (s.tilePending d row col) :=
  .ite h h.same.inc.put.put.put.raiseAlways.record

theorem Keeps.tileHwFail (h : Keeps s₀ s) {g : Nat} : Keeps s₀ (s.tileHwFail g) := h.tilePending.put.tfault

theorem Keeps.wipeMem (h : Keeps s₀ s) {lo hi : Nat} : Keeps s₀ (s.wipeMem lo hi) := h.filterMem.same

theorem Keeps.wipeTile (h : Keeps s₀ s) {g : Nat} : Keeps s₀ (s.wipeTile g) := h.wipeMem.wipeMem.same

theorem Keeps.resetRegs (h : Keeps s₀ s) {sel : Nat → Bool} {keep : Nat → Nat} : Keeps s₀ (s.resetRegs sel keep) := by
  refine h.trans ⟨fun ⟨regs, pregs, mem⟩ => ⟨mwfFrom_filterMap _ (fun p q other e => ?_) _ _ regs, pregs, mem⟩, rfl⟩
  dsimp only at e
  split at e
  · split at e
    · cases e
    · next changed => cases e; exact ⟨rfl, changed⟩
  · cases e; exact ⟨rfl, other⟩

theorem Keeps.blockResetRegs (h : Keeps s₀ s) {page : Nat} : Keeps s₀ (s.blockResetRegs page) := h.resetRegs

theorem Keeps.tileReset (h : Keeps s₀ s) {g : Nat} : Keeps s₀ (s.tileReset g) := h.blockResetRegs.wipeTile

/-! ### The host window (13_host_mgmt.md) -/

theorem Keeps.msixSend (h : Keeps s₀ s) {v : Nat} : Keeps s₀ (s.msixSend v) := h.emit

theorem Keeps.msix (h : Keeps s₀ s) {v : Nat} : Keeps s₀ (s.msix v) := .ite h (.ite h.same h.msixSend)

theorem Keeps.msixFlush (h : Keeps s₀ s) {v : Nat} : Keeps s₀ (s.msixFlush v) := .ite h.same.msixSend h

theorem Keeps.msixMask (h : Keeps s₀ s) {v : Nat} {masked : Bool} : Keeps s₀ (s.msixMask v masked) := h.same.msixFlush

theorem Keeps.bar4Write (h : Keeps s₀ s) {o : Nat} {v : Word} : Keeps s₀ (s.bar4Write o v) :=
  .ite (.ite h.msixMask h.same) h

theorem Keeps.setOwn (h : Keeps s₀ s) {first n v : Nat} : Keeps s₀ (s.setOwn first n v) :=
  .put (.put (.foldl h fun _ _ h => h.put))

theorem Keeps.segWrite (h : Keeps s₀ s) {path k lo hi : Nat} : Keeps s₀ (s.segWrite path k lo hi) :=
  .ite h.recErr (.ite h.recErr h.wr.wr)

theorem Keeps.notifyPush (h : Keeps s₀ s) {slot count : Nat} : Keeps s₀ (s.notifyPush slot count) :=
  .ite h.same.msix h.same.msix

theorem Keeps.passSlots (h : Keeps s₀ s) {slot count owner : Nat} {notify : Bool} :
    Keeps s₀ (s.passSlots slot count owner notify) :=
  .ite h.setOwn.same.raise (.ite h.setOwn.same.raise.notifyPush h.setOwn.same.raise)

theorem Keeps.handoff (h : Keeps s₀ s) {path : Nat} {v : Word} : Keeps s₀ (s.handoff path v) := by
  refine .ite h.pwr ?_
  split
  · exact h.pwr
  · exact h.pwr.passSlots

theorem Keeps.handBack (h : Keeps s₀ s) {addr n : Nat} : Keeps s₀ (s.handBack addr n) :=
  .foldl h fun _ _ h => h.passSlots

theorem Keeps.notifyRead (h : Keeps s₀ s) : Keeps s₀ s.notifyRead.2 := by
  unfold State.notifyRead
  extract_lets
  split
  · exact h.same
  · exact h.same

theorem Keeps.firstDrop (h : Keeps s₀ s) {o : Nat} : Keeps s₀ (s.firstDrop o) := .ite h h.same.put.raise.record

theorem Keeps.writeScatter (h : Keeps s₀ s) {u : Nat} {bs : List (Nat × Byte)} : Keeps s₀ (s.writeScatter u bs) :=
  .ite h.writeMemUnit h.readMemUnit.writeMemUnit

theorem Keeps.hostWrite (h : Keeps s₀ s) {ok : List (Nat × Byte)} : Keeps s₀ (s.hostWrite ok) :=
  .ite h (.ite h.offer (.foldl h fun _ _ h => h.writeScatter))

theorem Keeps.hostRead (h : Keeps s₀ s) {bs : List (Nat × Nat)} : Keeps s₀ (s.hostRead bs) := by
  refine .ite h.offer (.emit ?_)
  exact .foldlSnd h fun _ _ h => h.readMemUnit

theorem Keeps.handoffIn (h : Keeps s₀ s) {path : Nat} {v : Word} : Keeps s₀ (s.handoffIn path v) :=
  .ite h.offer h.handoff

theorem Keeps.bar2Write (h : Keeps s₀ s) {o : Nat} {l : List Nat} : Keeps s₀ (s.bar2Write o l) :=
  .hostWrite (.foldl (.ite (.ite h.inc h) (.inc (.ite h.inc h))) fun _ _ h => h.firstDrop)

theorem Keeps.bar2Read (h : Keeps s₀ s) {o n : Nat} : Keeps s₀ (s.bar2Read o n) :=
  .hostRead (.ite (.inc (.ite h.inc h)) (.ite h.inc h))

theorem Keeps.mboxGo (h : Keeps s₀ s) {path : Nat} : Keeps s₀ (s.mboxGo path) := .ite h.recErrX h.put.raise.same

theorem Keeps.linkSet (h : Keeps s₀ s) {rate width flit : Nat} : Keeps s₀ (s.linkSet rate width flit) :=
  h.put.put.put.put

theorem Keeps.linkTo (h : Keeps s₀ s) {rate width flit : Nat} : Keeps s₀ (s.linkTo rate width flit) :=
  .ite h.linkSet h.linkSet.raise

theorem Keeps.hostReset (h : Keeps s₀ s) : Keeps s₀ s.hostReset := by
  unfold State.hostReset
  extract_lets hw s₁
  have h₁ : Keeps s₀ s₁ := h.resetRegs
  exact h₁.filterPregs.same

/-! ### Belfry (14_belfry.md) -/

theorem Keeps.setSrc (h : Keeps s₀ s) {i : Nat} {f : Fld} {v : Nat} : Keeps s₀ (s.setSrc i f v) := h.put

theorem Keeps.fire (h : Keeps s₀ s) {i : Nat} : Keeps s₀ (s.fire i) := .ite h.inc.raise h.inc

theorem Keeps.setPend (h : Keeps s₀ s) {i : Nat} : Keeps s₀ (s.setPend i) := .ite h h.setSrc.fire

theorem Keeps.overrun (h : Keeps s₀ s) {i : Nat} : Keeps s₀ (s.overrun i) := .ite h h.setSrc.raise

theorem Keeps.levelSample (h : Keeps s₀ s) {i : Nat} {v : Bool} : Keeps s₀ (s.levelSample i v) :=
  .ite h (.ite h.setPend h.setSrc)

theorem Keeps.sampleSrc (h : Keeps s₀ s) {i : Nat} {v : Bool} {n : Nat} : Keeps s₀ (s.sampleSrc i v n) :=
  .ite h.setSrc.levelSample (.ite (.overrun (.ite h.setSrc (.ite h.setSrc.fire h.setSrc.setPend))) (.ite h.setSrc
    (.ite h.setSrc.fire h.setSrc.setPend)))

theorem Keeps.sampleNow (h : Keeps s₀ s) {i n : Nat} : Keeps s₀ (s.sampleNow i n) := .ite h.sampleSrc h

theorem Keeps.sampleFresh (h : Keeps s₀ s) {i : Nat} : Keeps s₀ (s.sampleFresh i) :=
  .ite (.ite h.setSrc.levelSample h.setSrc) h

theorem Keeps.belfryOn (h : Keeps s₀ s) : Keeps s₀ s.belfryOn := .foldl h fun _ _ h => h.sampleFresh

theorem Keeps.wakeCores (h : Keeps s₀ s) : Keeps s₀ s.wakeCores := .ite h h.same

theorem Keeps.coreIdle (h : Keeps s₀ s) {k : Nat} : Keeps s₀ (s.coreIdle k) := by
  unfold State.coreIdle
  split
  next z s₁ e =>
  have h₁ : Keeps s₀ s₁ := .snd e (.iteSnd h.freeVal h)
  exact .ite h₁.same.wakeCores h₁

theorem Keeps.line4 (h : Keeps s₀ s) {old : State} : Keeps s₀ (s.line4 old) := .ite h.wakeCores.msix h.wakeCores

theorem Keeps.claimRead (h : Keeps s₀ s) {k : Nat} : Keeps s₀ (s.claimRead k).2 :=
  .iteSnd h h.setSrc.setSrc.setSrc.setSrc

theorem Keeps.claimOwn (h : Keeps s₀ s) {k : Nat} : Keeps s₀ (s.claimOwn k).2 :=
  .iteSnd h.claimRead (.iteSnd h.claimRead.coreIdle h.claimRead.same)

theorem Keeps.endClaim (h : Keeps s₀ s) {i : Nat} : Keeps s₀ (s.endClaim i) := .ite h.setSrc.sampleNow h.setSrc

theorem Keeps.complete (h : Keeps s₀ s) {path k n : Nat} : Keeps s₀ (s.complete path k n) :=
  .ite (.ite (.ite h.endClaim.msix h.endClaim) h.endClaim.line4) h.recErr

theorem Keeps.releaseClaims (h : Keeps s₀ s) {sel : Nat → Bool} : Keeps s₀ (s.releaseClaims sel) :=
  .foldl h fun _ _ h => h.endClaim

theorem Keeps.srcCfgWrite (h : Keeps s₀ s) {i : Nat} {v : Word} : Keeps s₀ (s.srcCfgWrite i v) :=
  .ite (.ite (.ite h.wr.setSrc h.wr) (.ite (.sampleNow (.setSrc (.setSrc (.ite h.wr.setSrc h.wr)))) (.setSrc (.setSrc
    (.ite h.wr.setSrc h.wr))))) h

theorem Keeps.swLatch (h : Keeps s₀ s) {v : Word} {set : Bool} : Keeps s₀ (s.swLatch v set) :=
  .foldl h.wr fun _ _ h => .ite h.sampleNow h

theorem Keeps.overrunClear (h : Keeps s₀ s) {w : Nat} {v : Word} : Keeps s₀ (s.overrunClear w v) :=
  .foldl h fun _ _ h => .ite h.setSrc h

theorem Keeps.belfrySettle (h : Keeps s₀ s) : Keeps s₀ s.belfrySettle :=
  .line4 (.foldl h fun _ _ h => .ite (.ite (.ite h.same.sampleFresh h.same) h.same.wr) h)

theorem Keeps.belfryModule (h : Keeps s₀ s) : Keeps s₀ s.belfryModule := .ite h.releaseClaims.belfryOn h.releaseClaims

theorem Keeps.belfryBlock (h : Keeps s₀ s) : Keeps s₀ s.belfryBlock := h.resetRegs.belfryOn

/-! ### Firmware update and the bucket chain (18_update.md) -/

theorem Keeps.setUpd (h : Keeps s₀ s) {v : Nat} : Keeps s₀ (s.setUpd v) := h.put

theorem Keeps.setResult (h : Keeps s₀ s) {code part : Nat} : Keeps s₀ (s.setResult code part) := h.put.put

theorem Keeps.updIdle (h : Keeps s₀ s) : Keeps s₀ s.updIdle := h.setUpd

theorem Keeps.updReject (h : Keeps s₀ s) {code part : Nat} : Keeps s₀ (s.updReject code part) :=
  h.setResult.setUpd.raise.record

theorem Keeps.stagePut (h : Keeps s₀ s) {o : Nat} {l : List Nat} : Keeps s₀ (s.stagePut o l) :=
  .ite h.setBytes (.ite h.offer h.writeRange)

theorem Keeps.stageBytes (h : Keeps s₀ s) {o : Nat} {l : List Nat} : Keeps s₀ (s.stageBytes o l) := h.stagePut.put

theorem Keeps.pkgRead (h : Keeps s₀ s) {o n : Nat} : Keeps s₀ (s.pkgRead o n) :=
  .ite h (.foldl h fun _ _ h => h.readMemUnit)

theorem Keeps.updDiscard (h : Keeps s₀ s) : Keeps s₀ s.updDiscard := h.same.put.put

theorem Keeps.updStart (h : Keeps s₀ s) {src len : Nat} : Keeps s₀ (s.updStart src len) :=
  h.updDiscard.setUpd.same.put.put.put.record

theorem Keeps.updData (h : Keeps s₀ s) {src o : Nat} {l : List Nat} : Keeps s₀ (s.updData src o l).2 :=
  .iteSnd (.stageBytes (.ite h.put h)) h

theorem Keeps.showRun (h : Keeps s₀ s) {k : PkgInfo} {parts : List Nat} : Keeps s₀ (s.showRun k parts) :=
  .put (.put (.foldl h.same fun _ _ h => h.put))

theorem Keeps.bootImage (h : Keeps s₀ s) {k : PkgInfo} : Keeps s₀ (s.bootImage k) :=
  .foldl h.showRun fun _ _ h => h.put

theorem Keeps.newRun (h : Keeps s₀ s) {k : PkgInfo} : Keeps s₀ (s.newRun k) :=
  .same (.ite h.showRun.put.put.put.setUpd.put h.showRun.put.put.put.setUpd)

theorem Keeps.tableApply (h : Keeps s₀ s) {i : Nat} : Keeps s₀ (s.tableApply i) :=
  .ite (.ite (.put (.slotRefresh (.same (.foldl h.modLines fun _ _ h => h.wr)))) (.slotRefresh (.same (.foldl
    h.modLines fun _ _ h => h.wr)))) h

theorem Keeps.clearDesc (h : Keeps s₀ s) : Keeps s₀ s.clearDesc := h.filterRegs.same

theorem Keeps.romRings (h : Keeps s₀ s) {p : Nat} : Keeps s₀ (s.romRings p) :=
  .foldl h fun _ _ h => h.wr.wr.writeCurve

theorem Keeps.romOptics (h : Keeps s₀ s) : Keeps s₀ s.romOptics :=
  .foldl (.foldl h.same.put fun _ _ h => h.put.put.combEnable) fun _ _ h => h.romRings.put.portApply

theorem Keeps.romLeave (h : Keeps s₀ s) : Keeps s₀ s.romLeave :=
  .ite (.clearDesc (.put (.foldl (.foldl h.same fun _ _ h => h.combEnable.put.put) fun _ _ h => h.put.portApply))) h

theorem Keeps.romWait (h : Keeps s₀ s) {st : Nat} : Keeps s₀ (s.romWait st) :=
  .ite h.setUpd.same.romOptics h.setUpd.same

theorem Keeps.activate (h : Keeps s₀ s) : Keeps s₀ s.activate := h.record.setUpd.same

theorem Keeps.copyStep (h : Keeps s₀ s) : Keeps s₀ s.copyStep :=
  .ite (.ite (.same (.ite h.pkgRead.setBytes h.pkgRead)) (.updReject (.ite h.pkgRead.setBytes h.pkgRead))) h

theorem Keeps.copyDue (h : Keeps s₀ s) : Keeps s₀ s.copyDue := .ite h.copyStep h

theorem Keeps.romStart (h : Keeps s₀ s) {k : PkgInfo} {diskless : Bool} : Keeps s₀ (s.romStart k diskless) :=
  .same (.setUpd (.ite h.romLeave.bootImage.put h.romLeave.bootImage.put.put.put))

theorem Keeps.flashWritten (h : Keeps s₀ s) {n fail : Nat} : Keeps s₀ (s.flashWritten n fail) := by
  refine .ite h.copyStep (.ite h.copyStep.updReject.recErr ?_)
  split
  · exact h.copyStep
  · exact .ite h.copyStep.same.record.romStart h.copyStep.same.record.setUpd.same

theorem Keeps.chainSend (h : Keeps s₀ s) {ty p xfer : Nat} {body : List Nat} :
    Keeps s₀ (s.chainSend ty p xfer body) := by
  unfold State.chainSend
  split
  · exact h.sendOn
  · exact h

theorem Keeps.endSend (h : Keeps s₀ s) {p xfer code : Nat} : Keeps s₀ (s.endSend p xfer code) := h.chainSend

theorem Keeps.endXfer (h : Keeps s₀ s) {code : Nat} : Keeps s₀ (s.endXfer code) := by
  unfold State.endXfer
  split
  · exact h
  · exact h.same.put.endSend

theorem Keeps.verified (h : Keeps s₀ s) {k : PkgInfo} : Keeps s₀ (s.verified k) :=
  h.setResult.setUpd.put.raise.record.same

/-- Only the two outer bindings are taken out: one moved out of the match on the checks' result would have the kernel
evaluate the checks. -/
theorem Keeps.verifyDone (h : Keeps s₀ s) {tables : List (Nat × Word)} : Keeps s₀ (s.verifyDone tables) := by
  unfold State.verifyDone
  split
  · exact h
  · extract_lets +onlyGivenNames s₁ conf
    have h₁ : Keeps s₀ s₁ := h.pkgRead
    split
    next code part _ =>
    extract_lets k bc s₂
    have h₂ : Keeps s₀ s₂ := h₁.endXfer
    exact .ite h₂.updReject (.ite h₂.verified.romStart (.ite h₂.verified.activate h₂.verified))

theorem Keeps.confirm (h : Keeps s₀ s) : Keeps s₀ s.confirm := h.same.put.put.put.put.put.raise.record

theorem Keeps.updCmd (h : Keeps s₀ s) {bits : Nat} : Keeps s₀ (s.updCmd bits) := by
  unfold State.updCmd
  split
  · exact h.updStart
  · exact h.setUpd
  · exact h.activate
  · exact h.confirm
  · exact h.updDiscard.updIdle

theorem Keeps.updCtrl (h : Keeps s₀ s) {path v : Nat} : Keeps s₀ (s.updCtrl path v) := .ite h.updCmd h.recErr

theorem Keeps.stageWrite (h : Keeps s₀ s) {path lo hi : Nat} : Keeps s₀ (s.stageWrite path lo hi) :=
  .ite h.put.put h.recErrX

theorem Keeps.offerSend (h : Keeps s₀ s) : Keeps s₀ s.offerSend := by
  unfold State.offerSend
  split
  · exact h
  · exact .foldl h fun _ _ h => h.chainSend

theorem Keeps.ask (h : Keeps s₀ s) : Keeps s₀ s.ask := by
  unfold State.ask
  split
  · exact h
  · refine .ite ?_ h
    split
    · exact h
    · exact h.same.chainSend

theorem Keeps.offerIn (h : Keeps s₀ s) {p xfer len tag : Nat} : Keeps s₀ (s.offerIn p xfer len tag) :=
  .ite h (.ite h.endSend (.ite h.updStart.same.put.put.put.ask (.ite h.same.raise h)))

theorem Keeps.reqIn (h : Keeps s₀ s) {p xfer first count : Nat} : Keeps s₀ (s.reqIn p xfer first count) :=
  .ite (.foldl h fun _ _ h => h.pkgRead.chainSend) h

theorem Keeps.dataIn (h : Keeps s₀ s) {p xfer c : Nat} {l : List Nat} : Keeps s₀ (s.dataIn p xfer c l) := by
  unfold State.dataIn
  split
  · exact h
  · exact .ite (.ite h.stageBytes.same.put.setUpd h.stageBytes.same.put.ask) h

theorem Keeps.askAgain (h : Keeps s₀ s) {c : Nat} : Keeps s₀ (s.askAgain c) := by
  unfold State.askAgain
  split
  · exact .ite h.chainSend h
  · exact h

theorem Keeps.endIn (h : Keeps s₀ s) {p xfer code : Nat} : Keeps s₀ (s.endIn p xfer code) :=
  .ite (.record (.ite h.same.put.raise h.same)) h

theorem Keeps.bcTimeout (h : Keeps s₀ s) : Keeps s₀ s.bcTimeout := by
  unfold State.bcTimeout
  split
  · exact .ite h.setResult.record.updDiscard.updIdle h
  · exact h

theorem Keeps.chainRun (h : Keeps s₀ s) {p ty xfer : Nat} {args : List Nat} :
    Keeps s₀ (s.chainRun p ty xfer args) := by
  unfold State.chainRun
  split
  · exact h.offerIn
  · exact h.reqIn
  · exact h.dataIn
  · exact h.endIn

theorem Keeps.chainIn (h : Keeps s₀ s) {p ty xfer : Nat} {args : List Nat} : Keeps s₀ (s.chainIn p ty xfer args) :=
  .ite h.vc3Drop (.ite h.offer h.countIn.chainRun)

theorem Keeps.endRepeat (h : Keeps s₀ s) : Keeps s₀ s.endRepeat := by
  unfold State.endRepeat
  split
  · exact h.endSend
  · exact h

theorem Keeps.warmUpdate (h : Keeps s₀ s) : Keeps s₀ s.warmUpdate :=
  .ite h (.ite h.newRun (.ite (.ite h.pkgRead h.pkgRead.updDiscard.setUpd.same.record) (.ite h.updDiscard.same.setUpd
    h)))

/-! ### The commands of the host window, PCIe and Belfry -/

theorem Keeps.windowSource (h : Keeps s₀ s) {o : Nat} {l : List Nat} : Keeps s₀ (s.windowSource o l) := .ite h.put h

theorem ResKeeps.execBar2Write {o : Nat} {bytes : List Nat} : ResKeeps s (execBar2Write o bytes s) :=
  .live (.ite Keeps.refl Keeps.refl.windowSource.bar2Write)

theorem ResKeeps.execBar2Read {o n : Nat} : ResKeeps s (execBar2Read o n s) :=
  .live (.ite Keeps.refl Keeps.refl.bar2Read)

theorem ResKeeps.execSegBaseWrite {path k lo hi : Nat} : ResKeeps s (execSegBaseWrite path k lo hi s) :=
  .heard (.ite Keeps.refl.segWrite Keeps.refl)

theorem ResKeeps.execHandoff {path : Nat} {v : Word} : ResKeeps s (execHandoff path v s) := .heard Keeps.refl.handoffIn

theorem ResKeeps.execNotifyFifoRead : ResKeeps s (execNotifyFifoRead s) := .live Keeps.refl.notifyRead.emit

theorem ResKeeps.execMboxGo {path : Nat} : ResKeeps s (execMboxGo path s) := .heard Keeps.refl.mboxGo

theorem ResKeeps.execMsixUnmask {v : Nat} : ResKeeps s (execMsixUnmask v s) :=
  .heard (.ite Keeps.refl.msixMask (.ite Keeps.refl.msixMask Keeps.refl))

theorem Keeps.pcieReset (h : Keeps s₀ s) : Keeps s₀ s.pcieReset := h.hostReset.releaseClaims.line4

theorem ResKeeps.execPcieHotReset : ResKeeps s (execPcieHotReset s) := .live Keeps.refl.pcieReset

theorem ResKeeps.execLinkChange {rate width flit : Nat} : ResKeeps s (execLinkChange rate width flit s) :=
  .live (.ite Keeps.refl (.linkTo (.ite Keeps.refl.pcieReset (.ite Keeps.refl Keeps.refl.inc))))

theorem ResKeeps.execPcieD3hot {enter : Nat} : ResKeeps s (execPcieD3hot enter s) :=
  .live (.ite Keeps.refl.same Keeps.refl.same.msixFlush)

theorem ResKeeps.execSourceEdge {i v n : Nat} : ResKeeps s (execSourceEdge i v n s) :=
  .live (.ite (.line4 (.sampleNow (.ite Keeps.refl.setPin Keeps.refl))) (.ite Keeps.refl.setPin Keeps.refl))

theorem ResKeeps.execClaim {k : Nat} : ResKeeps s (execClaim k s) := .heard (.ite Keeps.refl.claimOwn.emit Keeps.refl)

theorem ResKeeps.execComplete {path k n : Nat} : ResKeeps s (execComplete path k n s) :=
  .heard (.ite Keeps.refl.complete Keeps.refl)

theorem ResKeeps.execSwSet {v : Word} : ResKeeps s (execSwSet v s) := .live Keeps.refl.swLatch.line4

theorem ResKeeps.execSwClr {v : Word} : ResKeeps s (execSwClr v s) := .live Keeps.refl.swLatch.line4

theorem ResKeeps.execGlobalDisable {v : Word} : ResKeeps s (execGlobalDisable v s) := .live Keeps.refl.put.line4

theorem ResKeeps.execSrcCfgWrite {i : Nat} {v : Word} : ResKeeps s (execSrcCfgWrite i v s) :=
  .live (.ite Keeps.refl.srcCfgWrite.line4 Keeps.refl)

theorem ResKeeps.execFireClear {w : Nat} : ResKeeps s (execFireClear w s) := .live (.ite Keeps.refl.wr Keeps.refl)

/-! ### The parish register (17_parish_register.md) -/

theorem Keeps.pwrs (h : Keeps s₀ s) {path a : Nat} {ws : List Nat} : Keeps s₀ (s.pwrs path a ws) := by
  induction ws generalizing s a with
  | nil => exact h
  | cons w ws ih => exact ih h.pwr

theorem Keeps.loadWindow (h : Keeps s₀ s) {path : Nat} : Keeps s₀ (s.loadWindow path) := h.pwr.pwrs

theorem Keeps.cursorWrite (h : Keeps s₀ s) {path v : Nat} : Keeps s₀ (s.cursorWrite path v) := h.pput64.loadWindow

theorem Keeps.windowAdvance (h : Keeps s₀ s) {path : Nat} : Keeps s₀ (s.windowAdvance path).2 := h.pput64.loadWindow

theorem Keeps.enterClear (h : Keeps s₀ s) {path : Nat} : Keeps s₀ (s.enterClear path) := h.enterRec.put64.logDrop

theorem Keeps.logClear (h : Keeps s₀ s) {path : Nat} {v : Word} : Keeps s₀ (s.logClear path v) :=
  .ite (.ite h.inc.raise.enterClear (.ite h.inc.raise.loseRec h.inc.raise.same)) h.recErrX

theorem Keeps.postCode (h : Keeps s₀ s) {path : Nat} {v : Word} : Keeps s₀ (s.postCode path v) :=
  .ite h.pushRec h.recErrX

theorem Keeps.traceSel (h : Keeps s₀ s) {path : Nat} {v : Word} : Keeps s₀ (s.traceSel path v) := by
  unfold State.traceSel
  extract_lets
  split
  · exact h.pwr.pwr.pwrs
  · exact h.pwr.pwr.pwrs

theorem Keeps.logRefill (h : Keeps s₀ s) : Keeps s₀ s.logRefill :=
  .ite (.enterRec (.put (.foldl h.same fun _ _ h => h.enterClear))) (.foldl h.same fun _ _ h => h.enterClear)

theorem Keeps.toFlash (h : Keeps s₀ s) {r : Rec} : Keeps s₀ (s.toFlash r) :=
  .ite (.raise (.ite (.put (.raise (.put64 (.ite h.same h)))) (.raise (.put64 (.ite h.same h))))) (.ite (.put (.raise
    (.put64 (.ite h.same h)))) (.raise (.put64 (.ite h.same h))))

theorem Keeps.pageDone (h : Keeps s₀ s) : Keeps s₀ s.pageDone :=
  .logProgram (.put (.logRefill (.put (.same (.foldl h fun _ _ h => h.toFlash)))))

theorem Keeps.pageFailed (h : Keeps s₀ s) : Keeps s₀ s.pageFailed := .ite h.inc.same h.inc.same.put.same.put.recErr

theorem Keeps.logPause (h : Keeps s₀ s) : Keeps s₀ s.logPause := h.put.put.same

theorem Keeps.logResume (h : Keeps s₀ s) : Keeps s₀ s.logResume := h.put.logProgram

theorem Keeps.logFlush (h : Keeps s₀ s) : Keeps s₀ s.logFlush :=
  .ite h (.put (.put (.same (.foldl h fun _ _ h => h.toFlash))))

theorem Keeps.logCold (h : Keeps s₀ s) : Keeps s₀ s.logCold := h.same.logDrop.put64.put64.put64.put

/-! ### Millrace (11_millrace.md) -/

theorem Keeps.flagsIf (h : Keeps s₀ s) {i : Nat} {l : List (Bool × Nat)} : Keeps s₀ (s.flagsIf i l) :=
  .foldl h fun _ _ h => .ite h.slotFlag h

theorem Keeps.output (h : Keeps s₀ s) {i : Nat} {code : Int} {low high : Bool} :
    Keeps s₀ (s.output i code low high) :=
  .ite h.modSlot.flagsIf.raise h.modSlot.flagsIf

theorem Keeps.closedStep (h : Keeps s₀ s) {i : Nat} {v : Int} : Keeps s₀ (s.closedStep i v) :=
  h.setSlot.flagsIf.output

theorem Keeps.heldStep (h : Keeps s₀ s) {i : Nat} : Keeps s₀ (s.heldStep i) := h.output

theorem Keeps.openStep (h : Keeps s₀ s) {i : Nat} : Keeps s₀ (s.openStep i) := h.output

theorem Keeps.loopLost (h : Keeps s₀ s) {i cause : Nat} : Keeps s₀ (s.loopLost i cause) := by
  unfold State.loopLost
  split
  · exact h.laneRelock.slotSettle
  · exact h.laneRelock.slotAcquire
  · split
    · exact h.slotAcquire.combUnlock
    · exact h.slotAcquire.combUnlock
    · exact h.modSlot.setWeak
    · exact h.slotAcquire.put
  · exact h.slotAcquire

theorem Keeps.loopLocked (h : Keeps s₀ s) {i : Nat} : Keeps s₀ (s.loopLocked i) := by
  unfold State.loopLocked
  split
  · exact h.modSlot.acqDone.ringLocked
  · exact .ite h.modSlot.acqDone.ringLocked h.modSlot.acqDone
  · exact h.modSlot.acqDone

theorem Keeps.lockCheck (h : Keeps s₀ s) {i : Nat} : Keeps s₀ (s.lockCheck i) :=
  .ite h.setSlot.loopLocked (.ite h.setSlot.slotFlag.loopLost h.setSlot)

theorem Keeps.keepSample (h : Keeps s₀ s) {i m : Nat} : Keeps s₀ (s.keepSample i m) := h.modSlot

theorem Keeps.freezeSlot (h : Keeps s₀ s) {i : Nat} : Keeps s₀ (s.freezeSlot i) := h.slotFlag.modSlot.inc.raise

theorem Keeps.thawCheck (h : Keeps s₀ s) {i : Nat} : Keeps s₀ (s.thawCheck i) := .ite h.setSlot h.setSlot

theorem Keeps.devOf (h : Keeps s₀ s) {i : Nat} {code pred : Int} : Keeps s₀ (s.devOf i code pred).2 :=
  .iteSnd h.freeVal h

theorem Keeps.mislock (h : Keeps s₀ s) {i : Nat} : Keeps s₀ (s.mislock i) :=
  h.slotFlag.raise.inc.record.laneRelock.raise.slotSettle

theorem Keeps.plausCheck (h : Keeps s₀ s) {i : Nat} : Keeps s₀ (s.plausCheck i) := by
  unfold State.plausCheck
  split
  · exact h
  · exact .ite h.devOf.setSlot.mislock h.devOf.setSlot

theorem Keeps.trimFrame (h : Keeps s₀ s) {i seen : Nat} : Keeps s₀ (s.trimFrame i seen) :=
  .ite (.ite h.setSlot (.ite h.setSlot h.setSlot)) h.setSlot

theorem Keeps.settleCheck (h : Keeps s₀ s) {i : Nat} : Keeps s₀ (s.settleCheck i) := .ite h.slotSettle h

theorem Keeps.holdCheck (h : Keeps s₀ s) {i : Nat} : Keeps s₀ (s.holdCheck i) := .ite h.setSlot (.ite h.setSlot h)

theorem Keeps.gapCheck (h : Keeps s₀ s) {i : Nat} {dark : Bool} : Keeps s₀ (s.gapCheck i dark) :=
  .ite h.setSlot (.ite h.setSlot h)

theorem Keeps.frameStep (h : Keeps s₀ s) {i m : Nat} : Keeps s₀ (s.frameStep i m) := by
  refine .ite h.openStep (.ite h.heldStep (.ite h.heldStep.thawCheck (.ite h.freezeSlot.heldStep ?_)))
  split
  · exact h.closedStep.lockCheck
  · exact h

theorem Keeps.endSample (h : Keeps s₀ s) {i m : Nat} : Keeps s₀ (s.endSample i m) := h.modSlot

theorem Keeps.supervise (h : Keeps s₀ s) {i : Nat} : Keeps s₀ (s.supervise i) := .ite h.plausCheck h

theorem Keeps.lineMeasured (h : Keeps s₀ s) {i m : Nat} : Keeps s₀ (s.lineMeasured i m) := .ite h.linePower h

theorem Keeps.lineIn (h : Keeps s₀ s) {i : Nat} : Keeps s₀ (s.lineIn i) := .ite h.modSlot h

theorem Keeps.lineOut (h : Keeps s₀ s) {i : Nat} : Keeps s₀ (s.lineOut i) := .ite h.modSlot.same h

theorem Keeps.linesClose (h : Keeps s₀ s) {i : Nat} {ks : List Nat} : Keeps s₀ (s.linesClose i ks) := by
  unfold State.linesClose
  exact .modSlot (.foldl h fun _ _ h => h.modSlot)

theorem Keeps.linesLost (h : Keeps s₀ s) {i : Nat} {ks : List Nat} : Keeps s₀ (s.linesLost i ks) :=
  .foldl h.linesClose fun _ _ h => h.setWeak

theorem Keeps.frameLoad (h : Keeps s₀ s) {i : Nat} : Keeps s₀ (s.frameLoad i) := .ite h.same.raise h.same

theorem Keeps.millTrigger (h : Keeps s₀ s) {u : Nat} : Keeps s₀ (s.millTrigger u) := by
  refine .foldl h fun _ _ h => ?_
  split
  · exact .ite h.modSlot.inc h.modSlot
  · exact h.modSlot

theorem Keeps.frameStart (h : Keeps s₀ s) {i m : Nat} {dark : Bool} : Keeps s₀ (s.frameStart i m dark) :=
  h.frameLoad.lineMeasured.lineIn.settleCheck.holdCheck.gapCheck.keepSample

theorem Keeps.loopFrame (h : Keeps s₀ s) {i m seen : Nat} {dark : Bool} : Keeps s₀ (s.loopFrame i m seen dark) :=
  .ite h h.descUse.descUse.frameStart.modSlot.frameStep.trimFrame.supervise.endSample.lineOut.traceAll

theorem Keeps.frameMiss (h : Keeps s₀ s) {i : Nat} : Keeps s₀ (s.frameMiss i) :=
  .ite h (.ite (.raise (.inc (.slotFlag (.ite h.frameLoad.modSlot.modSlot h.frameLoad.modSlot)))) (.ite (.linesLost
    (.modSlot (.raise (.inc (.slotFlag (.ite h.frameLoad.modSlot.modSlot h.frameLoad.modSlot)))))) (.loopLost
    (.modSlot (.raise (.inc (.slotFlag (.ite h.frameLoad.modSlot.modSlot h.frameLoad.modSlot))))))))

theorem Keeps.settleDone (h : Keeps s₀ s) {i : Nat} : Keeps s₀ (s.settleDone i) := .ite h.modSlot h

theorem Keeps.countAcqFail (h : Keeps s₀ s) {i : Nat} : Keeps s₀ (s.countAcqFail i) := h.modSlot.inc.raise

theorem Keeps.acqTimeout (h : Keeps s₀ s) {i : Nat} : Keeps s₀ (s.acqTimeout i) :=
  .ite h (.ite (.ite h h.countAcqFail.linesClose) (.ite (.ite h.countAcqFail.slotSettle.acqFailed (.ite
    h.countAcqFail.slotAcquire.acqFailed h.countAcqFail.slotAcquire)) h))

theorem Keeps.feedbackLost (h : Keeps s₀ s) {i : Nat} : Keeps s₀ (s.feedbackLost i) :=
  .ite h.linesLost (.ite h.loopLost h)

theorem Keeps.heaterLimit (h : Keeps s₀ s) {i : Nat} : Keeps s₀ (s.heaterLimit i) :=
  .ite h.countAcqFail.laneRelock.slotSettle.acqFailed h

theorem Keeps.ringHwFail (h : Keeps s₀ s) {i : Nat} : Keeps s₀ (s.ringHwFail i) := by
  unfold State.ringHwFail
  exact h.recErr.inc.laneFail.slotIdle.modSlot

theorem Keeps.loopHwFail (h : Keeps s₀ s) {i : Nat} : Keeps s₀ (s.loopHwFail i) := by
  unfold State.loopHwFail
  split
  · exact h.slotFlag.slotIdle.modSlot.ringHwFail
  · exact h.slotFlag.slotIdle.modSlot.recErr.inc.laneFail
  · exact h.slotFlag.slotIdle.modSlot

theorem Keeps.dieTelemetry (h : Keeps s₀ s) {d p t : Nat} : Keeps s₀ (s.dieTelemetry d p t) :=
  .traceAll (.ite h.same.wr h.same.wr.inc.raise.record)

theorem Keeps.engineTemps (h : Keeps s₀ s) {e : Nat} : Keeps s₀ (s.engineTemps e) :=
  .ite (.raise (.ite h.put.put.put.raise h.put.put.put)) (.ite h.put.put.put.raise h.put.put.put)

theorem Keeps.telemetry (h : Keeps s₀ s) {ps ts ports : List Nat} : Keeps s₀ (s.telemetry ps ts ports) :=
  .engineTemps (.engineTemps (.foldl (.foldl h fun _ _ h => .ite h.dieTelemetry h) fun _ _ h => h.same.traceAll))

theorem Keeps.governor (h : Keeps s₀ s) {d w : Nat} : Keeps s₀ (s.governor d w) := h.same.put.put

theorem Keeps.descWrite (h : Keeps s₀ s) {path o : Nat} {v : Word} : Keeps s₀ (s.descWrite path o v) :=
  .ite h.descUse.recErr (.ite h.descUse.recErr (.slotRefresh (.ite (.modSlot (.ite h.descUse.wr.modSlot h.descUse.wr))
    (.ite h.descUse.wr.modSlot h.descUse.wr))))

theorem Keeps.startPoints (h : Keeps s₀ s) : Keeps s₀ s.startPoints := by
  refine .foldl h.same fun _ _ h => ?_
  split
  · exact h.same
  · exact h

/-! ### Route plans, claims and the plan switch (R355-R361, R425-R444) -/

theorem Keeps.setArm (h : Keeps s₀ s) {u v : Nat} : Keeps s₀ (s.setArm u v) := h.put.put

theorem Keeps.staleClaim (h : Keeps s₀ s) {path c cmd present : Nat} : Keeps s₀ (s.staleClaim path c cmd present) :=
  h.inc.put64.wr.raise

theorem Keeps.raiseClaim (h : Keeps s₀ s) {path c : Nat} : Keeps s₀ (s.raiseClaim path c) :=
  h.put64.inc.put64.put.raise

theorem Keeps.present (h : Keeps s₀ s) {path : Nat} {v : Word} : Keeps s₀ (s.present path v) :=
  .ite h (.ite (.pwr (.put (.ite h.raiseClaim h.put64))) (.ite h.staleClaim.pwr.recErrX (.ite h.raiseClaim.pwr
    h.pwr)))

theorem Keeps.clearFree (h : Keeps s₀ s) : Keeps s₀ s.clearFree := .foldl h fun _ _ h => h.wr

theorem Keeps.fillFree (h : Keeps s₀ s) : Keeps s₀ s.fillFree := .foldl h fun _ _ h => h.wr

theorem Keeps.setStage (h : Keeps s₀ s) {v : Nat} : Keeps s₀ (s.setStage v) :=
  .ite h.put.fillFree (.ite h.put.clearFree h.put.put.clearFree)

theorem Keeps.stageRefused (h : Keeps s₀ s) {path code : Nat} : Keeps s₀ (s.stageRefused path code) :=
  h.recErrX.raiseAlways

theorem Keeps.stageAddr (h : Keeps s₀ s) {path : Nat} {v : Word} : Keeps s₀ (s.stageAddr path v) :=
  .ite h.wr h.stageRefused

theorem Keeps.stageNext (h : Keeps s₀ s) : Keeps s₀ s.stageNext := h.put

theorem Keeps.stageData (h : Keeps s₀ s) {path : Nat} {v : Word} : Keeps s₀ (s.stageData path v) :=
  .ite h.stageRefused (.ite h.stageRefused h.same.setStage.stageNext)

theorem Keeps.stageRead (h : Keeps s₀ s) {path : Nat} : Keeps s₀ (s.stageRead path).2 := .iteSnd h.stageNext h

theorem Keeps.activeRead (h : Keeps s₀ s) {path : Nat} : Keeps s₀ (s.activeRead path).2 := .pput (.iteSnd h h.freeVal)

theorem Keeps.check (h : Keeps s₀ s) : Keeps s₀ s.check.2 := .iteSnd h (.iteSnd h h.setStage.same)

theorem Keeps.armPlan (h : Keeps s₀ s) : Keeps s₀ s.armPlan.2 :=
  .iteSnd h (.iteSnd h h.put64.put.setArm.setStage.raise.same.put.put.put64)

theorem Keeps.litEnd (h : Keeps s₀ s) : Keeps s₀ s.litEnd := .ite h.same h

theorem Keeps.cancelPlan (h : Keeps s₀ s) : Keeps s₀ s.cancelPlan.2 :=
  .iteSnd h.setArm.setStage.litEnd.same.raise.put.put h

theorem Keeps.clearPlan (h : Keeps s₀ s) {path : Nat} : Keeps s₀ (s.clearPlan path).2 := .iteSnd h h.setStage.put.same

theorem Keeps.copyPlan (h : Keeps s₀ s) {path : Nat} : Keeps s₀ (s.copyPlan path).2 := .iteSnd h h.setStage.put.same

theorem Keeps.planCmd (h : Keeps s₀ s) {path bits : Nat} : Keeps s₀ (s.planCmd path bits).2 := by
  unfold State.planCmd
  split
  · exact h.check
  · exact h.armPlan
  · exact h.cancelPlan
  · exact h.clearPlan
  · exact h.copyPlan
  · exact h

theorem Keeps.cmdDone (h : Keeps s₀ s) {path bits code : Nat} : Keeps s₀ (s.cmdDone path bits code) :=
  .ite h.pwr h.pwr.recErrX.raiseAlways

theorem Keeps.planCtrl (h : Keeps s₀ s) {path : Nat} {v : Word} : Keeps s₀ (s.planCtrl path v) :=
  .ite h.staleClaim.cmdDone (.ite (.cmdDone (.ite h.raiseClaim h)) (.cmdDone (.planCmd (.ite h.raiseClaim h))))

theorem Keeps.checkDone (h : Keeps s₀ s) {us : Nat} : Keeps s₀ (s.checkDone us) := by
  unfold State.checkDone
  dsimp only
  refine .ite h ?_
  split
  · exact h.put.wr.setStage.put.raise
  · exact .raise (.setStage (.wr (.iteSnd h.put.freeVal h.put)))

theorem Keeps.drainStart (h : Keeps s₀ s) : Keeps s₀ s.drainStart := .ite (.ite h.same.put.raise h.same) h

theorem Keeps.drainCheck (h : Keeps s₀ s) : Keeps s₀ s.drainCheck := .ite (.litEnd (.ite h.put h)) h

theorem Keeps.calWatch (h : Keeps s₀ s) : Keeps s₀ s.calWatch := .foldl h fun _ _ h => h.calAbandon

theorem Keeps.calDrop (h : Keeps s₀ s) {i : Nat} : Keeps s₀ (s.calDrop i) := by
  unfold State.calDrop
  cases s.cal.lanes.find? fun c => decide (c.ring = i) with
  | none => exact h
  | some c => exact h.calAbandon

theorem Keeps.planSwap (h : Keeps s₀ s) : Keeps s₀ s.planSwap := h.same.setStage.put.put.inc.raiseAlways

theorem Keeps.switchRegs (h : Keeps s₀ s) {old t : Nat} {aff : List Nat} : Keeps s₀ (s.switchRegs old t aff) :=
  h.put.put.put64.wr.wr.wr.put.put.record

theorem Keeps.idReset (h : Keeps s₀ s) {i : Nat} : Keeps s₀ (s.idReset i) := .same (.foldl h fun _ _ h => h.wr)

theorem Keeps.retune (h : Keeps s₀ s) {i : Nat} : Keeps s₀ (s.retune i) := by
  unfold State.retune
  dsimp only
  split
  · exact .ite (.settleFrom (.ite h.calDrop.failForget.laneApply.modSlot.idReset
      h.calDrop.failForget.laneApply.modSlot)) (.ite h.calDrop.failForget.laneApply.modSlot.idReset
      h.calDrop.failForget.laneApply.modSlot)
  · exact .ite h.calDrop.failForget.laneApply.modSlot.idReset h.calDrop.failForget.laneApply.modSlot

theorem Keeps.switchOptics (h : Keeps s₀ s) {aff ret : List Nat} : Keeps s₀ (s.switchOptics aff ret) := by
  unfold State.switchOptics
  exact .discUpdate (.foldl (.same (.foldl (.foldl (.same (.foldl h fun _ _ h => h.retune))
    fun _ _ h => h.put.put.slotsRefresh) fun _ _ h => h.extraUpdate)) fun _ _ h => h.launchAll)

theorem Keeps.switchFire (h : Keeps s₀ s) : Keeps s₀ s.switchFire := h.planSwap.same.switchOptics.same

theorem Keeps.sparesEnd (h : Keeps s₀ s) {was : Bank} : Keeps s₀ (s.sparesEnd was) :=
  .foldl h fun _ _ h => .ite h.spareEnd h

theorem Keeps.guardEnd (h : Keeps s₀ s) : Keeps s₀ s.guardEnd := .ite h.same h

theorem Keeps.releaseLanes (h : Keeps s₀ s) : Keeps s₀ s.releaseLanes :=
  .ite (.foldl (.foldl (.foldl h.same fun _ _ h => h.tryRxService) fun _ _ h => h.tryTxService) fun _ _ h => .ite
    h.same.spareTake h) h

theorem Keeps.switchReport (h : Keeps s₀ s) : Keeps s₀ s.switchReport :=
  .ite (.record (.ite (.raise (.foldl h.same.put.put fun _ _ h => h.put)) (.raise (.raise (.foldl h.same.put.put
    fun _ _ h => h.put))))) h

theorem Keeps.sendNotes (h : Keeps s₀ s) : Keeps s₀ s.sendNotes := by
  refine .foldl h fun _ _ h => ?_
  split
  · exact h.same
  · exact .ite h h.same.sendPath

theorem Keeps.noteIn (h : Keeps s₀ s) {p t new x y z : Nat} : Keeps s₀ (s.noteIn p t new x y z) :=
  .ite h h.inc.put.put.put.put.put.put.raise

theorem Keeps.steerTo (h : Keeps s₀ s) {p l o : Nat} : Keeps s₀ (s.steerTo p l o) := h.setOut.inc.same

theorem Keeps.steerVisit (h : Keeps s₀ s) {p l o : Nat} : Keeps s₀ (s.steerVisit p l o) :=
  .ite (.ite (.sendBeacon (.ite h h.steerTo.sendIdle)) (.ite h h.steerTo.sendIdle)) h

theorem Keeps.burstGap (h : Keeps s₀ s) {p l : Nat} : Keeps s₀ (s.burstGap p l) := by
  unfold State.burstGap
  extract_lets
  split
  · exact .ite (.ite h.rxLeave.slotSettle h.rxLeave) h
  · exact h

/-! ### Queues, peers, failure records and the session walker (R234-R253) -/

theorem Keeps.mcount (h : Keeps s₀ s) {d i : Nat} : Keeps s₀ (s.mcount d i) := .ite h.inc h

theorem Keeps.pushFail (h : Keeps s₀ s) {d : Nat} {r : FailRec} : Keeps s₀ (s.pushFail d r) :=
  .ite h.same.raise h.same

theorem Keeps.pushArrival (h : Keeps s₀ s) {d q : Nat} : Keeps s₀ (s.pushArrival d q) := .ite h.same.raise h.same

theorem Keeps.arrivalRead (h : Keeps s₀ s) {d : Nat} : Keeps s₀ (s.arrivalRead d).2 := h.same

theorem Keeps.failRead (h : Keeps s₀ s) {d : Nat} : Keeps s₀ (s.failRead d).2 := by
  unfold State.failRead
  dsimp only
  split
  · exact h.same.put
  · exact h.same

theorem Keeps.peerTouch (h : Keeps s₀ s) {k : Nat × Nat × Nat × Nat} : Keeps s₀ (s.peerTouch k) := by
  unfold State.peerTouch
  split
  · exact h.same
  · exact h

theorem Keeps.peerSeen (h : Keeps s₀ s) {k : Nat × Nat × Nat × Nat} {epoch : Nat} : Keeps s₀ (s.peerSeen k epoch) :=
  .ite h.same.put.put.put.put.put.raise h.same

theorem Keeps.readCtl (h : Keeps s₀ s) {a n : Nat} : Keeps s₀ (s.readCtl a n).2 :=
  .iteSnd h.readRange.freeVal h.readRange

theorem Keeps.setQueueAt (h : Keeps s₀ s) {q : Nat} {d : Option QDesc} : Keeps s₀ (s.setQueueAt q d) := h.same

theorem Keeps.readConsumer (h : Keeps s₀ s) {q : Nat} : Keeps s₀ (s.readConsumer q) := by
  unfold State.readConsumer
  split
  · exact h
  · exact .ite h.readCtl.setQueueAt h.readCtl.setQueueAt.raise

theorem Keeps.queueFull (h : Keeps s₀ s) {q : Nat} : Keeps s₀ (s.queueFull q) := by
  unfold State.queueFull
  split
  · exact h
  · exact h.setQueueAt.raise

theorem Keeps.queueUse (h : Keeps s₀ s) {q : Nat} : Keeps s₀ (s.queueUse q) := by
  unfold State.queueUse
  split
  · exact .ite h.setQueueAt.recErr h
  · exact h

theorem Keeps.queueRoom (h : Keeps s₀ s) {q : Nat} : Keeps s₀ (s.queueRoom q).2 := by
  unfold State.queueRoom
  split
  · exact h
  · exact .iteSnd h h.readConsumer

theorem Keeps.queueWrite (h : Keeps s₀ s) {q : Nat} {rest : List Byte} : Keeps s₀ (s.queueWrite q rest) := by
  unfold State.queueWrite
  split
  · exact h
  · exact h.writeRange.setQueueAt.writeRange

theorem Keeps.queuePost (h : Keeps s₀ s) {q : Nat} {rest : List Byte} : Keeps s₀ (s.queuePost q rest) := by
  unfold State.queuePost
  split
  · exact h
  · exact .ite (.pushArrival (.queueWrite (.ite h.readConsumer h))) (.queueWrite (.ite h.readConsumer h))

theorem Keeps.qcmdError (h : Keeps s₀ s) {d e : Nat} : Keeps s₀ (s.qcmdError d e) := h.put

theorem Keeps.queueRead (h : Keeps s₀ s) {d q : Nat} : Keeps s₀ (s.queueRead d q) := by
  unfold State.queueRead
  dsimp only
  refine .ite h.qcmdError ?_
  split
  · exact h.queueUse.qcmdError
  · exact h.queueUse.put.put.put.put.put.put.qcmdError

theorem Keeps.queueCreate (h : Keeps s₀ s) {d q : Nat} : Keeps s₀ (s.queueCreate d q) :=
  .ite h.qcmdError (.ite h.qcmdError (.ite h.qcmdError (.ite h.setQueueAt.writeRange.qcmdError h.qcmdError)))

theorem Keeps.queueDestroy (h : Keeps s₀ s) {d q : Nat} : Keeps s₀ (s.queueDestroy d q) :=
  .ite h.qcmdError (.ite h.qcmdError h.setQueueAt.qcmdError)

theorem Keeps.queueCmd (h : Keeps s₀ s) {d op q : Nat} : Keeps s₀ (s.queueCmd d op q) := by
  refine .ite h.offer (.ite h (.ite h.put.offer ?_))
  split
  · exact h.queueRead
  · exact h.queueCreate
  · exact h.queueDestroy
  · exact h

theorem Keeps.walkPut (h : Keeps s₀ s) {d sess block gen addr : Nat} : Keeps s₀ (s.walkPut d sess block gen addr) :=
  h.same

theorem Keeps.walkFind (h : Keeps s₀ s) {d sess list gen blocks block : Nat} :
    Keeps s₀ (s.walkFind d sess list gen blocks block).2 := by
  unfold State.walkFind
  split
  · exact h.walkPut.mcount
  · exact .foldl h.mcount.readCtl fun _ _ h => .ite h.walkPut h

theorem Keeps.walkFail (h : Keeps s₀ s) {g sess code : Nat} : Keeps s₀ (s.walkFail g sess code) :=
  h.pushFail.mcount.raise

theorem Keeps.poisonWords (h : Keeps s₀ s) {g wa n : Nat} : Keeps s₀ (s.poisonWords g wa n) :=
  .foldl h fun _ _ h => h.freeVal.writeTW

theorem Keeps.walkMove (h : Keeps s₀ s) {g wa a : Nat} : Keeps s₀ (s.walkMove g wa a) :=
  .ite (.foldl h fun _ _ h => h.readPair.writeTWs) (.foldl h fun _ _ h => h.freeVal.writeTW)

theorem Keeps.walkStart (h : Keeps s₀ s) {d : Nat} : Keeps s₀ (s.walkStart d) := .ite h h.same

theorem Keeps.walkEnd (h : Keeps s₀ s) {g seq : Nat} : Keeps s₀ (s.walkEnd g seq) := h.same.walkStart

/-- The body is put in place of the function before its arguments: where the kernel compares the applied function with a
match on the words that it reads, it evaluates the read. -/
theorem Keeps.opGather (h : Keeps s₀ s) {g : Nat} {o : Op} : Keeps s₀ (opGather g o s) := by
  have body : Machine.opGather = Machine.opGather := rfl
  conv at body => rhs; delta Machine.opGather
  rw [body]
  beta_reduce
  extract_lets +onlyGivenNames w d sess first n dst
  split
  next v s₁ e =>
  have h₁ : Keeps s₀ s₁ := .snd e h.readCtl
  extract_lets +onlyGivenNames list gen blocks
  refine .ite h₁.walkFail.poisonWords (.ite h₁.walkFail.poisonWords (.foldl h₁ fun s₂ i h₂ => ?_))
  split
  next a s₃ e =>
  have h₃ : Keeps s₀ s₃ := .snd e h₂.walkFind
  split
  · exact h₃.walkMove
  · exact h₃.walkFail.poisonWords

/-! ### The receiving and the sending side of the message engines (R224-R261) -/

theorem Keeps.setPair (h : Keeps s₀ s) {path vc : Nat} {p : Pair} : Keeps s₀ (s.setPair path vc p) := h.same

theorem Keeps.setRpair (h : Keeps s₀ s) {path vc : Nat} {p : RPair} : Keeps s₀ (s.setRpair path vc p) := h.same

theorem Keeps.sendControl (h : Keeps s₀ s) {ty vc path seq code flags free : Nat} :
    Keeps s₀ (s.sendControl ty vc path seq code flags free) := by
  unfold State.sendControl
  split
  · exact .ite h.sendPath h
  · exact h

theorem Keeps.freeBuffer (h : Keeps s₀ s) {path vc : Nat} : Keeps s₀ (s.freeBuffer path vc) := by
  unfold State.freeBuffer
  dsimp only
  refine .ite h (.ite h.setRpair ?_)
  split
  · exact h.setRpair.setRpair.same
  · exact h.setRpair

theorem Keeps.ackAgain (h : Keeps s₀ s) {path vc : Nat} : Keeps s₀ (s.ackAgain path vc) := by
  unfold State.ackAgain
  extract_lets
  split
  · exact h.sendControl
  · split
    · exact h.sendControl
    · exact h

theorem Keeps.rxPut (h : Keeps s₀ s) {f : MsgFrame} {r : RxRec} : Keeps s₀ (s.rxPut f r) := h.same

theorem Keeps.rxDrop (h : Keeps s₀ s) {f : MsgFrame} : Keeps s₀ (s.rxDrop f) := h.same

theorem Keeps.rxPost (h : Keeps s₀ s) {f : MsgFrame} : Keeps s₀ (s.rxPost f).2 :=
  .iteSnd h.queueUse (.iteSnd h.queueUse.queueRoom.mcount.queuePost h.queueUse.queueRoom.queueFull)

theorem Keeps.rxNotify (h : Keeps s₀ s) {f : MsgFrame} {r : RxRec} : Keeps s₀ (s.rxNotify f r).2 :=
  .iteSnd h.queueUse.rxPut (.iteSnd h.queueUse.queueRoom.queuePost.rxDrop h.queueUse.queueRoom.queueFull.rxPut)

theorem Keeps.rsNote (h : Keeps s₀ s) {a n : Nat} : Keeps s₀ (s.rsNote a n) :=
  .ite (.foldl h.same fun _ _ h => h.add64) h

theorem Keeps.rxWrite (h : Keeps s₀ s) {vc : Nat} {f : MsgFrame} : Keeps s₀ (s.rxWrite vc f) :=
  .ite (.rsNote (.ite h.writeRange h)) (.ite h.writeRange h)

theorem Keeps.rxStream (h : Keeps s₀ s) {vc : Nat} {f : MsgFrame} : Keeps s₀ (s.rxStream vc f).2 := by
  unfold State.rxStream
  extract_lets
  split
  · exact .ite h.queueUse h
  · exact .iteSnd (.rxPut (.rxWrite (.ite h.queueUse h))) (.iteSnd (.iteSnd (.ite h.queueUse h) (.rxNotify (.rxWrite
      (.ite h.queueUse h)))) (.rxDrop (.rxWrite (.ite h.queueUse h))))
  · exact .ite h.queueUse h

theorem Keeps.rxProcess (h : Keeps s₀ s) {vc : Nat} {f : MsgFrame} : Keeps s₀ (s.rxProcess vc f).2 :=
  .iteSnd h (.iteSnd h.rxPost h.rxStream)

theorem Keeps.rxAnswer (h : Keeps s₀ s) {path vc : Nat} {f : MsgFrame} {e : RxEnd} :
    Keeps s₀ (s.rxAnswer path vc f e) := by
  unfold State.rxAnswer
  split
  · exact h.setRpair.sendControl.freeBuffer
  · exact .freeBuffer (.sendControl (.ite h.setRpair.mcount.inc h.setRpair.mcount))
  · exact h.setRpair.ackAgain

theorem Keeps.rxFrame (h : Keeps s₀ s) {vc : Nat} {f : MsgFrame} : Keeps s₀ (s.rxFrame vc f).2 :=
  .iteSnd h.inc.raise.freeBuffer (.iteSnd h.mcount.ackAgain.freeBuffer h.mcount.rxProcess.rxAnswer)

theorem Keeps.frameTake (h : Keeps s₀ s) {p vc slice : Nat} {f : MsgFrame} : Keeps s₀ (s.frameTake p vc slice f) :=
  .ite h.offer h.rxFrame

theorem Keeps.frameOffer (h : Keeps s₀ s) {p vc slice : Nat} {f : MsgFrame} : Keeps s₀ (s.frameOffer p vc slice f) :=
  .ite h.countIn.frameTake h.inc.raise.freeBuffer

theorem Keeps.setMop (h : Keeps s₀ s) {o : MOp} : Keeps s₀ (s.setMop o) := h.same

theorem Keeps.dropMop (h : Keeps s₀ s) {id : Nat} : Keeps s₀ (s.dropMop id) := h.same

theorem Keeps.endTileOp (h : Keeps s₀ s) {o : MOp} : Keeps s₀ (s.endTileOp o) := by
  unfold State.endTileOp
  split
  · exact h.completeOp
  · exact h

theorem Keeps.endMop (h : Keeps s₀ s) {o : MOp} : Keeps s₀ (s.endMop o) := by
  refine .ite ?_ (.endTileOp ?_)
  · split
    · exact h.dropMop.same
    · exact h.dropMop
  · split
    · exact h.dropMop.same
    · exact h.dropMop

theorem Keeps.dropOps (h : Keeps s₀ s) {sel : MOp → Bool} : Keeps s₀ (s.dropOps sel) := h.same

theorem Keeps.abandonStreams (h : Keeps s₀ s) {sel : MOp → Bool} : Keeps s₀ (s.abandonStreams sel) :=
  .dropOps (.foldl h fun _ _ h => h.pushFail)

theorem Keeps.reshardFails (h : Keeps s₀ s) {i code : Nat} : Keeps s₀ (s.reshardFails i code) :=
  .ite h.put.put.put.recErr.raise.reshardStop.abandonStreams.jobFails
    h.put.put.put.recErr.raise.reshardStop.abandonStreams

theorem Keeps.failMop (h : Keeps s₀ s) {id code : Nat} : Keeps s₀ (s.failMop id code) := by
  unfold State.failMop
  split
  · exact h
  · exact .ite (.reshardFails (.endMop (.ite (.setFlags (.ite h.pushFail.inc.raise h.pushFail)) (.ite
      h.pushFail.inc.raise h.pushFail)))) (.endMop (.ite (.setFlags (.ite h.pushFail.inc.raise h.pushFail)) (.ite
      h.pushFail.inc.raise h.pushFail)))

theorem Keeps.openMop (h : Keeps s₀ s) {o : MOp} : Keeps s₀ (s.openMop o) := by
  refine .ite h (.ite h.failMop (.ite h.failMop ?_))
  split
  · exact h.failMop
  · refine .ite h.setMop (.ite h ?_)
    split
    · exact h
    · exact h.peerTouch.setMop

theorem Keeps.openAll (h : Keeps s₀ s) : Keeps s₀ s.openAll := by
  refine .foldl h fun _ _ h => ?_
  split
  · exact .ite h h.openMop
  · exact h

theorem Keeps.readSource (h : Keeps s₀ s) {a n : Nat} : Keeps s₀ (s.readSource a n).2 :=
  .iteSnd h.readRange.freeVal h.readRange

theorem Keeps.buildFrame (h : Keeps s₀ s) {o : MOp} {path : Nat} : Keeps s₀ (s.buildFrame o path).2 :=
  .ite h.readSource.peerTouch h.readSource

theorem Keeps.putFrame (h : Keeps s₀ s) {e : PathEnt} {l vc : Nat} {f : MsgFrame} : Keeps s₀ (s.putFrame e l vc f) :=
  .sendOn (.ite h.same h)

theorem Keeps.frameAcked (h : Keeps s₀ s) {id epoch : Nat} {first : Bool} :
    Keeps s₀ (s.frameAcked id epoch first) := by
  unfold State.frameAcked
  split
  · exact h
  · exact .ite h.setMop h.setMop.endMop

theorem Keeps.frameRefused (h : Keeps s₀ s) {id code : Nat} : Keeps s₀ (s.frameRefused id code) := by
  unfold State.frameRefused
  split
  · exact h
  · exact .ite (.ite h.failMop h.setMop) h.failMop

theorem Keeps.localEnd (h : Keeps s₀ s) {vc : Nat} {r : Rep} {e : Option RxEnd} : Keeps s₀ (s.localEnd vc r e) := by
  unfold State.localEnd
  split
  · exact h.setPair.frameAcked
  · exact .frameRefused (.elim h.setPair fun _ => h.setPair.mcount)
  · exact h.setPair
  · exact h

theorem Keeps.countFrame (h : Keeps s₀ s) {o : MOp} {path : Nat} : Keeps s₀ (s.countFrame o path) :=
  .ite h.mcount.mcount h.mcount

theorem Keeps.launchFrame (h : Keeps s₀ s) {o : MOp} {path : Nat} {lane : Option (PathEnt × Nat)} :
    Keeps s₀ (s.launchFrame o path lane) := by
  unfold State.launchFrame
  dsimp only
  split
  · exact h.buildFrame.setPair.setMop.countFrame.putFrame
  · exact h.buildFrame.setPair.setMop.countFrame.rxFrame.localEnd

theorem Keeps.resendOn (h : Keeps s₀ s) {path vc : Nat} {e : PathEnt} {l : Nat} :
    Keeps s₀ (s.resendOn path vc e l) := by
  unfold State.resendOn
  extract_lets
  split
  · exact h.setPair.mcount.putFrame
  · exact h

theorem Keeps.takeCand (h : Keeps s₀ s) {x : Cand} : Keeps s₀ (s.takeCand x) := by
  unfold State.takeCand
  split
  · exact h.resendOn
  · exact h.launchFrame

theorem Keeps.pumpOne (h : Keeps s₀ s) : OptKeeps s₀ s.pumpOne := by
  unfold State.pumpOne
  split
  · exact .some h.failMop
  · intro t e
    obtain ⟨c, -, rfl⟩ := Option.map_eq_some_iff.1 e
    split
    · exact h.takeCand
    · exact h.same.takeCand

theorem Keeps.pumpN (h : Keeps s₀ s) {n : Nat} : Keeps s₀ (State.pumpN n s) := by
  induction n generalizing s with
  | zero => exact h
  | succ n ih =>
    unfold State.pumpN
    split
    · next t e => exact ih (h.pumpOne t e)
    · exact h

theorem Keeps.pump (h : Keeps s₀ s) : Keeps s₀ s.pump := h.pumpN

theorem Keeps.resyncAsk (h : Keeps s₀ s) {path vc : Nat} : Keeps s₀ (s.resyncAsk path vc) := by
  unfold State.resyncAsk
  split
  · exact h
  · exact .foldl h.setPair.inc fun _ _ h => h.sendOn

theorem Keeps.resyncPath (h : Keeps s₀ s) {path : Nat} : Keeps s₀ (s.resyncPath path) := h.resyncAsk.resyncAsk

theorem Keeps.newMop (h : Keeps s₀ s) {o : MOp} : Keeps s₀ (s.newMop o) := h.same

theorem Keeps.reshardNext (h : Keeps s₀ s) {i : Nat} : Keeps s₀ (s.reshardNext i) := .ite h.add64.same.newMop h

theorem Keeps.reshardGo (h : Keeps s₀ s) : Keeps s₀ s.reshardGo := .ite (.foldl h fun _ _ h => h.reshardNext) h

theorem Keeps.resendPath (h : Keeps s₀ s) {path : Nat} : Keeps s₀ (s.resendPath path) :=
  .foldl h fun _ _ h => h.setPair

theorem Keeps.resyncSend (h : Keeps s₀ s) {path vc no : Nat} : Keeps s₀ (s.resyncSend path vc no) :=
  .ite h.setRpair.sendControl h.setRpair

theorem Keeps.answersWaiting (h : Keeps s₀ s) : Keeps s₀ s.answersWaiting := by
  refine .foldl h fun _ _ h => ?_
  split
  · exact .ite h.resyncSend h
  · exact h

theorem Keeps.pathsFollow (h : Keeps s₀ s) : Keeps s₀ s.pathsFollow :=
  .foldl h.same fun _ _ h => .ite (.resyncPath (.same (.ite h.same.resendPath h.same))) h.same

theorem Keeps.msgSettle (h : Keeps s₀ s) : Keeps s₀ s.msgSettle :=
  h.calWatch.pathsFollow.answersWaiting.sendNotes.reshardGo.openAll.serveWait.pump

/-! ### The commands of a tile (R95-R114) -/

theorem ResKeeps.execNop {g : Nat} : ResKeeps s (execNop g s) := .live (Keeps.refl.issue fun _ _ h => h.advance)

theorem ResKeeps.execStall {g : Nat} : ResKeeps s (execStall g s) := .live (Keeps.refl.issue fun _ _ h => h.advance)

theorem ResKeeps.execSeti {g : Nat} : ResKeeps s (execSeti g s) := .live (Keeps.refl.issue fun _ _ h => h.setIdx.advance)

theorem ResKeeps.execLoop {g : Nat} : ResKeeps s (execLoop g s) :=
  .live (Keeps.refl.issue fun _ _ h => .ite h.tfault h.setLoops.setPc)

theorem ResKeeps.execJump {g : Nat} : ResKeeps s (execJump g s) := .live (Keeps.refl.issue fun _ _ h => h.setPc)

theorem ResKeeps.execSete {g : Nat} : ResKeeps s (execSete g s) := .live (Keeps.refl.issue fun _ _ h => h.put64.advance)

theorem ResKeeps.execHalt {g : Nat} : ResKeeps s (execHalt g s) := .live (Keeps.refl.issue fun _ _ h => h.setPc.setStop)

theorem Keeps.enterHalted (h : Keeps s₀ s) {g code ev : Nat} : Keeps s₀ (s.enterHalted g code ev) :=
  .ite h.setT.setStop.put.raise.settleJob h

theorem ResKeeps.execTileHalted {g : Nat} : ResKeeps s (execTileHalted g s) := .live Keeps.refl.enterHalted

theorem Keeps.takeToken (h : Keeps s₀ s) {g k n : Nat} : Keeps s₀ (s.takeToken g k n) := h.put

theorem ResKeeps.execWaitTok {g : Nat} : ResKeeps s (execWaitTok g s) :=
  .live (Keeps.refl.issue fun _ _ h => .ite h.takeToken.advance h.hold)

theorem ResKeeps.execWaitTokRelease {g : Nat} : ResKeeps s (execWaitTokRelease g s) :=
  .live (.ite Keeps.refl.takeToken.release Keeps.refl)

theorem ResKeeps.execWaitTime {g : Nat} : ResKeeps s (execWaitTime g s) :=
  .live (Keeps.refl.issue fun _ _ h => .ite h.advance h.hold)

theorem ResKeeps.execWaitTimeRelease {g : Nat} : ResKeeps s (execWaitTimeRelease g s) :=
  .live (.ite Keeps.refl.release Keeps.refl)

theorem ResKeeps.execBarrier {g : Nat} : ResKeeps s (execBarrier g s) := by
  unfold Machine.execBarrier
  dsimp only
  refine .live (Keeps.refl.issue fun _ _ h => ?_)
  split
  · exact .ite h.advance (.barrierMask (.hold (.ite h.same h)))
  · exact h.hold.barrierMask

theorem Keeps.rsReleased (h : Keeps s₀ s) {b : Nat} : Keeps s₀ (s.rsReleased b) := h.same

theorem Keeps.releaseAt (h : Keeps s₀ s) {b : Nat} : Keeps s₀ (s.releaseAt b) :=
  .barrierMask (.foldl h.rsReleased fun _ _ h => .ite h.release h)

theorem ResKeeps.execBarrierRelease {b : Nat} : ResKeeps s (execBarrierRelease b s) := by
  refine .live ?_
  split
  · exact .ite Keeps.refl.same.releaseAt Keeps.refl
  · exact Keeps.refl

theorem ResKeeps.execPhaseEnd {g : Nat} : ResKeeps s (execPhaseEnd g s) :=
  .live (Keeps.refl.issue fun _ _ h => h.setLoops.setPc.setStop.settleTile)

theorem ResKeeps.execFence {g : Nat} : ResKeeps s (execFence g s) :=
  .live (Keeps.refl.issue fun _ _ h => .ite h.advance h.hold)

theorem ResKeeps.execFenceRelease {g : Nat} : ResKeeps s (execFenceRelease g s) :=
  .live (.ite Keeps.refl.release Keeps.refl)

theorem ResKeeps.execWload {g : Nat} : ResKeeps s (execWload g s) := .live Keeps.refl.issueUnit

theorem ResKeeps.execMmaW {g : Nat} : ResKeeps s (execMmaW g s) := .live Keeps.refl.issueUnit

theorem ResKeeps.execMmaS {g : Nat} : ResKeeps s (execMmaS g s) := .live Keeps.refl.issueUnit

theorem ResKeeps.execAccBind {g : Nat} : ResKeeps s (execAccBind g s) := .live Keeps.refl.issueUnit

theorem ResKeeps.execAccAdd {g : Nat} : ResKeeps s (execAccAdd g s) := .live Keeps.refl.issueUnit

theorem ResKeeps.execAccOut {g : Nat} : ResKeeps s (execAccOut g s) := .live Keeps.refl.issueUnit

theorem ResKeeps.execVld {g : Nat} : ResKeeps s (execVld g s) := .live Keeps.refl.issueUnit

theorem ResKeeps.execVst {g : Nat} : ResKeeps s (execVst g s) := .live Keeps.refl.issueUnit

theorem ResKeeps.execVop {g : Nat} : ResKeeps s (execVop g s) := .live Keeps.refl.issueUnit

theorem ResKeeps.execVred {g : Nat} : ResKeeps s (execVred g s) := .live Keeps.refl.issueUnit

theorem ResKeeps.execCopy {g : Nat} : ResKeeps s (execCopy g s) := .live Keeps.refl.issueUnit

theorem ResKeeps.execPrefetch {g : Nat} : ResKeeps s (execPrefetch g s) := .live Keeps.refl.issueUnit

theorem ResKeeps.execStore {g : Nat} : ResKeeps s (execStore g s) := .live Keeps.refl.issueUnit

theorem Keeps.unitEffect (h : Keeps s₀ s) {g : Nat} {o : Op} : Keeps s₀ (unitEffect g o s) := by
  unfold Machine.unitEffect
  split
  · exact h.opWload
  · exact h.opMmaW
  · exact h.opMmaS
  · exact h.opAccBind
  · exact h.opAccAdd
  · exact h.opAccOut
  · exact h.opVld
  · exact h.opVst
  · exact h.opVop
  · exact h.opVred
  · exact h

theorem ResKeeps.execMatrixVectorComplete {g u : Nat} : ResKeeps s (execMatrixVectorComplete g u s) := by
  refine .live ?_
  split
  · exact .ite Keeps.refl.unitEffect.dequeue Keeps.refl
  · exact Keeps.refl

theorem ResKeeps.execDataMoverDone {g k : Nat} : ResKeeps s (execDataMoverDone g k s) := by
  refine .live ?_
  split
  · exact .ite Keeps.refl.opCopy.completeOp (.ite Keeps.refl.opPrefetch.completeOp (.ite Keeps.refl.opStore.completeOp
      Keeps.refl))
  · exact Keeps.refl

theorem ResKeeps.execSend {g : Nat} : ResKeeps s (execSend g s) := by
  refine .live (Keeps.refl.issue fun _ _ h => ?_)
  split
  · exact h.tfault
  · exact .ite h.hold (.advance (.same (.setQueue (.ite (.same (.ite h.audit.lateSend h.audit)) (.ite h.audit.lateSend
      h.audit)))))

theorem ResKeeps.execSendDeparted {g k : Nat} : ResKeeps s (execSendDeparted g k s) := by
  refine .live ?_
  split
  · exact .ite Keeps.refl.readTWs.same.completeOp Keeps.refl
  · exact Keeps.refl

theorem ResKeeps.execSendLanded {f : Nat} : ResKeeps s (execSendLanded f s) := by
  refine .live ?_
  split
  · exact .ite Keeps.refl (.ite (.elim Keeps.refl.same.writeTWs fun _ => Keeps.refl.same.writeTWs.bumpToken)
      Keeps.refl.same)
  · exact Keeps.refl

theorem ResKeeps.execIllegalInstr {g : Nat} : ResKeeps s (execIllegalInstr g s) :=
  .live (.ite (.ite Keeps.refl.fetch.tfault (.ite Keeps.refl Keeps.refl.fetch.tfault)) Keeps.refl)

theorem ResKeeps.execTileFaulted {g : Nat} : ResKeeps s (execTileFaulted g s) :=
  .live (.ite (.elim Keeps.refl.setT.setStop.put.raise fun _ => Keeps.refl.setT.setStop.put.raise.barrierMask)
    Keeps.refl)

theorem ResKeeps.execTileHwFail {g : Nat} : ResKeeps s (execTileHwFail g s) :=
  .live (.ite Keeps.refl.tileHwFail Keeps.refl)

theorem ResKeeps.execHaltReqDone {g : Nat} : ResKeeps s (execHaltReqDone g s) := .live Keeps.refl.enterHalted

theorem ResKeeps.execLongWait {g : Nat} : ResKeeps s (execLongWait g s) := .live (.ite Keeps.refl.auditRec Keeps.refl)

/-! ### The commands of the message engines (07_messaging.md) -/

theorem Keeps.peersSeen (h : Keeps s₀ s) {ks : List (Nat × Nat × Nat × Nat)} {epoch : Nat} :
    Keeps s₀ (s.peersSeen ks epoch) :=
  .foldl h fun _ _ h => h.peerSeen

theorem Keeps.ackIn (h : Keeps s₀ s) {path vc epoch seq : Nat} {hold : Bool} :
    Keeps s₀ (s.ackIn path vc epoch seq hold) :=
  .foldl h.peersSeen.setPair fun _ _ h => h.frameAcked

theorem Keeps.nackIn (h : Keeps s₀ s) {path vc epoch seq code : Nat} :
    Keeps s₀ (s.nackIn path vc epoch seq code) := by
  unfold State.nackIn
  extract_lets
  split
  · exact .ite h.peersSeen.mcount.inc h.peersSeen.mcount
  · exact .frameRefused (.setPair (.ite h.peersSeen.mcount.inc h.peersSeen.mcount))

theorem Keeps.resyncAnswer (h : Keeps s₀ s) {path vc no : Nat} : Keeps s₀ (s.resyncAnswer path vc no) :=
  .resyncSend (.ite h.inc h)

theorem Keeps.resyncReqIn (h : Keeps s₀ s) {path vc l no : Nat} : Keeps s₀ (s.resyncReqIn path vc l no) := by
  unfold State.resyncReqIn
  split
  · exact h
  · exact .ite h.setRpair.resyncAnswer h.setRpair

theorem Keeps.resyncIn (h : Keeps s₀ s) {path vc no free : Nat} : Keeps s₀ (s.resyncIn path vc no free) :=
  .ite h.setPair h

theorem Keeps.ackTimeout (h : Keeps s₀ s) {path vc : Nat} : Keeps s₀ (s.ackTimeout path vc) :=
  .ite (.ite h.resyncAsk h) (.ite h.setPair.resyncAsk (.foldl h.setPair fun _ _ h => h.failMop))

theorem Keeps.pathDown (h : Keeps s₀ s) {path : Nat} : Keeps s₀ (s.pathDown path) :=
  .foldl h fun _ _ h => .foldl h.setPair fun _ _ k => k.failMop

theorem Keeps.stopMops (h : Keeps s₀ s) {sel : MOp → Bool} : Keeps s₀ (s.stopMops sel) :=
  .foldl h fun _ _ h => .ite h.failMop h.setMop

theorem Keeps.haltTileMsg (h : Keeps s₀ s) {g : Nat} : Keeps s₀ (s.haltTileMsg g) := h.haltTile.stopMops

theorem Keeps.haltAllMsg (h : Keeps s₀ s) : Keeps s₀ s.haltAllMsg := h.haltAll.stopMops

theorem Keeps.quiesceEngine (h : Keeps s₀ s) {d : Nat} : Keeps s₀ (s.quiesceEngine d) := h.stopMops

theorem Keeps.dropTileMsg (h : Keeps s₀ s) {g : Nat} : Keeps s₀ (s.dropTileMsg g) := h.dropOps.same.walkStart

theorem Keeps.engineReset (h : Keeps s₀ s) {d : Nat} : Keeps s₀ (s.engineReset d) := h.stopMops.blockResetRegs.same

theorem Keeps.dropGone (h : Keeps s₀ s) : Keeps s₀ s.dropGone := by
  refine .same (.foldl h fun _ _ h => ?_)
  split
  · exact h.same
  · exact h

theorem Keeps.zeroCredits (h : Keeps s₀ s) : Keeps s₀ s.zeroCredits := .foldl h fun _ _ h => .ite h h.setPair.setPair

theorem Keeps.switchAll (h : Keeps s₀ s) {t : Nat} : Keeps s₀ (s.switchAll t) :=
  .ite h h.switchFire.same.zeroCredits.dropGone.sparesEnd.switchRegs

theorem Keeps.applyShares (h : Keeps s₀ s) : Keeps s₀ s.applyShares :=
  .foldl (.foldl (.foldl h.same fun _ _ h => h.setRpair) fun _ _ h => .foldlFst h fun _ _ k => k.same)
    fun _ _ h => .ite h h.resyncAnswer

theorem Keeps.releaseAll (h : Keeps s₀ s) : Keeps s₀ s.releaseAll := .ite h.releaseLanes.applyShares.msgSettle h

theorem Keeps.issueMsg (h : Keeps s₀ s) {g opc : Nat} : Keeps s₀ (s.issueMsg g opc) := by
  refine .msgSettle (h.issue fun _ _ h => ?_)
  split
  · exact h.tfault
  · exact .ite h.hold h.audit.setQueue.same.advance.newMop

theorem ResKeeps.execPost {g : Nat} : ResKeeps s (execPost g s) := .live Keeps.refl.issueMsg

theorem ResKeeps.execPut {g : Nat} : ResKeeps s (execPut g s) := .live Keeps.refl.issueMsg

theorem ResKeeps.execGather {g : Nat} : ResKeeps s (execGather g s) := .live Keeps.refl.issueUnit.walkStart

theorem ResKeeps.execGatherDone {g k : Nat} : ResKeeps s (execGatherDone g k s) := by
  refine .live ?_
  split
  · exact .ite (.ite Keeps.refl.opGather.completeOp.walkEnd Keeps.refl) (.ite
      Keeps.refl.pushFail.poisonWords.completeOp.walkEnd Keeps.refl)
  · exact Keeps.refl

theorem ResKeeps.execHaltReq {g : Nat} : ResKeeps s (execHaltReq g s) :=
  .live (.ite Keeps.refl.haltTileMsg.msgSettle Keeps.refl)

theorem ResKeeps.execRxPost {p : Nat} {f : MsgFrame} : ResKeeps s (execRxPost p f s) :=
  .live (.ite Keeps.refl.frameOffer.msgSettle Keeps.refl)

theorem ResKeeps.execRxStreamData {p vc : Nat} {f : MsgFrame} : ResKeeps s (execRxStreamData p vc f s) :=
  .live (.ite Keeps.refl.frameOffer.msgSettle Keeps.refl)

theorem ResKeeps.execAck {path vc epoch seq hold : Nat} : ResKeeps s (execAck path vc epoch seq hold s) :=
  .live (.ite Keeps.refl.countReturn.ackIn.msgSettle Keeps.refl)

theorem ResKeeps.execNack {path vc epoch seq code : Nat} : ResKeeps s (execNack path vc epoch seq code s) :=
  .live (.ite Keeps.refl.countReturn.nackIn.msgSettle Keeps.refl)

theorem ResKeeps.execResyncReq {path vc l no : Nat} : ResKeeps s (execResyncReq path vc l no s) :=
  .live (.ite Keeps.refl.countPath.resyncReqIn Keeps.refl)

theorem ResKeeps.execResync {path vc no free : Nat} : ResKeeps s (execResync path vc no free s) :=
  .live (.ite Keeps.refl.countReturn.resyncIn.msgSettle Keeps.refl)

theorem ResKeeps.execAckTimeout {path vc : Nat} : ResKeeps s (execAckTimeout path vc s) :=
  .live (.ite Keeps.refl.ackTimeout.msgSettle Keeps.refl)

theorem ResKeeps.execPathDown {path : Nat} : ResKeeps s (execPathDown path s) :=
  .live (.ite Keeps.refl.pathDown.msgSettle Keeps.refl)

theorem ResKeeps.execPostRetry {id : Nat} : ResKeeps s (execPostRetry id s) := by
  refine .live ?_
  split
  · exact .ite Keeps.refl.setMop.msgSettle Keeps.refl
  · exact Keeps.refl

theorem Keeps.notifyRetry (h : Keeps s₀ s) {path vc : Nat} : Keeps s₀ (s.notifyRetry path vc) := by
  unfold State.notifyRetry
  dsimp only
  split
  · exact h
  · split
    · exact h
    · refine .ite h (.ite h.rxNotify (.ite ?_ h.rxNotify.rxAnswer))
      split
      · exact h.rxNotify.rxAnswer.setPair.localEnd
      · exact h.rxNotify.rxAnswer

theorem ResKeeps.execNotifyRetry {path vc : Nat} : ResKeeps s (execNotifyRetry path vc s) :=
  .live (.ite Keeps.refl.notifyRetry.msgSettle Keeps.refl)

theorem ResKeeps.execHoldAckRepeat {path vc : Nat} : ResKeeps s (execHoldAckRepeat path vc s) :=
  .live (.ite Keeps.refl.ackAgain Keeps.refl)

theorem ResKeeps.execRxDiscard {k : Nat} : ResKeeps s (execRxDiscard k s) := by
  refine .live ?_
  split
  · exact .ite Keeps.refl Keeps.refl.same.mcount.raise
  · exact Keeps.refl

theorem Keeps.slotGrant (h : Keeps s₀ s) {d : Nat} : Keeps s₀ (s.slotGrant d) := h.same.msgSettle

theorem ResKeeps.execStreamSlotGrant {d : Nat} : ResKeeps s (execStreamSlotGrant d s) :=
  .live (.ite Keeps.refl.slotGrant Keeps.refl)

theorem ResKeeps.execQueueRead {d q : Nat} : ResKeeps s (execQueueRead d q s) :=
  .live (.ite Keeps.refl.queueCmd Keeps.refl)

theorem ResKeeps.execQueueCreate {d q : Nat} : ResKeeps s (execQueueCreate d q s) :=
  .live (.ite Keeps.refl.queueCmd Keeps.refl)

theorem ResKeeps.execQueueDestroy {d q : Nat} : ResKeeps s (execQueueDestroy d q s) :=
  .live (.ite Keeps.refl.queueCmd Keeps.refl)

theorem Keeps.doorbell (h : Keeps s₀ s) {d q : Nat} : Keeps s₀ (s.doorbell d q) :=
  .ite h.offer (.ite h.queueUse.readConsumer h)

theorem ResKeeps.execDoorbell {d q : Nat} : ResKeeps s (execDoorbell d q s) :=
  .live (.ite Keeps.refl.doorbell Keeps.refl)

theorem Keeps.sessInv (h : Keeps s₀ s) {d : Nat} : Keeps s₀ (s.sessInv d) := .ite h.offer h.same

theorem ResKeeps.execSessInv {d : Nat} : ResKeeps s (execSessInv d s) := .live (.ite Keeps.refl.sessInv Keeps.refl)

theorem Keeps.peerFlush (h : Keeps s₀ s) : Keeps s₀ s.peerFlush := h.same

theorem ResKeeps.execPeerFlush : ResKeeps s (execPeerFlush s) := .live Keeps.refl.peerFlush

theorem ResKeeps.execArrivalRead {d : Nat} : ResKeeps s (execArrivalRead d s) :=
  .live (.ite Keeps.refl.arrivalRead.emit Keeps.refl)

theorem ResKeeps.execFailARead {d : Nat} : ResKeeps s (execFailARead d s) :=
  .live (.ite Keeps.refl.failRead.emit Keeps.refl)

theorem Keeps.rxOkIn (h : Keeps s₀ s) {e : PathEnt} {bits : Nat} : Keeps s₀ (s.rxOkIn e bits) :=
  .foldl h fun _ _ h => .ite h.put.tryTxService (.ite h.put.txLeave.sendBeacon h.put)

theorem Keeps.controlIn (h : Keeps s₀ s) {path vc credits rxok : Nat} {up : PathEnt → Bool} :
    Keeps s₀ (s.controlIn path vc credits rxok up) := by
  unfold State.controlIn
  split
  · exact h
  · exact .msgSettle (.rxOkIn (.ite h.setPair h))

theorem ResKeeps.execControlWordReceive {path vc credits rxok : Nat} :
    ResKeeps s (execControlWordReceive path vc credits rxok s) :=
  .live (.ite Keeps.refl.controlIn Keeps.refl)

theorem Keeps.returnCredits (h : Keeps s₀ s) {e r : PathEnt} {l vc : Nat} : Keeps s₀ (s.returnCredits e r l vc) :=
  h.setRpair.sendCodeword

theorem ResKeeps.execControlWordSend {path vc : Nat} : ResKeeps s (execControlWordSend path vc s) := by
  refine .live ?_
  split
  · refine .ite ?_ Keeps.refl
    split
    · exact .elim Keeps.refl fun _ => Keeps.refl.returnCredits
    · exact Keeps.refl
  · exact Keeps.refl

/-! ### Loads, phase changes and reshards (06_contract.md) -/

theorem Keeps.wipeTiles (h : Keeps s₀ s) : Keeps s₀ s.wipeTiles :=
  .same (.foldl h fun _ _ h => h.wipeTile.dropTileMsg.setT.put.put.put.put)

theorem Keeps.clearTileRegs (h : Keeps s₀ s) {g : Nat} : Keeps s₀ (s.clearTileRegs g) :=
  .foldl h.put.put.setPc fun _ _ h => h.wr

theorem Keeps.meshOff (h : Keeps s₀ s) : Keeps s₀ s.meshOff := .foldl h fun _ _ h => .ite h.put.put h

theorem Keeps.reshardAbandon (h : Keeps s₀ s) : Keeps s₀ s.reshardAbandon := h.reshardStop.abandonStreams

theorem Keeps.schedOff (h : Keeps s₀ s) : Keeps s₀ s.schedOff := .foldl h fun _ _ h => h.put.put

theorem Keeps.loadBegin (h : Keeps s₀ s) : Keeps s₀ s.loadBegin :=
  .put (.put (.same (.foldl h.reshardAbandon.disarm.wipeTiles.meshOff.schedOff fun _ _ h => h.clearTileRegs)))

theorem Keeps.imgBytes (h : Keeps s₀ s) : Keeps s₀ s.imgBytes.2 := .iteSnd h.readRange h

theorem Keeps.loadRefused (h : Keeps s₀ s) {r : Refuse} : Keeps s₀ (s.loadRefused r) :=
  h.put.put.put.put.put.raise.handBack

theorem Keeps.writeStream (h : Keeps s₀ s) {g : Nat} {code : List Nat} : Keeps s₀ (s.writeStream g code) :=
  .setT (.put (.put (.foldl h fun _ _ h => h.setUnit)))

theorem Keeps.writeContents (h : Keeps s₀ s) {img : List Byte} {i : Nat} : Keeps s₀ (s.writeContents img i) :=
  h.writeRange

theorem Keeps.loadDie (h : Keeps s₀ s) {im : Image} {d : Nat} : Keeps s₀ (s.loadDie im d) :=
  .ite (.ite h.put.put64.put64.put64.put.put.put h.put.put64.put64.put64) h

theorem Keeps.loadAccepted (h : Keeps s₀ s) {img : List Byte} : Keeps s₀ (s.loadAccepted img) :=
  .handBack (.raise (.put (.same (.foldl (.put64 (.foldl (.foldl (.foldl h fun _ _ h => h.writeStream)
    fun _ _ h => h.writeContents) fun _ _ h => h.loadDie)) fun _ _ h => h.put))))

theorem Keeps.loadEnd (h : Keeps s₀ s) : Keeps s₀ s.loadEnd := by
  unfold State.loadEnd
  dsimp only
  split
  · exact h.imgBytes.loadRefused
  · exact .ite h.imgBytes h.imgBytes.loadAccepted

theorem Keeps.arm (h : Keeps s₀ s) {p t : Nat} {auto : Bool} : Keeps s₀ (s.arm p t auto) := h.put.put.put.same

theorem Keeps.reshardBegin (h : Keeps s₀ s) {d : Nat} : Keeps s₀ (s.reshardBegin d) :=
  .ite h.put.put.put.put.put h.put.put.put.put.put.put

theorem Keeps.schedBegin (h : Keeps s₀ s) {d : Nat} : Keeps s₀ (s.schedBegin d) := h.put.put.put

theorem Keeps.diesBegin (h : Keeps s₀ s) : Keeps s₀ s.diesBegin :=
  .foldl h fun _ _ h => .ite h.reshardBegin.schedBegin h

theorem Keeps.phaseStart (h : Keeps s₀ s) {p t : Nat} : Keeps s₀ (s.phaseStart p t) :=
  .ite h.reshardAbandon.put.put64.same.put64.diesBegin.put.powerTo.raise.arm
    h.reshardAbandon.put.put64.same.put64.diesBegin.put.powerTo.raise

theorem Keeps.recordLate (h : Keeps s₀ s) {l : List Nat} : Keeps s₀ (s.recordLate l) := h.put.put.put

theorem Keeps.planAndStart (h : Keeps s₀ s) {p t : Nat} : Keeps s₀ (s.planAndStart p t) :=
  .ite h.jobFails h.phaseStart

theorem Keeps.phaseChange (h : Keeps s₀ s) : Keeps s₀ s.phaseChange :=
  .ite h.put.put.jobFails.haltAllMsg (.ite h.put.put.recordLate.planAndStart (.ite h.put.put.recordLate.same
    h.put.put.recordLate.jobFails.haltAllMsg))

theorem Keeps.lateStart (h : Keeps s₀ s) {p t : Nat} : Keeps s₀ (s.lateStart p t) :=
  .ite h.put.raise.same.jobFails.haltAllMsg h.put.raise.same.planAndStart

theorem Keeps.scheduleStart (h : Keeps s₀ s) : Keeps s₀ s.scheduleStart :=
  .settleJob (.same (.same (.foldl (.foldl h fun _ _ h => .ite h.put64 h) fun _ _ h => .ite h.setT.setPc h)))

theorem Keeps.copyPiece (h : Keeps s₀ s) {d : RsDesc} {n : Nat} : Keeps s₀ (s.copyPiece d n) := h.readRange.writeRange

theorem Keeps.rsComplete (h : Keeps s₀ s) {i : Nat} : Keeps s₀ (s.rsComplete i) :=
  .ite (.raise (.put (.put (.ite (.rsReleased (.same (.put (.ite (.add64 (.foldl h fun _ _ h => h.copyPiece)) h))))
    (.same (.put (.ite (.add64 (.foldl h fun _ _ h => h.copyPiece)) h))))))) (.ite (.rsReleased (.same (.put (.ite
    (.add64 (.foldl h fun _ _ h => h.copyPiece)) h)))) (.same (.put (.ite (.add64 (.foldl h fun _ _ h => h.copyPiece))
    h))))

theorem Keeps.jobStop (h : Keeps s₀ s) : Keeps s₀ s.jobStop := h.haltAllMsg.reshardAbandon.jobEnds

theorem Keeps.jobUnload (h : Keeps s₀ s) : Keeps s₀ s.jobUnload :=
  h.reshardAbandon.disarm.wipeTiles.meshOff.schedOff.put.same.powerTo

theorem Keeps.jobStart (h : Keeps s₀ s) {path page : Nat} : Keeps s₀ (s.jobStart path page) :=
  .ite h.recErr (.ite (.arm (.ite h.phaseChange h)) (.ite h.phaseChange h))

theorem Keeps.jobLoad (h : Keeps s₀ s) : Keeps s₀ s.jobLoad := h.same.loadBegin

theorem Keeps.jobCtrl (h : Keeps s₀ s) {path page v : Nat} : Keeps s₀ (s.jobCtrl path page v) :=
  .ite h (.ite h.recErr (.ite h.jobLoad (.ite h.jobStart (.ite h.jobStop h.jobUnload))))

theorem Keeps.jobCtrlWrite (h : Keeps s₀ s) {path page v : Nat} : Keeps s₀ (s.jobCtrlWrite path page v) :=
  .ite h.same h.jobCtrl.msgSettle

/-! ### Resets (R505-R513) -/

theorem Keeps.resetPregs (h : Keeps s₀ s) {keep : Nat → Nat} : Keeps s₀ (s.resetPregs keep) := by
  refine h.trans ⟨fun ⟨regs, pregs, mem⟩ => ⟨regs, mwfFrom_filterMap _ (fun p q _ e => ?_) _ _ pregs, mem⟩, rfl⟩
  dsimp only at e
  split at e
  · cases e
  · next changed => cases e; exact ⟨rfl, changed⟩

theorem Keeps.setReady (h : Keeps s₀ s) {l : List Nat} : Keeps s₀ (s.setReady l) := .foldl h fun _ _ h => h.put

theorem Keeps.refclkFalls (h : Keeps s₀ s) : Keeps s₀ s.refclkFalls :=
  .ite (.ite h.put.inc.same.raise.put.put h.put.inc.same.raise) h

theorem Keeps.refclkRises (h : Keeps s₀ s) : Keeps s₀ s.refclkRises :=
  .ite h (.ite (.raise (.ite h.put.same.put.put h.put.same)) (.ite h.put.same.put.put h.put.same))

theorem Keeps.setEpoch (h : Keeps s₀ s) {e : Nat} : Keeps s₀ (s.setEpoch e) := h.put.put.put

theorem Keeps.countPriv (h : Keeps s₀ s) {bit : Nat} : Keeps s₀ (s.countPriv bit) := by
  unfold State.countPriv
  dsimp only
  split
  · exact h
  · exact h.inc.inc

theorem Keeps.setCauses (h : Keeps s₀ s) {mask : Nat} : Keeps s₀ (s.setCauses mask) :=
  .foldl h fun _ _ h => h.countPriv.put

theorem Keeps.setLast (h : Keeps s₀ s) {ty src : Nat} {heldOff superseded : Bool} :
    Keeps s₀ (s.setLast ty src heldOff superseded) :=
  h.wr

theorem Keeps.tryRails (h : Keeps s₀ s) : Keeps s₀ s.tryRails := .ite h.same h

theorem Keeps.setPower (h : Keeps s₀ s) {v : Nat} : Keeps s₀ (s.setPower v) := .ite h h.put.raise

theorem Keeps.clearModule (h : Keeps s₀ s) : Keeps s₀ s.clearModule := by
  unfold State.clearModule
  extract_lets old s₁ s₂ s₃
  have h₁ : Keeps s₀ s₁ := .foldl h fun _ _ h => h.put
  exact h₁.filterMem.same.same.same

theorem Keeps.clearUpdate (h : Keeps s₀ s) {early : Bool} {st : Nat} : Keeps s₀ (s.clearUpdate early st) :=
  .ite h (.ite h.same.put h.same.same)

theorem Keeps.partsApply (h : Keeps s₀ s) : Keeps s₀ s.partsApply := by
  unfold State.partsApply
  split
  · exact h
  · exact .same (.put (.foldl (.foldl h fun _ _ h => h.put) fun _ _ h => h.put))

theorem Keeps.ppsOff (h : Keeps s₀ s) : Keeps s₀ s.ppsOff := .ite h.emit h

theorem Keeps.moduleBody (h : Keeps s₀ s) : Keeps s₀ s.moduleBody :=
  .tryRails (.line4 (.belfryModule (.ite (.romOptics (.ite (.put (.ite (.setReady (.ite
    h.ppsOff.resetRegs.resetPregs.clearModule.clearUpdate.setEpoch
    h.ppsOff.resetRegs.resetPregs.clearModule.clearUpdate.setEpoch.partsApply)) (.ite
    h.ppsOff.resetRegs.resetPregs.clearModule.clearUpdate.setEpoch
    h.ppsOff.resetRegs.resetPregs.clearModule.clearUpdate.setEpoch.partsApply))) (.same (.setReady (.put (.ite
    h.ppsOff.resetRegs.resetPregs.clearModule.clearUpdate.setEpoch
    h.ppsOff.resetRegs.resetPregs.clearModule.clearUpdate.setEpoch.partsApply)))))) (.ite (.put (.ite (.setReady (.ite
    h.ppsOff.resetRegs.resetPregs.clearModule.clearUpdate.setEpoch
    h.ppsOff.resetRegs.resetPregs.clearModule.clearUpdate.setEpoch.partsApply)) (.ite
    h.ppsOff.resetRegs.resetPregs.clearModule.clearUpdate.setEpoch
    h.ppsOff.resetRegs.resetPregs.clearModule.clearUpdate.setEpoch.partsApply))) (.same (.setReady (.put (.ite
    h.ppsOff.resetRegs.resetPregs.clearModule.clearUpdate.setEpoch
    h.ppsOff.resetRegs.resetPregs.clearModule.clearUpdate.setEpoch.partsApply))))))))

theorem Keeps.moduleReset (h : Keeps s₀ s) {mask : Nat} : Keeps s₀ (s.moduleReset mask) :=
  .ite h.setCauses.moduleBody.setLast.inc.put64.record.raise h.setCauses.moduleBody.setLast.inc.put64.record

theorem Keeps.loadTables (h : Keeps s₀ s) : Keeps s₀ s.loadTables := .foldl h.same.clearDesc fun _ _ h => h.wr

theorem Keeps.markRequested (h : Keeps s₀ s) : Keeps s₀ s.markRequested := .foldl h fun _ _ h => .ite h.same h

theorem Keeps.holdOff (h : Keeps s₀ s) : Keeps s₀ s.holdOff := .ite h h.pageDone

theorem Keeps.flashBusy (h : Keeps s₀ s) : Keeps s₀ s.flashBusy.2 := .iteSnd h (.iteSnd h.freeVal h)

theorem Keeps.bootRom (h : Keeps s₀ s) : Keeps s₀ s.bootRom :=
  .ite (.record (.romWait (.ite (.record (.put (.put (.ite h.inc h)))) (.put (.put (.ite h.inc h)))))) (.ite (.romWait
    (.ite (.record (.put (.put (.ite h.inc h)))) (.put (.put (.ite h.inc h))))) (.bootImage (.ite (.record (.put (.put
    (.ite h.inc h)))) (.put (.put (.ite h.inc h))))))

theorem Keeps.clearCold (h : Keeps s₀ s) : Keeps s₀ s.clearCold :=
  h.trans ⟨fun ⟨regs, _, _⟩ => ⟨regs, mwf_nil _, mwf_nil _⟩, rfl⟩

theorem Keeps.coldReset (h : Keeps s₀ s) {mask : Nat} {superseded : Bool} : Keeps s₀ (s.coldReset mask superseded) :=
  .bootRom (.setLast (.ite (.raise (.ite (.put (.put (.put (.foldl
    h.flashBusy.ppsOff.holdOff.markRequested.setCauses.resetRegs.clearCold.logCold.setEpoch.linkSet
    fun _ _ h => h.sampleFresh)))) (.put (.put (.foldl
    h.flashBusy.ppsOff.holdOff.markRequested.setCauses.resetRegs.clearCold.logCold.setEpoch.linkSet
    fun _ _ h => h.sampleFresh))))) (.ite (.put (.put (.put (.foldl
    h.flashBusy.ppsOff.holdOff.markRequested.setCauses.resetRegs.clearCold.logCold.setEpoch.linkSet
    fun _ _ h => h.sampleFresh)))) (.put (.put (.foldl
    h.flashBusy.ppsOff.holdOff.markRequested.setCauses.resetRegs.clearCold.logCold.setEpoch.linkSet
    fun _ _ h => h.sampleFresh))))))

theorem Keeps.backupLost (h : Keeps s₀ s) {e : Nat} : Keeps s₀ (s.backupLost e) :=
  .put (.put (.same (.wr (.foldl h fun _ _ h => h.wr))))

theorem Keeps.wdtRestart (h : Keeps s₀ s) : Keeps s₀ s.wdtRestart := h.same

theorem Keeps.wdtCtrl (h : Keeps s₀ s) {v : Word} : Keeps s₀ (s.wdtCtrl v) := h.wr.same

theorem Keeps.wdtKicked (h : Keeps s₀ s) : Keeps s₀ s.wdtKicked := h.put.wdtRestart

theorem Keeps.warmReset (h : Keeps s₀ s) {src : Nat} : Keeps s₀ (s.warmReset src) :=
  .record (.put64 (.inc (.setLast (.line4 (.releaseClaims (.same (.ite h.flashBusy.same.holdOff.logPause.warmUpdate
    h.flashBusy.same.holdOff.logPause.warmUpdate.filterMem.same)))))))

/-! ### Bring-up (R517-R521) -/

theorem Keeps.setItem (h : Keeps s₀ s) {i outcome detail : Nat} : Keeps s₀ (s.setItem i outcome detail) := h.put.wr

theorem Keeps.report (h : Keeps s₀ s) {step : Nat} : Keeps s₀ (s.report step) :=
  .record (.ite h.wr.put.inc.inc.raise h.wr.put.inc.raise)

theorem Keeps.holdDark (h : Keeps s₀ s) : Keeps s₀ s.holdDark :=
  .foldl (.foldl h fun _ _ h => .ite h.setComb h) fun _ _ h => h.portApply

theorem Keeps.holdState (h : Keeps s₀ s) {step : Nat} : Keeps s₀ (s.holdState step) :=
  h.report.put.raise.holdDark.record

theorem Keeps.stepEnd (h : Keeps s₀ s) {k : Nat} : Keeps s₀ (s.stepEnd k) := .ite h.holdState h.put

theorem Keeps.owedRecs (h : Keeps s₀ s) : Keeps s₀ s.owedRecs := .ite h.same.pushRec h

theorem Keeps.factorySettings (h : Keeps s₀ s) : Keeps s₀ s.factorySettings :=
  .foldl h.resetRegs.resetPregs.same fun _ _ h => h.put.put

theorem Keeps.enterLc (h : Keeps s₀ s) {old new : Nat} : Keeps s₀ (s.enterLc old new) :=
  .record (.raise (.put (.ite h.same (.ite h.factorySettings h))))

theorem Keeps.repairRegs (h : Keeps s₀ s) {d : Nat} : Keeps s₀ (s.repairRegs d) :=
  .foldl h.put.put.put fun _ _ h => h.put.put

theorem Keeps.linkRegs (h : Keeps s₀ s) {l : List LinkFound} {d : Nat} : Keeps s₀ (s.linkRegs l d) :=
  .foldl h fun _ _ h => h.put

theorem Keeps.applyMapout (h : Keeps s₀ s) {m : Nat} : Keeps s₀ (s.applyMapout m) :=
  .put (.put (.put (.ite (.ite h.raise.same h) (.ite h.same h))))

theorem Keeps.stackUp (h : Keeps s₀ s) {m : Nat} {train bist : Bool} : Keeps s₀ (s.stackUp m train bist) :=
  .ite h.applyMapout.put.put.put.put.put (.ite h.applyMapout.put.put.put.put.put.put.put
    h.applyMapout.put.put.put.put.put.put.put.recErr)

theorem Keeps.sizeTable (h : Keeps s₀ s) {l : List LinkFound} {alive : Nat → Bool} {degraded : Bool} :
    Keeps s₀ (s.sizeTable l alive degraded) :=
  .put (.put (.put (.put (.foldl h.put.put.put fun _ _ h => h.put))))

theorem Keeps.directory (h : Keeps s₀ s) {alive : Nat → Bool} : Keeps s₀ (s.directory alive) :=
  .foldl h.put fun _ _ h => h.wr

theorem Keeps.dieUp (h : Keeps s₀ s) {f : MemFound} {d : Nat} : Keeps s₀ (s.dieUp f d) :=
  .setReady (.foldl h.repairRegs.linkRegs fun _ _ h => h.stackUp)

theorem Keeps.memItems (h : Keeps s₀ s) {alive : Nat → Bool} {b : BistAcc} {down : Nat} :
    Keeps s₀ (s.memItems alive b down) :=
  h.setItem.setItem.setItem.setItem

theorem Keeps.bistTile {b : BistAcc} (h : Keeps s₀ b.s) {x : Nat × Nat × Nat} : Keeps s₀ (bistTile b x).s := by
  unfold Machine.bistTile
  split
  split
  · exact h
  · split
    · exact h.same
    · split
      · exact h.same
      · exact h

theorem Keeps.bistTiles {l : List (Nat × Nat × Nat)} {b : BistAcc} (h : Keeps s₀ b.s) : Keeps s₀ (l.foldl Machine.bistTile b).s := by
  induction l generalizing b with
  | nil => exact h
  | cons x l ih => exact ih h.bistTile

theorem Keeps.memoryStep (h : Keeps s₀ s) {f : MemFound} : Keeps s₀ (s.memoryStep f) :=
  .belfrySettle (.stepEnd (.memItems (.put (.directory (.sizeTable (.foldl (.bistTiles h) fun _ _ h => h.dieUp))))))

theorem Keeps.enable (h : Keeps s₀ s) {a : Nat} : Keeps s₀ (s.enable a) := h.put.put

theorem Keeps.engineUp (h : Keeps s₀ s) {e code : Nat} : Keeps s₀ (s.engineUp e code) :=
  .ite h.enable.put h.enable.put.recErrX.raise.setItem

theorem Keeps.combUp (h : Keeps s₀ s) {e : Nat} {fails : Bool} : Keeps s₀ (s.combUp e fails) :=
  .ite h.enable.combEnable.combFail.setItem (.ite h.enable.combEnable.setComb.put.setComb.combLocked
    h.enable.combEnable)

theorem Keeps.opticsStep (h : Keeps s₀ s) {codes : List Nat} {ns combs : Nat} :
    Keeps s₀ (s.opticsStep codes ns combs) :=
  .ite h.setItem.stepEnd (.stepEnd (.ite (.setItem (.same (.foldl (.foldl (.enable (.slotsRefresh (.enable (.foldl
    h.setItem fun _ _ h => .ite h.put h)))) fun _ _ h => h.engineUp) fun _ _ h => h.combUp))) (.calBegin (.same
    (.foldl (.foldl (.enable (.slotsRefresh (.enable (.foldl h.setItem fun _ _ h => .ite h.put h))))
    fun _ _ h => h.engineUp) fun _ _ h => h.combUp)))))

theorem Keeps.portsUp (h : Keeps s₀ s) : Keeps s₀ s.portsUp := .foldl h fun _ _ h => h.enable.portEnable

theorem Keeps.doneStep (h : Keeps s₀ s) : Keeps s₀ s.doneStep :=
  .deferredCal (.put (.setPower (.report (.ite h h.portsUp))))

/-! ### The commands of calibration and ageing (16_calibration.md) -/

theorem Keeps.fit16 (h : Keeps s₀ s) {v : Int} : Keeps s₀ (s.fit16 v).2 := .iteSnd h h.same

theorem Keeps.headroom (h : Keeps s₀ s) {i : Nat} {c : RingCurve} : Keeps s₀ (s.headroom i c).2 := .iteSnd h.freeVal h

theorem Keeps.ringAdvice (h : Keeps s₀ s) {f : RingFound} {b c : RingCurve} {head : Int} :
    Keeps s₀ (s.ringAdvice f b c head) :=
  .ite (.advise (.ite (.advise (.ite h.advise h)) (.ite h.advise h))) (.ite (.advise (.ite h.advise h)) (.ite h.advise
    h))

theorem Keeps.ringPass (h : Keeps s₀ s) {f : RingFound} {b : RingCurve} {src : Nat} : Keeps s₀ (s.ringPass f b src) :=
  h.writeCurve.headroom.same.ringAdvice

theorem Keeps.ringFails (h : Keeps s₀ s) {i src : Nat} : Keeps s₀ (s.ringFails i src) := h.loopHwFail.raise.same

theorem Keeps.factoryBits (h : Keeps s₀ s) : Keeps s₀ s.factoryBits := .ite h.put.put.advise h

theorem Keeps.ringCalib (h : Keeps s₀ s) {f : RingFound} : Keeps s₀ (s.ringCalib f) :=
  .ite (.ite h.ringFails.same (.ringPass (.ite h.same h))) h

theorem Keeps.mziCalib (h : Keeps s₀ s) {x : Nat × Nat × Nat} : Keeps s₀ (s.mziCalib x) :=
  .ite (.ite h.loopHwFail.raise.same h.wr) h

theorem Keeps.combCalib (h : Keeps s₀ s) {x : Nat × Nat} : Keeps s₀ (s.combCalib x) := .ite h.wr h

theorem Keeps.calFinish (h : Keeps s₀ s) {f : CalFound} : Keeps s₀ (s.calFinish f) :=
  .setItem (.raise (.put (.put64 (.put (.inc (.slotsRefresh (.foldl (.foldl (.foldl h.calSlotsIdle.same.factoryBits
    fun _ _ h => h.ringCalib) fun _ _ h => h.mziCalib) fun _ _ h => h.combCalib)))))))

theorem Keeps.reOutcome (h : Keeps s₀ s) : Keeps s₀ s.reOutcome := h.put

theorem Keeps.calibration (h : Keeps s₀ s) {f : CalFound} : Keeps s₀ (s.calibration f) :=
  .ite (.stepEnd (.ite h.calFinish h)) (.ite h (.ite h.same.calFinish.reOutcome.portsUp (.ite h.calFinish.reOutcome
    h)))

theorem ResKeeps.execCalibration {rings : List RingFound} {mzis : List (Nat × Nat × Nat)} {combs : List (Nat × Nat)} :
    ResKeeps s (execCalibration rings mzis combs s) :=
  .live (.ite Keeps.refl Keeps.refl.calibration.msgSettle)

theorem Keeps.calFull (h : Keeps s₀ s) {path : Nat} : Keeps s₀ (s.calFull path) := .ite h.calBegin h.recErrX

theorem ResKeeps.execCalFull {path : Nat} : ResKeeps s (execCalFull path s) := .heard Keeps.refl.calFull

theorem Keeps.calLead (h : Keeps s₀ s) {e : PathEnt} {l : Nat} : Keeps s₀ (s.calLead e l) := by
  unfold State.calLead
  exact .modSlot (.same (.put (.setCause (.dropWait (.setTx (.setOut (.calNote (.ite h.same.setCals.put.setTx
    h.same.setCals))))))))

theorem ResKeeps.execLaneCalStart {path l : Nat} : ResKeeps s (execLaneCalStart path l s) := by
  refine .live ?_
  split
  · exact .ite Keeps.refl.calLead.msgSettle Keeps.refl
  · exact Keeps.refl

theorem Keeps.calDropEnd (h : Keeps s₀ s) {e : PathEnt} {l seq : Nat} : Keeps s₀ (s.calDropEnd e l seq) := by
  unfold State.calDropEnd
  exact h.setCals.dropChecks.setCause.setRx.modSlot

theorem ResKeeps.execCalStart {path l _epoch seq : Nat} : ResKeeps s (execCalStart path l _epoch seq s) := by
  refine .live ?_
  split
  · exact .ite Keeps.refl.countPath.calDropEnd.msgSettle Keeps.refl
  · exact Keeps.refl

theorem Keeps.treeRebias (h : Keeps s₀ s) {i : Nat} : Keeps s₀ (s.treeRebias i) := .foldl h fun _ _ h => h.wr.modSlot

theorem Keeps.calSwept (h : Keeps s₀ s) {c : LaneCal} {f : RingFound} : Keeps s₀ (s.calSwept c f) :=
  .ite h.ringFails.endCal (.slotSettle (.setCals (.ite h.ringPass.treeRebias h.ringPass)))

theorem ResKeeps.execLaneCalSweepDone {f : RingFound} : ResKeeps s (execLaneCalSweepDone f s) := by
  refine .live ?_
  split
  · exact Keeps.refl.calSwept.msgSettle
  · exact Keeps.refl

theorem ResKeeps.execCalEnd {path l _epoch seq : Nat} : ResKeeps s (execCalEnd path l _epoch seq s) :=
  .live Keeps.refl.countPath.setCals

theorem Keeps.calAborted (h : Keeps s₀ s) {c : LaneCal} : Keeps s₀ (s.calAborted c) :=
  .ite h.endCal (.ite h.endCal.slotSettle h.endCal.slotIdle)

theorem ResKeeps.execCalAbort {path l _epoch seq : Nat} : ResKeeps s (execCalAbort path l _epoch seq s) := by
  refine .live ?_
  split
  · exact .msgSettle (.calAborted (.ite Keeps.refl.countReturn Keeps.refl.countPath))
  · exact Keeps.refl

theorem ResKeeps.execLaneCalTimeout {ring : Nat} : ResKeeps s (execLaneCalTimeout ring s) := by
  refine .live ?_
  split
  · exact Keeps.refl.calAbandon.msgSettle
  · exact Keeps.refl

theorem ResKeeps.execLaneCalSkipped {path l : Nat} : ResKeeps s (execLaneCalSkipped path l s) := by
  refine .live ?_
  split
  · exact .ite Keeps.refl.inc Keeps.refl
  · exact Keeps.refl

theorem Keeps.setSteps (h : Keeps s₀ s) {d : Nat} {n : Int} : Keeps s₀ (s.setSteps d n) := h.put.put

theorem Keeps.stepUp (h : Keeps s₀ s) {d : Nat} : Keeps s₀ (s.stepUp d) := h.setSteps.same.inc.raise

theorem Keeps.stepDown (h : Keeps s₀ s) {d : Nat} : Keeps s₀ (s.stepDown d) := h.setSteps.same.inc.raise

theorem Keeps.avsStep (h : Keeps s₀ s) {d : Nat} {m : Int} : Keeps s₀ (s.avsStep d m) :=
  .ite h.stepDown (.ite (.ite h.stepUp h) (.ite (.ite h.stepUp h) (.ite h.stepDown h)))

theorem Keeps.avsCeiling (h : Keeps s₀ s) {d : Nat} {m : Int} : Keeps s₀ (s.avsCeiling d m) :=
  .ite (.advise (.ite h h.put.raise)) h.put

theorem Keeps.avsDie (h : Keeps s₀ s) {d : Nat} {m : Int} : Keeps s₀ (s.avsDie d m) :=
  .ite h.put.same.avsCeiling.avsStep h.put.same.avsCeiling

theorem ResKeeps.execAvsSample {margins : List Int} : ResKeeps s (execAvsSample margins s) :=
  .live (.foldl Keeps.refl fun _ _ h => .ite h.avsDie h)

theorem ResKeeps.execLedgerSave : ResKeeps s (execLedgerSave s) :=
  .live (.ite (.same (.foldl Keeps.refl fun _ _ h => h.same)) Keeps.refl)

theorem Keeps.errCheck (h : Keeps s₀ s) {k now thresh kind obj : Nat} : Keeps s₀ (s.errCheck k now thresh kind obj) :=
  .same (.ite h.advise h)

theorem ResKeeps.execErrorRateCheck : ResKeeps s (execErrorRateCheck s) :=
  .live (.foldl (.foldl Keeps.refl fun _ _ h => h.errCheck) fun _ _ h => h.errCheck)

theorem ResKeeps.execAdvClear : ResKeeps s (execAdvClear s) := .live Keeps.refl.setAdv

/-! ### The commands of power, reset and bring-up (R498-R527) -/

theorem ResKeeps.execHbmWipeDone : ResKeeps s (execHbmWipeDone s) :=
  .live (.ite (.foldl Keeps.refl.wipeMem fun _ _ h => h.put.put) Keeps.refl)

theorem Keeps.critRestore (h : Keeps s₀ s) {kind : Nat} {bad : Bool} : Keeps s₀ (s.critRestore kind bad) := by
  unfold State.critRestore
  split
  · exact .ite (.foldl h.same fun _ _ h => h.put) h
  · exact h.cancelPlan.setStage.same.put.put
  · exact h.loadTables
  · exact h.put64.put
  · exact h

theorem Keeps.critCorrect (h : Keeps s₀ s) {kind addr e : Nat} : Keeps s₀ (s.critCorrect kind addr e) :=
  .ite h.same.descUse h

theorem ResKeeps.execCritEcc {kind addr bad : Nat} : ResKeeps s (execCritEcc kind addr bad s) :=
  .live (.ite (.ite Keeps.refl.critCorrect (.ite Keeps.refl.wr.put64.same.critRestore.moduleReset.raise
    Keeps.refl.wr.put64.same.critRestore.moduleReset)) Keeps.refl)

theorem ResKeeps.execMillraceFatal : ResKeeps s (execMillraceFatal s) := .live (.ite Keeps.refl.moduleReset Keeps.refl)

theorem Keeps.perstPin (h : Keeps s₀ s) {low : Bool} : Keeps s₀ (s.perstPin low) := h.put.setPin.sampleNow

theorem Keeps.causeHolds (h : Keeps s₀ s) {mask : Nat} : Keeps s₀ (s.causeHolds mask) :=
  .ite (.put (.put (.ite (.same (.ite h.perstPin h)) (.ite h.perstPin h)))) (.ite (.same (.ite h.perstPin h)) (.ite
    h.perstPin h))

theorem Keeps.causedReset (h : Keeps s₀ s) {mask : Nat} : Keeps s₀ (s.causedReset mask) :=
  .ite h.causeHolds.moduleReset.pcieReset.linkTo h.causeHolds.moduleReset

theorem ResKeeps.execPerst : ResKeeps s (execPerst s) := .live Keeps.refl.causedReset

theorem ResKeeps.execPerstRelease : ResKeeps s (execPerstRelease s) := .live Keeps.refl.perstPin.line4.tryRails

theorem Keeps.setStraps (h : Keeps s₀ s) {straps : Nat} : Keeps s₀ (s.setStraps straps) := h.put

theorem Keeps.auxStart (h : Keeps s₀ s) {straps lost epoch cool : Nat} :
    Keeps s₀ (s.auxStart straps lost epoch cool) :=
  .ite (.record (.raise (.raise (.coldReset (.ite (.backupLost (.ite h.same.setStraps.put.put h.same.setStraps)) (.ite
    h.same.setStraps.put.put h.same.setStraps)))))) (.raise (.coldReset (.ite (.backupLost (.ite
    h.same.setStraps.put.put h.same.setStraps)) (.ite h.same.setStraps.put.put h.same.setStraps))))

theorem ResKeeps.execAuxStart {straps lost epoch cool : Nat} : ResKeeps s (execAuxStart straps lost epoch cool s) :=
  ⟨_, rfl, .ite ⟨Keeps.refl.auxStart.canon, rfl⟩ .refl⟩

theorem ResKeeps.execInputRange {kind : Nat} : ResKeeps s (execInputRange kind s) :=
  .live (.raise (.ite Keeps.refl.same Keeps.refl.same))

theorem ResKeeps.execOvervoltageDisconnect : ResKeeps s (execOvervoltageDisconnect s) := .live Keeps.refl.same

theorem ResKeeps.execSwitchReclose : ResKeeps s (execSwitchReclose s) := .live Keeps.refl.same

theorem ResKeeps.execMainRailsPermitted {high : Nat} : ResKeeps s (execMainRailsPermitted high s) :=
  .live Keeps.refl.same.tryRails

theorem ResKeeps.execBrownout {volts w : Nat} : ResKeeps s (execBrownout volts w s) :=
  .live Keeps.refl.causedReset.record

theorem Keeps.opticsOff (h : Keeps s₀ s) : Keeps s₀ s.opticsOff := h.resetRegs.same

theorem ResKeeps.execAuxStop : ResKeeps s (execAuxStop s) := .live Keeps.refl.logFlush.opticsOff.same

theorem Keeps.capCheck (h : Keeps s₀ s) : Keeps s₀ s.capCheck := .ite (.ite h h.put.inc.raise) (.ite h.put h)

theorem ResKeeps.execCap : ResKeeps s (execCap s) := .live Keeps.refl.freeVal.freeVal.same.capCheck

theorem ResKeeps.execCapDisengaged : ResKeeps s (execCapDisengaged s) := .live Keeps.refl.freeVal.freeVal.same.capCheck

theorem ResKeeps.execThermWarn : ResKeeps s (execThermWarn s) := .live (.ite Keeps.refl Keeps.refl.put.raise)

theorem ResKeeps.execThermWarnClear : ResKeeps s (execThermWarnClear s) := .live Keeps.refl.put

theorem ResKeeps.execThermTrip : ResKeeps s (execThermTrip s) := .live Keeps.refl.causedReset

theorem Keeps.resume (h : Keeps s₀ s) {path : Nat} {cool : Bool} : Keeps s₀ (s.resume path cool) :=
  .ite h.put.put.tryRails h.recErrX

theorem ResKeeps.execResume {path cool : Nat} : ResKeeps s (execResume path cool s) := .heard Keeps.refl.resume

theorem ResKeeps.execStayStandbyWrite {v : Nat} : ResKeeps s (execStayStandbyWrite v s) := .live Keeps.refl.put.tryRails

theorem Keeps.resetCtrl (h : Keeps s₀ s) {path v : Nat} : Keeps s₀ (s.resetCtrl path v) :=
  .ite h.moduleReset (.ite h.warmReset h.recErrX)

theorem ResKeeps.execResetCtrlModule {path key : Nat} : ResKeeps s (execResetCtrlModule path key s) :=
  .heard Keeps.refl.resetCtrl

theorem ResKeeps.execResetCtrlReeve {path key : Nat} : ResKeeps s (execResetCtrlReeve path key s) :=
  .heard Keeps.refl.resetCtrl

theorem ResKeeps.execModuleReset {causes : Nat} : ResKeeps s (execModuleReset causes s) :=
  .live (.ite Keeps.refl Keeps.refl.setCauses.causedReset)

theorem ResKeeps.execColdReset {causes : Nat} : ResKeeps s (execColdReset causes s) :=
  .live (.ite Keeps.refl Keeps.refl.setCauses.coldReset)

theorem Keeps.wdtFirst (h : Keeps s₀ s) : Keeps s₀ s.wdtFirst := h.raise.put.setCauses.warmReset.wdtRestart

theorem ResKeeps.execReeveWarmReset {wdt : Nat} : ResKeeps s (execReeveWarmReset wdt s) :=
  .live (.ite Keeps.refl.wdtFirst Keeps.refl.warmReset)

theorem Keeps.kick (h : Keeps s₀ s) {key : Nat} : Keeps s₀ (s.kick key) := .ite h.wdtKicked h

theorem ResKeeps.execWdtKick {key : Nat} : ResKeeps s (execWdtKick key s) := .live Keeps.refl.kick

theorem ResKeeps.execWdtExpired : ResKeeps s (execWdtExpired s) :=
  .live (.ite (.ite Keeps.refl.wdtFirst Keeps.refl.raise.coldReset) Keeps.refl)

theorem Keeps.lcWrite (h : Keeps s₀ s) {path key target : Nat} : Keeps s₀ (s.lcWrite path key target) :=
  .ite h.same.moduleReset h.recErrX

theorem ResKeeps.execLcWrite {path key target : Nat} : ResKeeps s (execLcWrite path key target s) :=
  .heard Keeps.refl.lcWrite

theorem ResKeeps.execLcChanged : ResKeeps s (execLcChanged s) := by
  refine .live ?_
  split
  · exact .ite Keeps.refl.same.enterLc Keeps.refl
  · exact Keeps.refl

theorem ResKeeps.execFirmware {hub sensor lc : Nat} : ResKeeps s (execFirmware hub sensor lc s) :=
  .live (.ite (.stepEnd (.ite (.ite (.ite Keeps.refl.loadTables.setReady.record.owedRecs.enterLc.setItem
    Keeps.refl.loadTables.setReady.record.owedRecs) (.setItem (.ite
    Keeps.refl.loadTables.setReady.record.owedRecs.enterLc.setItem Keeps.refl.loadTables.setReady.record.owedRecs)))
    (.setItem (.ite (.ite Keeps.refl.loadTables.setReady.record.owedRecs.enterLc.setItem
    Keeps.refl.loadTables.setReady.record.owedRecs) (.setItem (.ite
    Keeps.refl.loadTables.setReady.record.owedRecs.enterLc.setItem
    Keeps.refl.loadTables.setReady.record.owedRecs)))))) Keeps.refl)

theorem ResKeeps.execClock {ref : Nat} : ResKeeps s (execClock ref s) :=
  .live (.ite (.tryRails (.same (.put (.put (.ite Keeps.refl.refclkRises Keeps.refl.refclkFalls))))) Keeps.refl)

theorem Keeps.savedVolts (h : Keeps s₀ s) : Keeps s₀ s.savedVolts := .foldl h fun _ _ h => h.put.put

theorem ResKeeps.execMainRails {fail inlet : Nat} : ResKeeps s (execMainRails fail inlet s) :=
  .live (.ite Keeps.refl.put.put.put.put.savedVolts.owedRecs.setItem.setItem.stepEnd Keeps.refl)

theorem ResKeeps.execMemory {tiles : List (Nat × Nat × Nat)} {dead train bist : Nat} {links : List (Nat × Nat × Nat ×
    Nat)} :
    ResKeeps s (execMemory tiles dead train bist links s) :=
  .live (.ite Keeps.refl.memoryStep Keeps.refl)

theorem ResKeeps.execOptics {codes : List Nat} {ns combs : Nat} : ResKeeps s (execOptics codes ns combs s) :=
  .live (.ite Keeps.refl.opticsStep.msgSettle Keeps.refl)

theorem ResKeeps.execDone : ResKeeps s (execDone s) := .live (.ite Keeps.refl.doneStep.msgSettle Keeps.refl)

theorem ResKeeps.execBackupCharged : ResKeeps s (execBackupCharged s) := .live (.ite Keeps.refl Keeps.refl.put.raise)

/-! ### The commands of the time base, the capture units and the trigger units (08_time.md) -/

theorem ResKeeps.execIncWrite {ns frac : Nat} : ResKeeps s (execIncWrite ns frac s) := .live Keeps.refl.incWrite

theorem ResKeeps.execStepGo {v : Word} : ResKeeps s (execStepGo v s) := .live Keeps.refl.stepGo

theorem ResKeeps.execStepApply : ResKeeps s (execStepApply s) := .live (.ite Keeps.refl.tick.drainCheck Keeps.refl)

theorem ResKeeps.execSrcWrite {v : Word} : ResKeeps s (execSrcWrite v s) := .live Keeps.refl.srcWrite

theorem ResKeeps.execPpsPulse {rising merged half : Nat} : ResKeeps s (execPpsPulse rising merged half s) :=
  .live Keeps.refl.ppsPulse

theorem ResKeeps.execPpsLost : ResKeeps s (execPpsLost s) := .live Keeps.refl.ppsGone

theorem ResKeeps.execSyncLoss : ResKeeps s (execSyncLoss s) := .live (.ite Keeps.refl.sourceLost Keeps.refl)

theorem Keeps.ztOut (h : Keeps s₀ s) {ty path seq t reply : Nat} : Keeps s₀ (s.ztOut ty path seq t reply) :=
  h.sendPath

theorem ResKeeps.execZtSyncSend {path : Nat} : ResKeeps s (execZtSyncSend path s) := by
  refine .live ?_
  split
  · exact .ite Keeps.refl.same.ztOut Keeps.refl
  · exact Keeps.refl

theorem ResKeeps.execZtSyncRx {p path seq ns frac : Nat} : ResKeeps s (execZtSyncRx p path seq ns frac s) :=
  .live (.ite (.ite Keeps.refl.countIn.same.sourceBack Keeps.refl.countIn.same) Keeps.refl.countIn)

theorem ResKeeps.execZtDreqSend : ResKeeps s (execZtDreqSend s) := by
  unfold Machine.execZtDreqSend
  dsimp only
  refine .live ?_
  split
  · split
    · exact Keeps.refl.same.ztOut
    · exact Keeps.refl
  · exact Keeps.refl

theorem ResKeeps.execZtDreqRx {p seq reply : Nat} : ResKeeps s (execZtDreqRx p seq reply s) := by
  refine .live ?_
  split
  · exact .ite Keeps.refl.countIn.ztOut Keeps.refl.countIn
  · exact Keeps.refl.countIn

theorem ResKeeps.execZtDrespRx {path seq ns frac : Nat} : ResKeeps s (execZtDrespRx path seq ns frac s) := by
  unfold Machine.execZtDrespRx
  dsimp only
  refine .live ?_
  split
  · exact .ite (.ite Keeps.refl.countPath.same.servoSample Keeps.refl.countPath.same) Keeps.refl.countPath
  · exact Keeps.refl.countPath

theorem ResKeeps.execPtpSyncTx {n : Nat} : ResKeeps s (execPtpSyncTx n s) := .live (.ite Keeps.refl.ptpOut Keeps.refl)

theorem ResKeeps.execPtpAnnounceTx {n : Nat} : ResKeeps s (execPtpAnnounceTx n s) :=
  .live (.ite Keeps.refl.ptpOut Keeps.refl)

theorem ResKeeps.execPtpSyncRx {n dom master ns frac : Nat} : ResKeeps s (execPtpSyncRx n dom master ns frac s) :=
  .live (Keeps.refl.mgmtFrame fun _ h => h.ptpSyncIn)

theorem ResKeeps.execPtpDelayReqRx {n dom slave : Nat} : ResKeeps s (execPtpDelayReqRx n dom slave s) :=
  .live (Keeps.refl.mgmtFrame fun _ h => .ite h.ptpOut h)

theorem ResKeeps.execPtpDelayRespRx {n dom master ns frac : Nat} :
    ResKeeps s (execPtpDelayRespRx n dom master ns frac s) :=
  .live (Keeps.refl.mgmtFrame fun _ h => h.ptpRespIn)

theorem ResKeeps.execCaptureEdge {c half rising merged : Nat} : ResKeeps s (execCaptureEdge c half rising merged s) :=
  .live (.ite Keeps.refl.capture Keeps.refl)

theorem ResKeeps.execCapTsRead {c : Nat} : ResKeeps s (execCapTsRead c s) :=
  .live (.ite Keeps.refl.capRead.emit Keeps.refl)

theorem Keeps.trigBarriers (h : Keeps s₀ s) {u : Nat} : Keeps s₀ (s.trigBarriers u) :=
  .foldl h fun _ _ h => h.releaseAt

theorem Keeps.trigNext (h : Keeps s₀ s) {u : Nat} : Keeps s₀ (s.trigNext u) := .ite h.setArm h.put64.incBy

theorem Keeps.trigActs (h : Keeps s₀ s) {u : Nat} : Keeps s₀ (s.trigActs u) :=
  .ite (.emit (.same (.ite h.trigBarriers.millTrigger.raiseAlways (.ite h.trigBarriers.millTrigger.raise
    h.trigBarriers.millTrigger)))) (.ite h.trigBarriers.millTrigger.raiseAlways (.ite h.trigBarriers.millTrigger.raise
    h.trigBarriers.millTrigger))

theorem Keeps.trigFire (h : Keeps s₀ s) {u : Nat} : Keeps s₀ (s.trigFire u) :=
  .ite h.inc.trigNext.trigActs.switchAll h.inc.trigNext.trigActs

theorem Keeps.fireSwitch (h : Keeps s₀ s) : Keeps s₀ s.fireSwitch := .ite h.trigFire h

theorem ResKeeps.execTriggerFire {u : Nat} : ResKeeps s (execTriggerFire u s) :=
  .live (.ite Keeps.refl.trigFire.msgSettle Keeps.refl)

theorem Keeps.trigBusy (h : Keeps s₀ s) {path u : Nat} : Keeps s₀ (s.trigBusy path u) := h.recErr

theorem Keeps.trigReserved (h : Keeps s₀ s) {path : Nat} : Keeps s₀ (s.trigReserved path) := h.recErrX

theorem Keeps.trigBits (h : Keeps s₀ s) {u : Nat} {v : Word} : Keeps s₀ (s.trigBits u v) := h.put.put

theorem Keeps.trigCtrl (h : Keeps s₀ s) {path u : Nat} {v : Word} : Keeps s₀ (s.trigCtrl path u v) :=
  .ite h.trigReserved (.ite (.ite (.ite h h.trigBusy) h.setArm.trigBits) (.ite h.trigBits.setArm h.trigBits))

theorem Keeps.trigTime (h : Keeps s₀ s) {path u v : Nat} : Keeps s₀ (s.trigTime path u v) :=
  .ite h.trigReserved (.ite h.trigBusy h.put64)

theorem Keeps.trigPeriod (h : Keeps s₀ s) {path u : Nat} {v : Word} : Keeps s₀ (s.trigPeriod path u v) :=
  .ite h.trigReserved (.ite h.trigBusy h.put)

theorem ResKeeps.execTriggerCtrlWrite {path u : Nat} {v : Word} : ResKeeps s (execTriggerCtrlWrite path u v s) :=
  .heard (.ite Keeps.refl.trigCtrl Keeps.refl)

theorem ResKeeps.execPpsOutEnd : ResKeeps s (execPpsOutEnd s) := .live (.ite Keeps.refl.same.emit Keeps.refl)

/-! ### Reads whose value is computed from the state of a block -/

theorem Keeps.freeBits (h : Keeps s₀ s) {v m : Nat} : Keeps s₀ (s.freeBits v m).2 := .iteSnd h h.freeVal

theorem Keeps.fibrePower (h : Keeps s₀ s) {p v : Nat} : Keeps s₀ (s.fibrePower p v).2 := .iteSnd h.freeVal.freeVal h

theorem Keeps.ffeView (h : Keeps s₀ s) {p half : Nat} : Keeps s₀ (s.ffeView p half).2 := .iteSnd h.freeVal.same h

theorem Keeps.portRead (h : Keeps s₀ s) {p off v : Nat} : Keeps s₀ (s.portRead p off v).2 :=
  .iteSnd h.fibrePower (.iteSnd h.ffeView (.iteSnd h.ffeView h))

theorem Keeps.ringView (h : Keeps s₀ s) {i off : Nat} : Keeps s₀ (s.ringView i off).2 :=
  .iteSnd h (.iteSnd h (.iteSnd h (.iteSnd h.fit16.fit16 h.fit16)))

theorem Keeps.belfryView (h : Keeps s₀ s) {path off v : Nat} : Keeps s₀ (s.belfryView path off v).2 :=
  .iteSnd h (.iteSnd h (.iteSnd h (.iteSnd (.line4 (.iteSnd h.claimOwn h.claimRead)) (.iteSnd h (.iteSnd h (.iteSnd h
    h))))))

theorem Keeps.mengView (h : Keeps s₀ s) {d off v : Nat} : Keeps s₀ (s.mengView d off v).2 :=
  .iteSnd h (.iteSnd h (.iteSnd h.arrivalRead (.iteSnd h.failRead (.iteSnd h h))))

theorem Keeps.timeView (h : Keeps s₀ s) {off v : Nat} : Keeps s₀ (s.timeView off v).2 :=
  .iteSnd h (.iteSnd h (.iteSnd h (.iteSnd h (.iteSnd h (.iteSnd h.capRead h)))))

theorem Keeps.tileView (h : Keeps s₀ s) {g off v : Nat} : Keeps s₀ (s.tileView g off v).2 :=
  .iteSnd h.wr (.iteSnd h (.iteSnd h.freeVal.add64 h))

theorem Keeps.view (h : Keeps s₀ s) {path : Nat} {ty : PageTy} {inst off v : Nat} :
    Keeps s₀ (s.view path ty inst off v).2 := by
  unfold State.view
  split
  · exact h.tileView
  · exact h
  · exact .iteSnd h h
  · exact h.mengView
  · exact h.timeView
  · exact .iteSnd h (.iteSnd h h)
  · exact h
  · exact h.portRead
  · exact .iteSnd h (.iteSnd h (.iteSnd h.stageRead (.iteSnd h.activeRead (.iteSnd h h))))
  · exact .iteSnd h h
  · exact .iteSnd h h
  · exact .iteSnd h (.iteSnd h (.iteSnd h (.iteSnd h.flagRead (.iteSnd h h))))
  · exact .iteSnd h.notifyRead h
  · exact .iteSnd h h
  · exact h.belfryView
  · exact h
  · exact .iteSnd h h
  · exact .iteSnd h h
  · exact .iteSnd h.ringView h
  · exact .iteSnd h h
  · exact .iteSnd h.windowAdvance h
  · exact .iteSnd h h
  · exact h

/-! ### Register accesses (R3, R4, R7, R23-R33) -/

theorem Keeps.unmapped (h : Keeps s₀ s) {path a : Nat} : Keeps s₀ (s.unmapped path a) := h.recErr

theorem Keeps.portReset (h : Keeps s₀ s) {p : Nat} : Keeps s₀ (s.portReset p) :=
  h.put.portEnable.blockResetRegs.failForget.same.same

theorem Keeps.blockBody (h : Keeps s₀ s) {ty : PageTy} {inst : Nat} : Keeps s₀ (s.blockBody ty inst) := by
  unfold State.blockBody
  split
  · exact h.tileReset.dropTileMsg
  · exact h.engineReset
  · exact h.blockResetRegs.abandonStreams
  · exact h.ppsOff.resetRegs
  · exact h.portReset
  · exact h.belfryBlock.line4
  · exact h.belfryBlock.line4
  · exact h.belfryBlock.line4
  · exact h.belfryBlock.line4
  · exact h

theorem Keeps.blockReset (h : Keeps s₀ s) {b : Nat} {ty : PageTy} {inst : Nat} : Keeps s₀ (s.blockReset b ty inst) :=
  .msgSettle (.put (.same (.foldl h.blockBody fun _ _ h => h.same)))

theorem Keeps.enableActs (h : Keeps s₀ s) {ty : PageTy} {inst : Nat} {on : Bool} :
    Keeps s₀ (s.enableActs ty inst on) := by
  unfold State.enableActs
  split
  · exact h.portEnable
  · exact h.combEnable
  · exact h.engineApply
  · exact h.slotsRefresh
  · exact .ite h.belfryOn h
  · exact .ite h.belfryOn h
  · exact .ite h.belfryOn h
  · exact .ite h.belfryOn h
  · exact .ite h h.bcTimeout
  · exact .ite h h.put
  · exact h

theorem Keeps.quiesceActs (h : Keeps s₀ s) {ty : PageTy} {inst : Nat} : Keeps s₀ (s.quiesceActs ty inst) := by
  unfold State.quiesceActs
  split
  · exact h.abandonWait
  · exact h.quiesceEngine
  · exact h.same
  · exact h

theorem Keeps.meshRelease (h : Keeps s₀ s) {d : Nat} : Keeps s₀ (s.meshRelease d) :=
  .same (.foldl h fun _ _ h => .setQueue (.foldl h fun _ _ k => k.lateSend))

theorem Keeps.serveOne (h : Keeps s₀ s) {x : Offer} : Keeps s₀ (s.serveOne x) := by
  unfold State.serveOne
  split
  · exact h.hostWrite
  · exact h.hostRead
  · exact h.handoffIn
  · exact h.frameTake
  · exact h.put.queueCmd
  · exact h.doorbell
  · exact h.sessInv
  · exact h.chainIn
  · exact h.stagePut

theorem Keeps.serveOffers (h : Keeps s₀ s) : Keeps s₀ s.serveOffers := .foldl h.same fun _ _ h => h.serveOne

theorem Keeps.resumeActs (h : Keeps s₀ s) {ty : PageTy} {inst : Nat} : Keeps s₀ (s.resumeActs ty inst) := by
  unfold State.resumeActs
  split
  · exact .serveOffers (.foldl h.meshRelease fun _ _ h => h.walkStart)
  · exact h.walkStart.serveOffers
  · exact h.serveOffers
  · exact h.serveWait
  · exact h

theorem Keeps.blockResetEnd (h : Keeps s₀ s) {b : Nat} {ty : PageTy} {inst : Nat} :
    Keeps s₀ (s.blockResetEnd b ty inst) :=
  .msgSettle (.resumeActs (.ite h.put.put.belfryOn.line4 h.put.put))

theorem Keeps.enableWrite (h : Keeps s₀ s) {path b : Nat} {ty : PageTy} {inst : Nat} {v free : Bool} :
    Keeps s₀ (s.enableWrite path b ty inst v free) :=
  .ite h (.ite (.msgSettle (.ite h.put.enableActs.line4.serveOffers h.put.enableActs.line4)) (.ite
    h.put.enableActs.msgSettle h.recErrX))

theorem Keeps.quiesceWrite (h : Keeps s₀ s) {path b : Nat} {ty : PageTy} {inst : Nat} {v : Bool} :
    Keeps s₀ (s.quiesceWrite path b ty inst v) :=
  .ite (.ite h.recErrX (.ite h h.put.quiesceActs.msgSettle)) (.ite h.put.put.resumeActs.msgSettle h)

theorem Keeps.resetWrite (h : Keeps s₀ s) {path b : Nat} {ty : PageTy} {inst : Nat} {free : Bool} :
    Keeps s₀ (s.resetWrite path b ty inst free) :=
  .ite h.recErrX (.ite h.blockReset h.recErrX)

theorem Keeps.pageCtrl (h : Keeps s₀ s) {path b : Nat} {ty : PageTy} {inst : Nat} {v : Word} :
    Keeps s₀ (s.pageCtrl path b ty inst v) :=
  .ite h (.ite h.blockReset (.ite h.enableWrite.quiesceWrite.resetWrite h.enableWrite.quiesceWrite))

theorem Keeps.evtSet (h : Keeps s₀ s) {b : Nat} {ty : PageTy} {v : Word} : Keeps s₀ (s.evtSet b ty v) :=
  .foldl h fun _ _ h => .ite h.raiseAlways h

theorem Keeps.errClear (h : Keeps s₀ s) {b : Nat} {v : Word} : Keeps s₀ (s.errClear b v) := .ite h.wr.put h.wr

theorem Keeps.headerWrite (h : Keeps s₀ s) {path b off : Nat} {ty : PageTy} {inst : Nat} {v : Word} :
    Keeps s₀ (s.headerWrite path b off ty inst v) :=
  .ite h.pageCtrl (.ite h.wr (.ite h.wr (.ite h.evtSet (.ite h.errClear h))))

theorem Keeps.plainWrite (h : Keeps s₀ s) {path : Nat} {ty : PageTy} {a : Nat} {r : RegRow} {v : Word} :
    Keeps s₀ (s.plainWrite path ty a r v) :=
  .ite h.pwr h.wr

theorem Keeps.plainPair (h : Keeps s₀ s) {path : Nat} {ty : PageTy} {a : Nat} {lo hi : Word} :
    Keeps s₀ (s.plainPair path ty a lo hi) := by
  unfold State.plainPair
  split
  · exact h.plainWrite.plainWrite
  · exact h

theorem Keeps.pairWrite (h : Keeps s₀ s) {path : Nat} {ty : PageTy} {a : Nat} {lo hi : Word} :
    Keeps s₀ (s.pairWrite path ty a lo hi) := by
  unfold State.pairWrite
  split
  · exact .ite h.incWrite (.ite h.stepBusy h.plainPair)
  · exact h.trigTime
  · exact .ite h h.plainPair
  · exact h.segWrite
  · exact h.cursorWrite
  · exact h.stageWrite
  · exact h.plainPair

theorem Keeps.tileCtrlWrite (h : Keeps s₀ s) {g : Nat} {v : Word} : Keeps s₀ (s.tileCtrlWrite g v) :=
  .ite h.put.haltTileMsg.msgSettle h.put

theorem Keeps.qcmdWrite (h : Keeps s₀ s) {d : Nat} {v : Word} : Keeps s₀ (s.qcmdWrite d v) := h.queueCmd

theorem Keeps.ppsCtrlWrite (h : Keeps s₀ s) {v : Word} : Keeps s₀ (s.ppsCtrlWrite v) := .ite h.wr h.wr.emit

theorem Keeps.portCfgWrite (h : Keeps s₀ s) {p : Nat} {v : Word} : Keeps s₀ (s.portCfgWrite p v) :=
  .ite h.put.put.relaunch.msgSettle h.put.put

theorem Keeps.powerCtrlWrite (h : Keeps s₀ s) {path : Nat} {v : Word} : Keeps s₀ (s.powerCtrlWrite path v) :=
  .ite h.put.put.tryRails.capCheck.freeVal.resume h.put.put.tryRails.capCheck

theorem Keeps.hubWrite (h : Keeps s₀ s) {path : Nat} {ty : PageTy} {inst off a : Nat} {v : Word} :
    OptKeeps s₀ (s.hubWrite path ty inst off a v) := by
  unfold State.hubWrite
  split
  · exact .ite (.some h.put) .none
  · exact .ite (.some h.srcWrite) (.ite (.ite (.some h.stepBusy) .none) (.ite (.some h.stepGo) .none))
  · exact .ite (.some h.ppsCtrlWrite) (.ite (.some h.trigCtrl) (.ite (.some h.trigPeriod) .none))
  · exact .ite (.some h.put.line4) (.ite (.some h.swLatch.line4) (.ite (.some h.swLatch.line4) (.ite (.some
      h.wr.line4) (.ite (.some h.complete) .none))))
  · exact .ite (.some h.srcCfgWrite.line4) (.some h.wr)
  · exact .ite (.some h.overrunClear) .none
  · exact .ite (.some h.resetCtrl) (.ite (.some h.wdtCtrl) (.ite (.some h.kick) .none))
  · exact .ite (.some h.powerCtrlWrite) (.ite (.some h.lcWrite) .none)
  · exact .none

theorem Keeps.blockWrite (h : Keeps s₀ s) {path : Nat} {ty : PageTy} {inst off b : Nat} {v : Word} :
    OptKeeps s₀ (s.blockWrite path ty inst off b v) := by
  unfold State.blockWrite
  split
  · exact .ite (.some h.tileCtrlWrite) (.ite (.some h.flagsWrite) .none)
  · exact .ite (.some h.jobCtrlWrite) .none
  · exact .ite (.some (.ite h.peerFlush h)) .none
  · exact .ite (.some h.qcmdWrite) (.ite (.some h.doorbell) (.ite (.some (.ite h.sessInv h)) .none))
  · exact .ite (.some (.ite h.put.combArm.msgSettle h.put)) (.ite (.some h.wr) .none)
  · exact .ite (.some h.portCfgWrite) .none
  · exact .ite (.some h.planCtrl.msgSettle) (.ite (.some h.stageAddr) (.ite (.some h.stageData) .none))
  · exact .ite (.some h.slotFlagClear) (.ite (.some h.traceArm) .none)
  · exact .ite (.some h.present) .none
  · exact .ite (.some h.handoffIn) (.ite (.some (.ite h.mboxGo h)) (.ite (.some h.put) .none))
  · exact .ite (.some (.ite h.put.calFull h.put)) .none
  · exact .ite (.some (.ite h.put.setAdv h.put)) .none
  · exact .ite (.some h.logClear) (.ite (.some h.postCode) (.ite (.some h.traceSel) .none))
  · exact .ite (.some h.updCtrl) .none
  · exact .none

theorem Keeps.rowWrite (h : Keeps s₀ s) {path : Nat} {ty : PageTy} {inst b off : Nat} {r : RegRow} {v : Word} :
    Keeps s₀ (s.rowWrite path ty inst b off r v) := by
  unfold State.rowWrite
  split
  · exact .ite h (.ite h.stepBusy h.same)
  · exact .ite h h.pairWrite
  · extract_lets a
    split
    · next t e => exact h.hubWrite t e
    · split
      · next t e => exact h.blockWrite t e
      · exact h.plainWrite

theorem Keeps.writeReg (h : Keeps s₀ s) {path a : Nat} {v : Word} : Keeps s₀ (s.writeReg path a v) := by
  refine .ite h.unmapped ?_
  split
  · exact h
  · refine .ite h.descWrite (.ite h (.ite h.headerWrite ?_))
    split
    · exact h
    · exact h.rowWrite

theorem Keeps.rowValue (h : Keeps s₀ s) {path : Nat} {ty : PageTy} {inst a : Nat} :
    Keeps s₀ (s.rowValue path ty inst a).2 :=
  h.view.freeBits

theorem Keeps.shadowPair (h : Keeps s₀ s) {path : Nat} {ty : PageTy} {inst a : Nat} :
    Keeps s₀ (s.shadowPair path ty inst a) :=
  .ite h.rowValue.same.same h.rowValue.same

theorem Keeps.rowRead (h : Keeps s₀ s) {path : Nat} {ty : PageTy} {inst a : Nat} {r : RegRow} :
    Keeps s₀ (s.rowRead path ty inst a r).2 := by
  refine .iteSnd h.rowValue.shadowPair (.iteSnd ?_ h.rowValue)
  extract_lets k
  split
  · exact h.same
  · exact h.rowValue

theorem Keeps.headerRowRead (h : Keeps s₀ s) {path b off : Nat} {ty : PageTy} {inst : Nat} :
    Keeps s₀ (s.headerRowRead path b off ty inst).2 := by
  refine .iteSnd h.same (.iteSnd ?_ h)
  split
  · exact h.same
  · exact h

theorem Keeps.readReg (h : Keeps s₀ s) {path a : Nat} : Keeps s₀ (s.readReg path a).2 := by
  refine .iteSnd h.unmapped ?_
  split
  · exact h
  · refine .iteSnd h.descUse (.iteSnd h (.iteSnd h.headerRowRead ?_))
    split
    · exact h
    · exact h.rowRead

theorem Keeps.badSize (h : Keeps s₀ s) {path a : Nat} : Keeps s₀ (s.badSize path a) := by
  refine .ite h.unmapped ?_
  split
  · exact .ite h.recErr h
  · exact h

/-! ### The commands of the accesses and the page header (01_architecture.md) -/

theorem Keeps.answer {x : Nat × State} (h : Keeps s₀ x.2) : Keeps s₀ (State.answer x) := h.emit

theorem ResKeeps.execBar0AccessSize {path a n rd : Nat} : ResKeeps s (execBar0AccessSize path a n rd s) :=
  .heard (.ite Keeps.refl (.ite Keeps.refl.badSize.answer Keeps.refl.badSize))

theorem ResKeeps.execAccessUnmapped {path a rd : Nat} : ResKeeps s (execAccessUnmapped path a rd s) :=
  .heard (.ite Keeps.refl (.ite Keeps.refl.unmapped.answer Keeps.refl.unmapped))

theorem ResKeeps.execRegisterWrite {path a : Nat} {v : Word} : ResKeeps s (execRegisterWrite path a v s) :=
  .heard (.ite Keeps.refl.writeReg (.ite Keeps.refl.bar4Write Keeps.refl))

theorem ResKeeps.execPairLowRead {path a : Nat} : ResKeeps s (execPairLowRead path a s) :=
  .heard (.ite Keeps.refl.readReg.answer (.ite Keeps.refl.emit Keeps.refl))

theorem ResKeeps.execPairLowWrite {path a : Nat} {v : Word} : ResKeeps s (execPairLowWrite path a v s) :=
  .heard (.ite Keeps.refl.writeReg Keeps.refl)

theorem ResKeeps.execPairHighWrite {path a : Nat} {v : Word} : ResKeeps s (execPairHighWrite path a v s) :=
  .heard (.ite Keeps.refl.writeReg Keeps.refl)

theorem Keeps.onPage (h : Keeps s₀ s) {p : Nat} {f : PageTy → Nat → State} (k : ∀ ty inst, Keeps s₀ (f ty inst)) :
    Keeps s₀ (s.onPage p f) := by
  unfold State.onPage
  split
  · exact .ite (k ..) h
  · exact h

theorem ResKeeps.execErrStatClear {p : Nat} {v : Word} : ResKeeps s (execErrStatClear p v s) :=
  .live (Keeps.refl.onPage fun _ _ => Keeps.refl.errClear)

theorem ResKeeps.execEvtSetWrite {p : Nat} {v : Word} : ResKeeps s (execEvtSetWrite p v s) :=
  .live (Keeps.refl.onPage fun _ _ => Keeps.refl.evtSet)

theorem ResKeeps.execEnableWrite {path p v : Nat} : ResKeeps s (execEnableWrite path p v s) :=
  .heard (Keeps.refl.onPage fun _ _ => .ite Keeps.refl Keeps.refl.enableWrite)

theorem ResKeeps.execQuiesceReq {path p v : Nat} : ResKeeps s (execQuiesceReq path p v s) :=
  .heard (Keeps.refl.onPage fun _ _ => .ite Keeps.refl Keeps.refl.quiesceWrite)

theorem ResKeeps.execQuiesced {p : Nat} : ResKeeps s (execQuiesced p s) :=
  .live (Keeps.refl.onPage fun _ _ => .ite Keeps.refl.put Keeps.refl)

theorem ResKeeps.execBlockResetReq {path p : Nat} : ResKeeps s (execBlockResetReq path p s) :=
  .heard (Keeps.refl.onPage fun _ _ => .ite Keeps.refl Keeps.refl.resetWrite)

theorem ResKeeps.execBlockResetDone {p : Nat} : ResKeeps s (execBlockResetDone p s) :=
  .live (Keeps.refl.onPage fun _ _ => .ite Keeps.refl.blockResetEnd Keeps.refl)

theorem ResKeeps.execRefclkLost : ResKeeps s (execRefclkLost s) := .live Keeps.refl.refclkFalls

theorem ResKeeps.execRefclkRestored : ResKeeps s (execRefclkRestored s) := .live Keeps.refl.refclkRises

theorem ResKeeps.execAuditStatRead {path g : Nat} : ResKeeps s (execAuditStatRead path g s) :=
  .heard (.ite Keeps.refl.readReg.answer Keeps.refl)

theorem ResKeeps.execTimeNowRead {path : Nat} : ResKeeps s (execTimeNowRead path s) := .heard Keeps.refl.readReg.answer

/-! ### The commands of combs, lanes, ports, beacons, plans and claims -/

theorem ResKeeps.execCombArm {path e : Nat} : ResKeeps s (execCombArm path e s) :=
  .heard (.ite Keeps.refl.combArm.msgSettle Keeps.refl)

theorem ResKeeps.execLaserEnDrop : ResKeeps s (execLaserEnDrop s) := .live Keeps.refl.laserDrop.msgSettle

theorem Keeps.deferredArm (h : Keeps s₀ s) : Keeps s₀ s.deferredArm := .ite (.foldl h fun _ _ h => .ite h.setComb h) h

theorem ResKeeps.execLaserEnStable : ResKeeps s (execLaserEnStable s) := .live Keeps.refl.laserStable.deferredArm

theorem ResKeeps.execCombTecSettled {e : Nat} : ResKeeps s (execCombTecSettled e s) :=
  .live (.ite Keeps.refl.put.setComb Keeps.refl)

theorem ResKeeps.execCombLocked {e : Nat} : ResKeeps s (execCombLocked e s) :=
  .live (.ite Keeps.refl.combLocked.deferredCal.msgSettle Keeps.refl)

theorem ResKeeps.execCombLockLost {e which : Nat} : ResKeeps s (execCombLockLost e which s) :=
  .live (.ite Keeps.refl.combUnlock.msgSettle Keeps.refl)

theorem ResKeeps.execCombFail {e : Nat} : ResKeeps s (execCombFail e s) :=
  .live (.ite Keeps.refl.combFail.deferredCal.msgSettle Keeps.refl)

theorem Keeps.controllerStop (h : Keeps s₀ s) {e : Nat} : Keeps s₀ (s.controllerStop e) :=
  .engineApply (.ite h.put.recErrX.setComb h.put.recErrX)

theorem ResKeeps.execController {e : Nat} : ResKeeps s (execController e s) :=
  .live (.ite Keeps.refl.controllerStop.msgSettle Keeps.refl)

theorem ResKeeps.execToneCheckDone {p l rx k : Nat} : ResKeeps s (execToneCheckDone p l rx k s) :=
  .live (.ite (.msgSettle (.ite Keeps.refl.toneRx Keeps.refl.toneTx)) Keeps.refl)

theorem ResKeeps.execErrorCheckDone {p l uncorr ber power : Nat} :
    ResKeeps s (execErrorCheckDone p l uncorr ber power s) :=
  .live (.ite Keeps.refl.errorCheck.msgSettle (.ite Keeps.refl.serviceCheck.msgSettle Keeps.refl))

theorem Keeps.laneLost (h : Keeps s₀ s) {p l cause : Nat} : Keeps s₀ (s.laneLost p l cause) :=
  .ite h.ringHwFail (.ite (.slotSettle (.rxLeave (.ite h.raise h))) (.rxLeave (.ite h.raise h)))

theorem ResKeeps.execLaneLeaveService {p l cause : Nat} : ResKeeps s (execLaneLeaveService p l cause s) :=
  .live (.ite Keeps.refl.laneLost.msgSettle Keeps.refl)

theorem ResKeeps.execProbePulse {p : Nat} : ResKeeps s (execProbePulse p s) := by
  refine .live (.ite ?_ Keeps.refl)
  split
  · exact Keeps.refl.emit
  · exact Keeps.refl

theorem ResKeeps.execLight {p : Nat} : ResKeeps s (execLight p s) :=
  .live (.ite Keeps.refl.lightSeen.msgSettle Keeps.refl)

theorem ResKeeps.execOpenFibre {p : Nat} : ResKeeps s (execOpenFibre p s) :=
  .live (.ite Keeps.refl.openFibre.msgSettle Keeps.refl)

theorem ResKeeps.execLoopbackTimeout {p : Nat} : ResKeeps s (execLoopbackTimeout p s) :=
  .live (.ite Keeps.refl.same.openFibre.msgSettle Keeps.refl)

theorem ResKeeps.execLaunchLimit {p : Nat} : ResKeeps s (execLaunchLimit p s) :=
  .live (.ite Keeps.refl.launchLimit.msgSettle Keeps.refl)

theorem ResKeeps.execRelaunch {p : Nat} : ResKeeps s (execRelaunch p s) :=
  .live (.ite Keeps.refl.relaunch.msgSettle Keeps.refl)

theorem ResKeeps.execBeaconSend {p l : Nat} : ResKeeps s (execBeaconSend p l s) :=
  .live (.ite Keeps.refl.sendBeacon Keeps.refl)

theorem ResKeeps.execBeaconReceive {p l : Nat} {x : Beacon} : ResKeeps s (execBeaconReceive p l x s) :=
  .live (.ite (.msgSettle (.ite (.beaconIn (.ite Keeps.refl.countIn Keeps.refl)) Keeps.refl.vc3Drop)) Keeps.refl)

theorem ResKeeps.execMissing {p : Nat} : ResKeeps s (execMissing p s) := .live (.ite Keeps.refl.missing Keeps.refl)

theorem ResKeeps.execIdentityStale {i : Nat} : ResKeeps s (execIdentityStale i s) :=
  .live (.ite Keeps.refl.put Keeps.refl)

theorem ResKeeps.execStageDataWrite {path : Nat} {v : Word} : ResKeeps s (execStageDataWrite path v s) :=
  .heard Keeps.refl.stageData

theorem ResKeeps.execActiveDataRead {path : Nat} : ResKeeps s (execActiveDataRead path s) :=
  .heard Keeps.refl.activeRead.emit

theorem Keeps.planWrite (h : Keeps s₀ s) {path claim bits : Nat} : Keeps s₀ (s.planWrite path claim bits) :=
  h.pput64.planCtrl

theorem ResKeeps.execCheck {path claim : Nat} : ResKeeps s (execCheck path claim s) := .heard Keeps.refl.planWrite

theorem ResKeeps.execCheckDone {us : Nat} : ResKeeps s (execCheckDone us s) := .live Keeps.refl.checkDone

theorem ResKeeps.execArm {path claim : Nat} : ResKeeps s (execArm path claim s) := .heard Keeps.refl.planWrite

theorem ResKeeps.execCancel {path claim : Nat} : ResKeeps s (execCancel path claim s) :=
  .heard Keeps.refl.planWrite.msgSettle

theorem ResKeeps.execClear {path claim : Nat} : ResKeeps s (execClear path claim s) := .heard Keeps.refl.planWrite

theorem ResKeeps.execCopyActive {path claim : Nat} : ResKeeps s (execCopyActive path claim s) :=
  .heard Keeps.refl.planWrite

theorem ResKeeps.execPresent {path claim : Nat} : ResKeeps s (execPresent path claim s) :=
  .heard Keeps.refl.pput64.present

theorem ResKeeps.execDrainStart : ResKeeps s (execDrainStart s) := .live Keeps.refl.drainStart.msgSettle

theorem ResKeeps.execStartPointRefresh : ResKeeps s (execStartPointRefresh s) :=
  .live (.ite Keeps.refl.startPoints Keeps.refl)

theorem ResKeeps.execOpenFibreGuardEnd : ResKeeps s (execOpenFibreGuardEnd s) := .live Keeps.refl.guardEnd

theorem ResKeeps.execRelease : ResKeeps s (execRelease s) := .live Keeps.refl.releaseAll

theorem ResKeeps.execSwitchReport : ResKeeps s (execSwitchReport s) := .live Keeps.refl.switchReport

theorem ResKeeps.execSwitchNote {p t new x y z : Nat} : ResKeeps s (execSwitchNote p t new x y z s) :=
  .live (.ite Keeps.refl.countIn.noteIn Keeps.refl)

theorem Keeps.steerRest (h : Keeps s₀ s) {p l : Nat} : Keeps s₀ (s.steerRest p l) :=
  .ite h (.ite (.ite h.steerTo.msgSettle h) h.setOut)

theorem Keeps.steerSwitch (h : Keeps s₀ s) {p l : Nat} : Keeps s₀ (s.steerSwitch p l) := by
  refine .ite h ?_
  split
  · exact h.steerTo.msgSettle
  · exact .ite h h.steerRest

theorem ResKeeps.execSteerSwitch {p l : Nat} : ResKeeps s (execSteerSwitch p l s) :=
  .live (.ite (.ite Keeps.refl.steerSwitch (.ite Keeps.refl.steerRest Keeps.refl)) Keeps.refl)

theorem ResKeeps.execSteerVisit {p l o : Nat} : ResKeeps s (execSteerVisit p l o s) :=
  .live (.ite Keeps.refl.steerVisit.msgSettle Keeps.refl)

theorem ResKeeps.execBurstGapTimeout {p l : Nat} : ResKeeps s (execBurstGapTimeout p l s) :=
  .live (.ite Keeps.refl.burstGap.msgSettle Keeps.refl)

/-! ### Codewords (R313-R318) -/

theorem Keeps.bulkIn (h : Keeps s₀ s) {p vc slice : Nat} {b : List Byte} : Keeps s₀ (s.bulkIn p vc slice b) :=
  .ite h.frameOffer.msgSettle h.freeBuffer.msgSettle

theorem Keeps.vc2In (h : Keeps s₀ s) {p l : Nat} {b : List Byte} : Keeps s₀ (s.vc2In p l b) := by
  refine h.after ?_
  split
  · exact .execAck
  · exact .execNack
  · exact .execResyncReq
  · exact .execResync
  · exact .execZtSyncRx
  · exact .execZtDreqRx
  · exact .execZtDrespRx
  · exact .execSwitchNote
  · exact .execCalStart
  · exact .execCalEnd
  · exact .execCalAbort
  · exact ⟨s, rfl, .refl⟩

theorem Keeps.vc3In (h : Keeps s₀ s) {p l : Nat} {b : List Byte} : Keeps s₀ (s.vc3In p l b) := by
  unfold State.vc3In
  split
  · exact h.after .execBeaconReceive
  · exact h.chainIn
  · exact h.chainIn
  · exact h.chainIn
  · exact h.chainIn
  · exact .ite h.countIn h.vc3Drop

theorem Keeps.frameDone (h : Keeps s₀ s) {p l : Nat} {ws : List Nat} : Keeps s₀ (s.frameDone p l ws) := by
  refine .ite h.inc ?_
  split
  · exact h.vc2In
  · exact h.vc3In
  · exact h.bulkIn

theorem Keeps.streamWord (h : Keeps s₀ s) {p l w : Nat} {ws : List Nat} : Keeps s₀ (s.streamWord p l w ws) :=
  .ite h (.ite h.same.frameDone h.same)

theorem Keeps.streamIn (h : Keeps s₀ s) {p l d : Nat} : Keeps s₀ (s.streamIn p l d) := by
  refine .foldl h fun _ _ h => ?_
  split
  · exact h.streamWord
  · exact .ite h.streamWord h

theorem Keeps.setAlign (h : Keeps s₀ s) {p l : Nat} {a : Nat × Nat × Nat} : Keeps s₀ (s.setAlign p l a) :=
  .ite h.same.same h.same.same

theorem Keeps.controlWordIn (h : Keeps s₀ s) {p l c : Nat} : Keeps s₀ (s.controlWordIn p l c) := .ite h h.controlIn

theorem Keeps.codewordIn (h : Keeps s₀ s) {p l : Nat} {w : List Nat} : Keeps s₀ (s.codewordIn p l w) := by
  unfold State.codewordIn
  split
  · exact .ite h.setAlign.same.inc.raise h.setAlign
  · exact .ite h.setAlign.incBy.controlWordIn.streamIn h.setAlign

theorem ResKeeps.execCodewordReceive {p l preamble : Nat} {w : List Nat} :
    ResKeeps s (execCodewordReceive p l preamble w s) :=
  .live (.ite (.codewordIn (.ite Keeps.refl.setAlign.setAlign Keeps.refl)) Keeps.refl)

/-! ### The commands of the mesh, the die links and the stacked memory in service -/

theorem Keeps.flitUncorr (h : Keeps s₀ s) {d k : Nat} : Keeps s₀ (s.flitUncorr d k) := h.inc.raiseAlways

theorem Keeps.flitCorrected (h : Keeps s₀ s) {d k : Nat} : Keeps s₀ (s.flitCorrected d k) := h.inc

theorem ResKeeps.execFlitUncorrScheduled {d k f j : Nat} : ResKeeps s (execFlitUncorrScheduled d k f j s) := by
  refine .live ?_
  split
  · refine .ite ?_ Keeps.refl
    split
    · exact Keeps.refl.flitCorrected
    · exact Keeps.refl.same.flitUncorr
    · exact Keeps.refl
  · exact Keeps.refl

theorem Keeps.meshStops (h : Keeps s₀ s) : Keeps s₀ s.meshStops := h.meshFails.stopMops

theorem Keeps.bundleDown (h : Keeps s₀ s) {d k i : Nat} : Keeps s₀ (s.bundleDown d k i) := h.put.put

theorem Keeps.linkDown (h : Keeps s₀ s) {d k i : Nat} : Keeps s₀ (s.linkDown d k i) := by
  refine .meshStops (.put (.raiseAlways (.recErr (.put ?_))))
  split
  · exact .ite h.bundleDown.bundleDown h.bundleDown
  · exact h.bundleDown

theorem ResKeeps.execLinkDown {d k i : Nat} : ResKeeps s (execLinkDown d k i s) :=
  .live (.ite Keeps.refl.linkDown Keeps.refl)

theorem Keeps.flitRetry (h : Keeps s₀ s) {d k i r n : Nat} : Keeps s₀ (s.flitRetry d k i r n) :=
  .ite h.flitUncorr.inc.same h.flitUncorr.linkDown

theorem ResKeeps.execFlitRetry {d b : Nat} : ResKeeps s (execFlitRetry d b s) := by
  refine .live (.ite ?_ Keeps.refl)
  split
  · exact Keeps.refl.same
  · exact Keeps.refl.flitCorrected.same
  · exact Keeps.refl.flitRetry

theorem ResKeeps.execTileFailed {d row col : Nat} : ResKeeps s (execTileFailed d row col s) := by
  refine .live (.ite ?_ Keeps.refl)
  split
  · exact Keeps.refl.tileHwFail
  · exact Keeps.refl.tilePending

theorem ResKeeps.execRouterFault {d row col : Nat} : ResKeeps s (execRouterFault d row col s) :=
  .live (.ite Keeps.refl.put.recErr.meshStops Keeps.refl)

theorem Keeps.upsetUnit (h : Keeps s₀ s) {u e : Nat} : Keeps s₀ (s.upsetUnit u e) := h.same

theorem Keeps.scrubTurn (h : Keeps s₀ s) {d u : Nat} : Keeps s₀ (s.scrubTurn d u) := .ite h.same h.put.same

theorem ResKeeps.execSramScrubTurn {g wa e late c : Nat} : ResKeeps s (execSramScrubTurn g wa e late c s) := by
  unfold Machine.execSramScrubTurn
  dsimp only
  refine .live (.ite ?_ Keeps.refl)
  split
  · exact .inc (.setUnit (.scrubTurn (.ite Keeps.refl.upsetUnit.same Keeps.refl.upsetUnit.same.inc)))
  · exact .raise (.put (.put (.put (.inc (.setUnit (.scrubTurn (.ite Keeps.refl.upsetUnit.same
      Keeps.refl.upsetUnit.same.inc)))))))
  · exact .scrubTurn (.ite Keeps.refl.upsetUnit.same Keeps.refl.upsetUnit.same.inc)
  · exact .scrubTurn (.ite Keeps.refl.upsetUnit.same Keeps.refl.upsetUnit.same.inc)

theorem ResKeeps.execHbmScrubStep {m e : Nat} : ResKeeps s (execHbmScrubStep m e s) :=
  .live (.ite (.ite Keeps.refl.upsetUnit.readBlock.put Keeps.refl.upsetUnit.readBlock.put.put.raise) Keeps.refl)

theorem Keeps.markStack (h : Keeps s₀ s) {m cause : Nat} : Keeps s₀ (s.markStack m cause) := .ite h h.put.raise.same

theorem ResKeeps.execChannelFail {m c : Nat} : ResKeeps s (execChannelFail m c s) :=
  .live (.ite Keeps.refl.same.put.recErr.markStack Keeps.refl)

theorem ResKeeps.execMapoutRetry {m : Nat} : ResKeeps s (execMapoutRetry m s) := .live (.ite Keeps.refl.put Keeps.refl)

theorem ResKeeps.execMapoutReq {m : Nat} : ResKeeps s (execMapoutReq m s) := .live (.ite Keeps.refl.put Keeps.refl)

/-! ### The commands of the job (06_contract.md) -/

theorem ResKeeps.execLoad {path d : Nat} : ResKeeps s (execLoad path d s) :=
  .heard (.ite Keeps.refl.jobCtrlWrite Keeps.refl)

theorem ResKeeps.execLoadComplete : ResKeeps s (execLoadComplete s) := .live (.ite Keeps.refl.loadEnd Keeps.refl)

theorem ResKeeps.execStart {path d : Nat} : ResKeeps s (execStart path d s) :=
  .heard (.ite Keeps.refl.jobCtrlWrite Keeps.refl)

theorem ResKeeps.execStop {path d : Nat} : ResKeeps s (execStop path d s) :=
  .heard (.ite Keeps.refl.jobCtrlWrite Keeps.refl)

theorem ResKeeps.execUnload {path d : Nat} : ResKeeps s (execUnload path d s) :=
  .heard (.ite Keeps.refl.jobCtrlWrite Keeps.refl)

theorem ResKeeps.execPhaseChange : ResKeeps s (execPhaseChange s) :=
  .live (.ite Keeps.refl.fireSwitch.phaseChange.msgSettle Keeps.refl)

theorem ResKeeps.execLatePhaseStart : ResKeeps s (execLatePhaseStart s) := by
  refine .live ?_
  split
  · exact .ite Keeps.refl.fireSwitch.lateStart.msgSettle Keeps.refl
  · exact Keeps.refl

theorem ResKeeps.execScheduleStart : ResKeeps s (execScheduleStart s) := .live (.ite Keeps.refl.scheduleStart Keeps.refl)

theorem ResKeeps.execReshardDescDone {i : Nat} : ResKeeps s (execReshardDescDone i s) :=
  .live (.ite Keeps.refl.rsComplete Keeps.refl)

theorem ResKeeps.execReshardTimeout {i : Nat} : ResKeeps s (execReshardTimeout i s) :=
  .live (.ite Keeps.refl.reshardFails Keeps.refl)

/-! ### The management protocol (R464, R467-R474) -/

theorem Keeps.regReads (h : Keeps s₀ s) {path a n : Nat} : Keeps s₀ (s.regReads path a n).2 :=
  .foldlSnd h fun _ _ h => h.readReg

theorem Keeps.regWrites (h : Keeps s₀ s) {path a : Nat} {vs : List Nat} : Keeps s₀ (s.regWrites path a vs) :=
  .foldl h fun _ _ h => h.writeReg

theorem Keeps.mgmtRun (h : Keeps s₀ s) {path : Nat} {r : MReq} : Keeps s₀ (s.mgmtRun path r).2 :=
  .iteSnd h (.iteSnd h.regReads (.iteSnd h.regWrites (.iteSnd h h.updData)))

theorem Keeps.mgmtServe (h : Keeps s₀ s) {path : Nat} {r : MReq} : Keeps s₀ (s.mgmtServe path r).2 :=
  .iteSnd h.mgmtRun h

theorem Keeps.mgmtReset (h : Keeps s₀ s) {r : MReq} : Keeps s₀ (s.mgmtReset r) :=
  .ite (.ite h.moduleReset h.warmReset) h

theorem Keeps.reqErr (h : Keeps s₀ s) {n : Nat} : Keeps s₀ (s.reqErr n) := h.inc.raise

theorem Keeps.mgmtAnswer (h : Keeps s₀ s) {n who : Nat} {r : MReq} : Keeps s₀ (s.mgmtAnswer n who r) := by
  unfold State.mgmtAnswer
  split
  · exact .mgmtSend (.inc (.ite h.same h.same.reqErr))
  · exact .mgmtReset (.mgmtSend (.ite (.ite h.same.mgmtServe.same h.same.mgmtServe.same.same) (.reqErr (.ite
      h.same.mgmtServe.same h.same.mgmtServe.same.same))))

theorem Keeps.mgmtIn (h : Keeps s₀ s) {n who : Nat} {r : MReq} : Keeps s₀ (s.mgmtIn n who r) :=
  h.mgmtFrame fun _ h => .ite (.ite (.ite h.inc.same h.inc.inc) h.inc.mgmtAnswer.msgSettle) h

theorem ResKeeps.execHello {n who seq : Nat} : ResKeeps s (execHello n who seq s) := .live Keeps.refl.mgmtIn

theorem ResKeeps.execRegRead {n who seq a count : Nat} : ResKeeps s (execRegRead n who seq a count s) :=
  .live Keeps.refl.mgmtIn

theorem ResKeeps.execRegWrite {n who seq a count : Nat} {vs : List Nat} :
    ResKeeps s (execRegWrite n who seq a count vs s) :=
  .live Keeps.refl.mgmtIn

theorem ResKeeps.execMgmtResetModule {n who seq : Nat} : ResKeeps s (execMgmtResetModule n who seq s) :=
  .live Keeps.refl.mgmtIn

theorem ResKeeps.execMgmtResetWarm {n who seq : Nat} : ResKeeps s (execMgmtResetWarm n who seq s) :=
  .live Keeps.refl.mgmtIn

theorem ResKeeps.execUpdateData {n who seq o : Nat} {bytes : List Nat} :
    ResKeeps s (execUpdateData n who seq o bytes s) :=
  .live Keeps.refl.mgmtIn

theorem Keeps.mgmtOther (h : Keeps s₀ s) {n kind : Nat} : Keeps s₀ (s.mgmtOther n kind) :=
  .ite (.ite h.inc h) (h.mgmtFrame fun _ h => .ite h.inc h)

theorem ResKeeps.execMgmtBadRequest {n who : Nat} {bytes : List Nat} :
    ResKeeps s (execMgmtBadRequest n who bytes s) := by
  refine .live (.ite Keeps.refl.mgmtOther ?_)
  split
  · exact Keeps.refl.mgmtIn
  · exact Keeps.refl.mgmtFrame fun _ h => .ite h.inc.reqErr h

theorem ResKeeps.execNeighborSolicitation {n target mac src : Nat} :
    ResKeeps s (execNeighborSolicitation n target mac src s) :=
  .live (Keeps.refl.mgmtFrame fun _ h => .ite h.mgmtSend h)

theorem ResKeeps.execIcmpv6Echo {n dst mac src ident seq : Nat} {data : List Nat} :
    ResKeeps s (execIcmpv6Echo n dst mac src ident seq data s) :=
  .live (Keeps.refl.mgmtFrame fun _ h => .ite h.mgmtSend h)

theorem ResKeeps.execMgmtLinkChange {n up : Nat} : ResKeeps s (execMgmtLinkChange n up s) :=
  .live (.ite (.ite Keeps.refl Keeps.refl.put.raise) Keeps.refl)

theorem Keeps.freeBytes (h : Keeps s₀ s) {n : Nat} : Keeps s₀ (State.freeBytes n s).2 := by
  induction n generalizing s with
  | zero => exact h
  | succ n ih => exact ih h.freeVal

theorem Keeps.mboxRsp (h : Keeps s₀ s) {l : List Nat} : Keeps s₀ (s.mboxRsp l) := .foldl h fun _ _ h => h.wr

theorem Keeps.mboxEnd (h : Keeps s₀ s) : Keeps s₀ s.mboxEnd := h.put.put.raise.msix

theorem Keeps.mboxServe (h : Keeps s₀ s) : Keeps s₀ s.mboxServe := by
  unfold State.mboxServe
  dsimp only
  split
  · exact .ite h.mgmtServe.mboxRsp.mboxEnd.mgmtReset h.freeBytes.mboxRsp.mboxEnd
  · exact h.freeBytes.mboxRsp.mboxEnd

theorem ResKeeps.execMboxDone : ResKeeps s (execMboxDone s) := .live (.ite Keeps.refl.mboxServe.msgSettle Keeps.refl)

theorem Keeps.serveWaiting (h : Keeps s₀ s) {n : Nat} : Keeps s₀ (s.serveWaiting n) :=
  .foldl h fun _ _ h => .ite h h.same.mgmtAnswer

theorem Keeps.replayHeld (h : Keeps s₀ s) : Keeps s₀ s.replayHeld := .foldl h.same fun _ _ h => h.jobCtrlWrite

theorem Keeps.reeveServes (h : Keeps s₀ s) : Keeps s₀ s.reeveServes :=
  .serveWaiting (.serveWaiting (.serveOffers (.replayHeld (.ite h.same.logResume.loadBegin h.same.logResume))))

theorem ResKeeps.execReeveBack : ResKeeps s (execReeveBack s) :=
  .live (.ite Keeps.refl.raise.reeveServes.msgSettle Keeps.refl)

/-! ### The commands of Millrace and of the parish register -/

theorem ResKeeps.execLoopFrame {i m metric dark : Nat} : ResKeeps s (execLoopFrame i m metric dark s) :=
  .live (.ite Keeps.refl.loopFrame.msgSettle Keeps.refl)

theorem ResKeeps.execDeadlineMiss {i : Nat} : ResKeeps s (execDeadlineMiss i s) :=
  .live (.ite Keeps.refl.frameMiss.msgSettle Keeps.refl)

theorem ResKeeps.execDescWrite {path o : Nat} {v : Word} : ResKeeps s (execDescWrite path o v s) :=
  .heard (.ite Keeps.refl.descWrite.msgSettle Keeps.refl)

theorem ResKeeps.execSettleDone {i : Nat} : ResKeeps s (execSettleDone i s) := .live Keeps.refl.settleDone

theorem ResKeeps.execAcqFail {i : Nat} : ResKeeps s (execAcqFail i s) :=
  .live (.ite Keeps.refl.acqTimeout.msgSettle Keeps.refl)

theorem ResKeeps.execFeedbackLost {i : Nat} : ResKeeps s (execFeedbackLost i s) :=
  .live Keeps.refl.feedbackLost.msgSettle

theorem ResKeeps.execHeaterLimitTimeout {i : Nat} : ResKeeps s (execHeaterLimitTimeout i s) :=
  .live Keeps.refl.heaterLimit.msgSettle

theorem ResKeeps.execLoopHwFail {i : Nat} : ResKeeps s (execLoopHwFail i s) :=
  .live (.ite Keeps.refl.loopHwFail.msgSettle Keeps.refl)

theorem ResKeeps.execTelemetryUpdate {ps ts ports : List Nat} : ResKeeps s (execTelemetryUpdate ps ts ports s) :=
  .live Keeps.refl.telemetry

theorem ResKeeps.execGovernorEstimate {d w : Nat} : ResKeeps s (execGovernorEstimate d w s) :=
  .live (.ite Keeps.refl.governor Keeps.refl)

theorem ResKeeps.execTraceArm {v : Word} : ResKeeps s (execTraceArm v s) := .live Keeps.refl.traceArm

theorem ResKeeps.execFlagFifoRead : ResKeeps s (execFlagFifoRead s) := .live Keeps.refl.flagRead.emit

theorem ResKeeps.execPageProgramDone {ok : Nat} : ResKeeps s (execPageProgramDone ok s) :=
  .live (.ite Keeps.refl (.ite Keeps.refl.pageDone Keeps.refl.pageFailed))

theorem ResKeeps.execCursorWrite {path seq : Nat} : ResKeeps s (execCursorWrite path seq s) :=
  .heard Keeps.refl.cursorWrite

theorem ResKeeps.execWindowAdvance {path : Nat} : ResKeeps s (execWindowAdvance path s) :=
  .heard Keeps.refl.windowAdvance.emit

theorem ResKeeps.execLogClear {path : Nat} {v : Word} : ResKeeps s (execLogClear path v s) := .heard Keeps.refl.logClear

theorem ResKeeps.execPostCode {path : Nat} {v : Word} : ResKeeps s (execPostCode path v s) := .heard Keeps.refl.postCode

theorem ResKeeps.execTraceSnapshot {path : Nat} {v : Word} : ResKeeps s (execTraceSnapshot path v s) :=
  .heard Keeps.refl.traceSel

/-! ### The commands of firmware update and of the FRU device (R569-R596) -/

theorem ResKeeps.execDownload {path key : Nat} : ResKeeps s (execDownload path key s) := .heard Keeps.refl.updCtrl

theorem ResKeeps.execVerify {path key : Nat} : ResKeeps s (execVerify path key s) := .heard Keeps.refl.updCtrl

theorem ResKeeps.execVerifyDone {tables : List (Nat × Word)} : ResKeeps s (execVerifyDone tables s) :=
  .live Keeps.refl.verifyDone.msgSettle

theorem ResKeeps.execActivate {path key : Nat} : ResKeeps s (execActivate path key s) := .heard Keeps.refl.updCtrl

theorem Keeps.handoverBegin (h : Keeps s₀ s) : Keeps s₀ s.handoverBegin :=
  h.wdtKicked.same.holdOff.logPause.releaseClaims.line4

theorem ResKeeps.execFlashWritten {rewritten fail : Nat} : ResKeeps s (execFlashWritten rewritten fail s) :=
  .live (.msgSettle (.ite Keeps.refl.flashWritten.handoverBegin Keeps.refl.flashWritten))

theorem Keeps.handoverEnd (h : Keeps s₀ s) {ms : Nat} : Keeps s₀ (s.handoverEnd ms) :=
  h.newRun.setResult.put.raise.record.wdtKicked.reeveServes

theorem ResKeeps.execHandover {ms : Nat} : ResKeeps s (execHandover ms s) :=
  .live (.ite Keeps.refl.handoverEnd.msgSettle Keeps.refl)

theorem ResKeeps.execHandoverTimeout {wdt : Nat} : ResKeeps s (execHandoverTimeout wdt s) :=
  .live (.ite (.setResult (.ite Keeps.refl.wdtFirst Keeps.refl.warmReset)) Keeps.refl)

theorem ResKeeps.execTableApply {i : Nat} : ResKeeps s (execTableApply i s) :=
  .live (.ite Keeps.refl Keeps.refl.tableApply.msgSettle)

theorem ResKeeps.execConfirm {path key : Nat} : ResKeeps s (execConfirm path key s) := .heard Keeps.refl.updCtrl

theorem ResKeeps.execAbort {path key : Nat} : ResKeeps s (execAbort path key s) := .heard Keeps.refl.updCtrl

theorem ResKeeps.execStageWrite {path lo hi : Nat} : ResKeeps s (execStageWrite path lo hi s) :=
  .heard Keeps.refl.stageWrite

theorem ResKeeps.execOfferSend : ResKeeps s (execOfferSend s) := .live (.ite Keeps.refl Keeps.refl.offerSend)

theorem ResKeeps.execOffer {p _serial xfer len _version tag : Nat} :
    ResKeeps s (execOffer p _serial xfer len _version tag s) :=
  .live (.ite Keeps.refl.chainIn Keeps.refl)

theorem ResKeeps.execReq {p xfer first count : Nat} : ResKeeps s (execReq p xfer first count s) :=
  .live (.ite Keeps.refl.chainIn Keeps.refl)

theorem ResKeeps.execData {p xfer c : Nat} {bytes : List Nat} : ResKeeps s (execData p xfer c bytes s) :=
  .live (.ite Keeps.refl.chainIn Keeps.refl)

theorem ResKeeps.execEnd {p xfer code : Nat} : ResKeeps s (execEnd p xfer code s) :=
  .live (.ite Keeps.refl.chainIn Keeps.refl)

theorem ResKeeps.execChunkRerequest {c : Nat} : ResKeeps s (execChunkRerequest c s) := .live Keeps.refl.askAgain

theorem ResKeeps.execEndRepeat : ResKeeps s (execEndRepeat s) := .live (.ite Keeps.refl Keeps.refl.endRepeat)

theorem ResKeeps.execBcTimeout : ResKeeps s (execBcTimeout s) := .live Keeps.refl.bcTimeout

theorem ResKeeps.execFruWrite {o b : Nat} : ResKeeps s (execFruWrite o b s) := .live Keeps.refl.emit

/-! ### Every command -/

/-- Every command answers a next state with the queue that it found, in canonical form where it found one. -/
theorem exec_keeps (c : Instr) (s : State) : ResKeeps s (exec c s) := by
  cases c with
  | bar0AccessSize => exact .execBar0AccessSize
  | accessUnmapped => exact .execAccessUnmapped
  | registerWrite => exact .execRegisterWrite
  | pairLowRead => exact .execPairLowRead
  | pairLowWrite => exact .execPairLowWrite
  | pairHighWrite => exact .execPairHighWrite
  | errStatClear => exact .execErrStatClear
  | evtSetWrite => exact .execEvtSetWrite
  | enableWrite => exact .execEnableWrite
  | quiesceReq => exact .execQuiesceReq
  | quiesced => exact .execQuiesced
  | blockResetReq => exact .execBlockResetReq
  | blockResetDone => exact .execBlockResetDone
  | refclkLost => exact .execRefclkLost
  | refclkRestored => exact .execRefclkRestored
  | nop => exact .execNop
  | stall => exact .execStall
  | seti => exact .execSeti
  | loop => exact .execLoop
  | jump => exact .execJump
  | sete => exact .execSete
  | halt => exact .execHalt
  | tileHalted => exact .execTileHalted
  | waitTok => exact .execWaitTok
  | waitTokRelease => exact .execWaitTokRelease
  | waitTime => exact .execWaitTime
  | waitTimeRelease => exact .execWaitTimeRelease
  | barrier => exact .execBarrier
  | barrierRelease => exact .execBarrierRelease
  | phaseEnd => exact .execPhaseEnd
  | fence => exact .execFence
  | fenceRelease => exact .execFenceRelease
  | wload => exact .execWload
  | mmaW => exact .execMmaW
  | mmaS => exact .execMmaS
  | accBind => exact .execAccBind
  | accAdd => exact .execAccAdd
  | accOut => exact .execAccOut
  | vld => exact .execVld
  | vst => exact .execVst
  | vop => exact .execVop
  | vred => exact .execVred
  | copy => exact .execCopy
  | prefetch => exact .execPrefetch
  | store => exact .execStore
  | gather => exact .execGather
  | dataMoverDone => exact .execDataMoverDone
  | gatherDone => exact .execGatherDone
  | send => exact .execSend
  | sendDeparted => exact .execSendDeparted
  | sendLanded => exact .execSendLanded
  | post => exact .execPost
  | put => exact .execPut
  | illegalInstr => exact .execIllegalInstr
  | tileFaulted => exact .execTileFaulted
  | tileHwFail => exact .execTileHwFail
  | haltReq => exact .execHaltReq
  | haltReqDone => exact .execHaltReqDone
  | longWait => exact .execLongWait
  | auditStatRead => exact .execAuditStatRead
  | governorEstimate => exact .execGovernorEstimate
  | scheduleStart => exact .execScheduleStart
  | flitUncorrScheduled => exact .execFlitUncorrScheduled
  | flitRetry => exact .execFlitRetry
  | linkDown => exact .execLinkDown
  | tileFailed => exact .execTileFailed
  | routerFault => exact .execRouterFault
  | sramScrubTurn => exact .execSramScrubTurn
  | hbmScrubStep => exact .execHbmScrubStep
  | channelFail => exact .execChannelFail
  | hbmWipeDone => exact .execHbmWipeDone
  | mapoutRetry => exact .execMapoutRetry
  | mapoutReq => exact .execMapoutReq
  | critEcc => exact .execCritEcc
  | load => exact .execLoad
  | loadComplete => exact .execLoadComplete
  | start => exact .execStart
  | stop => exact .execStop
  | unload => exact .execUnload
  | phaseChange => exact .execPhaseChange
  | latePhaseStart => exact .execLatePhaseStart
  | reshardDescDone => exact .execReshardDescDone
  | reshardTimeout => exact .execReshardTimeout
  | rxPost => exact .execRxPost
  | rxStreamData => exact .execRxStreamData
  | ack => exact .execAck
  | nack => exact .execNack
  | resyncReq => exact .execResyncReq
  | resync => exact .execResync
  | ackTimeout => exact .execAckTimeout
  | pathDown => exact .execPathDown
  | postRetry => exact .execPostRetry
  | notifyRetry => exact .execNotifyRetry
  | holdAckRepeat => exact .execHoldAckRepeat
  | rxDiscard => exact .execRxDiscard
  | streamSlotGrant => exact .execStreamSlotGrant
  | queueRead => exact .execQueueRead
  | queueCreate => exact .execQueueCreate
  | queueDestroy => exact .execQueueDestroy
  | doorbell => exact .execDoorbell
  | sessInv => exact .execSessInv
  | peerFlush => exact .execPeerFlush
  | arrivalRead => exact .execArrivalRead
  | failARead => exact .execFailARead
  | controlWordReceive => exact .execControlWordReceive
  | controlWordSend => exact .execControlWordSend
  | codewordReceive => exact .execCodewordReceive
  | incWrite => exact .execIncWrite
  | stepGo => exact .execStepGo
  | stepApply => exact .execStepApply
  | timeNowRead => exact .execTimeNowRead
  | srcWrite => exact .execSrcWrite
  | ppsPulse => exact .execPpsPulse
  | ppsLost => exact .execPpsLost
  | syncLoss => exact .execSyncLoss
  | ztSyncSend => exact .execZtSyncSend
  | ztSyncRx => exact .execZtSyncRx
  | ztDreqSend => exact .execZtDreqSend
  | ztDreqRx => exact .execZtDreqRx
  | ztDrespRx => exact .execZtDrespRx
  | ptpSyncTx => exact .execPtpSyncTx
  | ptpAnnounceTx => exact .execPtpAnnounceTx
  | ptpSyncRx => exact .execPtpSyncRx
  | ptpDelayReqRx => exact .execPtpDelayReqRx
  | ptpDelayRespRx => exact .execPtpDelayRespRx
  | captureEdge => exact .execCaptureEdge
  | capTsRead => exact .execCapTsRead
  | triggerFire => exact .execTriggerFire
  | triggerCtrlWrite => exact .execTriggerCtrlWrite
  | ppsOutEnd => exact .execPpsOutEnd
  | combArm => exact .execCombArm
  | laserEnDrop => exact .execLaserEnDrop
  | laserEnStable => exact .execLaserEnStable
  | combTecSettled => exact .execCombTecSettled
  | combLocked => exact .execCombLocked
  | combLockLost => exact .execCombLockLost
  | combFail => exact .execCombFail
  | toneCheckDone => exact .execToneCheckDone
  | errorCheckDone => exact .execErrorCheckDone
  | laneLeaveService => exact .execLaneLeaveService
  | probePulse => exact .execProbePulse
  | light => exact .execLight
  | openFibre => exact .execOpenFibre
  | loopbackTimeout => exact .execLoopbackTimeout
  | launchLimit => exact .execLaunchLimit
  | relaunch => exact .execRelaunch
  | controller => exact .execController
  | beaconSend => exact .execBeaconSend
  | beaconReceive => exact .execBeaconReceive
  | missing => exact .execMissing
  | stageDataWrite => exact .execStageDataWrite
  | activeDataRead => exact .execActiveDataRead
  | check => exact .execCheck
  | checkDone => exact .execCheckDone
  | arm => exact .execArm
  | cancel => exact .execCancel
  | clear => exact .execClear
  | copyActive => exact .execCopyActive
  | drainStart => exact .execDrainStart
  | startPointRefresh => exact .execStartPointRefresh
  | openFibreGuardEnd => exact .execOpenFibreGuardEnd
  | release => exact .execRelease
  | switchReport => exact .execSwitchReport
  | switchNote => exact .execSwitchNote
  | steerSwitch => exact .execSteerSwitch
  | steerVisit => exact .execSteerVisit
  | burstGapTimeout => exact .execBurstGapTimeout
  | present => exact .execPresent
  | loopFrame => exact .execLoopFrame
  | deadlineMiss => exact .execDeadlineMiss
  | descWrite => exact .execDescWrite
  | settleDone => exact .execSettleDone
  | acqFail => exact .execAcqFail
  | feedbackLost => exact .execFeedbackLost
  | heaterLimitTimeout => exact .execHeaterLimitTimeout
  | loopHwFail => exact .execLoopHwFail
  | telemetryUpdate => exact .execTelemetryUpdate
  | traceArm => exact .execTraceArm
  | flagFifoRead => exact .execFlagFifoRead
  | millraceFatal => exact .execMillraceFatal
  | bar2Write => exact .execBar2Write
  | bar2Read => exact .execBar2Read
  | segBaseWrite => exact .execSegBaseWrite
  | handoff => exact .execHandoff
  | notifyFifoRead => exact .execNotifyFifoRead
  | mboxGo => exact .execMboxGo
  | mboxDone => exact .execMboxDone
  | msixUnmask => exact .execMsixUnmask
  | pcieHotReset => exact .execPcieHotReset
  | linkChange => exact .execLinkChange
  | pcieD3hot => exact .execPcieD3hot
  | perst => exact .execPerst
  | perstRelease => exact .execPerstRelease
  | hello => exact .execHello
  | regRead => exact .execRegRead
  | regWrite => exact .execRegWrite
  | mgmtResetModule => exact .execMgmtResetModule
  | mgmtResetWarm => exact .execMgmtResetWarm
  | updateData => exact .execUpdateData
  | mgmtBadRequest => exact .execMgmtBadRequest
  | neighborSolicitation => exact .execNeighborSolicitation
  | icmpv6Echo => exact .execIcmpv6Echo
  | mgmtLinkChange => exact .execMgmtLinkChange
  | sourceEdge => exact .execSourceEdge
  | claim => exact .execClaim
  | complete => exact .execComplete
  | swSet => exact .execSwSet
  | swClr => exact .execSwClr
  | globalDisable => exact .execGlobalDisable
  | srcCfgWrite => exact .execSrcCfgWrite
  | fireClear => exact .execFireClear
  | auxStart => exact .execAuxStart
  | inputRange => exact .execInputRange
  | overvoltageDisconnect => exact .execOvervoltageDisconnect
  | switchReclose => exact .execSwitchReclose
  | brownout => exact .execBrownout
  | auxStop => exact .execAuxStop
  | cap => exact .execCap
  | thermWarn => exact .execThermWarn
  | thermWarnClear => exact .execThermWarnClear
  | thermTrip => exact .execThermTrip
  | resume => exact .execResume
  | stayStandbyWrite => exact .execStayStandbyWrite
  | resetCtrlModule => exact .execResetCtrlModule
  | resetCtrlReeve => exact .execResetCtrlReeve
  | moduleReset => exact .execModuleReset
  | coldReset => exact .execColdReset
  | reeveWarmReset => exact .execReeveWarmReset
  | reeveBack => exact .execReeveBack
  | wdtKick => exact .execWdtKick
  | wdtExpired => exact .execWdtExpired
  | lcWrite => exact .execLcWrite
  | lcChanged => exact .execLcChanged
  | firmware => exact .execFirmware
  | clock => exact .execClock
  | mainRails => exact .execMainRails
  | memory => exact .execMemory
  | optics => exact .execOptics
  | calibration => exact .execCalibration
  | done => exact .execDone
  | backupCharged => exact .execBackupCharged
  | calFull => exact .execCalFull
  | laneCalStart => exact .execLaneCalStart
  | calStart path l epoch seq =>
    show ResKeeps s (execCalStart path l epoch seq s)
    exact .execCalStart
  | laneCalSweepDone => exact .execLaneCalSweepDone
  | calEnd path l epoch seq =>
    show ResKeeps s (execCalEnd path l epoch seq s)
    exact .execCalEnd
  | calAbort path l epoch seq =>
    show ResKeeps s (execCalAbort path l epoch seq s)
    exact .execCalAbort
  | laneCalTimeout => exact .execLaneCalTimeout
  | avsSample => exact .execAvsSample
  | ledgerSave => exact .execLedgerSave
  | errorRateCheck => exact .execErrorRateCheck
  | advClear => exact .execAdvClear
  | pageProgramDone => exact .execPageProgramDone
  | cursorWrite => exact .execCursorWrite
  | windowAdvance => exact .execWindowAdvance
  | logClear => exact .execLogClear
  | postCode => exact .execPostCode
  | traceSnapshot => exact .execTraceSnapshot
  | download => exact .execDownload
  | verify => exact .execVerify
  | verifyDone => exact .execVerifyDone
  | activate => exact .execActivate
  | flashWritten => exact .execFlashWritten
  | handover => exact .execHandover
  | handoverTimeout => exact .execHandoverTimeout
  | tableApply => exact .execTableApply
  | confirm => exact .execConfirm
  | abort => exact .execAbort
  | stageWrite => exact .execStageWrite
  | offerSend => exact .execOfferSend
  | offer p serial xfer len version tag =>
    show ResKeeps s (execOffer p serial xfer len version tag s)
    exact .execOffer
  | req => exact .execReq
  | data => exact .execData
  | bcEnd => exact .execEnd
  | chunkRerequest => exact .execChunkRerequest
  | endRepeat => exact .execEndRepeat
  | bcTimeout => exact .execBcTimeout
  | fruWrite => exact .execFruWrite
  | matrixVectorComplete => exact .execMatrixVectorComplete
  | identityStale => exact .execIdentityStale
  | mainRailsPermitted => exact .execMainRailsPermitted
  | capDisengaged => exact .execCapDisengaged
  | laneCalSkipped => exact .execLaneCalSkipped

/-! ### The tick of an empty queue (R271, R272) -/

theorem Keeps.idleTick (h : Keeps s₀ s) : Keeps s₀ s.idleTick :=
  .ite h (.copyDue (.drainCheck (.foldl h.tick fun _ _ h => h.slotGrant)))

end Sys2Proof.Machine

/-!
PROOFS. What every step keeps (00_scope.md, 01_architecture.md, 05_memory.md): a command's answer, or the tick of an empty
queue.
-/

namespace Sys2Proof.Machine

/-- Where no command waits, the module keeps what a command does. -/
theorem idleTick_keeps (s : State) : Keeps s s.idleTick := Keeps.refl.idleTick

theorem step_keeps_canon {s t : State} (h : s.Canon) (e : step s = .next t) : t.Canon := by
  cases queue : s.pending with
  | nil =>
    rw [step_nil queue] at e
    cases e
    exact (idleTick_keeps s).canon h
  | cons c rest =>
    obtain ⟨u, answer, kept⟩ := exec_keeps c { s with pending := rest }
    rw [step_cons queue, answer] at e
    cases e
    exact kept.canon h

/-- Settles O6: a command leaves the queue that stands behind it, and a tick leaves the empty one. -/
theorem everyStepKeepsWaitingCommandsWellFormed : Obligations.EveryStepKeepsWaitingCommandsWellFormed := by
  intro s wf
  cases queue : s.pending with
  | nil =>
    refine ⟨_, step_nil queue, ?_⟩
    rw [State.QueueWf, (idleTick_keeps s).queue]
    exact wf
  | cons c rest =>
    obtain ⟨t, answer, kept⟩ := exec_keeps c { s with pending := rest }
    refine ⟨t, (step_cons queue).trans answer, ?_⟩
    rw [State.QueueWf, kept.queue]
    exact fun d hd => wf d (queue ▸ .tail c hd)

/-- Settles O7. -/
theorem everyStepKeepsMemoryAndRegistersCanonical : Obligations.EveryStepKeepsMemoryAndRegistersCanonical :=
  fun _ _ => step_keeps_canon

end Sys2Proof.Machine
